-- ==== Sys2Proof/Word.lean ====
section
/-! DEFINITION. The word types of the module: R6 (little-endian, 32-bit registers), R17 (64-bit signal slots). -/
namespace Sys2Proof

/-- A register (R6: all registers are 32 bits wide). -/
abbrev Word := BitVec 32

/-- A signal slot, an instance word or a lane register (R17, R124, R128). -/
abbrev DWord := BitVec 64

/-- A byte. -/
abbrev Byte := BitVec 8

/-- A status nibble or a lane tag (R23, R124). -/
abbrev Nibble := BitVec 4

end Sys2Proof
end

