-- ==== Sys2Proof/Machine/Types.lean ====
section
/-! DEFINITION. The data that commands carry and that the state holds: parsed survey tables (04_survey_image.md), frames of the
Lifeline, islands, fieldlinks, backbone and CAN, accesses, descriptors, records. Plain data only. -/
namespace Sys2Proof

/-- The two lanes of a chamber (R172). -/
inductive Lane where
  | main | checker
  deriving DecidableEq, Repr

/-- A 64-bit word of a memory of a chamber, or of the instance area its task runs in, that holds an uncorrectable error (R121, R131): the
index of the word is its byte address or offset / 8; working SRAM and journal are those of one lane. -/
inductive MemError where
  | code (word : Nat)
  | work (lane : Lane) (word : Nat)
  | journal (lane : Lane) (word : Nat)
  | inst (word : Nat)
  deriving DecidableEq, Repr

def MemError.codeWord : MemError → Option Nat
  | .code w => some w
  | _ => none

def MemError.workWord (l : Lane) : MemError → Option Nat
  | .work m w => if m = l then some w else none
  | _ => none

def MemError.journalWord (l : Lane) : MemError → Option Nat
  | .journal m w => if m = l then some w else none
  | _ => none

def MemError.instWord : MemError → Option Nat
  | .inst w => some w
  | _ => none

/-- Operating modes (R5). -/
inductive Mode where
  | load | run | hold | service | recovery | hibernate
  deriving DecidableEq, Repr

/-- Pair roles (R5), in the order of PAIR_STAT.ROLE. -/
inductive Role where
  | solo | lead | shadow | joining
  deriving DecidableEq, Repr

/-- Lifeline states (R223), in the order of PAIR_STAT.LL_STATE. -/
inductive LLState where
  | down | training | linked | synced
  deriving DecidableEq, Repr

/-- Outcomes of a task cycle (R162), in the order of SEQ_TASK_STAT.OUTCOME. -/
inductive CycleOutcome where
  | committed | recovered | skipped | overrun
  deriving DecidableEq, Repr

/-! ### The survey image, parsed (R89 to R113). The verdicts that rest on a CRC, a digest, a signature or a GCM tag over the bytes
come with the parsed image as truth values (log entry 5). -/

/-- Survey header (R90); its reserved bytes are 0x00. -/
structure SurveyHeader where
  magic : Nat
  formatMajor : Nat
  formatMinor : Nat
  length : Nat
  member : Nat
  flags : BitVec 16
  buildId : Nat
  parentBuildId : Nat
  hyperTicks : Nat
  taskCount : Nat
  discrepancyLimit : Nat
  chamberMask : BitVec 16
  spareMask : BitVec 16
  sectionCount : Nat
  signalCount : Nat
  areaBytes : Nat
  fwIfaceMin : Nat
  sourceDigest : Nat
  name : List Byte
  crc : BitVec 32
  deriving DecidableEq, Repr

/-- Section directory entry (R91); `crcOk` is the verdict of its CRC over the stored bytes, `padOk` tells that the bytes from its end to the
next section are 0x00 (R89). (DESIGN CHOICE, log entry 5.) -/
structure DirEntry where
  type : Nat
  index : Nat
  variant : Nat
  offset : Nat
  length : Nat
  crcOk : Bool
  padOk : Bool
  deriving DecidableEq, Repr

/-- Signature trailer (R93), its reserved bytes 0x00, with the verdicts of R94 and R117 on the image's bytes. (DESIGN CHOICE, log entry 5.) -/
structure SurveyTrailer where
  magic : Nat
  keyIndex : Nat
  digest : Nat
  sigR : Nat
  sigS : Nat
  iv : Nat
  tag : Nat
  crc : BitVec 32
  tagOk : Bool
  digestOk : Bool
  signatureOk : Bool
  deriving DecidableEq, Repr

/-- Task table entry (R95). -/
structure TaskEntry where
  task : Nat
  drip : Nat
  periodTicks : Nat
  phaseTicks : Nat
  overrunHold : Nat
  chambers : BitVec 16
  journalMax : Nat
  deriving DecidableEq, Repr

/-- Chamber slot table entry (R97). -/
structure SlotEntry where
  chamber : Nat
  task : Nat
  variant : Nat
  start : Nat
  wcet : Nat
  entry : Nat
  segBase : Nat
  segBytes : Nat
  deriving DecidableEq, Repr

/-- Fabric slot table entry (R100). ANCHOR 0 T0, 1 EXEC, 2 COMPARED, 3 EMIT. -/
structure FabricEntry where
  anchor : Nat
  task : Nat
  chamber : Nat
  srcPort : Nat
  dstPort : Nat
  beats : Nat
  delay : Nat
  srcIndex : Nat
  dstIndex : Nat
  deriving DecidableEq, Repr

/-- Island trigger table entry (R102). -/
structure TriggerEntry where
  island : Nat
  channels : BitVec 8
  kind : Nat
  drip : Nat
  task : Nat
  deriving DecidableEq, Repr

/-- Fieldlink frame slot table entry (R299). -/
structure FrameSlot where
  port : Nat
  station : Nat
  kind : Nat
  task : Nat
  txOffset : Nat
  deadline : Int
  imgBeat : Nat
  slotNo : Nat
  cellBlock : Nat
  deriving DecidableEq, Repr

/-- Drip table entry (R103). -/
structure DripEntry where
  drip : Nat
  purpose : Nat
  task : Nat
  offsetNs : Nat
  periodNs : Nat
  deriving DecidableEq, Repr

/-- Signal descriptor (R105). TYPE 0 int32, 1 uint32, 2 binary32, 3 packed bits. -/
structure SignalDesc where
  id : Nat
  slot : Nat
  type : Nat
  bits : Nat
  producer : Nat
  cls : Nat
  input : Bool
  output : Bool
  source : Nat
  safeValue : BitVec 32
  staleAge : Nat
  initValue : BitVec 32
  deriving DecidableEq, Repr

/-- Instance layout entry (R108). KIND 0 RETAIN, 1 REINIT. -/
structure LayoutEntry where
  offset : Nat
  length : Nat
  blockId : Nat
  task : Nat
  chamber : Nat
  kind : Nat
  deriving DecidableEq, Repr

/-- One record of the instance initial values (R109): words of the area from `offset` on, each 8 bytes, little-endian. -/
structure InitRecord where
  offset : Nat
  bytes : List (BitVec 8)
  deriving DecidableEq, Repr

/-- Code section (R92, R98). -/
structure CodeSection where
  chamber : Nat
  variant : Nat
  words : List (BitVec 32)
  deriving DecidableEq, Repr

/-- Relocation variant (R110). -/
structure RelocVariant where
  variant : Nat
  failed : Nat
  spare : Nat
  codeBase : Nat
  entries : List SlotEntry
  patches : List (Nat × FabricEntry)
  deriving DecidableEq, Repr

/-- Migration map entry (R113). -/
structure MigrationEntry where
  oldOffset : Nat
  newOffset : Nat
  count : Nat
  conv : Nat
  oldWidth : Nat
  newWidth : Nat
  deriving DecidableEq, Repr

/-- CAN object map entry (R338). -/
structure CanMapEntry where
  ctrl : Nat
  object : Nat
  send : Bool
  task : Nat
  id : BitVec 32
  mask : BitVec 32
  length : Nat
  withholdBad : Bool
  imgBeat : Nat
  deriving DecidableEq, Repr

/-- Ring slot table entry (R144). -/
structure RingSlotEntry where
  slot : Nat
  ring : Nat
  chamber : Nat
  task : Nat
  send : Bool
  max : Nat
  deriving DecidableEq, Repr

/-- A survey, parsed (R89). `digest` stands for SURVEY_DIGEST, the SHA-384 of the image as stored (R94). (DESIGN CHOICE, log entry 5.) -/
structure Survey where
  header : SurveyHeader
  dir : List DirEntry
  trailer : SurveyTrailer
  digest : Nat
  tasks : List TaskEntry
  slots : List SlotEntry
  code : List CodeSection
  fabric : List FabricEntry
  triggers : List TriggerEntry
  frameSlots : List FrameSlot
  drips : List DripEntry
  signals : List SignalDesc
  layout : List LayoutEntry
  variants : List RelocVariant
  migration : List MigrationEntry
  canMap : List CanMapEntry
  ringSlots : List RingSlotEntry
  initValues : List InitRecord
  deriving DecidableEq, Repr

/-! ### Rings and their descriptors (R327) -/

/-- A 32-byte ring descriptor as four 64-bit words, least significant first (R327). -/
structure Descriptor where
  w0 : DWord
  w1 : DWord
  w2 : DWord
  w3 : DWord
  deriving DecidableEq, Repr

/-! ### Lifeline frames (R220, R221) -/

/-- The lane and the 24-byte header of a Lifeline frame (R220), FLAGS by its fields. -/
structure LLHeader where
  lane : Nat
  protoMajor : Nat
  protoMinor : Nat
  type : Nat
  slotB : Bool
  role : Role
  sync : Bool
  frameNum : BitVec 32
  txTime : Nat
  length : Nat
  hdrCrc : BitVec 32
  deriving DecidableEq, Repr

/-- A RELINQUISH frame with the Sump source that it names (R221, R237). -/
structure RelinquishFrame where
  hdr : LLHeader
  source : Nat
  deriving DecidableEq, Repr

/-- The header of a frame that the module has yet to fill in (R220). -/
def LLHeader.blank : LLHeader := ⟨0, 0, 0, 0, false, .solo, false, 0, 0, 0, 0⟩

/-- HELLO payload (R221). -/
structure HelloBody where
  slotB : Bool
  serial : Nat
  mode : Mode
  surveyOk : Bool
  generation : Nat
  digest : Nat
  buildId : Nat
  deriving DecidableEq, Repr

/-- STATUS payload (R221). -/
structure StatusBody where
  mode : Mode
  role : Role
  heldMask : BitVec 16
  cyc : BitVec 32
  surveyOk : Bool
  deriving DecidableEq, Repr

/-- IMAGE payload (R221, R227): the place of its first beat in the image, beats of ports 18 to 20 (port, beat, four slots), the resolved asynchronous images tagged with their
primary chamber (R192), the descriptors moved at FREEZE and the latched FREE values (R145, R146). -/
structure ImageBody where
  task : Nat
  cyc : BitVec 32
  beatOffset : Nat
  beats : List (Nat × Nat × List DWord)
  asyncImages : List (Nat × List DWord)
  moved : List (Nat × List Descriptor)
  free : List (Nat × Nat)
  deriving DecidableEq, Repr

/-- OUTCOME payload (R228). -/
structure OutcomeBody where
  task : Nat
  cyc : BitVec 32
  outcome : CycleOutcome
  bytes : Nat
  crc : BitVec 32
  deriving DecidableEq, Repr

/-- JOURNAL payload: committed entries (R128), and the deltas of a join (R240): staging (chamber, byte address in working SRAM,
slot, full write cycle count) and signal-table slots. -/
structure JournalBody where
  task : Nat
  cyc : BitVec 32
  entries : List (Nat × DWord)
  staging : List (Nat × Nat × DWord × BitVec 32)
  signals : List (Nat × DWord)
  deriving DecidableEq, Repr

/-- DUPLEX payload (R230). -/
structure DuplexBody where
  commanded : BitVec 128
  sharing : BitVec 128
  deriving DecidableEq, Repr

/-- A force entry (R212). POINT 0 FREEZE, 1 EMIT, 2 SOURCE. -/
structure ForceEntry where
  id : Nat
  value : BitVec 32
  point : Nat
  type : Nat
  bits : Nat
  suspended : Bool
  underStatus : Nibble
  deriving DecidableEq, Repr

/-- A change of the force table (R215). -/
inductive ForceChange where
  | write (e : ForceEntry)
  | clear (id : Nat)
  | clearAll
  deriving DecidableEq, Repr

/-- What a relayed COMMAND asks for (R221: mode, hold and resume, force, on-line change, handover; R259 configuration words;
R353 step; R408 hibernate). -/
inductive RelayCommand where
  | mode (target : Mode) (e : Option (BitVec 32))
  | start (e : Option (BitVec 32))
  | hibernate (e : Option (BitVec 32))
  | holdTask (t : Nat) (effective : Option (BitVec 32))
  | resumeTask (t : Nat) (effective : Option Nat)
  | force (c : ForceChange) (e : Option (BitVec 32))
  | olcRequest (generation : Nat) (hasMigration : Bool) (parentBuild : Nat)
  | olcAbort
  | migrated (generation digest buildId : Nat)
  | swapProposal (generation digest buildId : Nat) (s : Nat)
  | handover (h : BitVec 32)
  | chConfig (n : Nat) (analogue : Bool) (value : BitVec 32) (e : Option (BitVec 32))
  | timeStep (atNs : Nat) (offset : Int)
  deriving DecidableEq, Repr

/-- ACK payload (R221): the command answered, acceptance, effective cycle. -/
structure AckBody where
  command : RelayCommand
  accepted : Bool
  effective : BitVec 32
  deriving DecidableEq, Repr

/-- One task in the state record (R240): STATE, HOLD_CAUSE, HELD_RUN, a pending first scan, a hold due and one agreed, a resumption asked for
and its boundary, the cycle last committed. -/
structure TaskRecord where
  task : Nat
  state : Nat
  cause : Nat
  heldRun : Nat
  firstScan : Bool
  holdPending : Option Nat
  holdEffective : Option (BitVec 32)
  resumePending : Bool
  resumeEffective : Option Nat
  committed : BitVec 32
  deriving DecidableEq, Repr

/-- The state record of a join (R240): the tasks, and the ring positions with the descriptors they hold. -/
structure StateRecord where
  tasks : List TaskRecord
  rings : List (Nat × List Descriptor)
  deriving DecidableEq, Repr

/-- BULK payload (R199, R87, R240). An item of the join transfer comes in parts of at most 8,192 bytes (R219), the last one marked; a survey
stands for the run of frames that brings it. (DESIGN CHOICE, log entry 61.) -/
inductive BulkBody where
  | surveyRelay (generation : Nat) (survey : Survey)
  | storeFetch (generation : Nat) (survey : Survey)
  | surveyBank (generation : Nat) (survey : Survey)
  | areaBlock (area part : Nat) (last : Bool) (words : List (Nat × DWord))
  | areaTags (valid0 valid1 : Bool) (build0 build1 : Nat) (runArea : Nat)
  | staging (c part : Nat) (last : Bool) (slots : List (Nat × DWord × BitVec 32))
  | page (part : Nat) (last : Bool) (slots : List (Nat × DWord))
  | forces (part : Nat) (last : Bool) (entries : List ForceEntry)
  | stateRecord (r : StateRecord)
  deriving DecidableEq, Repr

/-! ### Island frames (R250, R251) -/

/-- The fields of the upstream frame (R251); `svc` is the service stream. -/
structure UpFrame where
  supplyState : BitVec 2
  ctrlRestart : Bool
  trimsApplied : Bool
  latchMask : BitVec 8
  frameNo : BitVec 16
  latchSeq : BitVec 8
  dnBad : BitVec 16
  values : List (BitVec 32)
  statuses : BitVec 32
  supply : BitVec 16
  svc : List Byte
  deriving DecidableEq, Repr

/-- The fields of the downstream frame (R250); `svc` is the service stream. -/
structure DownFrame where
  slotB : Bool
  run : Bool
  duplexOff : Bool
  safe : BitVec 8
  frameNo : BitVec 16
  triggers : List (BitVec 32)
  out : List (BitVec 32)
  bad : BitVec 8
  svc : List Byte
  deriving DecidableEq, Repr

/-! ### Fieldlink frames (R297, R298) -/

/-- A frame the module puts on a fieldlink port (R297); `payload` is that of a SLOW frame (R312). -/
structure FlFrame where
  kind : Nat
  slotB : Bool
  role : Nat
  safe : Bool
  station : Nat
  frameSeq : BitVec 32
  slotNo : Nat
  cellFirst : Nat
  cells : List (BitVec 32)
  nibbles : List Nibble
  payload : List Byte
  deriving DecidableEq, Repr

/-- A frame on its way from a station beside its contents (R292, R297, R298): the source address, VERSION, KIND, FLAGS and the reserved fields of
its header, and the disturbance that the line lays over its bytes. -/
structure HumarHead where
  source : BitVec 48
  version : Byte
  kind : Byte
  flags : Byte
  reserved9 : Byte
  reserved14 : BitVec 16
  noise : List Byte
  deriving DecidableEq, Repr

/-- A REPLY (R297, R298, R305). -/
structure ReplyFrame where
  head : HumarHead
  station : Nat
  slotNo : Nat
  frameSeq : BitVec 32
  cellFirst : Nat
  cells : List (BitVec 32)
  nibbles : List Nibble
  deriving DecidableEq, Repr

/-- FLAGS of a REPLY (R297): SEEN_A, SEEN_B, LINK_X, LINK_Y, RESTARTED, SAFE_ACTIVE in bits 0 to 5. -/
def ReplyFrame.flag (f : ReplyFrame) (b : Nat) : Bool := f.head.flags.getLsbD b

def ReplyFrame.seenA (f : ReplyFrame) : Bool := f.flag 0
def ReplyFrame.seenB (f : ReplyFrame) : Bool := f.flag 1
def ReplyFrame.linkX (f : ReplyFrame) : Bool := f.flag 2
def ReplyFrame.linkY (f : ReplyFrame) : Bool := f.flag 3
def ReplyFrame.restarted (f : ReplyFrame) : Bool := f.flag 4
def ReplyFrame.safeActive (f : ReplyFrame) : Bool := f.flag 5

/-- A SLOW_REPLY (R297, R298, R312) beside its station. -/
structure SlowArrival where
  head : HumarHead
  frameSeq : BitVec 32
  payload : List Byte
  deriving DecidableEq, Repr

/-- What the SGMII control word of a fieldlink port reports (R292): the port, the speed in Mbit/s, and full duplex. -/
structure SgmiiReport where
  port : Fin 8
  speed : Nat
  fullDuplex : Bool
  deriving DecidableEq, Repr

/-! ### Backbone frames (R316 to R323) -/

/-- The IEEE 1588 message a frame carries, as far as R323 tells them apart. -/
inductive PtpKind where
  | none | oneStepSync | delayReq | pdelayReq | pdelayReply | twoStepSync (key : Nat) | followUp (key : Nat) | general | ipv6Event
  deriving DecidableEq, Repr

/-- A backbone frame as it stands on the wire, from the destination address to the FCS (R316 to R324). -/
structure BbFrame where
  wire : List Byte
  deriving DecidableEq, Repr

/-! ### CAN frames (R335) -/

/-- A CAN data frame: the identifier word of R335 and its data bytes. -/
structure CanFrame where
  id : BitVec 32
  data : List Byte
  deriving DecidableEq, Repr

/-- The protocol errors of CAN_EVENT.LEC, in its order from 1 (stuff, form, ACK, bit 1, bit 0, CRC). -/
inductive CanErrorKind where
  | stuff | form | ack | bit1 | bit0 | crc
  deriving DecidableEq, Repr

/-! ### Host accesses (R363, R364, R369) -/

/-- Kinds of access, in the order of GUARD_FAULT_INFO.KIND. -/
inductive AccessKind where
  | read | write | fetch | atomic
  deriving DecidableEq, Repr

/-- An access to host space. `initiator` in the encoding of GUARD_FAULT_INFO.INITIATOR (1 to 6); `data` are the bytes written. -/
structure Access where
  initiator : Nat
  kind : AccessKind
  privileged : Bool
  addr : BitVec 32
  len : Nat
  data : List Byte
  deriving DecidableEq, Repr

/-! ### Updates (R441 to R443) -/

/-- One component image of a capsule or a slot (R439, R441) with its LENGTH in bytes; `ok` is the verdict of R423 on its tag and signature.
(DESIGN CHOICE, log entry 5.) -/
structure ComponentImage where
  component : Nat
  secver : Nat
  version : BitVec 32
  length : Nat
  provides : List (Nat × Nat)
  requires : List (Nat × Nat × Nat)
  ok : Bool
  deriving DecidableEq, Repr

/-- A capsule, parsed (R441): its header, reserved bytes 0x00, the component images its section entries name, each with the manifest entries of
its interfaces, and the trailer. `readUe` tells that a read of it in the firmware flash met an uncorrectable error (R438). -/
structure Capsule where
  magic : Nat
  format : Nat
  component : Nat
  members : BitVec 8
  length : Nat
  manifestCount : Nat
  sectionCount : Nat
  buildId : Nat
  headerCrc : BitVec 32
  images : List ComponentImage
  trailer : SurveyTrailer
  readUe : Bool
  deriving DecidableEq, Repr

/-- What the base presents at reset release and what LOAD finds there: the six straps (R33), the OTP items that fail their check
(R421), whether Flowstone's MAGIC is right (R385), and of a staged capsule (R445): whether its trailer and images verify again, whether the
versions of the islands, which report none yet, meet its requirements, whether a read of it met an uncorrectable error (R438), and whether
the copied images verify. (DESIGN CHOICE, log entries 5, 114.) -/
structure ResetSample where
  boot : BitVec 2
  clk : BitVec 2
  slotAb : Bool
  slotAbN : Bool
  keyFaults : List Nat
  flowstoneMagicOk : Bool
  capsuleSigned : Bool
  capsuleMatrix : Bool
  capsuleUe : Bool
  installOk : Bool
  deriving DecidableEq, Repr

/-! ### Reset, boot and the configuration store (R69, R81, R82) -/

/-- The module-level reset sources, in the order of their RST_CAUSE bits (R69). -/
inductive ResetSource where
  | por | bor | pin | wdt | sw | dbg | clkf | lockup
  deriving DecidableEq, Repr

/-- One copy of the store header (R82): its fields in the order of their offsets, the reserved ones too, and its CRC. -/
structure StoreHeader where
  magic : Nat
  writeCount : Nat
  startPolicy : Nat
  reserved9 : BitVec 24
  linkWait : Nat
  revertHold : Nat
  reserved16 : BitVec 352
  crc : BitVec 32
  deriving DecidableEq, Repr

/-- A generation area of the store (R82): its header with the CRC, the verdict of the survey's signature, and the survey. -/
structure GenArea where
  magic : Nat
  generation : Nat
  state : Byte
  surveyLength : Nat
  digest : Nat
  crc : BitVec 32
  sigOk : Bool
  survey : Option Survey
  deriving DecidableEq, Repr

/-- One copy of a user trim block (R286): its fields in the order of their offsets, the reserved one too, and its CRC. -/
structure UserBlock where
  magic : BitVec 32
  chCfg : BitVec 32
  anCfg : BitVec 32
  zero : BitVec 32
  span : BitVec 32
  lowRef : BitVec 32
  calTime : Nat
  calSerial : Nat
  calCount : Nat
  reserved40 : BitVec 160
  crc : BitVec 32
  deriving DecidableEq, Repr

/-- One copy of the force table in the store (R216): its head, whose entry count is the length of `entries`, and its entries. -/
structure ForceCopy where
  magic : BitVec 32
  writeCount : Nat
  crc : BitVec 32
  entries : List ForceEntry
  deriving DecidableEq, Repr

/-- What the slot's configuration store holds (R81): the verdict of the SFDP check (R80), two header copies, two generation areas,
two copies of each channel's user block (key 2n and 2n + 1), two copies of the force table, the component images of the firmware image
area. (DESIGN CHOICE, log entry 5.) -/
structure StoreContents where
  sfdpOk : Bool
  header0 : StoreHeader
  header1 : StoreHeader
  area0 : GenArea
  area1 : GenArea
  blocks : List (Nat × UserBlock)
  forces0 : ForceCopy
  forces1 : ForceCopy
  firmware : List ComponentImage
  deriving DecidableEq, Repr

/-- What the trim load read in the islands' own memories (R85): channels whose factory block has one intact copy only or two that
differ (with the copy used), and channels with no intact copy. -/
structure TrimReport where
  oneCopy : List (Nat × Nat)
  noCopy : List Nat
  deriving DecidableEq, Repr

/-! ### Captures, time, calibration, supervision, CAN, wake and debug operands -/

/-- What the two lanes of a chamber captured for its asynchronous inputs (R191, R192): input number and slot for each lane. -/
structure CaptureImage where
  chamber : Nat
  main : List (Nat × DWord)
  checker : List (Nat × DWord)
  deriving DecidableEq, Repr

/-- TIME payload (R221, R225): the sender's module time and TIME_STAT.STATE, and, for the receiver's last TIME frame, its TX_TIME and the
instant at which the sender received it, both in ns. (DEDUCED, log entry 106.) -/
structure TimeBody where
  seconds : Nat
  nanoseconds : Nat
  state : Nat
  echo : Option (Nat × Nat)
  deriving DecidableEq, Repr

/-- What the supervision of an analogue output has seen for 5 ms (R283): the terminal at or above V_FS − 0.5 V, the driver at its limit, and
the measured loop current in mA. -/
structure AoObservation where
  terminalHigh : Bool
  atLimit : Bool
  measured : BitVec 32
  deriving DecidableEq, Repr

/-- An upstream frame on the link (R251): its disturbance, the field supply voltage that the island measures, in units of 10 mV, and a report
of its service stream, VERSION and bank. -/
structure UpArrival where
  noise : List Byte
  volts : BitVec 16
  report : Option (Nat × Bool)
  deriving DecidableEq, Repr

/-- A latch instant of an island (R253): the channels of its trigger word, and what the island finds there, front ends and drivers at fault
(R264, R271, R280) and the loop currents of its AOs (R281). -/
structure LatchEvent where
  channels : BitVec 8
  faults : BitVec 8
  currents : List (BitVec 32)
  deriving DecidableEq, Repr

/-- One copy of the factory trim block of a channel (R285); `intact`: a load may use it (R85). -/
structure FactoryBlock where
  intact : Bool
  convOffset : BitVec 32
  convGain : BitVec 32
  burden : BitVec 32
  convOffsetTc : BitVec 32
  convGainTc : BitVec 32
  drvOffsetTc : BitVec 32
  drvGainTc : BitVec 32
  drvOffset : BitVec 32
  drvGain : BitVec 32
  readbackGain : BitVec 32
  deriving DecidableEq, Repr

/-- The timing registers of a CAN controller (R334). -/
inductive CanTimingReg where
  | nbt | dbt | tdc | ctrl
  deriving DecidableEq, Repr

/-- The registers of a CAN message object (R342). -/
inductive CanObjReg where
  | ctrl | id | mask | data (w : Fin 16)
  deriving DecidableEq, Repr

/-- Wake sources (R413): activity or a wake frame as (SITE, TARGET) on a backbone port, signal on a Lifeline lane, a CAN segment. -/
inductive WakeSource where
  | backbone (port : Fin 2) (frame : Option BbFrame) | lifeline (lane : Fin 2) | can (k : Fin 4)
  deriving DecidableEq, Repr

/-- A debug authentication response as the security engine finds it (R431): whether it carries a signature, and whether that signature
over the current nonce, serial number, level and lifecycle verifies under the DEVELOPMENT and under the FIELD debug key. -/
structure AuthVerdict where
  signed : Bool
  devKey : Bool
  fieldKey : Bool
  deriving DecidableEq, Repr

/-! ### What the module puts on its wires -/

/-- A Lifeline frame the module sends (R221). -/
inductive LLFrame where
  | hello (b : HelloBody)
  | status (b : StatusBody)
  | image (b : ImageBody)
  | outcome (b : OutcomeBody)
  | journal (b : JournalBody)
  | duplex (b : DuplexBody)
  | command (c : RelayCommand)
  | ack (b : AckBody)
  | time (b : TimeBody)
  | bulk (b : BulkBody)
  | departure
  | relinquish (source : Nat)
  deriving DecidableEq, Repr

/-- One emission of the module at its boundary or to its host complex. -/
inductive Out where
  /-- A Lifeline frame with its header, which tells its lane (R220). -/
  | lifeline (f : LLFrame) (hdr : LLHeader := LLHeader.blank)
  /-- The bytes of a downstream frame to island `i` (R250). -/
  | island (i : Nat) (bytes : List Byte)
  /-- The bytes of a frame on fieldlink port `p` (R292, R297). -/
  | fieldlink (p : Nat) (bytes : List Byte)
  /-- The same two with an inverted CRC or FCS (R457). -/
  | islandBad (i : Nat) (bytes : List Byte)
  | fieldlinkBad (p : Nat) (bytes : List Byte)
  /-- A frame on backbone port `x` (R316). -/
  | backbone (x : Nat) (f : BbFrame)
  /-- The frame under way on backbone port `x` ends here, cut short by a gate reset of the bridge (R319); set where it ends with an inverted
  FCS. -/
  | backboneCut (x : Nat) (stomped : Bool)
  /-- A data frame on CAN controller `k` (R336), and its ESI, set where the controller is error-passive (R332). -/
  | can (k : Nat) (f : CanFrame) (esi : Bool)
  /-- A non-maskable interrupt to host core pair `pair` for Sump source `src` (R381). -/
  | nmi (pair : Nat) (src : Nat)
  /-- An engineering command refused to the engineering station (R29). -/
  | engRefused
  /-- A shift out of the test access port (R427). -/
  | tap (instruction : String) (data : Nat)
  /-- A drip unit fired (R356). -/
  | drip (d : Nat)
  deriving DecidableEq, Repr

/-- The answer to a bus access. -/
inductive BusResponse where
  | none
  | data (bytes : List Byte)
  | done
  | error
  deriving DecidableEq, Repr

/-- A Flowstone record (R386), as queued: `body` holds the bytes from offset 24, `stamp` seconds, nanoseconds and TIME_STAT.STATE. -/
structure FlsRecord where
  type : Nat
  seq : BitVec 32
  opTime : Nat
  pwrCycles : BitVec 32
  key : BitVec 32
  rep : Nat
  forced : Bool
  dataSave : Bool
  body : List Byte
  stamp : Option (Nat × Nat × Nat)
  deriving DecidableEq, Repr

/-- An entry of the recorder's write queue (R389, R390): a record, or the increment of REPEAT of the record held at an offset. -/
inductive FlsEntry where
  | record (r : FlsRecord)
  | repeatAt (off : Nat)
  deriving DecidableEq, Repr

end Sys2Proof
end

