-- ==== Sys2Proof/Syntax.lean ====
section
/-! DEFINITION. The commands the module takes: one constructor per row of the table of operations and events, in its order. -/
namespace Sys2Proof

/-- The commands. Each docstring names the row and the rule that governs it. Operands of type `v` are the value written to the
register that carries the action. -/
inductive Instr where
  /-- REGISTER_WRITE (R7). -/
  | registerWrite (addr : Word) (v : Word)
  /-- REGISTER_BAD_ACCESS (R10). -/
  | registerBadAccess (addr : Word) (len : Nat) (isWrite : Bool)
  /-- SIGNAL_TABLE_HOST_WRITE (R16). -/
  | signalTableHostWrite (addr : Word) (v : Word)
  /-- START_COMMAND (R26). -/
  | startCommand
  /-- STOP_COMMAND (R26). -/
  | stopCommand
  /-- ENTER_SERVICE_COMMAND (R26). -/
  | enterServiceCommand
  /-- LEAVE_SERVICE_COMMAND (R26). -/
  | leaveServiceCommand
  /-- MODE_TRANSITION_EFFECT (R27). -/
  | modeTransitionEffect
  /-- BASE_TICK (R28). -/
  | baseTick
  /-- PRESENT_N_LOW (R32). -/
  | presentNLow
  /-- PRESENT_N_DEBOUNCED (R54). -/
  | presentNDebounced
  /-- MAIN_PATH_ON (R54). -/
  | mainPathOn
  /-- EXTRACTION (R56). -/
  | extraction
  /-- WITHDRAWAL_ABORTED (R57). -/
  | withdrawalAborted
  /-- SUPPLY_INTERRUPT (R45). -/
  | supplyInterrupt (vin : Nat)
  /-- SUPPLY_RETURN (R45). -/
  | supplyReturn (lenUs : Nat) (vin : Nat)
  /-- DATA_SAVE (R46). -/
  | dataSave
  /-- PWR_INPUT_LOW (R42). -/
  | pwrInputLow (vin : Nat)
  /-- HOLDUP_FULL (R55). -/
  | holdupFull
  /-- LAMP_TEST_END (R38). -/
  | lampTestEnd
  /-- SELECT_PRESS (R39). -/
  | selectPress
  /-- ZERO_HOLD (R290). -/
  | zeroHold
  /-- SPAN_HOLD (R290). -/
  | spanHold
  /-- COVER_OPEN (R41). -/
  | coverOpen
  /-- COVER_CLOSE (R426). -/
  | coverClose
  /-- STRAPPED_REF_TAKEN (R60). -/
  | strappedRefTaken
  /-- REF_SWITCH_DONE (R61). -/
  | refSwitchDone
  /-- CLK_REF_LOST (R62). -/
  | clkRefLost
  /-- REF_RESTORE (R62). -/
  | refRestore (v : Word)
  /-- SQUEEZE_RATIO_CHANGE (R64). -/
  | squeezeRatioChange
  /-- CLK_MON_WINDOW (R66). -/
  | clkMonWindow (x : Fin 6) (count : Nat)
  /-- PLL_LOCK_LOSS (R67). -/
  | pllLockLoss
  /-- OWN_OSC_CHECK (R68). -/
  | ownOscCheck (count : Nat)
  /-- POR_ASSERT (R69). -/
  | porAssert
  /-- POR_RELEASE (R54). -/
  | porRelease
  /-- BOR_RELEASE (R69). -/
  | borRelease
  /-- PIN_ACCEPT (R70). -/
  | pinAccept
  /-- PIN_RELEASE (R69). -/
  | pinRelease
  /-- WATCHDOG_EXPIRY (R69). -/
  | watchdogExpiry
  /-- WDT_KICK (R470). -/
  | wdtKick (v : Word)
  /-- KICK_ARM_TIMEOUT (R470). -/
  | kickArmTimeout
  /-- WDT_CTRL_WRITE (R470). -/
  | wdtCtrlWrite (v : Word)
  /-- RST_SW_REQ (R69). -/
  | rstSwReq (v : Word)
  /-- RESET_PULSE_END (R69). -/
  | resetPulseEnd (src : ResetSource)
  /-- DBG_RESET_REQUEST (R69). -/
  | dbgResetRequest
  /-- DBG_RESET_RELEASE (R69). -/
  | dbgResetRelease
  /-- CLKF_RELEASE (R69). -/
  | clkfRelease
  /-- LOCKUP (R69). -/
  | lockup (pair : Fin 2) (kind : Fin 2)
  /-- MODULE_RESET_RELEASE (R72). -/
  | moduleResetRelease (sample : ResetSample)
  /-- RST_CAUSE_CLEAR (R74). -/
  | rstCauseClear (v : Word)
  /-- BLOCK_RESET_REQUEST (R77). -/
  | blockResetRequest (b : Fin 64) (v : Word) (outstanding : Nat)
  /-- GATE_DRAIN_END (R77). -/
  | gateDrainEnd (b : Fin 64)
  /-- GATE_RESET_RELEASE (R77). -/
  | gateResetRelease (b : Fin 64)
  /-- GATE_OPEN (R77). -/
  | gateOpen (b : Fin 64)
  /-- GATE_BLOCK_IDLE (R78). -/
  | gateBlockIdle (b : Fin 64)
  /-- GATE_QUIESCE_TIMEOUT (R78). -/
  | gateQuiesceTimeout (b : Fin 64)
  /-- GATE_RELEASE (R71). -/
  | gateRelease (b : Fin 64) (v : Word)
  /-- FIRMWARE_CANDIDATE_VERIFIED (R84). -/
  | firmwareCandidateVerified (passed : Bool) (failCode : Nat) (iface : Nat) (store : StoreContents)
  /-- LOAD_SCRUB_DONE (R83). -/
  | loadScrubDone (comparatorFail : BitVec 16)
  /-- TRIM_LOAD_DONE (R85). -/
  | trimLoadDone (report : TrimReport)
  /-- LINK_WAIT_EXPIRY (R87). -/
  | linkWaitExpiry
  /-- SURVEY_LOAD_DONE (R117). -/
  | surveyLoadDone (bank : Fin 2) (generation : Nat) (survey : Survey)
  /-- LOAD_EXIT (R88). -/
  | loadExit
  /-- SEQUENCER_START (R360). -/
  | sequencerStart
  /-- SURVEY_BANK_WRITE (R119). -/
  | surveyBankWrite (bank : Fin 2) (off : Nat) (data : Word)
  /-- SCRUB_ECC_ERROR (R120). -/
  | scrubEccError (bank : Fin 2) (uncorrectable : Bool) (off : Nat)
  /-- FREEZE (R153). -/
  | freeze (t : Fin 16) (captures : List CaptureImage)
  /-- FABRIC_TRANSFER (R101). -/
  | fabricTransfer (e : FabricEntry)
  /-- EXECUTION_START (R155). -/
  | executionStart (c : Fin 16) (t : Fin 16) (errors : List MemError)
  /-- ADD (R138). -/
  | add (c : Fin 16) (w : Lane) (w32 : Bool) (d : BitVec 5) (a : BitVec 5) (b : BitVec 5)
  /-- SUB (R138). -/
  | sub (c : Fin 16) (w : Lane) (w32 : Bool) (d : BitVec 5) (a : BitVec 5) (b : BitVec 5)
  /-- AND (R138). -/
  | land (c : Fin 16) (w : Lane) (w32 : Bool) (d : BitVec 5) (a : BitVec 5) (b : BitVec 5)
  /-- OR (R138). -/
  | lor (c : Fin 16) (w : Lane) (w32 : Bool) (d : BitVec 5) (a : BitVec 5) (b : BitVec 5)
  /-- XOR (R138). -/
  | lxor (c : Fin 16) (w : Lane) (w32 : Bool) (d : BitVec 5) (a : BitVec 5) (b : BitVec 5)
  /-- SLL (R138). -/
  | sll (c : Fin 16) (w : Lane) (w32 : Bool) (d : BitVec 5) (a : BitVec 5) (b : BitVec 5)
  /-- SRL (R138). -/
  | srl (c : Fin 16) (w : Lane) (w32 : Bool) (d : BitVec 5) (a : BitVec 5) (b : BitVec 5)
  /-- SRA (R138). -/
  | sra (c : Fin 16) (w : Lane) (w32 : Bool) (d : BitVec 5) (a : BitVec 5) (b : BitVec 5)
  /-- SLT (R138). -/
  | slt (c : Fin 16) (w : Lane) (w32 : Bool) (d : BitVec 5) (a : BitVec 5) (b : BitVec 5)
  /-- SLTU (R138). -/
  | sltu (c : Fin 16) (w : Lane) (w32 : Bool) (d : BitVec 5) (a : BitVec 5) (b : BitVec 5)
  /-- MIN (R138). -/
  | min (c : Fin 16) (w : Lane) (w32 : Bool) (d : BitVec 5) (a : BitVec 5) (b : BitVec 5)
  /-- MAX (R138). -/
  | max (c : Fin 16) (w : Lane) (w32 : Bool) (d : BitVec 5) (a : BitVec 5) (b : BitVec 5)
  /-- MINU (R138). -/
  | minu (c : Fin 16) (w : Lane) (w32 : Bool) (d : BitVec 5) (a : BitVec 5) (b : BitVec 5)
  /-- MAXU (R138). -/
  | maxu (c : Fin 16) (w : Lane) (w32 : Bool) (d : BitVec 5) (a : BitVec 5) (b : BitVec 5)
  /-- MUL (R138). -/
  | mul (c : Fin 16) (w : Lane) (w32 : Bool) (d : BitVec 5) (a : BitVec 5) (b : BitVec 5)
  /-- MULH (R138). -/
  | mulh (c : Fin 16) (w : Lane) (w32 : Bool) (d : BitVec 5) (a : BitVec 5) (b : BitVec 5)
  /-- MULHU (R138). -/
  | mulhu (c : Fin 16) (w : Lane) (w32 : Bool) (d : BitVec 5) (a : BitVec 5) (b : BitVec 5)
  /-- DIV (R138). -/
  | div (c : Fin 16) (w : Lane) (w32 : Bool) (d : BitVec 5) (a : BitVec 5) (b : BitVec 5)
  /-- DIVU (R138). -/
  | divu (c : Fin 16) (w : Lane) (w32 : Bool) (d : BitVec 5) (a : BitVec 5) (b : BitVec 5)
  /-- REM (R138). -/
  | rem (c : Fin 16) (w : Lane) (w32 : Bool) (d : BitVec 5) (a : BitVec 5) (b : BitVec 5)
  /-- REMU (R138). -/
  | remu (c : Fin 16) (w : Lane) (w32 : Bool) (d : BitVec 5) (a : BitVec 5) (b : BitVec 5)
  /-- ADDI (R137). -/
  | addi (c : Fin 16) (w : Lane) (d : BitVec 5) (a : BitVec 5) (imm : BitVec 16)
  /-- ANDI (R137). -/
  | andi (c : Fin 16) (w : Lane) (d : BitVec 5) (a : BitVec 5) (imm : BitVec 16)
  /-- ORI (R137). -/
  | ori (c : Fin 16) (w : Lane) (d : BitVec 5) (a : BitVec 5) (imm : BitVec 16)
  /-- XORI (R137). -/
  | xori (c : Fin 16) (w : Lane) (d : BitVec 5) (a : BitVec 5) (imm : BitVec 16)
  /-- SLTI (R137). -/
  | slti (c : Fin 16) (w : Lane) (d : BitVec 5) (a : BitVec 5) (imm : BitVec 16)
  /-- SLTIU (R137). -/
  | sltiu (c : Fin 16) (w : Lane) (d : BitVec 5) (a : BitVec 5) (imm : BitVec 16)
  /-- SHI_SLL (R137). -/
  | shiSll (c : Fin 16) (w : Lane) (d : BitVec 5) (a : BitVec 5) (amount : BitVec 6)
  /-- SHI_SRL (R137). -/
  | shiSrl (c : Fin 16) (w : Lane) (d : BitVec 5) (a : BitVec 5) (amount : BitVec 6)
  /-- SHI_SRA (R137). -/
  | shiSra (c : Fin 16) (w : Lane) (d : BitVec 5) (a : BitVec 5) (amount : BitVec 6)
  /-- LUI (R137). -/
  | lui (c : Fin 16) (w : Lane) (d : BitVec 5) (imm : BitVec 16)
  /-- FADD (R139). -/
  | fadd (c : Fin 16) (w : Lane) (d : BitVec 5) (a : BitVec 5) (b : BitVec 5)
  /-- FSUB (R139). -/
  | fsub (c : Fin 16) (w : Lane) (d : BitVec 5) (a : BitVec 5) (b : BitVec 5)
  /-- FMUL (R139). -/
  | fmul (c : Fin 16) (w : Lane) (d : BitVec 5) (a : BitVec 5) (b : BitVec 5)
  /-- FDIV (R139). -/
  | fdiv (c : Fin 16) (w : Lane) (d : BitVec 5) (a : BitVec 5) (b : BitVec 5)
  /-- FSQRT (R139). -/
  | fsqrt (c : Fin 16) (w : Lane) (d : BitVec 5) (a : BitVec 5)
  /-- FMIN (R139). -/
  | fmin (c : Fin 16) (w : Lane) (d : BitVec 5) (a : BitVec 5) (b : BitVec 5)
  /-- FMAX (R139). -/
  | fmax (c : Fin 16) (w : Lane) (d : BitVec 5) (a : BitVec 5) (b : BitVec 5)
  /-- FABS (R139). -/
  | fabs (c : Fin 16) (w : Lane) (d : BitVec 5) (a : BitVec 5)
  /-- FNEG (R139). -/
  | fneg (c : Fin 16) (w : Lane) (d : BitVec 5) (a : BitVec 5)
  /-- FLT (R139). -/
  | flt (c : Fin 16) (w : Lane) (d : BitVec 5) (a : BitVec 5) (b : BitVec 5)
  /-- FLE (R139). -/
  | fle (c : Fin 16) (w : Lane) (d : BitVec 5) (a : BitVec 5) (b : BitVec 5)
  /-- FEQ (R139). -/
  | feq (c : Fin 16) (w : Lane) (d : BitVec 5) (a : BitVec 5) (b : BitVec 5)
  /-- I2F (R139). -/
  | i2f (c : Fin 16) (w : Lane) (d : BitVec 5) (a : BitVec 5)
  /-- F2I (R139). -/
  | f2i (c : Fin 16) (w : Lane) (d : BitVec 5) (a : BitVec 5)
  /-- U2F (R139). -/
  | u2f (c : Fin 16) (w : Lane) (d : BitVec 5) (a : BitVec 5)
  /-- F2IT (R139). -/
  | f2it (c : Fin 16) (w : Lane) (d : BitVec 5) (a : BitVec 5)
  /-- END (R140). -/
  | endExec (c : Fin 16) (w : Lane)
  /-- TOK (R143). -/
  | tok (c : Fin 16) (w : Lane) (imm : BitVec 12)
  /-- GETT (R140). -/
  | gett (c : Fin 16) (w : Lane) (d : BitVec 5) (a : BitVec 5)
  /-- SETT (R140). -/
  | sett (c : Fin 16) (w : Lane) (d : BitVec 5) (a : BitVec 5)
  /-- JOINT (R140). -/
  | joint (c : Fin 16) (w : Lane) (d : BitVec 5) (a : BitVec 5)
  /-- JR (R140). -/
  | jr (c : Fin 16) (w : Lane) (a : BitVec 5)
  /-- CYC (R140). -/
  | cyc (c : Fin 16) (w : Lane) (d : BitVec 5)
  /-- T0NS (R140). -/
  | t0ns (c : Fin 16) (w : Lane) (d : BitVec 5)
  /-- FIRST (R147). -/
  | first (c : Fin 16) (w : Lane) (d : BitVec 5)
  /-- RPOLL (R145). -/
  | rpoll (c : Fin 16) (w : Lane) (d : BitVec 5) (a : BitVec 5) (imm : BitVec 12)
  /-- RPUT (R146). -/
  | rput (c : Fin 16) (w : Lane) (d : BitVec 5) (a : BitVec 5) (imm : BitVec 12)
  /-- PERIOD (R140). -/
  | period (c : Fin 16) (w : Lane) (d : BitVec 5)
  /-- J (R136). -/
  | j (c : Fin 16) (w : Lane) (off : BitVec 26)
  /-- CALL (R137). -/
  | call (c : Fin 16) (w : Lane) (off : BitVec 26)
  /-- LDB (R137). -/
  | ldb (c : Fin 16) (w : Lane) (d : BitVec 5) (a : BitVec 5) (imm : BitVec 16)
  /-- LDH (R137). -/
  | ldh (c : Fin 16) (w : Lane) (d : BitVec 5) (a : BitVec 5) (imm : BitVec 16)
  /-- LDW (R137). -/
  | ldw (c : Fin 16) (w : Lane) (d : BitVec 5) (a : BitVec 5) (imm : BitVec 16)
  /-- LDD (R137). -/
  | ldd (c : Fin 16) (w : Lane) (d : BitVec 5) (a : BitVec 5) (imm : BitVec 16)
  /-- STB (R137). -/
  | stb (c : Fin 16) (w : Lane) (d : BitVec 5) (a : BitVec 5) (imm : BitVec 16)
  /-- STH (R137). -/
  | sth (c : Fin 16) (w : Lane) (d : BitVec 5) (a : BitVec 5) (imm : BitVec 16)
  /-- STW (R137). -/
  | stw (c : Fin 16) (w : Lane) (d : BitVec 5) (a : BitVec 5) (imm : BitVec 16)
  /-- STD (R137). -/
  | std (c : Fin 16) (w : Lane) (d : BitVec 5) (a : BitVec 5) (imm : BitVec 16)
  /-- ILDB (R127). -/
  | ildb (c : Fin 16) (w : Lane) (d : BitVec 5) (a : BitVec 5) (imm : BitVec 16)
  /-- ILDH (R127). -/
  | ildh (c : Fin 16) (w : Lane) (d : BitVec 5) (a : BitVec 5) (imm : BitVec 16)
  /-- ILDW (R127). -/
  | ildw (c : Fin 16) (w : Lane) (d : BitVec 5) (a : BitVec 5) (imm : BitVec 16)
  /-- ILDD (R127). -/
  | ildd (c : Fin 16) (w : Lane) (d : BitVec 5) (a : BitVec 5) (imm : BitVec 16)
  /-- ISTB (R128). -/
  | istb (c : Fin 16) (w : Lane) (d : BitVec 5) (a : BitVec 5) (imm : BitVec 16)
  /-- ISTH (R128). -/
  | isth (c : Fin 16) (w : Lane) (d : BitVec 5) (a : BitVec 5) (imm : BitVec 16)
  /-- ISTW (R128). -/
  | istw (c : Fin 16) (w : Lane) (d : BitVec 5) (a : BitVec 5) (imm : BitVec 16)
  /-- ISTD (R128). -/
  | istd (c : Fin 16) (w : Lane) (d : BitVec 5) (a : BitVec 5) (imm : BitVec 16)
  /-- LDS (R132). -/
  | lds (c : Fin 16) (w : Lane) (d : BitVec 5) (a : BitVec 5) (imm : BitVec 16)
  /-- LDSX (R132). -/
  | ldsx (c : Fin 16) (w : Lane) (d : BitVec 5) (a : BitVec 5) (imm : BitVec 16)
  /-- STS (R134). -/
  | sts (c : Fin 16) (w : Lane) (d : BitVec 5) (a : BitVec 5) (imm : BitVec 16)
  /-- BEQ (R137). -/
  | beq (c : Fin 16) (w : Lane) (a : BitVec 5) (b : BitVec 5) (off : BitVec 16)
  /-- BNE (R137). -/
  | bne (c : Fin 16) (w : Lane) (a : BitVec 5) (b : BitVec 5) (off : BitVec 16)
  /-- BLT (R137). -/
  | blt (c : Fin 16) (w : Lane) (a : BitVec 5) (b : BitVec 5) (off : BitVec 16)
  /-- BGE (R137). -/
  | bge (c : Fin 16) (w : Lane) (a : BitVec 5) (b : BitVec 5) (off : BitVec 16)
  /-- BLTU (R137). -/
  | bltu (c : Fin 16) (w : Lane) (a : BitVec 5) (b : BitVec 5) (off : BitVec 16)
  /-- BGEU (R137). -/
  | bgeu (c : Fin 16) (w : Lane) (a : BitVec 5) (b : BitVec 5) (off : BitVec 16)
  /-- BBAD (R137). -/
  | bbad (c : Fin 16) (w : Lane) (a : BitVec 5) (off : BitVec 16)
  /-- BOK (R137). -/
  | bok (c : Fin 16) (w : Lane) (a : BitVec 5) (off : BitVec 16)
  /-- ILLEGAL_INSTRUCTION (R137). -/
  | illegalInstruction (c : Fin 16) (w : Lane) (word : Word)
  /-- BREAKPOINT_HALT (R196). -/
  | breakpointHalt (c : Fin 16)
  /-- COMPARISON (R177). -/
  | comparison (c : Fin 16) (errors : List MemError)
  /-- CODE_REFRESH_END (R181). -/
  | codeRefreshEnd (c : Fin 16) (bankError : Bool)
  /-- COMMIT_START (R158). -/
  | commitStart (c : Fin 16) (t : Fin 16)
  /-- COMMIT_END (R158). -/
  | commitEnd
  /-- CYCLE_OUTCOME (R162). -/
  | cycleOutcome (t : Fin 16)
  /-- REEXEC_ABANDON (R163). -/
  | reexecAbandon (c : Fin 16)
  /-- EMIT (R153). -/
  | emit (t : Fin 16)
  /-- TASK_HOLD_REQ (R168). -/
  | taskHoldReq (t : Fin 16) (v : Word)
  /-- TASK_RESUME (R169). -/
  | taskResume (t : Fin 16) (v : Word)
  /-- TASK_RESUME_BOUNDARY (R169). -/
  | taskResumeBoundary (t : Fin 16)
  /-- TASK_CLR_STATS (R7). -/
  | taskClrStats (t : Fin 16) (v : Word)
  /-- GAL_CLR_STATS (R7). -/
  | galClrStats (v : Word)
  /-- CHAMBER_DOZE_WAKE (R171). -/
  | chamberDozeWake (c : Fin 16)
  /-- DEFERRED_BLOCK_RESET (R182). -/
  | deferredBlockReset (c : Fin 16)
  /-- MISMATCH_LEAK (R189). -/
  | mismatchLeak (c : Fin 16)
  /-- DBG_HALT_REQ (R196). -/
  | dbgHaltReq (c : Fin 16) (v : Word)
  /-- DBG_RESUME (R196). -/
  | dbgResume (c : Fin 16) (v : Word)
  /-- DBG_STEP (R196). -/
  | dbgStep (c : Fin 16) (v : Word)
  /-- DBG_READ (R194). -/
  | dbgRead
  /-- DBG_WRITE (R195). -/
  | dbgWrite
  /-- REPLAY_APPLY (R195). -/
  | replayApply (c : Fin 16)
  /-- LS_DBG_HOST_ACCESS (R194). -/
  | lsDbgHostAccess (addr : Word) (isWrite : Bool) (v : Word)
  /-- LS_INJECT_ARM (R197). -/
  | lsInjectArm (v : Word)
  /-- OLC_REQUEST (R198). -/
  | olcRequest (generation : Nat) (survey : Survey) (reuse : Bool)
  /-- OLC_AREA_WRITTEN (R199). -/
  | olcAreaWritten (survey : Survey) (intact : Bool)
  /-- OLC_MIGRATE (R201). -/
  | olcMigrate (v : Word)
  /-- SWEEP_STEP (R202). -/
  | sweepStep (index : Nat) (isPage : Bool) (uncorrectable : Bool)
  /-- OLC_ARM (R205). -/
  | olcArm (v : Word)
  /-- SWAP_AGREEMENT (R205). -/
  | swapAgreement
  /-- SWAP (R207). -/
  | swap
  /-- STAGING_SEED_DONE (R207). -/
  | stagingSeedDone (c : Fin 16)
  /-- OLC_ABORT (R210). -/
  | olcAbort (v : Word)
  /-- FORCE_WRITE (R212). -/
  | forceWrite (v : Word)
  /-- FORCE_CLEAR (R212). -/
  | forceClear (v : Word)
  /-- FORCE_READ (R212). -/
  | forceRead (v : Word)
  /-- FORCE_CLEAR_ALL (R215). -/
  | forceClearAll (v : Word)
  /-- FORCE_EFFECT (R215). -/
  | forceEffect
  /-- FORCE_STORE_WRITE (R216). -/
  | forceStoreWrite (copies : Fin 3)
  /-- LL_SIGNAL_DETECT (R223). -/
  | llSignalDetect (x : Fin 2)
  /-- HELLO (R223). -/
  | hello (hdr : LLHeader) (body : HelloBody)
  /-- HELLO_SEND (R221). -/
  | helloSend
  /-- TRAINING_TIMEOUT (R223). -/
  | trainingTimeout
  /-- LL_STATUS (R221). -/
  | llStatus (hdr : LLHeader) (body : StatusBody)
  /-- STATUS_SEND (R221). -/
  | statusSend
  /-- IMAGE (R227). -/
  | image (hdr : LLHeader) (body : ImageBody)
  /-- OUTCOME (R228). -/
  | outcome (hdr : LLHeader) (body : OutcomeBody)
  /-- JOURNAL (R240). -/
  | journal (hdr : LLHeader) (body : JournalBody)
  /-- DUPLEX (R230). -/
  | duplex (hdr : LLHeader) (body : DuplexBody)
  /-- COMMAND (R221). -/
  | command (hdr : LLHeader) (body : RelayCommand)
  /-- ACK (R221). -/
  | ack (hdr : LLHeader) (body : AckBody)
  /-- LL_TIME (R225). -/
  | llTime (hdr : LLHeader) (body : TimeBody)
  /-- TIME_SEND (R225). -/
  | timeSend
  /-- BULK (R240). -/
  | bulk (hdr : LLHeader) (body : BulkBody)
  /-- DEPARTURE (R223). -/
  | departure (hdr : LLHeader)
  /-- RELINQUISH (R233). -/
  | relinquish (f : RelinquishFrame)
  /-- FRAME_GAP (R222). -/
  | frameGap
  /-- OUTCOME_DEADLINE (R228). -/
  | outcomeDeadline (t : Fin 16)
  /-- PAIR_FAULT_SETTLE (R231). -/
  | pairFaultSettle
  /-- LL_LOSS_OF_SIGNAL (R223). -/
  | llLossOfSignal
  /-- LL_SILENCE (R223). -/
  | llSilence
  /-- LANE_DOWN (R224). -/
  | laneDown (x : Fin 2)
  /-- LANE_UP (R224). -/
  | laneUp (x : Fin 2)
  /-- AUTO_REJOIN (R238). -/
  | autoRejoin
  /-- REJOIN (R238). -/
  | rejoin (v : Word)
  /-- JOIN_COMPLETE (R241). -/
  | joinComplete
  /-- HANDOVER (R244). -/
  | handover (v : Word)
  /-- HANDOVER_H (R244). -/
  | handoverH
  /-- REVERT_PROPOSAL (R245). -/
  | revertProposal
  /-- ISL_DOWNSTREAM_FRAME (R250). -/
  | islDownstreamFrame (i : Fin 16)
  /-- ISL_UPSTREAM_FRAME (R251). -/
  | islUpstreamFrame (i : Fin 16) (f : UpArrival)
  /-- ISL_INPUT_LATCH (R253). -/
  | islInputLatch (i : Fin 16) (l : LatchEvent)
  /-- AI_CONVERSION_START (R277). -/
  | aiConversionStart (i : Fin 16) (channels : BitVec 8)
  /-- ISL_OUTPUT_APPLY (R254). -/
  | islOutputApply (i : Fin 16) (channels : BitVec 8)
  /-- ISL_FRAME_END (R254). -/
  | islFrameEnd (i : Fin 16) (noise : List Byte) (samples : BitVec 80) (readbacks : BitVec 8)
  /-- ISL_WATCHDOG_EXPIRY (R248). -/
  | islWatchdogExpiry (i : Fin 16)
  /-- ISL_CTRL_RESTART (R248). -/
  | islCtrlRestart (i : Fin 16)
  /-- ISL_LINK_LOST (R256). -/
  | islLinkLost (i : Fin 16)
  /-- ISL_LINK_SILENCE (R257). -/
  | islLinkSilence (i : Fin 16)
  /-- ISL_CH_CFG_WRITE (R259). -/
  | islChCfgWrite (n : Fin 128) (analogue : Bool) (v : Word)
  /-- ISL_CFG_EFFECT (R259). -/
  | islCfgEffect
  /-- ISL_CFG_STORE_WRITE (R259). -/
  | islCfgStoreWrite (n : Fin 128) (copies : Fin 3)
  /-- DO_SHORT_TRIP (R267). -/
  | doShortTrip (n : Fin 128)
  /-- DO_RETRY (R267). -/
  | doRetry (n : Fin 128)
  /-- GROUP_SHED (R268). -/
  | groupShed (i : Fin 16)
  /-- OPEN_LOAD_DETECT (R269). -/
  | openLoadDetect (n : Fin 128)
  /-- EXTERNAL_DRIVE_DETECT (R270). -/
  | externalDriveDetect (n : Fin 128)
  /-- SUPPLY_WARN (R272). -/
  | supplyWarn (i : Fin 16) (volts : Nat)
  /-- SUPPLY_WARN_END (R272). -/
  | supplyWarnEnd (i : Fin 16) (volts : Nat)
  /-- SUPPLY_LOCKOUT (R272). -/
  | supplyLockout (i : Fin 16) (volts : Nat)
  /-- SUPPLY_RECOVERING (R272). -/
  | supplyRecovering (i : Fin 16) (volts : Nat)
  /-- SUPPLY_RECOVER_FALL (R272). -/
  | supplyRecoverFall (i : Fin 16) (volts : Nat)
  /-- SUPPLY_RECOVERED (R272). -/
  | supplyRecovered (i : Fin 16) (volts : Nat)
  /-- LIMITER_LIMIT (R275). -/
  | limiterLimit (n : Fin 128)
  /-- AI_FOLDBACK (R275). -/
  | aiFoldback (n : Fin 128)
  /-- LIMITER_RELEASE (R275). -/
  | limiterRelease (n : Fin 128)
  /-- AI_CONVERSION_DONE (R276). -/
  | aiConversionDone (n : Fin 128) (r : BitVec 32)
  /-- AI_CONTINUOUS_START (R277). -/
  | aiContinuousStart (n : Fin 128)
  /-- AO_SUPERVISION (R283). -/
  | aoSupervision (n : Fin 128) (obs : AoObservation)
  /-- AO_STEP_UP (R284). -/
  | aoStepUp (n : Fin 128)
  /-- AO_STEP_DOWN (R284). -/
  | aoStepDown (n : Fin 128)
  /-- DRIVE_ON (R288). -/
  | driveOn (v : Word)
  /-- DRIVE_OFF (R288). -/
  | driveOff (v : Word)
  /-- CAL_TAKE (R287). -/
  | calTake (v : Word)
  /-- CAL_DEFAULT (R289). -/
  | calDefault (v : Word)
  /-- CAL_AVERAGE_DONE (R287). -/
  | calAverageDone (up : Bool)
  /-- CAL_DRIVE_TIMEOUT (R288). -/
  | calDriveTimeout (n : Fin 128)
  /-- CAL_EFFECT (R289). -/
  | calEffect
  /-- CAL_STORE_WRITE (R289). -/
  | calStoreWrite (n : Fin 128) (copies : Fin 3)
  /-- FL_EXCHANGE_SEND (R300). -/
  | flExchangeSend (e : FrameSlot)
  /-- FL_POLL_SEND (R300). -/
  | flPollSend (e : FrameSlot)
  /-- FL_SET_SEND (R300). -/
  | flSetSend (e : FrameSlot)
  /-- FL_SLOW_SEND (R312). -/
  | flSlowSend (p : Fin 8) (free : Bool)
  /-- REPLY (R306). -/
  | reply (p : Fin 8) (f : ReplyFrame)
  /-- SLOW_REPLY (R312). -/
  | slowReply (p : Fin 8) (station : Fin 64) (f : SlowArrival)
  /-- FL_PARTNER_FRAME (R293). -/
  | flPartnerFrame (p : Fin 8)
  /-- FL_LINK_DOWN (R310). -/
  | flLinkDown (p : Fin 8)
  /-- RING_PARTNER_TIMEOUT (R310). -/
  | ringPartnerTimeout (p : Fin 8)
  /-- BB_FRAME_RX (R316). -/
  | bbFrameRx (port : Fin 2) (f : BbFrame)
  /-- BB_EGRESS_TRANSMIT (R318). -/
  | bbEgressTransmit (port : Fin 3)
  /-- BB_LOCAL_TX (R327). -/
  | bbLocalTx (q : Fin 64)
  /-- BB_RX_HELD_DELIVER (R329). -/
  | bbRxHeldDeliver
  /-- BB_PORT_UP (R314). -/
  | bbPortUp (x : Fin 2)
  /-- BB_PORT_DOWN (R314). -/
  | bbPortDown (x : Fin 2)
  /-- PRP_SUPERVISION_SEND (R321). -/
  | prpSupervisionSend
  /-- PRP_ENTRY_FORGET (R322). -/
  | prpEntryForget (src : Nat)
  /-- TC_FOLLOW_UP_TIMEOUT (R323). -/
  | tcFollowUpTimeout
  /-- RING_PROD_WRITE (R328). -/
  | ringProdWrite (q : Fin 64) (v : Word)
  /-- RING_CONS_WRITE (R328). -/
  | ringConsWrite (q : Fin 64) (v : Word)
  /-- RING_CFG_WRITE (R325). -/
  | ringCfgWrite (q : Fin 64) (v : Word)
  /-- RING_COALESCE_EXPIRY (R330). -/
  | ringCoalesceExpiry (q : Fin 64)
  /-- CAN_FRAME_RX (R335). -/
  | canFrameRx (k : Fin 4) (f : CanFrame)
  /-- CAN_REMOTE_FRAME (R332). -/
  | canRemoteFrame (k : Fin 4) (f : CanFrame)
  /-- CAN_TX_ATTEMPT (R337). -/
  | canTxAttempt (k : Fin 4)
  /-- CAN_TX_COMPLETE (R337). -/
  | canTxComplete (k : Fin 4)
  /-- CAN_ARB_LOST (R337). -/
  | canArbLost (k : Fin 4)
  /-- CAN_ERROR (R344). -/
  | canError (k : Fin 4) (kind : CanErrorKind) (transmitting : Bool) (primary : Bool)
  /-- CAN_RECOVERY_DONE (R344). -/
  | canRecoveryDone (k : Fin 4)
  /-- TXREQ (R342). -/
  | txreq (k : Fin 4) (m : Fin 128) (v : Word)
  /-- CANCEL (R337). -/
  | cancel (k : Fin 4) (m : Fin 128) (v : Word)
  /-- CANCEL_REACHES_ENGINE (R337). -/
  | cancelReachesEngine (k : Fin 4) (m : Fin 128)
  /-- CAN_RECOVER (R344). -/
  | canRecover (k : Fin 4) (v : Word)
  /-- CAN_TIMING_WRITE (R334). -/
  | canTimingWrite (k : Fin 4) (reg : CanTimingReg) (v : Word)
  /-- CAN_OBJ_WRITE (R342). -/
  | canObjWrite (k : Fin 4) (m : Fin 128) (reg : CanObjReg) (v : Word)
  /-- CAN_RING_TX (R342). -/
  | canRingTx (k : Fin 4)
  /-- SUBMIT (R351). -/
  | submit (v : Word)
  /-- ACCEPT_STEP (R353). -/
  | acceptStep (v : Word)
  /-- ACCEPT_SLEW (R353). -/
  | acceptSlew (v : Word)
  /-- TIME_DISCARD (R353). -/
  | timeDiscard (v : Word)
  /-- TIME_STEP_INSTANT (R353). -/
  | timeStepInstant
  /-- TIME_HOLDOVER (R350). -/
  | timeHoldover
  /-- PTP_LAN_CHANGE (R355). -/
  | ptpLanChange
  /-- DRIP_FIRE (R356). -/
  | dripFire (d : Fin 64)
  /-- DRIP_ARM (R357). -/
  | dripArm (d : Fin 64) (v : Word)
  /-- DRIP_DISARM (R359). -/
  | dripDisarm (d : Fin 64) (v : Word)
  /-- CAPTURE_EDGE (R361). -/
  | captureEdge (k : Fin 16) (level : Bool)
  /-- HOST_ACCESS (R369). -/
  | hostAccess (a : Access)
  /-- GUARD_RULE_WRITE (R372). -/
  | guardRuleWrite (addr : Word) (v : Word) (outstanding : Nat)
  /-- GUARD_DRAIN_END (R372). -/
  | guardDrainEnd (u : Fin 16)
  /-- GUARD_DRAIN_TIMEOUT (R373). -/
  | guardDrainTimeout (u : Fin 16) (aborted : Nat)
  /-- SUMP_OCCURRENCE (R376). -/
  | sumpOccurrence (s : Fin 256) (inst : BitVec 8) (sub : BitVec 8)
  /-- SUMP_FORCE (R383). -/
  | sumpForce (s : Fin 256) (v : Word)
  /-- SUMP_FLAG_CLEAR (R382). -/
  | sumpFlagClear (s : Fin 256) (v : Word)
  /-- SUMP_MODULE_RESET (R381). -/
  | sumpModuleReset
  /-- FLS_RECORD_WRITE (R389). -/
  | flsRecordWrite (errors : List Nat)
  /-- FLS_WRITE_GO (R392). -/
  | flsWriteGo (v : Word)
  /-- FLS_ERASE (R393). -/
  | flsErase (v : Word)
  /-- FLS_SEEK (R394). -/
  | flsSeek (v : Word)
  /-- FLS_SEEK_DONE (R394). -/
  | flsSeekDone
  /-- OPTIME_COPY (R388). -/
  | optimeCopy
  /-- DROOP_DETECT (R399). -/
  | droopDetect (reading : Nat)
  /-- SQUEEZE_STEP_DOWN (R399). -/
  | squeezeStepDown
  /-- CORE_RAIL_BROWN_OUT (R399). -/
  | coreRailBrownOut
  /-- THERMAL_RATIO_CHANGE (R401). -/
  | thermalRatioChange (temp : BitVec 16)
  /-- HOLDUP_TEST (R403). -/
  | holdupTest (rideUs : Nat)
  /-- HIBERNATE_ENTER_CMD (R406). -/
  | hibernateEnterCmd (v : Word)
  /-- HIBERNATE_ENTRY (R409). -/
  | hibernateEntry
  /-- WAKE (R413). -/
  | wake (src : WakeSource)
  /-- WAKE_ATTEMPT_FAIL (R414). -/
  | wakeAttemptFail (item : Nat)
  /-- WAKE_RETRY (R414). -/
  | wakeRetry
  /-- WAKE_RESET_RELEASE (R415). -/
  | wakeResetRelease (sample : ResetSample)
  /-- WAKE_FAIL_STALL (R414). -/
  | wakeFailStall
  /-- LIFECYCLE_GO (R418). -/
  | lifecycleGo (v : Word)
  /-- PROVISION_GO (R421). -/
  | provisionGo (v : Word)
  /-- REVOKE_GO (R422). -/
  | revokeGo (v : Word)
  /-- EXTEST (R427). -/
  | extest
  /-- IDCODE (R427). -/
  | idcode
  /-- SAMPLE_PRELOAD (R427). -/
  | samplePreload
  /-- AUTH_NONCE (R431). -/
  | authNonce
  /-- AUTH_RESP (R431). -/
  | authResp (level : Fin 4) (verdict : AuthVerdict)
  /-- AUTH_DECISION (R431). -/
  | authDecision
  /-- AUTH_LOCKOUT_END (R431). -/
  | authLockoutEnd
  /-- DAP (R428). -/
  | dap (a : Access)
  /-- SEC_STAT (R427). -/
  | secStat
  /-- BYPASS (R427). -/
  | bypass
  /-- TAP_RESET (R432). -/
  | tapReset
  /-- DEBUG_IDLE_TIMEOUT (R432). -/
  | debugIdleTimeout
  /-- ENG_CONNECTION_ATTEMPT (R435). -/
  | engConnectionAttempt
  /-- ENG_SESSION_OPEN (R434). -/
  | engSessionOpen (remote : Bool) (certHash : Word)
  /-- ENG_SESSION_TIMEOUT (R435). -/
  | engSessionTimeout
  /-- ENG_SESSION_CLOSE (R435). -/
  | engSessionClose
  /-- UPD_BEGIN (R444). -/
  | updBegin (v : Word)
  /-- UPD_WRITE (R444). -/
  | updWrite (v : Word)
  /-- UPD_END (R444). -/
  | updEnd (v : Word)
  /-- UPD_DISCARD (R444). -/
  | updDiscard (v : Word)
  /-- CAPSULE_VERIFIED (R443). -/
  | capsuleVerified (capsule : Capsule)
  /-- HEALTH_CONFIRM (R448). -/
  | healthConfirm (v : Word)
  /-- HEALTH_WINDOW_EXPIRY (R449). -/
  | healthWindowExpiry
  /-- FALLBACK_RESET (R449). -/
  | fallbackReset
  /-- ISLAND_UPDATE_GO (R450). -/
  | islandUpdateGo (v : Word)
  /-- ISLAND_IMAGE_TRANSFERRED (R451). -/
  | islandImageTransferred (ok : Bool)
  /-- ISLAND_UPDATE_TIMEOUT (R451). -/
  | islandUpdateTimeout
  /-- RECOVERY_TFTP_WRITE (R447). -/
  | recoveryTftpWrite (capsule : Capsule)
  /-- TP_START (R458). -/
  | tpStart (v : Word)
  /-- TP_STOP (R460). -/
  | tpStop (v : Word)
  /-- TP_KIND_EFFECT (R459). -/
  | tpKindEffect (kind : Fin 6)
  /-- TP_DURATION_EXPIRY (R460). -/
  | tpDurationExpiry
  /-- TP_HELD_FRAME_DELIVER (R457). -/
  | tpHeldFrameDeliver
  /-- IO_RAIL_BROWN_OUT (R69). -/
  | ioRailBrownOut
  /-- FL_LINK_UP (R310). -/
  | flLinkUp (report : SgmiiReport)
  /-- DO_CURRENT_LIMIT (R267). -/
  | doCurrentLimit (n : Fin 128)
  /-- DO_RETRY_GOOD (R267). -/
  | doRetryGood (n : Fin 128)
  /-- OPEN_LOAD_CLEAR (R269). -/
  | openLoadClear (n : Fin 128)
  /-- EXTERNAL_DRIVE_CLEAR (R270). -/
  | externalDriveClear (n : Fin 128)
  /-- DECOMMISSION_ERASE_DONE (R419). -/
  | decommissionEraseDone (ok : Bool)
  /-- TLS_HANDSHAKE_FAIL (R434). -/
  | tlsHandshakeFail (alert : Nat)
  /-- SNAPSHOT_READ (R349). -/
  | snapshotRead (addr : Word)
  deriving DecidableEq, Repr

end Sys2Proof
end

