-- ==== Sys2Proof/Config.lean ====
section
/-! DEFINITION. What one module has been given at manufacture, and the free values: constants without a body, so that nothing can be
proved about which value they have. -/
namespace Sys2Proof

/-- Values the manual leaves open and the machine nevertheless produces: the `n`-th one drawn. (DESIGN CHOICE, log entry 4.) -/
opaque Config.freeBits : Nat → BitVec 64

/-- The 64 bits programmed as the serial number at manufacture (R464, IDENT_SERIAL). (DESIGN CHOICE, log entry 8.) -/
opaque Config.serialBits : BitVec 64

/-- The base MAC address formed from a serial number (R315); the manual does not say how. (DESIGN CHOICE, log entry 8.) -/
opaque Config.macBits : BitVec 64 → BitVec 48

/-- LENGTH of the `n`-th Lifeline frame sent (R220): the manual gives no payload its layout. (DESIGN CHOICE, log entry 107.) -/
opaque Config.llLength : Nat → BitVec 14

/-- The factory trims of a channel, by channel and field (R285), which the manual gives no values. (DESIGN CHOICE, log entry 109.) -/
opaque Config.factoryTrim : Nat → Nat → BitVec 32

/-- The boot ROM's contents by address (R463); the manual does not give them. (DESIGN CHOICE, log entry 8.) -/
opaque Config.bootRom : Nat → Byte

/-- The serial number, which is never 0. (DESIGN CHOICE, log entries 2, 8.) -/
def Config.serial : BitVec 64 :=
  if Config.serialBits = 0 then 1 else Config.serialBits

end Sys2Proof
end

