-- ==== Sys2Proof/Machine/Sparse.lean ====
section
/-! DEFINITION. Sparse tables: lists of (key, value) pairs in one canonical form (keys strictly rising, no entry equal to what an
unlisted key reads as). Registers, memories and per-unit states of the module are held this way. -/
namespace Sys2Proof.Machine

/-- What a sparse table reads at key `k`; an unlisted key reads as `dflt k`. -/
def sparseGet {β : Type} (dflt : Nat → β) : List (Nat × β) → Nat → β
  | [], k => dflt k
  | (a, v) :: m, k => if a = k then v else sparseGet dflt m k

/-- Remove key `k`. -/
def sparseErase {β : Type} (m : List (Nat × β)) (k : Nat) : List (Nat × β) :=
  m.filter fun p => p.1 != k

/-- Put `v` at key `k`, in key order. -/
def sparseInsert {β : Type} : List (Nat × β) → Nat → β → List (Nat × β)
  | [], k, v => [(k, v)]
  | (a, w) :: m, k, v =>
    if k < a then (k, v) :: (a, w) :: m
    else if k = a then (k, v) :: m
    else (a, w) :: sparseInsert m k v

/-- Write `v` at key `k`, keeping the canonical form: writing what an unlisted key reads as removes the entry. -/
def sparseSet {β : Type} [DecidableEq β] (dflt : Nat → β) (m : List (Nat × β)) (k : Nat) (v : β) : List (Nat × β) :=
  if v = dflt k then sparseErase m k else sparseInsert m k v

/-- Keys strictly rising. -/
def sparseSorted {β : Type} : List (Nat × β) → Bool
  | [] => true
  | [_] => true
  | (a, _) :: (b, w) :: m => decide (a < b) && sparseSorted ((b, w) :: m)

/-- The canonical form. -/
def sparseWf {β : Type} [DecidableEq β] (dflt : Nat → β) (m : List (Nat × β)) : Bool :=
  sparseSorted m && m.all fun p => decide (p.2 ≠ dflt p.1)

end Sys2Proof.Machine
end

