-- ==== Sys2Proof/Machine/RegFields.lean ====
section
/-! DEFINITION. The registers of the module by name: address (R464: block base plus offset plus stride times index) and fields, as
the register tables of the chapters give them. `Reg.NAME` is the address of a register, `Fld.NAME_FIELD` one of its fields. -/
namespace Sys2Proof.Machine

/-- A field of a register: the register's address, the lowest bit, the width in bits. -/
structure RegField where
  addr : Nat
  lo : Nat
  width : Nat
  deriving DecidableEq, Repr

/-! ### CLOCK -/
def Reg.CLK_STAT : Nat := 0x40010000
def Fld.CLK_STAT_REF_STRAP : RegField := ⟨Reg.CLK_STAT, 0, 2⟩
def Fld.CLK_STAT_REF_ACTIVE : RegField := ⟨Reg.CLK_STAT, 2, 2⟩
def Fld.CLK_STAT_PLL_LOCK : RegField := ⟨Reg.CLK_STAT, 4, 1⟩
def Fld.CLK_STAT_OWN_OK : RegField := ⟨Reg.CLK_STAT, 5, 1⟩
def Fld.CLK_STAT_BASE_OK : RegField := ⟨Reg.CLK_STAT, 6, 1⟩
def Fld.CLK_STAT_PARTNER_OK : RegField := ⟨Reg.CLK_STAT, 7, 1⟩
def Fld.CLK_STAT_SQZ_RATIO : RegField := ⟨Reg.CLK_STAT, 8, 2⟩
def Fld.CLK_STAT_SWITCHING : RegField := ⟨Reg.CLK_STAT, 10, 1⟩
def Reg.CLK_CTRL : Nat := 0x40010004
def Fld.CLK_CTRL_REF_RESTORE : RegField := ⟨Reg.CLK_CTRL, 0, 1⟩
def Reg.CLK_EVENT : Nat := 0x40010008
def Fld.CLK_EVENT_LOST : RegField := ⟨Reg.CLK_EVENT, 0, 1⟩
def Fld.CLK_EVENT_LOST_COUNT : RegField := ⟨Reg.CLK_EVENT, 8, 8⟩
def Fld.CLK_EVENT_MON_WARN : RegField := ⟨Reg.CLK_EVENT, 16, 1⟩
def Fld.CLK_EVENT_MON_CLK : RegField := ⟨Reg.CLK_EVENT, 17, 3⟩
def Reg.CLK_MON_COUNT (x : Nat) : Nat := 0x40010010 + 4 * x
def Fld.CLK_MON_COUNT_COUNT (x : Nat) : RegField := ⟨Reg.CLK_MON_COUNT x, 0, 16⟩
def Reg.CLK_REF_OFFSET : Nat := 0x40010030
def Fld.CLK_REF_OFFSET_PPM : RegField := ⟨Reg.CLK_REF_OFFSET, 0, 16⟩
/-! ### RESET -/
def Reg.RST_CAUSE : Nat := 0x40020000
def Fld.RST_CAUSE_POR : RegField := ⟨Reg.RST_CAUSE, 0, 1⟩
def Fld.RST_CAUSE_BOR : RegField := ⟨Reg.RST_CAUSE, 1, 1⟩
def Fld.RST_CAUSE_PIN : RegField := ⟨Reg.RST_CAUSE, 2, 1⟩
def Fld.RST_CAUSE_WDT : RegField := ⟨Reg.RST_CAUSE, 3, 1⟩
def Fld.RST_CAUSE_SW : RegField := ⟨Reg.RST_CAUSE, 4, 1⟩
def Fld.RST_CAUSE_DBG : RegField := ⟨Reg.RST_CAUSE, 5, 1⟩
def Fld.RST_CAUSE_CLKF : RegField := ⟨Reg.RST_CAUSE, 6, 1⟩
def Fld.RST_CAUSE_LOCKUP : RegField := ⟨Reg.RST_CAUSE, 7, 1⟩
def Fld.RST_CAUSE_WAKE_FAIL : RegField := ⟨Reg.RST_CAUSE, 8, 1⟩
def Fld.RST_CAUSE_FIRST : RegField := ⟨Reg.RST_CAUSE, 12, 3⟩
def Reg.RST_COUNT : Nat := 0x40020004
def Fld.RST_COUNT_COUNT : RegField := ⟨Reg.RST_COUNT, 0, 32⟩
def Reg.RST_PWR_CYCLES : Nat := 0x40020008
def Fld.RST_PWR_CYCLES_COUNT : RegField := ⟨Reg.RST_PWR_CYCLES, 0, 32⟩
def Reg.RST_DETAIL : Nat := 0x4002000C
def Fld.RST_DETAIL_CLK_ID : RegField := ⟨Reg.RST_DETAIL, 0, 3⟩
def Fld.RST_DETAIL_BOR_KIND : RegField := ⟨Reg.RST_DETAIL, 3, 2⟩
def Fld.RST_DETAIL_SW_BY_SUMP : RegField := ⟨Reg.RST_DETAIL, 5, 1⟩
def Fld.RST_DETAIL_SUMP_SRC : RegField := ⟨Reg.RST_DETAIL, 6, 8⟩
def Fld.RST_DETAIL_LOCKUP_PAIR : RegField := ⟨Reg.RST_DETAIL, 14, 1⟩
def Fld.RST_DETAIL_LOCKUP_KIND : RegField := ⟨Reg.RST_DETAIL, 15, 1⟩
def Reg.RST_SW : Nat := 0x40020010
def Fld.RST_SW_REQ : RegField := ⟨Reg.RST_SW, 0, 1⟩
def Fld.RST_SW_KEY : RegField := ⟨Reg.RST_SW, 16, 16⟩
def Reg.RST_STRAP : Nat := 0x40020014
def Fld.RST_STRAP_BOOT : RegField := ⟨Reg.RST_STRAP, 0, 2⟩
def Fld.RST_STRAP_CLK : RegField := ⟨Reg.RST_STRAP, 2, 2⟩
def Fld.RST_STRAP_SLOT_AB : RegField := ⟨Reg.RST_STRAP, 4, 1⟩
def Fld.RST_STRAP_SLOT_AB_N : RegField := ⟨Reg.RST_STRAP, 5, 1⟩
def Fld.RST_STRAP_STRAP_FAULT : RegField := ⟨Reg.RST_STRAP, 6, 1⟩
def Reg.WDT_CTRL : Nat := 0x40020020
def Fld.WDT_CTRL_ENABLE : RegField := ⟨Reg.WDT_CTRL, 0, 1⟩
def Fld.WDT_CTRL_TIMEOUT : RegField := ⟨Reg.WDT_CTRL, 16, 14⟩
def Reg.WDT_KICK : Nat := 0x40020024
def Fld.WDT_KICK_CODE : RegField := ⟨Reg.WDT_KICK, 0, 8⟩
def Reg.WDT_STAT : Nat := 0x40020028
def Fld.WDT_STAT_REMAIN_MS : RegField := ⟨Reg.WDT_STAT, 0, 16⟩
def Fld.WDT_STAT_BAD_KICKS : RegField := ⟨Reg.WDT_STAT, 16, 8⟩
def Reg.RST_LOCK : Nat := 0x400200FC
def Fld.RST_LOCK_LOCK : RegField := ⟨Reg.RST_LOCK, 0, 1⟩
def Reg.GATE_CTRL (b : Nat) : Nat := 0x40020100 + 4 * b
def Fld.GATE_CTRL_REQ (b : Nat) : RegField := ⟨Reg.GATE_CTRL b, 0, 1⟩
def Fld.GATE_CTRL_QUIESCE (b : Nat) : RegField := ⟨Reg.GATE_CTRL b, 1, 1⟩
def Fld.GATE_CTRL_STATE (b : Nat) : RegField := ⟨Reg.GATE_CTRL b, 2, 2⟩
def Fld.GATE_CTRL_RELEASE (b : Nat) : RegField := ⟨Reg.GATE_CTRL b, 4, 1⟩
def Fld.GATE_CTRL_QV (b : Nat) : RegField := ⟨Reg.GATE_CTRL b, 5, 1⟩
def Fld.GATE_CTRL_ERRORED (b : Nat) : RegField := ⟨Reg.GATE_CTRL b, 8, 8⟩
def Fld.GATE_CTRL_RESETS (b : Nat) : RegField := ⟨Reg.GATE_CTRL b, 16, 8⟩
/-! ### CFGSTORE -/
def Reg.CFG_STAT : Nat := 0x40140000
def Fld.CFG_STAT_SFDP_OK : RegField := ⟨Reg.CFG_STAT, 0, 1⟩
def Fld.CFG_STAT_HDR_OK : RegField := ⟨Reg.CFG_STAT, 1, 1⟩
def Fld.CFG_STAT_BUSY : RegField := ⟨Reg.CFG_STAT, 2, 1⟩
def Fld.CFG_STAT_RUN_AREA : RegField := ⟨Reg.CFG_STAT, 3, 1⟩
def Fld.CFG_STAT_RESOLVE : RegField := ⟨Reg.CFG_STAT, 4, 2⟩
def Reg.CFG_GEN (a : Nat) : Nat := 0x40140010 + 4 * a
def Fld.CFG_GEN_GENERATION (a : Nat) : RegField := ⟨Reg.CFG_GEN a, 0, 32⟩
def Reg.CFG_AREA (a : Nat) : Nat := 0x40140020 + 4 * a
def Fld.CFG_AREA_STATE (a : Nat) : RegField := ⟨Reg.CFG_AREA a, 0, 8⟩
def Fld.CFG_AREA_INTACT (a : Nat) : RegField := ⟨Reg.CFG_AREA a, 8, 1⟩
def Reg.CFG_CLK : Nat := 0x40140030
def Fld.CFG_CLK_DIV : RegField := ⟨Reg.CFG_CLK, 0, 4⟩
def Reg.CFG_LOCK : Nat := 0x4014FFFC
def Fld.CFG_LOCK_LOCK : RegField := ⟨Reg.CFG_LOCK, 0, 1⟩
/-! ### SURVEY -/
def Reg.SVY_BANK (x : Nat) : Nat := 0x400A0000 + 4 * x
def Fld.SVY_BANK_STATE (x : Nat) : RegField := ⟨Reg.SVY_BANK x, 0, 3⟩
def Fld.SVY_BANK_CE_COUNT (x : Nat) : RegField := ⟨Reg.SVY_BANK x, 16, 16⟩
def Reg.SVY_BANK_GEN (x : Nat) : Nat := 0x400A0008 + 4 * x
def Fld.SVY_BANK_GEN_GENERATION (x : Nat) : RegField := ⟨Reg.SVY_BANK_GEN x, 0, 32⟩
def Reg.SVY_BANK_BUILD (x : Nat) : Nat := 0x400A0010 + 4 * x
def Fld.SVY_BANK_BUILD_BUILD_LO (x : Nat) : RegField := ⟨Reg.SVY_BANK_BUILD x, 0, 32⟩
def Reg.SVY_LOAD_ERR : Nat := 0x400A0020
def Fld.SVY_LOAD_ERR_CODE : RegField := ⟨Reg.SVY_LOAD_ERR, 0, 8⟩
def Fld.SVY_LOAD_ERR_SECTION : RegField := ⟨Reg.SVY_LOAD_ERR, 8, 6⟩
def Fld.SVY_LOAD_ERR_BANK : RegField := ⟨Reg.SVY_LOAD_ERR, 14, 1⟩
def Fld.SVY_LOAD_ERR_ENTRY : RegField := ⟨Reg.SVY_LOAD_ERR, 16, 16⟩
def Reg.SVY_SCRUB : Nat := 0x400A0024
def Fld.SVY_SCRUB_PASSES : RegField := ⟨Reg.SVY_SCRUB, 0, 16⟩
def Fld.SVY_SCRUB_UE_ACTIVE : RegField := ⟨Reg.SVY_SCRUB, 16, 1⟩
def Fld.SVY_SCRUB_UE_INACTIVE : RegField := ⟨Reg.SVY_SCRUB, 17, 1⟩
/-! ### GALLERY -/
def Reg.GAL_CH_STAT (c : Nat) : Nat := 0x40090000 + 4 * c
def Fld.GAL_CH_STAT_STATE (c : Nat) : RegField := ⟨Reg.GAL_CH_STAT c, 0, 3⟩
def Fld.GAL_CH_STAT_DOZE (c : Nat) : RegField := ⟨Reg.GAL_CH_STAT c, 3, 1⟩
def Fld.GAL_CH_STAT_TASK (c : Nat) : RegField := ⟨Reg.GAL_CH_STAT c, 4, 4⟩
def Fld.GAL_CH_STAT_VARIANT (c : Nat) : RegField := ⟨Reg.GAL_CH_STAT c, 8, 4⟩
def Fld.GAL_CH_STAT_RELOCATED (c : Nat) : RegField := ⟨Reg.GAL_CH_STAT c, 12, 1⟩
def Reg.GAL_CH_TRAP (c : Nat) : Nat := 0x40090040 + 4 * c
def Fld.GAL_CH_TRAP_CAUSE (c : Nat) : RegField := ⟨Reg.GAL_CH_TRAP c, 0, 4⟩
def Fld.GAL_CH_TRAP_TASK (c : Nat) : RegField := ⟨Reg.GAL_CH_TRAP c, 4, 4⟩
def Fld.GAL_CH_TRAP_PC_WORD (c : Nat) : RegField := ⟨Reg.GAL_CH_TRAP c, 8, 18⟩
def Fld.GAL_CH_TRAP_PROGRAM (c : Nat) : RegField := ⟨Reg.GAL_CH_TRAP c, 26, 1⟩
def Fld.GAL_CH_TRAP_VALID (c : Nat) : RegField := ⟨Reg.GAL_CH_TRAP c, 31, 1⟩
def Reg.GAL_CH_TRAP_ADDR (c : Nat) : Nat := 0x40090080 + 4 * c
def Fld.GAL_CH_TRAP_ADDR_ADDR (c : Nat) : RegField := ⟨Reg.GAL_CH_TRAP_ADDR c, 0, 32⟩
def Reg.GAL_CH_EXECS (c : Nat) : Nat := 0x400900C0 + 4 * c
def Fld.GAL_CH_EXECS_COUNT (c : Nat) : RegField := ⟨Reg.GAL_CH_EXECS c, 0, 32⟩
def Reg.GAL_CH_MAXCYC (c : Nat) : Nat := 0x40090100 + 4 * c
def Fld.GAL_CH_MAXCYC_CYCLES (c : Nat) : RegField := ⟨Reg.GAL_CH_MAXCYC c, 0, 32⟩
def Reg.GAL_CH_JMAX (c : Nat) : Nat := 0x40090140 + 4 * c
def Fld.GAL_CH_JMAX_BYTES (c : Nat) : RegField := ⟨Reg.GAL_CH_JMAX c, 0, 19⟩
def Reg.GAL_CH_ECC (c : Nat) : Nat := 0x40090180 + 4 * c
def Fld.GAL_CH_ECC_CODE_CE (c : Nat) : RegField := ⟨Reg.GAL_CH_ECC c, 0, 8⟩
def Fld.GAL_CH_ECC_WORK_CE (c : Nat) : RegField := ⟨Reg.GAL_CH_ECC c, 8, 8⟩
def Fld.GAL_CH_ECC_JRNL_CE (c : Nat) : RegField := ⟨Reg.GAL_CH_ECC c, 16, 8⟩
def Fld.GAL_CH_ECC_INST_CE (c : Nat) : RegField := ⟨Reg.GAL_CH_ECC c, 24, 8⟩
def Reg.GAL_TASK_INST_LO (t : Nat) : Nat := 0x400901C0 + 4 * t
def Fld.GAL_TASK_INST_LO_OFFSET (t : Nat) : RegField := ⟨Reg.GAL_TASK_INST_LO t, 0, 25⟩
def Reg.GAL_TASK_INST_HI (t : Nat) : Nat := 0x40090200 + 4 * t
def Fld.GAL_TASK_INST_HI_END (t : Nat) : RegField := ⟨Reg.GAL_TASK_INST_HI t, 0, 26⟩
def Reg.GAL_AREA_TAG_LO (a : Nat) : Nat := 0x40090240 + 4 * a
def Fld.GAL_AREA_TAG_LO_BUILD_LO (a : Nat) : RegField := ⟨Reg.GAL_AREA_TAG_LO a, 0, 32⟩
def Reg.GAL_AREA_TAG_HI (a : Nat) : Nat := 0x40090248 + 4 * a
def Fld.GAL_AREA_TAG_HI_BUILD_HI (a : Nat) : RegField := ⟨Reg.GAL_AREA_TAG_HI a, 0, 32⟩
def Reg.GAL_AREA : Nat := 0x40090250
def Fld.GAL_AREA_RUN_AREA : RegField := ⟨Reg.GAL_AREA, 0, 1⟩
def Fld.GAL_AREA_TAG_VALID : RegField := ⟨Reg.GAL_AREA, 1, 2⟩
def Fld.GAL_AREA_COLD : RegField := ⟨Reg.GAL_AREA, 3, 1⟩
def Reg.GAL_RELOC (x : Nat) : Nat := 0x40090260 + 4 * x
def Fld.GAL_RELOC_SPARE (x : Nat) : RegField := ⟨Reg.GAL_RELOC x, 0, 4⟩
def Fld.GAL_RELOC_FAILED (x : Nat) : RegField := ⟨Reg.GAL_RELOC x, 4, 4⟩
def Fld.GAL_RELOC_VARIANT (x : Nat) : RegField := ⟨Reg.GAL_RELOC x, 8, 4⟩
def Fld.GAL_RELOC_ACTIVE (x : Nat) : RegField := ⟨Reg.GAL_RELOC x, 12, 1⟩
def Fld.GAL_RELOC_PRESENT (x : Nat) : RegField := ⟨Reg.GAL_RELOC x, 13, 1⟩
def Reg.GAL_CTRL : Nat := 0x40090300
def Fld.GAL_CTRL_DOZE_AUTO : RegField := ⟨Reg.GAL_CTRL, 0, 1⟩
def Fld.GAL_CTRL_CLR_STATS : RegField := ⟨Reg.GAL_CTRL, 1, 1⟩
def Reg.GAL_LOCK : Nat := 0x400903FC
def Fld.GAL_LOCK_LOCK : RegField := ⟨Reg.GAL_LOCK, 0, 1⟩
/-! ### SURVEY -/
def Reg.SEQ_STAT : Nat := 0x400A0040
def Fld.SEQ_STAT_RUNNING : RegField := ⟨Reg.SEQ_STAT, 0, 1⟩
def Fld.SEQ_STAT_ACTIVE_BANK : RegField := ⟨Reg.SEQ_STAT, 1, 1⟩
def Fld.SEQ_STAT_FASTEST : RegField := ⟨Reg.SEQ_STAT, 2, 4⟩
def Fld.SEQ_STAT_COMMIT_BUSY : RegField := ⟨Reg.SEQ_STAT, 6, 1⟩
def Reg.SEQ_HYPER : Nat := 0x400A0044
def Fld.SEQ_HYPER_COUNT : RegField := ⟨Reg.SEQ_HYPER, 0, 32⟩
def Reg.SEQ_COMMIT : Nat := 0x400A0048
def Fld.SEQ_COMMIT_TICK_MAX : RegField := ⟨Reg.SEQ_COMMIT, 0, 20⟩
def Reg.SEQ_TASK_CYC (t : Nat) : Nat := 0x400A0080 + 4 * t
def Fld.SEQ_TASK_CYC_CYC (t : Nat) : RegField := ⟨Reg.SEQ_TASK_CYC t, 0, 32⟩
def Reg.SEQ_TASK_STAT (t : Nat) : Nat := 0x400A00C0 + 4 * t
def Fld.SEQ_TASK_STAT_STATE (t : Nat) : RegField := ⟨Reg.SEQ_TASK_STAT t, 0, 2⟩
def Fld.SEQ_TASK_STAT_OUTCOME (t : Nat) : RegField := ⟨Reg.SEQ_TASK_STAT t, 2, 2⟩
def Fld.SEQ_TASK_STAT_HELD_RUN (t : Nat) : RegField := ⟨Reg.SEQ_TASK_STAT t, 4, 8⟩
def Fld.SEQ_TASK_STAT_HOLD_CAUSE (t : Nat) : RegField := ⟨Reg.SEQ_TASK_STAT t, 12, 4⟩
def Reg.SEQ_TASK_SKIPS (t : Nat) : Nat := 0x400A0100 + 4 * t
def Fld.SEQ_TASK_SKIPS_COUNT (t : Nat) : RegField := ⟨Reg.SEQ_TASK_SKIPS t, 0, 32⟩
def Reg.SEQ_TASK_OVERRUNS (t : Nat) : Nat := 0x400A0140 + 4 * t
def Fld.SEQ_TASK_OVERRUNS_COUNT (t : Nat) : RegField := ⟨Reg.SEQ_TASK_OVERRUNS t, 0, 32⟩
def Reg.SEQ_TASK_RECOVERED (t : Nat) : Nat := 0x400A0180 + 4 * t
def Fld.SEQ_TASK_RECOVERED_COUNT (t : Nat) : RegField := ⟨Reg.SEQ_TASK_RECOVERED t, 0, 32⟩
def Reg.SEQ_TASK_LATE (t : Nat) : Nat := 0x400A01C0 + 4 * t
def Fld.SEQ_TASK_LATE_LATE_COMMITS (t : Nat) : RegField := ⟨Reg.SEQ_TASK_LATE t, 0, 16⟩
def Fld.SEQ_TASK_LATE_BUDGET_EXCEEDED (t : Nat) : RegField := ⟨Reg.SEQ_TASK_LATE t, 16, 16⟩
def Reg.SEQ_TASK_MARGIN (t : Nat) : Nat := 0x400A0200 + 4 * t
def Fld.SEQ_TASK_MARGIN_MIN_MARGIN (t : Nat) : RegField := ⟨Reg.SEQ_TASK_MARGIN t, 0, 32⟩
def Reg.SEQ_TASK_CTRL (t : Nat) : Nat := 0x400A0240 + 4 * t
def Fld.SEQ_TASK_CTRL_RESUME (t : Nat) : RegField := ⟨Reg.SEQ_TASK_CTRL t, 0, 1⟩
def Fld.SEQ_TASK_CTRL_HOLD_REQ (t : Nat) : RegField := ⟨Reg.SEQ_TASK_CTRL t, 1, 1⟩
def Fld.SEQ_TASK_CTRL_CLR_STATS (t : Nat) : RegField := ⟨Reg.SEQ_TASK_CTRL t, 2, 1⟩
/-! ### LOCKSTEP -/
def Reg.LS_CH_MM (c : Nat) : Nat := 0x400B0000 + 4 * c
def Fld.LS_CH_MM_FIRST (c : Nat) : RegField := ⟨Reg.LS_CH_MM c, 0, 16⟩
def Fld.LS_CH_MM_SECOND (c : Nat) : RegField := ⟨Reg.LS_CH_MM c, 16, 8⟩
def Fld.LS_CH_MM_ABANDONED (c : Nat) : RegField := ⟨Reg.LS_CH_MM c, 24, 8⟩
def Reg.LS_CH_LAST (c : Nat) : Nat := 0x400B0040 + 4 * c
def Fld.LS_CH_LAST_CAUSE (c : Nat) : RegField := ⟨Reg.LS_CH_LAST c, 0, 3⟩
def Fld.LS_CH_LAST_TASK (c : Nat) : RegField := ⟨Reg.LS_CH_LAST c, 4, 4⟩
def Fld.LS_CH_LAST_REEXEC (c : Nat) : RegField := ⟨Reg.LS_CH_LAST c, 8, 1⟩
def Fld.LS_CH_LAST_CYC_LO (c : Nat) : RegField := ⟨Reg.LS_CH_LAST c, 16, 16⟩
def Reg.LS_CH_SIG_MAIN_LO (c : Nat) : Nat := 0x400B0080 + 4 * c
def Fld.LS_CH_SIG_MAIN_LO_SIG (c : Nat) : RegField := ⟨Reg.LS_CH_SIG_MAIN_LO c, 0, 32⟩
def Reg.LS_CH_SIG_MAIN_HI (c : Nat) : Nat := 0x400B00C0 + 4 * c
def Fld.LS_CH_SIG_MAIN_HI_SIG (c : Nat) : RegField := ⟨Reg.LS_CH_SIG_MAIN_HI c, 0, 32⟩
def Reg.LS_CH_SIG_CHK_LO (c : Nat) : Nat := 0x400B0100 + 4 * c
def Fld.LS_CH_SIG_CHK_LO_SIG (c : Nat) : RegField := ⟨Reg.LS_CH_SIG_CHK_LO c, 0, 32⟩
def Reg.LS_CH_SIG_CHK_HI (c : Nat) : Nat := 0x400B0140 + 4 * c
def Fld.LS_CH_SIG_CHK_HI_SIG (c : Nat) : RegField := ⟨Reg.LS_CH_SIG_CHK_HI c, 0, 32⟩
def Reg.LS_CH_RATE (c : Nat) : Nat := 0x400B0180 + 4 * c
def Fld.LS_CH_RATE_LEVEL (c : Nat) : RegField := ⟨Reg.LS_CH_RATE c, 0, 8⟩
def Reg.LS_ASYNC (c : Nat) : Nat := 0x400B01C0 + 4 * c
def Fld.LS_ASYNC_RAISED (c : Nat) : RegField := ⟨Reg.LS_ASYNC c, 0, 16⟩
def Fld.LS_ASYNC_UNEQUAL (c : Nat) : RegField := ⟨Reg.LS_ASYNC c, 16, 16⟩
def Reg.LS_FAILED : Nat := 0x400B0300
def Fld.LS_FAILED_MASK : RegField := ⟨Reg.LS_FAILED, 0, 16⟩
def Reg.LS_CTRL : Nat := 0x400B0304
def Fld.LS_CTRL_RATE_LIMIT : RegField := ⟨Reg.LS_CTRL, 0, 8⟩
def Fld.LS_CTRL_LEAK_S : RegField := ⟨Reg.LS_CTRL, 16, 12⟩
def Reg.LS_INJECT : Nat := 0x400B0308
def Fld.LS_INJECT_CHAMBER : RegField := ⟨Reg.LS_INJECT, 0, 4⟩
def Fld.LS_INJECT_KIND : RegField := ⟨Reg.LS_INJECT, 4, 2⟩
def Fld.LS_INJECT_ARM : RegField := ⟨Reg.LS_INJECT, 8, 1⟩
def Fld.LS_INJECT_PENDING : RegField := ⟨Reg.LS_INJECT, 9, 1⟩
def Fld.LS_INJECT_REFUSED : RegField := ⟨Reg.LS_INJECT, 10, 1⟩
def Reg.LS_LOCK : Nat := 0x400B03FC
def Fld.LS_LOCK_LOCK : RegField := ⟨Reg.LS_LOCK, 0, 1⟩
def Reg.LS_DBG_CTRL (c : Nat) : Nat := 0x400B0400 + 4 * c
def Fld.LS_DBG_CTRL_HALT_REQ (c : Nat) : RegField := ⟨Reg.LS_DBG_CTRL c, 0, 1⟩
def Fld.LS_DBG_CTRL_RESUME (c : Nat) : RegField := ⟨Reg.LS_DBG_CTRL c, 1, 1⟩
def Fld.LS_DBG_CTRL_STEP (c : Nat) : RegField := ⟨Reg.LS_DBG_CTRL c, 2, 1⟩
def Fld.LS_DBG_CTRL_HALTED (c : Nat) : RegField := ⟨Reg.LS_DBG_CTRL c, 3, 1⟩
def Fld.LS_DBG_CTRL_BP_INDEX (c : Nat) : RegField := ⟨Reg.LS_DBG_CTRL c, 4, 2⟩
def Fld.LS_DBG_CTRL_BP_HIT (c : Nat) : RegField := ⟨Reg.LS_DBG_CTRL c, 6, 1⟩
def Fld.LS_DBG_CTRL_REFUSED (c : Nat) : RegField := ⟨Reg.LS_DBG_CTRL c, 8, 1⟩
def Fld.LS_DBG_CTRL_REPLAY_PEND (c : Nat) : RegField := ⟨Reg.LS_DBG_CTRL c, 9, 5⟩
def Fld.LS_DBG_CTRL_WRITES (c : Nat) : RegField := ⟨Reg.LS_DBG_CTRL c, 16, 16⟩
def Reg.LS_DBG_BP (c x : Nat) : Nat := 0x400B0440 + 16 * c + 4 * x
def Fld.LS_DBG_BP_ENABLE (c x : Nat) : RegField := ⟨Reg.LS_DBG_BP c x, 0, 1⟩
def Fld.LS_DBG_BP_PC_WORD (c x : Nat) : RegField := ⟨Reg.LS_DBG_BP c x, 8, 18⟩
def Reg.LS_DBG_SEL : Nat := 0x400B0540
def Fld.LS_DBG_SEL_CHAMBER : RegField := ⟨Reg.LS_DBG_SEL, 0, 4⟩
def Fld.LS_DBG_SEL_SPACE : RegField := ⟨Reg.LS_DBG_SEL, 4, 3⟩
def Fld.LS_DBG_SEL_WRITE : RegField := ⟨Reg.LS_DBG_SEL, 8, 1⟩
def Reg.LS_DBG_ADDR : Nat := 0x400B0544
def Fld.LS_DBG_ADDR_ADDR : RegField := ⟨Reg.LS_DBG_ADDR, 0, 32⟩
def Reg.LS_DBG_DATA_LO : Nat := 0x400B0548
def Fld.LS_DBG_DATA_LO_DATA : RegField := ⟨Reg.LS_DBG_DATA_LO, 0, 32⟩
def Reg.LS_DBG_DATA_HI : Nat := 0x400B054C
def Fld.LS_DBG_DATA_HI_DATA : RegField := ⟨Reg.LS_DBG_DATA_HI, 0, 32⟩
def Reg.LS_DBG_GO : Nat := 0x400B0550
def Fld.LS_DBG_GO_GO : RegField := ⟨Reg.LS_DBG_GO, 0, 1⟩
def Reg.LS_DBG_RESULT : Nat := 0x400B0554
def Fld.LS_DBG_RESULT_DONE : RegField := ⟨Reg.LS_DBG_RESULT, 0, 1⟩
def Fld.LS_DBG_RESULT_ERROR : RegField := ⟨Reg.LS_DBG_RESULT, 1, 1⟩
/-! ### SURVEY -/
def Reg.OLC_STAT : Nat := 0x400A0300
def Fld.OLC_STAT_STATE : RegField := ⟨Reg.OLC_STAT, 0, 4⟩
def Fld.OLC_STAT_PARTNER_READY : RegField := ⟨Reg.OLC_STAT, 4, 1⟩
def Fld.OLC_STAT_AREA_SWEPT : RegField := ⟨Reg.OLC_STAT, 5, 1⟩
def Fld.OLC_STAT_PAGE_SWEPT : RegField := ⟨Reg.OLC_STAT, 6, 1⟩
def Reg.OLC_CTRL : Nat := 0x400A0304
def Fld.OLC_CTRL_MIGRATE : RegField := ⟨Reg.OLC_CTRL, 0, 1⟩
def Fld.OLC_CTRL_ARM : RegField := ⟨Reg.OLC_CTRL, 1, 1⟩
def Fld.OLC_CTRL_ABORT : RegField := ⟨Reg.OLC_CTRL, 2, 1⟩
def Fld.OLC_CTRL_SWAP_LEAD_MS : RegField := ⟨Reg.OLC_CTRL, 16, 10⟩
def Reg.OLC_SWAP_LO : Nat := 0x400A0308
def Fld.OLC_SWAP_LO_NS_LO : RegField := ⟨Reg.OLC_SWAP_LO, 0, 32⟩
def Reg.OLC_SWAP_HI : Nat := 0x400A030C
def Fld.OLC_SWAP_HI_NS_HI : RegField := ⟨Reg.OLC_SWAP_HI, 0, 32⟩
def Reg.OLC_SWEEP : Nat := 0x400A0310
def Fld.OLC_SWEEP_REMAIN : RegField := ⟨Reg.OLC_SWEEP, 0, 16⟩
def Fld.OLC_SWEEP_QUEUE : RegField := ⟨Reg.OLC_SWEEP, 16, 12⟩
def Reg.OLC_REASON : Nat := 0x400A0314
def Fld.OLC_REASON_CODE : RegField := ⟨Reg.OLC_REASON, 0, 8⟩
def Reg.OLC_COUNT : Nat := 0x400A0318
def Fld.OLC_COUNT_SWAPS : RegField := ⟨Reg.OLC_COUNT, 0, 16⟩
def Fld.OLC_COUNT_ABORTS : RegField := ⟨Reg.OLC_COUNT, 16, 16⟩
def Reg.FRC_STAT : Nat := 0x400A0380
def Fld.FRC_STAT_USED : RegField := ⟨Reg.FRC_STAT, 0, 13⟩
def Fld.FRC_STAT_SUSPENDED : RegField := ⟨Reg.FRC_STAT, 16, 13⟩
def Fld.FRC_STAT_STORE_PENDING : RegField := ⟨Reg.FRC_STAT, 29, 1⟩
def Reg.FRC_SEL : Nat := 0x400A0384
def Fld.FRC_SEL_INDEX : RegField := ⟨Reg.FRC_SEL, 0, 12⟩
def Reg.FRC_ID : Nat := 0x400A0388
def Fld.FRC_ID_SIGNAL_ID : RegField := ⟨Reg.FRC_ID, 0, 32⟩
def Reg.FRC_VALUE : Nat := 0x400A038C
def Fld.FRC_VALUE_VALUE : RegField := ⟨Reg.FRC_VALUE, 0, 32⟩
def Reg.FRC_MODE : Nat := 0x400A0390
def Fld.FRC_MODE_POINT : RegField := ⟨Reg.FRC_MODE, 0, 2⟩
def Fld.FRC_MODE_SUSPENDED : RegField := ⟨Reg.FRC_MODE, 2, 1⟩
def Fld.FRC_MODE_UNDER_STATUS : RegField := ⟨Reg.FRC_MODE, 4, 4⟩
def Reg.FRC_CMD : Nat := 0x400A0394
def Fld.FRC_CMD_WRITE : RegField := ⟨Reg.FRC_CMD, 0, 1⟩
def Fld.FRC_CMD_CLEAR : RegField := ⟨Reg.FRC_CMD, 1, 1⟩
def Fld.FRC_CMD_READ : RegField := ⟨Reg.FRC_CMD, 2, 1⟩
def Fld.FRC_CMD_CLEAR_ALL : RegField := ⟨Reg.FRC_CMD, 3, 1⟩
def Fld.FRC_CMD_DONE : RegField := ⟨Reg.FRC_CMD, 4, 1⟩
def Fld.FRC_CMD_REFUSED : RegField := ⟨Reg.FRC_CMD, 5, 1⟩
def Reg.FRC_EFFECT : Nat := 0x400A0398
def Fld.FRC_EFFECT_CYC : RegField := ⟨Reg.FRC_EFFECT, 0, 32⟩
/-! ### PAIR -/
def Reg.PAIR_STAT : Nat := 0x400C0000
def Fld.PAIR_STAT_ROLE : RegField := ⟨Reg.PAIR_STAT, 0, 2⟩
def Fld.PAIR_STAT_LL_STATE : RegField := ⟨Reg.PAIR_STAT, 2, 2⟩
def Fld.PAIR_STAT_SLOT : RegField := ⟨Reg.PAIR_STAT, 4, 1⟩
def Fld.PAIR_STAT_LANE_0_UP : RegField := ⟨Reg.PAIR_STAT, 5, 1⟩
def Fld.PAIR_STAT_LANE_1_UP : RegField := ⟨Reg.PAIR_STAT, 6, 1⟩
def Fld.PAIR_STAT_YIELDED : RegField := ⟨Reg.PAIR_STAT, 7, 1⟩
def Fld.PAIR_STAT_WATCH : RegField := ⟨Reg.PAIR_STAT, 8, 1⟩
def Fld.PAIR_STAT_PARTNER_RUNNING : RegField := ⟨Reg.PAIR_STAT, 9, 1⟩
def Fld.PAIR_STAT_HANDOVER_PENDING : RegField := ⟨Reg.PAIR_STAT, 10, 1⟩
def Reg.PAIR_CTRL : Nat := 0x400C0004
def Fld.PAIR_CTRL_HANDOVER : RegField := ⟨Reg.PAIR_CTRL, 0, 1⟩
def Fld.PAIR_CTRL_REJOIN : RegField := ⟨Reg.PAIR_CTRL, 1, 1⟩
def Fld.PAIR_CTRL_AUTO_REJOIN : RegField := ⟨Reg.PAIR_CTRL, 2, 1⟩
def Fld.PAIR_CTRL_LL_LOSS_US : RegField := ⟨Reg.PAIR_CTRL, 16, 10⟩
def Reg.PAIR_PARTNER : Nat := 0x400C0008
def Fld.PAIR_PARTNER_ROLE : RegField := ⟨Reg.PAIR_PARTNER, 0, 2⟩
def Fld.PAIR_PARTNER_SLOT : RegField := ⟨Reg.PAIR_PARTNER, 2, 1⟩
def Fld.PAIR_PARTNER_MODE : RegField := ⟨Reg.PAIR_PARTNER, 3, 3⟩
def Fld.PAIR_PARTNER_PROTO_MINOR : RegField := ⟨Reg.PAIR_PARTNER, 8, 8⟩
def Fld.PAIR_PARTNER_PROTO_MAJOR : RegField := ⟨Reg.PAIR_PARTNER, 16, 8⟩
def Reg.PAIR_VERSION : Nat := 0x400C000C
def Fld.PAIR_VERSION_PROTO_MINOR : RegField := ⟨Reg.PAIR_VERSION, 0, 8⟩
def Fld.PAIR_VERSION_PROTO_MAJOR : RegField := ⟨Reg.PAIR_VERSION, 8, 8⟩
def Reg.PAIR_REVERT : Nat := 0x400C0010
def Fld.PAIR_REVERT_HOLD_S : RegField := ⟨Reg.PAIR_REVERT, 0, 12⟩
def Fld.PAIR_REVERT_REMAIN_S : RegField := ⟨Reg.PAIR_REVERT, 16, 12⟩
def Reg.PAIR_JOIN : Nat := 0x400C0014
def Fld.PAIR_JOIN_STAGE : RegField := ⟨Reg.PAIR_JOIN, 0, 3⟩
def Fld.PAIR_JOIN_DONE : RegField := ⟨Reg.PAIR_JOIN, 16, 16⟩
def Reg.PAIR_TIME_OFS : Nat := 0x400C0018
def Fld.PAIR_TIME_OFS_NS : RegField := ⟨Reg.PAIR_TIME_OFS, 0, 32⟩
def Reg.PAIR_DUAL : Nat := 0x400C001C
def Fld.PAIR_DUAL_LAST_US : RegField := ⟨Reg.PAIR_DUAL, 0, 16⟩
def Fld.PAIR_DUAL_MAX_US : RegField := ⟨Reg.PAIR_DUAL, 16, 16⟩
def Reg.PAIR_CNT_A : Nat := 0x400C0020
def Fld.PAIR_CNT_A_FAILOVERS : RegField := ⟨Reg.PAIR_CNT_A, 0, 16⟩
def Fld.PAIR_CNT_A_HANDOVERS : RegField := ⟨Reg.PAIR_CNT_A, 16, 16⟩
def Reg.PAIR_CNT_B : Nat := 0x400C0024
def Fld.PAIR_CNT_B_JOINS : RegField := ⟨Reg.PAIR_CNT_B, 0, 16⟩
def Fld.PAIR_CNT_B_FAULTS : RegField := ⟨Reg.PAIR_CNT_B, 16, 16⟩
def Reg.PAIR_CNT_C : Nat := 0x400C0028
def Fld.PAIR_CNT_C_LL_DOWNS : RegField := ⟨Reg.PAIR_CNT_C, 0, 16⟩
def Fld.PAIR_CNT_C_YIELDS : RegField := ⟨Reg.PAIR_CNT_C, 16, 16⟩
def Reg.PAIR_LANE (x : Nat) : Nat := 0x400C0040 + 4 * x
def Fld.PAIR_LANE_STATE (x : Nat) : RegField := ⟨Reg.PAIR_LANE x, 0, 2⟩
def Fld.PAIR_LANE_LOS_EVENTS (x : Nat) : RegField := ⟨Reg.PAIR_LANE x, 8, 8⟩
def Fld.PAIR_LANE_FEC_UNCORR (x : Nat) : RegField := ⟨Reg.PAIR_LANE x, 16, 16⟩
def Reg.PAIR_GAPS : Nat := 0x400C0050
def Fld.PAIR_GAPS_GAPS : RegField := ⟨Reg.PAIR_GAPS, 0, 16⟩
def Fld.PAIR_GAPS_BAD_FRAMES : RegField := ⟨Reg.PAIR_GAPS, 16, 16⟩
def Reg.PAIR_EVENT : Nat := 0x400C0060
def Fld.PAIR_EVENT_LL_DOWN : RegField := ⟨Reg.PAIR_EVENT, 0, 1⟩
def Fld.PAIR_EVENT_FAULT : RegField := ⟨Reg.PAIR_EVENT, 1, 1⟩
def Fld.PAIR_EVENT_FAULT_KIND : RegField := ⟨Reg.PAIR_EVENT, 2, 3⟩
def Fld.PAIR_EVENT_YIELD : RegField := ⟨Reg.PAIR_EVENT, 5, 1⟩
def Fld.PAIR_EVENT_JOIN_FAIL : RegField := ⟨Reg.PAIR_EVENT, 6, 1⟩
def Fld.PAIR_EVENT_VERSION : RegField := ⟨Reg.PAIR_EVENT, 7, 1⟩
def Fld.PAIR_EVENT_SLOT_CONFLICT : RegField := ⟨Reg.PAIR_EVENT, 8, 1⟩
def Fld.PAIR_EVENT_LANE_DOWN : RegField := ⟨Reg.PAIR_EVENT, 9, 1⟩
def Fld.PAIR_EVENT_REJOIN_LIMIT : RegField := ⟨Reg.PAIR_EVENT, 10, 1⟩
def Reg.PAIR_LOCK : Nat := 0x400C00FC
def Fld.PAIR_LOCK_LOCK : RegField := ⟨Reg.PAIR_LOCK, 0, 1⟩
/-! ### ISLAND -/
def Reg.ISL_STAT (i : Nat) : Nat := 0x400D0000 + 4 * i
def Fld.ISL_STAT_SUPPLY (i : Nat) : RegField := ⟨Reg.ISL_STAT i, 0, 2⟩
def Fld.ISL_STAT_LINK_UP (i : Nat) : RegField := ⟨Reg.ISL_STAT i, 2, 1⟩
def Fld.ISL_STAT_CTRL_OK (i : Nat) : RegField := ⟨Reg.ISL_STAT i, 3, 1⟩
def Fld.ISL_STAT_TRIMS_OK (i : Nat) : RegField := ⟨Reg.ISL_STAT i, 4, 1⟩
def Fld.ISL_STAT_GROUP_SHED (i : Nat) : RegField := ⟨Reg.ISL_STAT i, 5, 1⟩
def Fld.ISL_STAT_SUPPLY_V (i : Nat) : RegField := ⟨Reg.ISL_STAT i, 16, 16⟩
def Reg.ISL_EVENT (i : Nat) : Nat := 0x400D0040 + 4 * i
def Fld.ISL_EVENT_WARN (i : Nat) : RegField := ⟨Reg.ISL_EVENT i, 0, 1⟩
def Fld.ISL_EVENT_LOCKOUT (i : Nat) : RegField := ⟨Reg.ISL_EVENT i, 1, 1⟩
def Fld.ISL_EVENT_LINK_LOST (i : Nat) : RegField := ⟨Reg.ISL_EVENT i, 2, 1⟩
def Fld.ISL_EVENT_SILENCE (i : Nat) : RegField := ⟨Reg.ISL_EVENT i, 3, 1⟩
def Fld.ISL_EVENT_CTRL_RESTART (i : Nat) : RegField := ⟨Reg.ISL_EVENT i, 4, 1⟩
def Fld.ISL_EVENT_GROUP_SHED (i : Nat) : RegField := ⟨Reg.ISL_EVENT i, 5, 1⟩
def Fld.ISL_EVENT_LOCKOUTS (i : Nat) : RegField := ⟨Reg.ISL_EVENT i, 16, 8⟩
def Reg.ISL_LINK_ERR (i : Nat) : Nat := 0x400D0080 + 4 * i
def Fld.ISL_LINK_ERR_UP_BAD (i : Nat) : RegField := ⟨Reg.ISL_LINK_ERR i, 0, 16⟩
def Fld.ISL_LINK_ERR_DN_BAD (i : Nat) : RegField := ⟨Reg.ISL_LINK_ERR i, 16, 16⟩
def Reg.ISL_CTRL (i : Nat) : Nat := 0x400D00C0 + 4 * i
def Fld.ISL_CTRL_TIMEOUT_US (i : Nat) : RegField := ⟨Reg.ISL_CTRL i, 0, 20⟩
def Reg.ISL_CH_CFG (n : Nat) : Nat := 0x400D0100 + 4 * n
def Fld.ISL_CH_CFG_MODE (n : Nat) : RegField := ⟨Reg.ISL_CH_CFG n, 0, 3⟩
def Fld.ISL_CH_CFG_WIRING (n : Nat) : RegField := ⟨Reg.ISL_CH_CFG n, 3, 1⟩
def Fld.ISL_CH_CFG_SAFE (n : Nat) : RegField := ⟨Reg.ISL_CH_CFG n, 4, 2⟩
def Fld.ISL_CH_CFG_RESTART (n : Nat) : RegField := ⟨Reg.ISL_CH_CFG n, 6, 1⟩
def Fld.ISL_CH_CFG_OPEN_DET (n : Nat) : RegField := ⟨Reg.ISL_CH_CFG n, 7, 1⟩
def Fld.ISL_CH_CFG_FILTER_LEN (n : Nat) : RegField := ⟨Reg.ISL_CH_CFG n, 8, 8⟩
def Fld.ISL_CH_CFG_RETRY (n : Nat) : RegField := ⟨Reg.ISL_CH_CFG n, 16, 10⟩
def Reg.ISL_CH_STAT (n : Nat) : Nat := 0x400D0300 + 4 * n
def Fld.ISL_CH_STAT_STATUS (n : Nat) : RegField := ⟨Reg.ISL_CH_STAT n, 0, 4⟩
def Fld.ISL_CH_STAT_RAW (n : Nat) : RegField := ⟨Reg.ISL_CH_STAT n, 4, 1⟩
def Fld.ISL_CH_STAT_FILTERED (n : Nat) : RegField := ⟨Reg.ISL_CH_STAT n, 5, 1⟩
def Fld.ISL_CH_STAT_DRIVER (n : Nat) : RegField := ⟨Reg.ISL_CH_STAT n, 6, 1⟩
def Fld.ISL_CH_STAT_LIMIT (n : Nat) : RegField := ⟨Reg.ISL_CH_STAT n, 7, 1⟩
def Fld.ISL_CH_STAT_SAFE_ACTIVE (n : Nat) : RegField := ⟨Reg.ISL_CH_STAT n, 8, 1⟩
def Fld.ISL_CH_STAT_AWAIT_ACK (n : Nat) : RegField := ⟨Reg.ISL_CH_STAT n, 9, 1⟩
def Fld.ISL_CH_STAT_MASKED (n : Nat) : RegField := ⟨Reg.ISL_CH_STAT n, 10, 1⟩
def Fld.ISL_CH_STAT_COUNT (n : Nat) : RegField := ⟨Reg.ISL_CH_STAT n, 16, 8⟩
def Reg.ISL_CH_EDGE (n : Nat) : Nat := 0x400D0500 + 4 * n
def Fld.ISL_CH_EDGE_TIME_US (n : Nat) : RegField := ⟨Reg.ISL_CH_EDGE n, 0, 32⟩
def Reg.ISL_CH_COUNT (n : Nat) : Nat := 0x400D0700 + 4 * n
def Fld.ISL_CH_COUNT_CHANGES (n : Nat) : RegField := ⟨Reg.ISL_CH_COUNT n, 0, 16⟩
def Fld.ISL_CH_COUNT_TRIPS (n : Nat) : RegField := ⟨Reg.ISL_CH_COUNT n, 16, 8⟩
def Fld.ISL_CH_COUNT_EXT_DRIVE (n : Nat) : RegField := ⟨Reg.ISL_CH_COUNT n, 24, 8⟩
def Reg.ISL_CFG_STAT : Nat := 0x400D0900
def Fld.ISL_CFG_STAT_REFUSED : RegField := ⟨Reg.ISL_CFG_STAT, 0, 1⟩
def Fld.ISL_CFG_STAT_STORE_PENDING : RegField := ⟨Reg.ISL_CFG_STAT, 1, 1⟩
def Reg.ISL_CFG_EFFECT : Nat := 0x400D0904
def Fld.ISL_CFG_EFFECT_CYC : RegField := ⟨Reg.ISL_CFG_EFFECT, 0, 32⟩
def Reg.ISL_LOCK : Nat := 0x400DFFFC
def Fld.ISL_LOCK_LOCK : RegField := ⟨Reg.ISL_LOCK, 0, 1⟩
def Reg.ISL_AN_CFG (n : Nat) : Nat := 0x400D1000 + 4 * n
def Fld.ISL_AN_CFG_RATE (n : Nat) : RegField := ⟨Reg.ISL_AN_CFG n, 0, 3⟩
def Fld.ISL_AN_CFG_WIRE_DET (n : Nat) : RegField := ⟨Reg.ISL_AN_CFG n, 3, 1⟩
def Fld.ISL_AN_CFG_SAFE_MA (n : Nat) : RegField := ⟨Reg.ISL_AN_CFG n, 16, 8⟩
def Reg.ISL_AN_STAT (n : Nat) : Nat := 0x400D1200 + 4 * n
def Fld.ISL_AN_STAT_LIMITER (n : Nat) : RegField := ⟨Reg.ISL_AN_STAT n, 0, 2⟩
def Fld.ISL_AN_STAT_CONV_BUSY (n : Nat) : RegField := ⟨Reg.ISL_AN_STAT n, 2, 1⟩
def Fld.ISL_AN_STAT_STEP_UP (n : Nat) : RegField := ⟨Reg.ISL_AN_STAT n, 3, 1⟩
def Fld.ISL_AN_STAT_AT_LIMIT (n : Nat) : RegField := ⟨Reg.ISL_AN_STAT n, 4, 1⟩
def Fld.ISL_AN_STAT_CAL_DRIVE (n : Nat) : RegField := ⟨Reg.ISL_AN_STAT n, 5, 1⟩
def Fld.ISL_AN_STAT_OVERLAPS (n : Nat) : RegField := ⟨Reg.ISL_AN_STAT n, 8, 8⟩
def Fld.ISL_AN_STAT_FOLDBACKS (n : Nat) : RegField := ⟨Reg.ISL_AN_STAT n, 16, 8⟩
def Fld.ISL_AN_STAT_STEP_UPS (n : Nat) : RegField := ⟨Reg.ISL_AN_STAT n, 24, 8⟩
def Reg.ISL_AN_VALUE (n : Nat) : Nat := 0x400D1400 + 4 * n
def Fld.ISL_AN_VALUE_MA (n : Nat) : RegField := ⟨Reg.ISL_AN_VALUE n, 0, 32⟩
def Reg.ISL_AN_ZERO (n : Nat) : Nat := 0x400D1600 + 4 * n
def Fld.ISL_AN_ZERO_ZERO (n : Nat) : RegField := ⟨Reg.ISL_AN_ZERO n, 0, 32⟩
def Reg.ISL_AN_SPAN (n : Nat) : Nat := 0x400D1800 + 4 * n
def Fld.ISL_AN_SPAN_SPAN (n : Nat) : RegField := ⟨Reg.ISL_AN_SPAN n, 0, 32⟩
def Reg.ISL_CAL_SEL : Nat := 0x400D1A00
def Fld.ISL_CAL_SEL_CHANNEL : RegField := ⟨Reg.ISL_CAL_SEL, 0, 7⟩
def Fld.ISL_CAL_SEL_POINT : RegField := ⟨Reg.ISL_CAL_SEL, 8, 1⟩
def Reg.ISL_CAL_REF : Nat := 0x400D1A04
def Fld.ISL_CAL_REF_REF : RegField := ⟨Reg.ISL_CAL_REF, 0, 32⟩
def Reg.ISL_CAL_MEAS : Nat := 0x400D1A08
def Fld.ISL_CAL_MEAS_MEAS : RegField := ⟨Reg.ISL_CAL_MEAS, 0, 32⟩
def Reg.ISL_CAL_CMD : Nat := 0x400D1A0C
def Fld.ISL_CAL_CMD_DRIVE_ON : RegField := ⟨Reg.ISL_CAL_CMD, 0, 1⟩
def Fld.ISL_CAL_CMD_DRIVE_OFF : RegField := ⟨Reg.ISL_CAL_CMD, 1, 1⟩
def Fld.ISL_CAL_CMD_TAKE : RegField := ⟨Reg.ISL_CAL_CMD, 2, 1⟩
def Fld.ISL_CAL_CMD_DEFAULT : RegField := ⟨Reg.ISL_CAL_CMD, 3, 1⟩
def Reg.ISL_CAL_STAT : Nat := 0x400D1A10
def Fld.ISL_CAL_STAT_BUSY : RegField := ⟨Reg.ISL_CAL_STAT, 0, 1⟩
def Fld.ISL_CAL_STAT_DONE : RegField := ⟨Reg.ISL_CAL_STAT, 1, 1⟩
def Fld.ISL_CAL_STAT_RESULT : RegField := ⟨Reg.ISL_CAL_STAT, 4, 4⟩
def Reg.ISL_CAL_EFFECT : Nat := 0x400D1A14
def Fld.ISL_CAL_EFFECT_CYC : RegField := ⟨Reg.ISL_CAL_EFFECT, 0, 32⟩
/-! ### FIELDLINK -/
def Reg.FL_PORT_STAT (p : Nat) : Nat := 0x400E0000 + 4 * p
def Fld.FL_PORT_STAT_LINK (p : Nat) : RegField := ⟨Reg.FL_PORT_STAT p, 0, 1⟩
def Fld.FL_PORT_STAT_TOPO (p : Nat) : RegField := ⟨Reg.FL_PORT_STAT p, 1, 2⟩
def Fld.FL_PORT_STAT_PARTNER_SEEN (p : Nat) : RegField := ⟨Reg.FL_PORT_STAT p, 3, 1⟩
def Fld.FL_PORT_STAT_SLOW_BUSY (p : Nat) : RegField := ⟨Reg.FL_PORT_STAT p, 4, 1⟩
def Fld.FL_PORT_STAT_ANSWERING (p : Nat) : RegField := ⟨Reg.FL_PORT_STAT p, 16, 7⟩
def Reg.FL_PORT_CFG (p : Nat) : Nat := 0x400E0040 + 4 * p
def Fld.FL_PORT_CFG_RING (p : Nat) : RegField := ⟨Reg.FL_PORT_CFG p, 0, 1⟩
def Fld.FL_PORT_CFG_GUARD_US (p : Nat) : RegField := ⟨Reg.FL_PORT_CFG p, 8, 8⟩
def Reg.FL_PORT_ERR (p : Nat) : Nat := 0x400E0080 + 4 * p
def Fld.FL_PORT_ERR_DISCARDED (p : Nat) : RegField := ⟨Reg.FL_PORT_ERR p, 0, 16⟩
def Fld.FL_PORT_ERR_UNMATCHED (p : Nat) : RegField := ⟨Reg.FL_PORT_ERR p, 16, 16⟩
def Reg.FL_PORT_SEEN (p : Nat) : Nat := 0x400E00C0 + 4 * p
def Fld.FL_PORT_SEEN_SEEN_A (p : Nat) : RegField := ⟨Reg.FL_PORT_SEEN p, 0, 1⟩
def Fld.FL_PORT_SEEN_SEEN_B (p : Nat) : RegField := ⟨Reg.FL_PORT_SEEN p, 1, 1⟩
def Reg.FL_PORT_SLOW (p : Nat) : Nat := 0x400E0100 + 4 * p
def Fld.FL_PORT_SLOW_SENT (p : Nat) : RegField := ⟨Reg.FL_PORT_SLOW p, 0, 16⟩
def Fld.FL_PORT_SLOW_DEFERRED (p : Nat) : RegField := ⟨Reg.FL_PORT_SLOW p, 16, 16⟩
def Reg.FL_EVENT : Nat := 0x400E0300
def Fld.FL_EVENT_STATION_LOST : RegField := ⟨Reg.FL_EVENT, 0, 1⟩
def Fld.FL_EVENT_STATION_BACK : RegField := ⟨Reg.FL_EVENT, 1, 1⟩
def Fld.FL_EVENT_RING_BREAK : RegField := ⟨Reg.FL_EVENT, 2, 1⟩
def Fld.FL_EVENT_LINK_DOWN : RegField := ⟨Reg.FL_EVENT, 3, 1⟩
def Fld.FL_EVENT_LATE : RegField := ⟨Reg.FL_EVENT, 4, 1⟩
def Fld.FL_EVENT_PORT : RegField := ⟨Reg.FL_EVENT, 8, 3⟩
def Fld.FL_EVENT_STATION : RegField := ⟨Reg.FL_EVENT, 11, 6⟩
def Reg.FL_STN_STAT (p s : Nat) : Nat := 0x400E0400 + 256 * p + 4 * s
def Fld.FL_STN_STAT_STATE (p s : Nat) : RegField := ⟨Reg.FL_STN_STAT p s, 0, 2⟩
def Fld.FL_STN_STAT_MISSES (p s : Nat) : RegField := ⟨Reg.FL_STN_STAT p s, 2, 2⟩
def Fld.FL_STN_STAT_SEEN_A (p s : Nat) : RegField := ⟨Reg.FL_STN_STAT p s, 4, 1⟩
def Fld.FL_STN_STAT_SEEN_B (p s : Nat) : RegField := ⟨Reg.FL_STN_STAT p s, 5, 1⟩
def Fld.FL_STN_STAT_LINK_X (p s : Nat) : RegField := ⟨Reg.FL_STN_STAT p s, 6, 1⟩
def Fld.FL_STN_STAT_LINK_Y (p s : Nat) : RegField := ⟨Reg.FL_STN_STAT p s, 7, 1⟩
def Fld.FL_STN_STAT_RESTARTED (p s : Nat) : RegField := ⟨Reg.FL_STN_STAT p s, 8, 1⟩
def Fld.FL_STN_STAT_SAFE_ACTIVE (p s : Nat) : RegField := ⟨Reg.FL_STN_STAT p s, 9, 1⟩
def Reg.FL_STN_CNT (p s : Nat) : Nat := 0x400E0C00 + 256 * p + 4 * s
def Fld.FL_STN_CNT_LOSSES (p s : Nat) : RegField := ⟨Reg.FL_STN_CNT p s, 0, 8⟩
def Fld.FL_STN_CNT_RESTARTS (p s : Nat) : RegField := ⟨Reg.FL_STN_CNT p s, 8, 8⟩
def Fld.FL_STN_CNT_LATE (p s : Nat) : RegField := ⟨Reg.FL_STN_CNT p s, 16, 16⟩
def Reg.FL_LOCK : Nat := 0x400EFFFC
def Fld.FL_LOCK_LOCK : RegField := ⟨Reg.FL_LOCK, 0, 1⟩
/-! ### BACKBONE -/
def Reg.BB_CTRL : Nat := 0x400F0000
def Fld.BB_CTRL_MODE : RegField := ⟨Reg.BB_CTRL, 0, 2⟩
def Fld.BB_CTRL_PORT_EN : RegField := ⟨Reg.BB_CTRL, 2, 2⟩
def Reg.BB_PORT_STAT (x : Nat) : Nat := 0x400F0010 + 4 * x
def Fld.BB_PORT_STAT_UP (x : Nat) : RegField := ⟨Reg.BB_PORT_STAT x, 0, 1⟩
def Fld.BB_PORT_STAT_SIGNAL (x : Nat) : RegField := ⟨Reg.BB_PORT_STAT x, 1, 1⟩
def Fld.BB_PORT_STAT_DOWN_EVENT (x : Nat) : RegField := ⟨Reg.BB_PORT_STAT x, 2, 1⟩
def Reg.BB_PORT_CNT (x : Nat) : Nat := 0x400F0020 + 4 * x
def Fld.BB_PORT_CNT_RX (x : Nat) : RegField := ⟨Reg.BB_PORT_CNT x, 0, 16⟩
def Fld.BB_PORT_CNT_TX (x : Nat) : RegField := ⟨Reg.BB_PORT_CNT x, 16, 16⟩
def Reg.BB_PORT_ERR (x : Nat) : Nat := 0x400F0030 + 4 * x
def Fld.BB_PORT_ERR_FCS (x : Nat) : RegField := ⟨Reg.BB_PORT_ERR x, 0, 8⟩
def Fld.BB_PORT_ERR_STOMPED (x : Nat) : RegField := ⟨Reg.BB_PORT_ERR x, 8, 8⟩
def Fld.BB_PORT_ERR_DROPPED (x : Nat) : RegField := ⟨Reg.BB_PORT_ERR x, 16, 8⟩
def Fld.BB_PORT_ERR_LENGTH (x : Nat) : RegField := ⟨Reg.BB_PORT_ERR x, 24, 8⟩
def Reg.BB_PVID (x : Nat) : Nat := 0x400F0040 + 4 * x
def Fld.BB_PVID_PVID (x : Nat) : RegField := ⟨Reg.BB_PVID x, 0, 12⟩
def Reg.BB_VLAN (v : Nat) : Nat := 0x400F0100 + 4 * v
def Fld.BB_VLAN_VID (v : Nat) : RegField := ⟨Reg.BB_VLAN v, 0, 12⟩
def Fld.BB_VLAN_MEMBER (v : Nat) : RegField := ⟨Reg.BB_VLAN v, 12, 3⟩
def Fld.BB_VLAN_UNTAG (v : Nat) : RegField := ⟨Reg.BB_VLAN v, 15, 3⟩
def Fld.BB_VLAN_VALID (v : Nat) : RegField := ⟨Reg.BB_VLAN v, 31, 1⟩
def Reg.BB_CLASS (e : Nat) : Nat := 0x400F0200 + 4 * e
def Fld.BB_CLASS_ETHERTYPE (e : Nat) : RegField := ⟨Reg.BB_CLASS e, 0, 16⟩
def Fld.BB_CLASS_RING (e : Nat) : RegField := ⟨Reg.BB_CLASS e, 16, 6⟩
def Fld.BB_CLASS_VALID (e : Nat) : RegField := ⟨Reg.BB_CLASS e, 31, 1⟩
def Reg.BB_CLASS_DEFAULT : Nat := 0x400F0240
def Fld.BB_CLASS_DEFAULT_RING : RegField := ⟨Reg.BB_CLASS_DEFAULT, 0, 6⟩
def Fld.BB_CLASS_DEFAULT_VALID : RegField := ⟨Reg.BB_CLASS_DEFAULT, 31, 1⟩
def Reg.BB_PRP_CFG : Nat := 0x400F0300
def Fld.BB_PRP_CFG_LIFE_MS : RegField := ⟨Reg.BB_PRP_CFG, 0, 16⟩
def Fld.BB_PRP_CFG_FORGET_MS : RegField := ⟨Reg.BB_PRP_CFG, 16, 16⟩
def Reg.BB_PRP_CNT : Nat := 0x400F0304
def Fld.BB_PRP_CNT_UNIQUE_A : RegField := ⟨Reg.BB_PRP_CNT, 0, 8⟩
def Fld.BB_PRP_CNT_UNIQUE_B : RegField := ⟨Reg.BB_PRP_CNT, 8, 8⟩
def Fld.BB_PRP_CNT_DUPLICATE : RegField := ⟨Reg.BB_PRP_CNT, 16, 8⟩
def Fld.BB_PRP_CNT_WRONG_LAN : RegField := ⟨Reg.BB_PRP_CNT, 24, 8⟩
def Reg.BB_TC_CFG : Nat := 0x400F0380
def Fld.BB_TC_CFG_MODE : RegField := ⟨Reg.BB_TC_CFG, 0, 2⟩
def Fld.BB_TC_CFG_PTP_RING : RegField := ⟨Reg.BB_TC_CFG, 8, 6⟩
def Reg.BB_TC_STAT : Nat := 0x400F0384
def Fld.BB_TC_STAT_CORRECTED : RegField := ⟨Reg.BB_TC_STAT, 0, 16⟩
def Fld.BB_TC_STAT_UNMATCHED : RegField := ⟨Reg.BB_TC_STAT, 16, 8⟩
def Fld.BB_TC_STAT_UNCORRECTED : RegField := ⟨Reg.BB_TC_STAT, 24, 8⟩
def Reg.BB_TS_ADJ (x : Nat) : Nat := 0x400F0390 + 4 * x
def Fld.BB_TS_ADJ_INGRESS (x : Nat) : RegField := ⟨Reg.BB_TS_ADJ x, 0, 16⟩
def Fld.BB_TS_ADJ_EGRESS (x : Nat) : RegField := ⟨Reg.BB_TS_ADJ x, 16, 16⟩
def Reg.BB_WAKE_CFG : Nat := 0x400F0400
def Fld.BB_WAKE_CFG_ACTIVITY : RegField := ⟨Reg.BB_WAKE_CFG, 0, 2⟩
def Fld.BB_WAKE_CFG_FRAME : RegField := ⟨Reg.BB_WAKE_CFG, 2, 2⟩
def Reg.BB_WAKE_SITE : Nat := 0x400F0404
def Fld.BB_WAKE_SITE_SITE : RegField := ⟨Reg.BB_WAKE_SITE, 0, 32⟩
def Reg.BB_WAKE_STAT : Nat := 0x400F0408
def Fld.BB_WAKE_STAT_WOKE : RegField := ⟨Reg.BB_WAKE_STAT, 0, 1⟩
def Fld.BB_WAKE_STAT_PORT : RegField := ⟨Reg.BB_WAKE_STAT, 1, 1⟩
def Fld.BB_WAKE_STAT_BY_FRAME : RegField := ⟨Reg.BB_WAKE_STAT, 2, 1⟩
def Fld.BB_WAKE_STAT_SEEN : RegField := ⟨Reg.BB_WAKE_STAT, 8, 8⟩
def Reg.BB_MAC_LO : Nat := 0x400F0410
def Fld.BB_MAC_LO_ADDR_LO : RegField := ⟨Reg.BB_MAC_LO, 0, 32⟩
def Reg.BB_MAC_HI : Nat := 0x400F0414
def Fld.BB_MAC_HI_ADDR_HI : RegField := ⟨Reg.BB_MAC_HI, 0, 16⟩
def Reg.BB_LOCK : Nat := 0x400FFFFC
def Fld.BB_LOCK_LOCK : RegField := ⟨Reg.BB_LOCK, 0, 1⟩
/-! ### RING -/
def Reg.RING_BASE (q : Nat) : Nat := 0x40100000 + 4 * q
def Fld.RING_BASE_ADDR (q : Nat) : RegField := ⟨Reg.RING_BASE q, 6, 26⟩
def Reg.RING_BUFBASE (q : Nat) : Nat := 0x40100100 + 4 * q
def Fld.RING_BUFBASE_ADDR (q : Nat) : RegField := ⟨Reg.RING_BUFBASE q, 11, 21⟩
def Reg.RING_CFG (q : Nat) : Nat := 0x40100200 + 4 * q
def Fld.RING_CFG_SIZE_LOG2 (q : Nat) : RegField := ⟨Reg.RING_CFG q, 0, 5⟩
def Fld.RING_CFG_PROD_KIND (q : Nat) : RegField := ⟨Reg.RING_CFG q, 8, 3⟩
def Fld.RING_CFG_PROD_INDEX (q : Nat) : RegField := ⟨Reg.RING_CFG q, 11, 4⟩
def Fld.RING_CFG_CONS_KIND (q : Nat) : RegField := ⟨Reg.RING_CFG q, 16, 3⟩
def Fld.RING_CFG_CONS_INDEX (q : Nat) : RegField := ⟨Reg.RING_CFG q, 19, 4⟩
def Fld.RING_CFG_ENABLE (q : Nat) : RegField := ⟨Reg.RING_CFG q, 31, 1⟩
def Reg.RING_PROD (q : Nat) : Nat := 0x40100300 + 4 * q
def Fld.RING_PROD_INDEX (q : Nat) : RegField := ⟨Reg.RING_PROD q, 0, 32⟩
def Reg.RING_CONS (q : Nat) : Nat := 0x40100400 + 4 * q
def Fld.RING_CONS_INDEX (q : Nat) : RegField := ⟨Reg.RING_CONS q, 0, 32⟩
def Reg.RING_IRQ (q : Nat) : Nat := 0x40100500 + 4 * q
def Fld.RING_IRQ_WATERMARK (q : Nat) : RegField := ⟨Reg.RING_IRQ q, 0, 17⟩
def Fld.RING_IRQ_COALESCE_US (q : Nat) : RegField := ⟨Reg.RING_IRQ q, 17, 10⟩
def Fld.RING_IRQ_ENABLE (q : Nat) : RegField := ⟨Reg.RING_IRQ q, 31, 1⟩
def Reg.RING_STAT (q : Nat) : Nat := 0x40100600 + 4 * q
def Fld.RING_STAT_OCCUPANCY (q : Nat) : RegField := ⟨Reg.RING_STAT q, 0, 17⟩
def Fld.RING_STAT_FULL (q : Nat) : RegField := ⟨Reg.RING_STAT q, 17, 1⟩
def Fld.RING_STAT_DROPS (q : Nat) : RegField := ⟨Reg.RING_STAT q, 24, 8⟩
def Reg.RING_IRQ_PEND_LO : Nat := 0x40100700
def Fld.RING_IRQ_PEND_LO_PEND : RegField := ⟨Reg.RING_IRQ_PEND_LO, 0, 32⟩
def Reg.RING_IRQ_PEND_HI : Nat := 0x40100704
def Fld.RING_IRQ_PEND_HI_PEND : RegField := ⟨Reg.RING_IRQ_PEND_HI, 0, 32⟩
def Reg.RING_EVENT : Nat := 0x40100710
def Fld.RING_EVENT_PROTOCOL : RegField := ⟨Reg.RING_EVENT, 0, 1⟩
def Fld.RING_EVENT_CONFIG : RegField := ⟨Reg.RING_EVENT, 1, 1⟩
def Fld.RING_EVENT_DROP : RegField := ⟨Reg.RING_EVENT, 2, 1⟩
def Fld.RING_EVENT_RING : RegField := ⟨Reg.RING_EVENT, 8, 6⟩
def Reg.RING_LOCK : Nat := 0x4010FFFC
def Fld.RING_LOCK_LOCK : RegField := ⟨Reg.RING_LOCK, 0, 1⟩
/-! ### CAN -/
def Reg.CAN_CTRL (k : Nat) : Nat := 0x40110000 + 64 * k
def Fld.CAN_CTRL_MODE (k : Nat) : RegField := ⟨Reg.CAN_CTRL k, 0, 2⟩
def Fld.CAN_CTRL_FD_EN (k : Nat) : RegField := ⟨Reg.CAN_CTRL k, 2, 1⟩
def Fld.CAN_CTRL_TDC_EN (k : Nat) : RegField := ⟨Reg.CAN_CTRL k, 3, 1⟩
def Fld.CAN_CTRL_AUTO_RECOVER (k : Nat) : RegField := ⟨Reg.CAN_CTRL k, 4, 1⟩
def Fld.CAN_CTRL_RECOVER (k : Nat) : RegField := ⟨Reg.CAN_CTRL k, 5, 1⟩
def Fld.CAN_CTRL_WAKE_EN (k : Nat) : RegField := ⟨Reg.CAN_CTRL k, 6, 1⟩
def Reg.CAN_NBT (k : Nat) : Nat := 0x40110004 + 64 * k
def Fld.CAN_NBT_BRP (k : Nat) : RegField := ⟨Reg.CAN_NBT k, 0, 8⟩
def Fld.CAN_NBT_TSEG_1 (k : Nat) : RegField := ⟨Reg.CAN_NBT k, 8, 8⟩
def Fld.CAN_NBT_TSEG_2 (k : Nat) : RegField := ⟨Reg.CAN_NBT k, 16, 7⟩
def Fld.CAN_NBT_SJW (k : Nat) : RegField := ⟨Reg.CAN_NBT k, 24, 7⟩
def Reg.CAN_DBT (k : Nat) : Nat := 0x40110008 + 64 * k
def Fld.CAN_DBT_BRP (k : Nat) : RegField := ⟨Reg.CAN_DBT k, 0, 5⟩
def Fld.CAN_DBT_TSEG_1 (k : Nat) : RegField := ⟨Reg.CAN_DBT k, 8, 5⟩
def Fld.CAN_DBT_TSEG_2 (k : Nat) : RegField := ⟨Reg.CAN_DBT k, 16, 4⟩
def Fld.CAN_DBT_SJW (k : Nat) : RegField := ⟨Reg.CAN_DBT k, 24, 4⟩
def Reg.CAN_TDC (k : Nat) : Nat := 0x4011000C + 64 * k
def Fld.CAN_TDC_TDCO (k : Nat) : RegField := ⟨Reg.CAN_TDC k, 0, 7⟩
def Fld.CAN_TDC_TDCV (k : Nat) : RegField := ⟨Reg.CAN_TDC k, 8, 7⟩
def Reg.CAN_STAT (k : Nat) : Nat := 0x40110010 + 64 * k
def Fld.CAN_STAT_STATE (k : Nat) : RegField := ⟨Reg.CAN_STAT k, 0, 2⟩
def Fld.CAN_STAT_PAIR_SILENT (k : Nat) : RegField := ⟨Reg.CAN_STAT k, 2, 1⟩
def Fld.CAN_STAT_BUS_IDLE (k : Nat) : RegField := ⟨Reg.CAN_STAT k, 3, 1⟩
def Fld.CAN_STAT_TEC (k : Nat) : RegField := ⟨Reg.CAN_STAT k, 8, 8⟩
def Fld.CAN_STAT_REC (k : Nat) : RegField := ⟨Reg.CAN_STAT k, 16, 8⟩
def Reg.CAN_EVENT (k : Nat) : Nat := 0x40110014 + 64 * k
def Fld.CAN_EVENT_WARN (k : Nat) : RegField := ⟨Reg.CAN_EVENT k, 0, 1⟩
def Fld.CAN_EVENT_PASSIVE (k : Nat) : RegField := ⟨Reg.CAN_EVENT k, 1, 1⟩
def Fld.CAN_EVENT_BUS_OFF (k : Nat) : RegField := ⟨Reg.CAN_EVENT k, 2, 1⟩
def Fld.CAN_EVENT_RECOVERED (k : Nat) : RegField := ⟨Reg.CAN_EVENT k, 3, 1⟩
def Fld.CAN_EVENT_CFG_REFUSED (k : Nat) : RegField := ⟨Reg.CAN_EVENT k, 4, 1⟩
def Fld.CAN_EVENT_RTR_SEEN (k : Nat) : RegField := ⟨Reg.CAN_EVENT k, 5, 1⟩
def Fld.CAN_EVENT_LEC (k : Nat) : RegField := ⟨Reg.CAN_EVENT k, 8, 3⟩
def Reg.CAN_CNT (k : Nat) : Nat := 0x40110018 + 64 * k
def Fld.CAN_CNT_RX (k : Nat) : RegField := ⟨Reg.CAN_CNT k, 0, 16⟩
def Fld.CAN_CNT_TX (k : Nat) : RegField := ⟨Reg.CAN_CNT k, 16, 16⟩
def Reg.CAN_ERRCNT (k : Nat) : Nat := 0x4011001C + 64 * k
def Fld.CAN_ERRCNT_STUFF_FORM (k : Nat) : RegField := ⟨Reg.CAN_ERRCNT k, 0, 8⟩
def Fld.CAN_ERRCNT_BIT (k : Nat) : RegField := ⟨Reg.CAN_ERRCNT k, 8, 8⟩
def Fld.CAN_ERRCNT_CRC (k : Nat) : RegField := ⟨Reg.CAN_ERRCNT k, 16, 8⟩
def Fld.CAN_ERRCNT_ACK (k : Nat) : RegField := ⟨Reg.CAN_ERRCNT k, 24, 8⟩
def Reg.CAN_RING (k : Nat) : Nat := 0x40110020 + 64 * k
def Fld.CAN_RING_RX_RING (k : Nat) : RegField := ⟨Reg.CAN_RING k, 0, 6⟩
def Fld.CAN_RING_RX_VALID (k : Nat) : RegField := ⟨Reg.CAN_RING k, 6, 1⟩
def Fld.CAN_RING_TX_RING (k : Nat) : RegField := ⟨Reg.CAN_RING k, 8, 6⟩
def Fld.CAN_RING_TX_VALID (k : Nat) : RegField := ⟨Reg.CAN_RING k, 14, 1⟩
def Reg.CAN_LOCK : Nat := 0x40110FFC
def Fld.CAN_LOCK_LOCK : RegField := ⟨Reg.CAN_LOCK, 0, 1⟩
def Reg.CAN_OBJ_CTRL (k m : Nat) : Nat := 0x40111000 + 512 * k + 4 * m
def Fld.CAN_OBJ_CTRL_ENABLE (k m : Nat) : RegField := ⟨Reg.CAN_OBJ_CTRL k m, 0, 1⟩
def Fld.CAN_OBJ_CTRL_DIR (k m : Nat) : RegField := ⟨Reg.CAN_OBJ_CTRL k m, 1, 1⟩
def Fld.CAN_OBJ_CTRL_SURVEY (k m : Nat) : RegField := ⟨Reg.CAN_OBJ_CTRL k m, 2, 1⟩
def Fld.CAN_OBJ_CTRL_RING (k m : Nat) : RegField := ⟨Reg.CAN_OBJ_CTRL k m, 3, 1⟩
def Fld.CAN_OBJ_CTRL_LENGTH (k m : Nat) : RegField := ⟨Reg.CAN_OBJ_CTRL k m, 4, 7⟩
def Fld.CAN_OBJ_CTRL_TXREQ (k m : Nat) : RegField := ⟨Reg.CAN_OBJ_CTRL k m, 11, 1⟩
def Fld.CAN_OBJ_CTRL_CANCEL (k m : Nat) : RegField := ⟨Reg.CAN_OBJ_CTRL k m, 12, 1⟩
def Fld.CAN_OBJ_CTRL_TX_STATE (k m : Nat) : RegField := ⟨Reg.CAN_OBJ_CTRL k m, 13, 3⟩
def Fld.CAN_OBJ_CTRL_CANCEL_LATE (k m : Nat) : RegField := ⟨Reg.CAN_OBJ_CTRL k m, 16, 1⟩
def Fld.CAN_OBJ_CTRL_NEW (k m : Nat) : RegField := ⟨Reg.CAN_OBJ_CTRL k m, 17, 1⟩
def Reg.CAN_OBJ_ID (k m : Nat) : Nat := 0x40111800 + 512 * k + 4 * m
def Fld.CAN_OBJ_ID_ID (k m : Nat) : RegField := ⟨Reg.CAN_OBJ_ID k m, 0, 29⟩
def Fld.CAN_OBJ_ID_IDE (k m : Nat) : RegField := ⟨Reg.CAN_OBJ_ID k m, 29, 1⟩
def Fld.CAN_OBJ_ID_FDF (k m : Nat) : RegField := ⟨Reg.CAN_OBJ_ID k m, 30, 1⟩
def Fld.CAN_OBJ_ID_BRS (k m : Nat) : RegField := ⟨Reg.CAN_OBJ_ID k m, 31, 1⟩
def Reg.CAN_OBJ_MASK (k m : Nat) : Nat := 0x40112000 + 512 * k + 4 * m
def Fld.CAN_OBJ_MASK_MASK (k m : Nat) : RegField := ⟨Reg.CAN_OBJ_MASK k m, 0, 29⟩
def Reg.CAN_OBJ_STAT (k m : Nat) : Nat := 0x40112800 + 512 * k + 4 * m
def Fld.CAN_OBJ_STAT_RX_LEN (k m : Nat) : RegField := ⟨Reg.CAN_OBJ_STAT k m, 0, 7⟩
def Fld.CAN_OBJ_STAT_REPLACED (k m : Nat) : RegField := ⟨Reg.CAN_OBJ_STAT k m, 8, 8⟩
def Fld.CAN_OBJ_STAT_SHORT (k m : Nat) : RegField := ⟨Reg.CAN_OBJ_STAT k m, 16, 8⟩
def Fld.CAN_OBJ_STAT_LOST_ARB (k m : Nat) : RegField := ⟨Reg.CAN_OBJ_STAT k m, 24, 8⟩
def Reg.CAN_OBJ_DATA (k m w : Nat) : Nat := 0x40118000 + 8192 * k + 64 * m + 4 * w
def Fld.CAN_OBJ_DATA_DATA (k m w : Nat) : RegField := ⟨Reg.CAN_OBJ_DATA k m w, 0, 32⟩
/-! ### TIME -/
def Reg.TIME_STAT : Nat := 0x40080000
def Fld.TIME_STAT_STATE : RegField := ⟨Reg.TIME_STAT, 0, 2⟩
def Fld.TIME_STAT_SOURCE : RegField := ⟨Reg.TIME_STAT, 2, 2⟩
def Fld.TIME_STAT_STEP_PENDING : RegField := ⟨Reg.TIME_STAT, 4, 1⟩
def Fld.TIME_STAT_SLEWING : RegField := ⟨Reg.TIME_STAT, 5, 1⟩
def Fld.TIME_STAT_MASTER : RegField := ⟨Reg.TIME_STAT, 6, 1⟩
def Reg.TIME_NS : Nat := 0x40080004
def Fld.TIME_NS_NS : RegField := ⟨Reg.TIME_NS, 0, 30⟩
def Reg.TIME_SEC_LO : Nat := 0x40080008
def Fld.TIME_SEC_LO_SEC : RegField := ⟨Reg.TIME_SEC_LO, 0, 32⟩
def Reg.TIME_SEC_HI : Nat := 0x4008000C
def Fld.TIME_SEC_HI_SEC : RegField := ⟨Reg.TIME_SEC_HI, 0, 16⟩
def Reg.TIME_RATE : Nat := 0x40080010
def Fld.TIME_RATE_RATE : RegField := ⟨Reg.TIME_RATE, 0, 32⟩
def Reg.TIME_ADJ_LO : Nat := 0x40080014
def Fld.TIME_ADJ_LO_OFS : RegField := ⟨Reg.TIME_ADJ_LO, 0, 32⟩
def Reg.TIME_ADJ_HI : Nat := 0x40080018
def Fld.TIME_ADJ_HI_OFS : RegField := ⟨Reg.TIME_ADJ_HI, 0, 32⟩
def Reg.TIME_CMD : Nat := 0x4008001C
def Fld.TIME_CMD_SUBMIT : RegField := ⟨Reg.TIME_CMD, 0, 1⟩
def Fld.TIME_CMD_ACCEPT_STEP : RegField := ⟨Reg.TIME_CMD, 1, 1⟩
def Fld.TIME_CMD_ACCEPT_SLEW : RegField := ⟨Reg.TIME_CMD, 2, 1⟩
def Fld.TIME_CMD_DISCARD : RegField := ⟨Reg.TIME_CMD, 3, 1⟩
def Fld.TIME_CMD_SRC : RegField := ⟨Reg.TIME_CMD, 4, 2⟩
def Fld.TIME_CMD_REFUSED : RegField := ⟨Reg.TIME_CMD, 8, 1⟩
def Reg.TIME_CFG : Nat := 0x40080020
def Fld.TIME_CFG_JUMP_US : RegField := ⟨Reg.TIME_CFG, 0, 20⟩
def Fld.TIME_CFG_SLEW_PPM : RegField := ⟨Reg.TIME_CFG, 20, 9⟩
def Reg.TIME_HOLD : Nat := 0x40080024
def Fld.TIME_HOLD_HOLD_MS : RegField := ⟨Reg.TIME_HOLD, 0, 16⟩
def Reg.TIME_PEND_LO : Nat := 0x40080028
def Fld.TIME_PEND_LO_OFS : RegField := ⟨Reg.TIME_PEND_LO, 0, 32⟩
def Reg.TIME_PEND_HI : Nat := 0x4008002C
def Fld.TIME_PEND_HI_OFS : RegField := ⟨Reg.TIME_PEND_HI, 0, 32⟩
def Reg.TIME_SLEW_REM : Nat := 0x40080030
def Fld.TIME_SLEW_REM_NS : RegField := ⟨Reg.TIME_SLEW_REM, 0, 32⟩
def Reg.TIME_EVENT : Nat := 0x40080034
def Fld.TIME_EVENT_JUMP_REFUSED : RegField := ⟨Reg.TIME_EVENT, 0, 1⟩
def Fld.TIME_EVENT_HOLDOVER : RegField := ⟨Reg.TIME_EVENT, 1, 1⟩
def Fld.TIME_EVENT_STEPPED : RegField := ⟨Reg.TIME_EVENT, 2, 1⟩
def Fld.TIME_EVENT_DRIP_LATE : RegField := ⟨Reg.TIME_EVENT, 3, 1⟩
def Fld.TIME_EVENT_DRIP_REFUSED : RegField := ⟨Reg.TIME_EVENT, 4, 1⟩
def Reg.TIME_LIN_LO : Nat := 0x40080038
def Fld.TIME_LIN_LO_LIN : RegField := ⟨Reg.TIME_LIN_LO, 0, 32⟩
def Reg.TIME_LIN_HI : Nat := 0x4008003C
def Fld.TIME_LIN_HI_LIN : RegField := ⟨Reg.TIME_LIN_HI, 0, 32⟩
def Reg.DRIP_TGT_LO (d : Nat) : Nat := 0x40080100 + 4 * d
def Fld.DRIP_TGT_LO_TGT (d : Nat) : RegField := ⟨Reg.DRIP_TGT_LO d, 0, 32⟩
def Reg.DRIP_TGT_HI (d : Nat) : Nat := 0x40080200 + 4 * d
def Fld.DRIP_TGT_HI_TGT (d : Nat) : RegField := ⟨Reg.DRIP_TGT_HI d, 0, 8⟩
def Reg.DRIP_CTRL (d : Nat) : Nat := 0x40080300 + 4 * d
def Fld.DRIP_CTRL_ARM (d : Nat) : RegField := ⟨Reg.DRIP_CTRL d, 0, 1⟩
def Fld.DRIP_CTRL_DISARM (d : Nat) : RegField := ⟨Reg.DRIP_CTRL d, 1, 1⟩
def Fld.DRIP_CTRL_ARMED (d : Nat) : RegField := ⟨Reg.DRIP_CTRL d, 2, 1⟩
def Fld.DRIP_CTRL_SURVEY (d : Nat) : RegField := ⟨Reg.DRIP_CTRL d, 3, 1⟩
def Fld.DRIP_CTRL_IRQ_EN (d : Nat) : RegField := ⟨Reg.DRIP_CTRL d, 4, 1⟩
def Fld.DRIP_CTRL_FIRED (d : Nat) : RegField := ⟨Reg.DRIP_CTRL d, 5, 1⟩
def Fld.DRIP_CTRL_LATE (d : Nat) : RegField := ⟨Reg.DRIP_CTRL d, 6, 1⟩
def Reg.DRIP_PER_LO (d : Nat) : Nat := 0x40080400 + 4 * d
def Fld.DRIP_PER_LO_PER (d : Nat) : RegField := ⟨Reg.DRIP_PER_LO d, 0, 32⟩
def Reg.DRIP_PER_HI (d : Nat) : Nat := 0x40080500 + 4 * d
def Fld.DRIP_PER_HI_PER (d : Nat) : RegField := ⟨Reg.DRIP_PER_HI d, 0, 8⟩
def Reg.DRIP_PEND_LO : Nat := 0x40080600
def Fld.DRIP_PEND_LO_PEND : RegField := ⟨Reg.DRIP_PEND_LO, 0, 32⟩
def Reg.DRIP_PEND_HI : Nat := 0x40080604
def Fld.DRIP_PEND_HI_PEND : RegField := ⟨Reg.DRIP_PEND_HI, 0, 32⟩
def Reg.CAP_CFG (k : Nat) : Nat := 0x40080700 + 4 * k
def Fld.CAP_CFG_EDGE (k : Nat) : RegField := ⟨Reg.CAP_CFG k, 0, 2⟩
def Fld.CAP_CFG_FILT (k : Nat) : RegField := ⟨Reg.CAP_CFG k, 2, 4⟩
def Fld.CAP_CFG_IRQ_EN (k : Nat) : RegField := ⟨Reg.CAP_CFG k, 6, 1⟩
def Reg.CAP_STAT (k : Nat) : Nat := 0x40080740 + 4 * k
def Fld.CAP_STAT_LEVEL (k : Nat) : RegField := ⟨Reg.CAP_STAT k, 0, 1⟩
def Fld.CAP_STAT_VALID (k : Nat) : RegField := ⟨Reg.CAP_STAT k, 1, 1⟩
def Fld.CAP_STAT_OVERRUN (k : Nat) : RegField := ⟨Reg.CAP_STAT k, 2, 1⟩
def Fld.CAP_STAT_RISING (k : Nat) : RegField := ⟨Reg.CAP_STAT k, 3, 1⟩
def Fld.CAP_STAT_COUNT (k : Nat) : RegField := ⟨Reg.CAP_STAT k, 16, 16⟩
def Reg.CAP_TIME_LO (k : Nat) : Nat := 0x40080780 + 4 * k
def Fld.CAP_TIME_LO_LIN (k : Nat) : RegField := ⟨Reg.CAP_TIME_LO k, 0, 32⟩
def Reg.CAP_TIME_HI (k : Nat) : Nat := 0x400807C0 + 4 * k
def Fld.CAP_TIME_HI_LIN (k : Nat) : RegField := ⟨Reg.CAP_TIME_HI k, 0, 32⟩
def Reg.TIME_LOCK : Nat := 0x4008FFFC
def Fld.TIME_LOCK_LOCK : RegField := ⟨Reg.TIME_LOCK, 0, 1⟩
/-! ### GUARD -/
def Reg.GUARD_CTRL (u : Nat) : Nat := 0x40060000 + 4 * u
def Fld.GUARD_CTRL_ENABLE (u : Nat) : RegField := ⟨Reg.GUARD_CTRL u, 0, 1⟩
def Fld.GUARD_CTRL_BG (u : Nat) : RegField := ⟨Reg.GUARD_CTRL u, 1, 2⟩
def Reg.GUARD_STAT (u : Nat) : Nat := 0x40060040 + 4 * u
def Fld.GUARD_STAT_DRAINING (u : Nat) : RegField := ⟨Reg.GUARD_STAT u, 0, 1⟩
def Fld.GUARD_STAT_DRAIN_ABORTS (u : Nat) : RegField := ⟨Reg.GUARD_STAT u, 8, 8⟩
def Fld.GUARD_STAT_LOCKED_WR (u : Nat) : RegField := ⟨Reg.GUARD_STAT u, 16, 8⟩
def Reg.GUARD_FAULTS (u : Nat) : Nat := 0x40060080 + 4 * u
def Fld.GUARD_FAULTS_COUNT (u : Nat) : RegField := ⟨Reg.GUARD_FAULTS u, 0, 32⟩
def Reg.GUARD_FAULT_ADDR (u : Nat) : Nat := 0x400600C0 + 4 * u
def Fld.GUARD_FAULT_ADDR_ADDR (u : Nat) : RegField := ⟨Reg.GUARD_FAULT_ADDR u, 0, 32⟩
def Reg.GUARD_FAULT_INFO (u : Nat) : Nat := 0x40060100 + 4 * u
def Fld.GUARD_FAULT_INFO_INITIATOR (u : Nat) : RegField := ⟨Reg.GUARD_FAULT_INFO u, 0, 4⟩
def Fld.GUARD_FAULT_INFO_KIND (u : Nat) : RegField := ⟨Reg.GUARD_FAULT_INFO u, 4, 2⟩
def Fld.GUARD_FAULT_INFO_PRIV (u : Nat) : RegField := ⟨Reg.GUARD_FAULT_INFO u, 6, 1⟩
def Fld.GUARD_FAULT_INFO_CAUSE (u : Nat) : RegField := ⟨Reg.GUARD_FAULT_INFO u, 8, 2⟩
def Fld.GUARD_FAULT_INFO_REGION (u : Nat) : RegField := ⟨Reg.GUARD_FAULT_INFO u, 12, 5⟩
def Fld.GUARD_FAULT_INFO_PART (u : Nat) : RegField := ⟨Reg.GUARD_FAULT_INFO u, 20, 4⟩
def Fld.GUARD_FAULT_INFO_OVERRUN (u : Nat) : RegField := ⟨Reg.GUARD_FAULT_INFO u, 30, 1⟩
def Fld.GUARD_FAULT_INFO_VALID (u : Nat) : RegField := ⟨Reg.GUARD_FAULT_INFO u, 31, 1⟩
def Reg.GUARD_RGN_BASE (u g : Nat) : Nat := 0x40060400 + 128 * u + 8 * g
def Fld.GUARD_RGN_BASE_BASE (u g : Nat) : RegField := ⟨Reg.GUARD_RGN_BASE u g, 5, 27⟩
def Reg.GUARD_RGN_ATTR (u g : Nat) : Nat := 0x40060404 + 128 * u + 8 * g
def Fld.GUARD_RGN_ATTR_PR (u g : Nat) : RegField := ⟨Reg.GUARD_RGN_ATTR u g, 0, 1⟩
def Fld.GUARD_RGN_ATTR_PW (u g : Nat) : RegField := ⟨Reg.GUARD_RGN_ATTR u g, 1, 1⟩
def Fld.GUARD_RGN_ATTR_PX (u g : Nat) : RegField := ⟨Reg.GUARD_RGN_ATTR u g, 2, 1⟩
def Fld.GUARD_RGN_ATTR_UR (u g : Nat) : RegField := ⟨Reg.GUARD_RGN_ATTR u g, 3, 1⟩
def Fld.GUARD_RGN_ATTR_UW (u g : Nat) : RegField := ⟨Reg.GUARD_RGN_ATTR u g, 4, 1⟩
def Fld.GUARD_RGN_ATTR_UX (u g : Nat) : RegField := ⟨Reg.GUARD_RGN_ATTR u g, 5, 1⟩
def Fld.GUARD_RGN_ATTR_SIZE_LOG2 (u g : Nat) : RegField := ⟨Reg.GUARD_RGN_ATTR u g, 8, 6⟩
def Fld.GUARD_RGN_ATTR_ENABLE (u g : Nat) : RegField := ⟨Reg.GUARD_RGN_ATTR u g, 16, 1⟩
def Fld.GUARD_RGN_ATTR_LOCK (u g : Nat) : RegField := ⟨Reg.GUARD_RGN_ATTR u g, 23, 1⟩
def Fld.GUARD_RGN_ATTR_SECTORS (u g : Nat) : RegField := ⟨Reg.GUARD_RGN_ATTR u g, 24, 8⟩
def Reg.GUARD_LOCK : Nat := 0x4006FFFC
def Fld.GUARD_LOCK_LOCK : RegField := ⟨Reg.GUARD_LOCK, 0, 1⟩
/-! ### SUMP -/
def Reg.SUMP_SRC (s : Nat) : Nat := 0x40040000 + 4 * s
def Fld.SUMP_SRC_FLAG (s : Nat) : RegField := ⟨Reg.SUMP_SRC s, 0, 1⟩
def Fld.SUMP_SRC_ACTIVE (s : Nat) : RegField := ⟨Reg.SUMP_SRC s, 1, 1⟩
def Fld.SUMP_SRC_KIND (s : Nat) : RegField := ⟨Reg.SUMP_SRC s, 2, 1⟩
def Fld.SUMP_SRC_FORCE (s : Nat) : RegField := ⟨Reg.SUMP_SRC s, 3, 1⟩
def Fld.SUMP_SRC_SEVERITY (s : Nat) : RegField := ⟨Reg.SUMP_SRC s, 4, 3⟩
def Fld.SUMP_SRC_IRQ (s : Nat) : RegField := ⟨Reg.SUMP_SRC s, 8, 1⟩
def Fld.SUMP_SRC_NMI (s : Nat) : RegField := ⟨Reg.SUMP_SRC s, 9, 1⟩
def Fld.SUMP_SRC_BLOCK_RESET (s : Nat) : RegField := ⟨Reg.SUMP_SRC s, 10, 1⟩
def Fld.SUMP_SRC_MODULE_RESET (s : Nat) : RegField := ⟨Reg.SUMP_SRC s, 11, 1⟩
def Fld.SUMP_SRC_ERR_PIN (s : Nat) : RegField := ⟨Reg.SUMP_SRC s, 12, 1⟩
def Fld.SUMP_SRC_FORCE_REFUSED (s : Nat) : RegField := ⟨Reg.SUMP_SRC s, 13, 1⟩
def Reg.SUMP_CNT (s : Nat) : Nat := 0x40040400 + 4 * s
def Fld.SUMP_CNT_COUNT (s : Nat) : RegField := ⟨Reg.SUMP_CNT s, 0, 16⟩
def Reg.SUMP_DETAIL (s : Nat) : Nat := 0x40040800 + 4 * s
def Fld.SUMP_DETAIL_INSTANCE (s : Nat) : RegField := ⟨Reg.SUMP_DETAIL s, 0, 8⟩
def Fld.SUMP_DETAIL_SUB (s : Nat) : RegField := ⟨Reg.SUMP_DETAIL s, 8, 8⟩
def Fld.SUMP_DETAIL_FORCED (s : Nat) : RegField := ⟨Reg.SUMP_DETAIL s, 31, 1⟩
def Reg.SUMP_FLAGS (w : Nat) : Nat := 0x40040C00 + 4 * w
def Fld.SUMP_FLAGS_FLAG (w : Nat) : RegField := ⟨Reg.SUMP_FLAGS w, 0, 32⟩
def Reg.SUMP_TOP : Nat := 0x40040C20
def Fld.SUMP_TOP_SRC : RegField := ⟨Reg.SUMP_TOP, 0, 8⟩
def Fld.SUMP_TOP_SEVERITY : RegField := ⟨Reg.SUMP_TOP, 8, 3⟩
def Fld.SUMP_TOP_VALID : RegField := ⟨Reg.SUMP_TOP, 31, 1⟩
def Reg.SUMP_CTRL : Nat := 0x40040C24
def Fld.SUMP_CTRL_ROUTE : RegField := ⟨Reg.SUMP_CTRL, 0, 1⟩
def Fld.SUMP_CTRL_REC_SEV : RegField := ⟨Reg.SUMP_CTRL, 1, 3⟩
def Reg.SUMP_LOCK : Nat := 0x4004FFFC
def Fld.SUMP_LOCK_LOCK : RegField := ⟨Reg.SUMP_LOCK, 0, 1⟩
/-! ### FLOWSTONE -/
def Reg.FLS_STAT : Nat := 0x40050000
def Fld.FLS_STAT_BUSY : RegField := ⟨Reg.FLS_STAT, 0, 1⟩
def Fld.FLS_STAT_READY : RegField := ⟨Reg.FLS_STAT, 1, 1⟩
def Fld.FLS_STAT_QUEUE : RegField := ⟨Reg.FLS_STAT, 8, 7⟩
def Fld.FLS_STAT_UE : RegField := ⟨Reg.FLS_STAT, 16, 1⟩
def Fld.FLS_STAT_OVERFLOW : RegField := ⟨Reg.FLS_STAT, 17, 1⟩
def Reg.FLS_HEAD_SEQ : Nat := 0x40050004
def Fld.FLS_HEAD_SEQ_VALUE : RegField := ⟨Reg.FLS_HEAD_SEQ, 0, 32⟩
def Reg.FLS_HEAD_OFF : Nat := 0x40050008
def Fld.FLS_HEAD_OFF_VALUE : RegField := ⟨Reg.FLS_HEAD_OFF, 0, 32⟩
def Reg.FLS_TAIL_SEQ : Nat := 0x4005000C
def Fld.FLS_TAIL_SEQ_VALUE : RegField := ⟨Reg.FLS_TAIL_SEQ, 0, 32⟩
def Reg.FLS_TAIL_OFF : Nat := 0x40050010
def Fld.FLS_TAIL_OFF_VALUE : RegField := ⟨Reg.FLS_TAIL_OFF, 0, 32⟩
def Reg.FLS_LOST : Nat := 0x40050014
def Fld.FLS_LOST_COUNT : RegField := ⟨Reg.FLS_LOST, 0, 32⟩
def Reg.FLS_OPTIME_LO : Nat := 0x40050018
def Fld.FLS_OPTIME_LO_TIME : RegField := ⟨Reg.FLS_OPTIME_LO, 0, 32⟩
def Reg.FLS_OPTIME_HI : Nat := 0x4005001C
def Fld.FLS_OPTIME_HI_TIME : RegField := ⟨Reg.FLS_OPTIME_HI, 0, 16⟩
def Reg.FLS_CTRL : Nat := 0x40050020
def Fld.FLS_CTRL_TS_EN : RegField := ⟨Reg.FLS_CTRL, 0, 1⟩
def Fld.FLS_CTRL_ERASE : RegField := ⟨Reg.FLS_CTRL, 1, 1⟩
def Fld.FLS_CTRL_REFUSED : RegField := ⟨Reg.FLS_CTRL, 2, 1⟩
def Fld.FLS_CTRL_KEY : RegField := ⟨Reg.FLS_CTRL, 16, 16⟩
def Reg.FLS_SEEK : Nat := 0x40050024
def Fld.FLS_SEEK_SEQ : RegField := ⟨Reg.FLS_SEEK, 0, 32⟩
def Reg.FLS_SEEK_OFF : Nat := 0x40050028
def Fld.FLS_SEEK_OFF_OFF : RegField := ⟨Reg.FLS_SEEK_OFF, 0, 24⟩
def Fld.FLS_SEEK_OFF_DONE : RegField := ⟨Reg.FLS_SEEK_OFF, 30, 1⟩
def Fld.FLS_SEEK_OFF_VALID : RegField := ⟨Reg.FLS_SEEK_OFF, 31, 1⟩
def Reg.FLS_WTYPE : Nat := 0x40050030
def Fld.FLS_WTYPE_TYPE : RegField := ⟨Reg.FLS_WTYPE, 0, 8⟩
def Fld.FLS_WTYPE_LEN : RegField := ⟨Reg.FLS_WTYPE, 8, 6⟩
def Reg.FLS_WKEY : Nat := 0x40050034
def Fld.FLS_WKEY_KEY : RegField := ⟨Reg.FLS_WKEY, 0, 32⟩
def Reg.FLS_WCMD : Nat := 0x40050038
def Fld.FLS_WCMD_GO : RegField := ⟨Reg.FLS_WCMD, 0, 1⟩
def Fld.FLS_WCMD_DONE : RegField := ⟨Reg.FLS_WCMD, 1, 1⟩
def Fld.FLS_WCMD_REFUSED : RegField := ⟨Reg.FLS_WCMD, 2, 1⟩
def Reg.FLS_WBUF (w : Nat) : Nat := 0x40050100 + 4 * w
def Fld.FLS_WBUF_DATA (w : Nat) : RegField := ⟨Reg.FLS_WBUF w, 0, 32⟩
def Reg.FLS_LOCK : Nat := 0x4005FFFC
def Fld.FLS_LOCK_LOCK : RegField := ⟨Reg.FLS_LOCK, 0, 1⟩
/-! ### POWER -/
def Reg.PWR_STAT : Nat := 0x40030000
def Fld.PWR_STAT_STATE : RegField := ⟨Reg.PWR_STAT, 0, 2⟩
def Fld.PWR_STAT_RATIO : RegField := ⟨Reg.PWR_STAT, 2, 2⟩
def Fld.PWR_STAT_RATIO_DROOP : RegField := ⟨Reg.PWR_STAT, 4, 2⟩
def Fld.PWR_STAT_RATIO_THERMAL : RegField := ⟨Reg.PWR_STAT, 6, 2⟩
def Fld.PWR_STAT_RATIO_FORCED : RegField := ⟨Reg.PWR_STAT, 8, 2⟩
def Fld.PWR_STAT_ON_HOLDUP : RegField := ⟨Reg.PWR_STAT, 10, 1⟩
def Fld.PWR_STAT_HOLDUP_FULL : RegField := ⟨Reg.PWR_STAT, 11, 1⟩
def Fld.PWR_STAT_HOLDUP_DEGRADED : RegField := ⟨Reg.PWR_STAT, 12, 1⟩
def Reg.PWR_SUPPLY : Nat := 0x40030004
def Fld.PWR_SUPPLY_VIN : RegField := ⟨Reg.PWR_SUPPLY, 0, 16⟩
def Fld.PWR_SUPPLY_HOLDUP : RegField := ⟨Reg.PWR_SUPPLY, 16, 16⟩
def Reg.PWR_TEMP : Nat := 0x40030008
def Fld.PWR_TEMP_NOW : RegField := ⟨Reg.PWR_TEMP, 0, 16⟩
def Fld.PWR_TEMP_MAX : RegField := ⟨Reg.PWR_TEMP, 16, 16⟩
def Reg.PWR_SQZ_CFG : Nat := 0x40030010
def Fld.PWR_SQZ_CFG_HOLD_US : RegField := ⟨Reg.PWR_SQZ_CFG, 0, 10⟩
def Fld.PWR_SQZ_CFG_THERMAL_EN : RegField := ⟨Reg.PWR_SQZ_CFG, 10, 1⟩
def Reg.PWR_SQZ_CNT : Nat := 0x40030014
def Fld.PWR_SQZ_CNT_TO_HALF : RegField := ⟨Reg.PWR_SQZ_CNT, 0, 16⟩
def Fld.PWR_SQZ_CNT_TO_QUARTER : RegField := ⟨Reg.PWR_SQZ_CNT, 16, 16⟩
def Reg.PWR_SQZ_TIME : Nat := 0x40030018
def Fld.PWR_SQZ_TIME_US : RegField := ⟨Reg.PWR_SQZ_TIME, 0, 32⟩
def Reg.PWR_HIB_CMD : Nat := 0x40030020
def Fld.PWR_HIB_CMD_ENTER : RegField := ⟨Reg.PWR_HIB_CMD, 0, 1⟩
def Fld.PWR_HIB_CMD_KEY : RegField := ⟨Reg.PWR_HIB_CMD, 16, 16⟩
def Reg.PWR_HIB_STAT : Nat := 0x40030024
def Fld.PWR_HIB_STAT_REFUSE_MASK : RegField := ⟨Reg.PWR_HIB_STAT, 0, 7⟩
def Fld.PWR_HIB_STAT_LAST_REFUSER : RegField := ⟨Reg.PWR_HIB_STAT, 8, 3⟩
def Fld.PWR_HIB_STAT_ENTRIES : RegField := ⟨Reg.PWR_HIB_STAT, 16, 16⟩
def Reg.PWR_REFUSE_CNT_A : Nat := 0x40030028
def Fld.PWR_REFUSE_CNT_A_PARTNER : RegField := ⟨Reg.PWR_REFUSE_CNT_A, 0, 8⟩
def Fld.PWR_REFUSE_CNT_A_ISLAND : RegField := ⟨Reg.PWR_REFUSE_CNT_A, 8, 8⟩
def Fld.PWR_REFUSE_CNT_A_RING : RegField := ⟨Reg.PWR_REFUSE_CNT_A, 16, 8⟩
def Fld.PWR_REFUSE_CNT_A_DEBUG : RegField := ⟨Reg.PWR_REFUSE_CNT_A, 24, 8⟩
def Reg.PWR_REFUSE_CNT_B : Nat := 0x4003002C
def Fld.PWR_REFUSE_CNT_B_UPDATE : RegField := ⟨Reg.PWR_REFUSE_CNT_B, 0, 8⟩
def Fld.PWR_REFUSE_CNT_B_FLOWSTONE : RegField := ⟨Reg.PWR_REFUSE_CNT_B, 8, 8⟩
def Fld.PWR_REFUSE_CNT_B_TESTPERT : RegField := ⟨Reg.PWR_REFUSE_CNT_B, 16, 8⟩
def Reg.PWR_WAKE_CFG : Nat := 0x40030030
def Fld.PWR_WAKE_CFG_LIFELINE : RegField := ⟨Reg.PWR_WAKE_CFG, 0, 1⟩
def Reg.PWR_WAKE_STAT : Nat := 0x40030034
def Fld.PWR_WAKE_STAT_SOURCE : RegField := ⟨Reg.PWR_WAKE_STAT, 0, 3⟩
def Fld.PWR_WAKE_STAT_INSTANCE : RegField := ⟨Reg.PWR_WAKE_STAT, 3, 2⟩
def Fld.PWR_WAKE_STAT_RETRIES : RegField := ⟨Reg.PWR_WAKE_STAT, 5, 2⟩
def Fld.PWR_WAKE_STAT_RESTORED : RegField := ⟨Reg.PWR_WAKE_STAT, 7, 1⟩
def Fld.PWR_WAKE_STAT_RET_BAD : RegField := ⟨Reg.PWR_WAKE_STAT, 8, 1⟩
def Fld.PWR_WAKE_STAT_WAKES : RegField := ⟨Reg.PWR_WAKE_STAT, 16, 16⟩
def Reg.PWR_LOCK : Nat := 0x4003FFFC
def Fld.PWR_LOCK_LOCK : RegField := ⟨Reg.PWR_LOCK, 0, 1⟩
/-! ### SECURITY -/
def Reg.SEC_STATUS : Nat := 0x40070000
def Fld.SEC_STATUS_LIFECYCLE : RegField := ⟨Reg.SEC_STATUS, 0, 2⟩
def Fld.SEC_STATUS_DBG_LEVEL : RegField := ⟨Reg.SEC_STATUS, 2, 2⟩
def Fld.SEC_STATUS_DBG_AUTH : RegField := ⟨Reg.SEC_STATUS, 4, 1⟩
def Fld.SEC_STATUS_COVER_OPEN : RegField := ⟨Reg.SEC_STATUS, 5, 1⟩
def Fld.SEC_STATUS_ENG_SESSION : RegField := ⟨Reg.SEC_STATUS, 6, 1⟩
def Fld.SEC_STATUS_BLANK_VERIFIED : RegField := ⟨Reg.SEC_STATUS, 7, 1⟩
def Fld.SEC_STATUS_LOCKOUT : RegField := ⟨Reg.SEC_STATUS, 8, 1⟩
def Reg.SEC_SVY_KEY (x : Nat) : Nat := 0x40070010 + 4 * x
def Fld.SEC_SVY_KEY_PRESENT (x : Nat) : RegField := ⟨Reg.SEC_SVY_KEY x, 0, 1⟩
def Fld.SEC_SVY_KEY_AES_PRESENT (x : Nat) : RegField := ⟨Reg.SEC_SVY_KEY x, 1, 1⟩
def Fld.SEC_SVY_KEY_REVOKED (x : Nat) : RegField := ⟨Reg.SEC_SVY_KEY x, 2, 1⟩
def Fld.SEC_SVY_KEY_FAULT (x : Nat) : RegField := ⟨Reg.SEC_SVY_KEY x, 3, 1⟩
def Reg.SEC_SYS_KEY : Nat := 0x40070030
def Fld.SEC_SYS_KEY_IDENTITY : RegField := ⟨Reg.SEC_SYS_KEY, 0, 2⟩
def Fld.SEC_SYS_KEY_FW_PROD : RegField := ⟨Reg.SEC_SYS_KEY, 2, 2⟩
def Fld.SEC_SYS_KEY_FW_DEV : RegField := ⟨Reg.SEC_SYS_KEY, 4, 2⟩
def Fld.SEC_SYS_KEY_FW_AES : RegField := ⟨Reg.SEC_SYS_KEY, 6, 2⟩
def Fld.SEC_SYS_KEY_DBG_DEV : RegField := ⟨Reg.SEC_SYS_KEY, 8, 2⟩
def Fld.SEC_SYS_KEY_DBG_FIELD : RegField := ⟨Reg.SEC_SYS_KEY, 10, 2⟩
def Fld.SEC_SYS_KEY_ENG_ROOT_0 : RegField := ⟨Reg.SEC_SYS_KEY, 12, 2⟩
def Fld.SEC_SYS_KEY_ENG_ROOT_1 : RegField := ⟨Reg.SEC_SYS_KEY, 14, 2⟩
def Fld.SEC_SYS_KEY_ROOT_0_REVOKED : RegField := ⟨Reg.SEC_SYS_KEY, 16, 1⟩
def Fld.SEC_SYS_KEY_ROOT_1_REVOKED : RegField := ⟨Reg.SEC_SYS_KEY, 17, 1⟩
def Reg.SEC_SECVER (v : Nat) : Nat := 0x40070040 + 4 * v
def Fld.SEC_SECVER_COUNTER (v : Nat) : RegField := ⟨Reg.SEC_SECVER v, 0, 8⟩
def Reg.SEC_LC_CMD : Nat := 0x40070080
def Fld.SEC_LC_CMD_TARGET : RegField := ⟨Reg.SEC_LC_CMD, 0, 2⟩
def Fld.SEC_LC_CMD_GO : RegField := ⟨Reg.SEC_LC_CMD, 2, 1⟩
def Fld.SEC_LC_CMD_REFUSED : RegField := ⟨Reg.SEC_LC_CMD, 3, 1⟩
def Fld.SEC_LC_CMD_KEY : RegField := ⟨Reg.SEC_LC_CMD, 16, 16⟩
def Reg.SEC_PROV : Nat := 0x40070084
def Fld.SEC_PROV_ITEM : RegField := ⟨Reg.SEC_PROV, 0, 4⟩
def Fld.SEC_PROV_GO : RegField := ⟨Reg.SEC_PROV, 4, 1⟩
def Fld.SEC_PROV_REFUSED : RegField := ⟨Reg.SEC_PROV, 5, 1⟩
def Fld.SEC_PROV_DONE : RegField := ⟨Reg.SEC_PROV, 6, 1⟩
def Fld.SEC_PROV_KEY : RegField := ⟨Reg.SEC_PROV, 16, 16⟩
def Reg.SEC_PROV_ADDR : Nat := 0x40070088
def Fld.SEC_PROV_ADDR_ADDR : RegField := ⟨Reg.SEC_PROV_ADDR, 0, 32⟩
def Reg.SEC_REVOKE : Nat := 0x4007008C
def Fld.SEC_REVOKE_TARGET : RegField := ⟨Reg.SEC_REVOKE, 0, 4⟩
def Fld.SEC_REVOKE_GO : RegField := ⟨Reg.SEC_REVOKE, 4, 1⟩
def Fld.SEC_REVOKE_REFUSED : RegField := ⟨Reg.SEC_REVOKE, 5, 1⟩
def Fld.SEC_REVOKE_KEY : RegField := ⟨Reg.SEC_REVOKE, 16, 16⟩
def Reg.SEC_AUTH_CNT : Nat := 0x40070090
def Fld.SEC_AUTH_CNT_FAILS : RegField := ⟨Reg.SEC_AUTH_CNT, 0, 8⟩
def Fld.SEC_AUTH_CNT_LOCKOUT_S : RegField := ⟨Reg.SEC_AUTH_CNT, 16, 10⟩
def Reg.SEC_ENG : Nat := 0x40070094
def Fld.SEC_ENG_REFUSED : RegField := ⟨Reg.SEC_ENG, 0, 16⟩
def Fld.SEC_ENG_HANDSHAKE_FAILS : RegField := ⟨Reg.SEC_ENG, 16, 16⟩
def Reg.SEC_ENG_PEER : Nat := 0x40070098
def Fld.SEC_ENG_PEER_PEER_HASH : RegField := ⟨Reg.SEC_ENG_PEER, 0, 32⟩
def Reg.SEC_ERASE : Nat := 0x4007009C
def Fld.SEC_ERASE_STEP : RegField := ⟨Reg.SEC_ERASE, 0, 3⟩
def Fld.SEC_ERASE_FAILED : RegField := ⟨Reg.SEC_ERASE, 3, 1⟩
def Reg.SEC_LOCK : Nat := 0x4007FFFC
def Fld.SEC_LOCK_LOCK : RegField := ⟨Reg.SEC_LOCK, 0, 1⟩
/-! ### UPDATE -/
def Reg.UPD_STAT : Nat := 0x40120000
def Fld.UPD_STAT_STAGE : RegField := ⟨Reg.UPD_STAT, 0, 3⟩
def Fld.UPD_STAT_RUN_SLOT : RegField := ⟨Reg.UPD_STAT, 3, 1⟩
def Fld.UPD_STAT_TENTATIVE : RegField := ⟨Reg.UPD_STAT, 4, 1⟩
def Fld.UPD_STAT_STAGED_COMP : RegField := ⟨Reg.UPD_STAT, 5, 3⟩
def Fld.UPD_STAT_BUSY : RegField := ⟨Reg.UPD_STAT, 8, 1⟩
def Fld.UPD_STAT_ISL_BUSY : RegField := ⟨Reg.UPD_STAT, 9, 1⟩
def Reg.UPD_SLOT (x : Nat) : Nat := 0x40120010 + 4 * x
def Fld.UPD_SLOT_STATE (x : Nat) : RegField := ⟨Reg.UPD_SLOT x, 0, 8⟩
def Fld.UPD_SLOT_ATTEMPTS (x : Nat) : RegField := ⟨Reg.UPD_SLOT x, 8, 2⟩
def Fld.UPD_SLOT_INTACT (x : Nat) : RegField := ⟨Reg.UPD_SLOT x, 10, 1⟩
def Fld.UPD_SLOT_SEQ_LO (x : Nat) : RegField := ⟨Reg.UPD_SLOT x, 16, 16⟩
def Reg.UPD_COMP_VER (v : Nat) : Nat := 0x40120020 + 4 * v
def Fld.UPD_COMP_VER_VERSION (v : Nat) : RegField := ⟨Reg.UPD_COMP_VER v, 0, 32⟩
def Reg.UPD_XFER_ADDR : Nat := 0x40120040
def Fld.UPD_XFER_ADDR_ADDR : RegField := ⟨Reg.UPD_XFER_ADDR, 0, 32⟩
def Reg.UPD_XFER_LEN : Nat := 0x40120044
def Fld.UPD_XFER_LEN_LEN : RegField := ⟨Reg.UPD_XFER_LEN, 0, 20⟩
def Reg.UPD_CMD : Nat := 0x40120048
def Fld.UPD_CMD_BEGIN : RegField := ⟨Reg.UPD_CMD, 0, 1⟩
def Fld.UPD_CMD_WRITE : RegField := ⟨Reg.UPD_CMD, 1, 1⟩
def Fld.UPD_CMD_END : RegField := ⟨Reg.UPD_CMD, 2, 1⟩
def Fld.UPD_CMD_DISCARD : RegField := ⟨Reg.UPD_CMD, 3, 1⟩
def Fld.UPD_CMD_SPLIT : RegField := ⟨Reg.UPD_CMD, 4, 1⟩
def Fld.UPD_CMD_LOADER : RegField := ⟨Reg.UPD_CMD, 5, 1⟩
def Fld.UPD_CMD_DONE : RegField := ⟨Reg.UPD_CMD, 6, 1⟩
def Fld.UPD_CMD_REFUSED : RegField := ⟨Reg.UPD_CMD, 7, 1⟩
def Fld.UPD_CMD_KEY : RegField := ⟨Reg.UPD_CMD, 16, 16⟩
def Reg.UPD_REASON : Nat := 0x4012004C
def Fld.UPD_REASON_CODE : RegField := ⟨Reg.UPD_REASON, 0, 8⟩
def Reg.UPD_HEALTH : Nat := 0x40120050
def Fld.UPD_HEALTH_CONFIRM : RegField := ⟨Reg.UPD_HEALTH, 0, 1⟩
def Fld.UPD_HEALTH_OPEN : RegField := ⟨Reg.UPD_HEALTH, 1, 1⟩
def Fld.UPD_HEALTH_REMAIN_S : RegField := ⟨Reg.UPD_HEALTH, 6, 10⟩
def Fld.UPD_HEALTH_KEY : RegField := ⟨Reg.UPD_HEALTH, 16, 16⟩
def Reg.UPD_ISL_CMD : Nat := 0x40120060
def Fld.UPD_ISL_CMD_ISLAND : RegField := ⟨Reg.UPD_ISL_CMD, 0, 4⟩
def Fld.UPD_ISL_CMD_GO : RegField := ⟨Reg.UPD_ISL_CMD, 4, 1⟩
def Fld.UPD_ISL_CMD_REFUSED : RegField := ⟨Reg.UPD_ISL_CMD, 5, 1⟩
def Fld.UPD_ISL_CMD_KEY : RegField := ⟨Reg.UPD_ISL_CMD, 16, 16⟩
def Reg.UPD_ISL_STAT : Nat := 0x40120064
def Fld.UPD_ISL_STAT_ISLAND : RegField := ⟨Reg.UPD_ISL_STAT, 0, 4⟩
def Fld.UPD_ISL_STAT_PHASE : RegField := ⟨Reg.UPD_ISL_STAT, 4, 3⟩
def Fld.UPD_ISL_STAT_DONE_KB : RegField := ⟨Reg.UPD_ISL_STAT, 16, 16⟩
def Reg.UPD_ISL_BANK : Nat := 0x40120068
def Fld.UPD_ISL_BANK_BANK : RegField := ⟨Reg.UPD_ISL_BANK, 0, 16⟩
def Reg.UPD_ISL_VER (i : Nat) : Nat := 0x40120080 + 4 * i
def Fld.UPD_ISL_VER_VERSION (i : Nat) : RegField := ⟨Reg.UPD_ISL_VER i, 0, 32⟩
def Reg.UPD_FLASH : Nat := 0x401200C0
def Fld.UPD_FLASH_CE : RegField := ⟨Reg.UPD_FLASH, 0, 16⟩
def Fld.UPD_FLASH_UE : RegField := ⟨Reg.UPD_FLASH, 16, 16⟩
def Reg.UPD_LOCK : Nat := 0x4012FFFC
def Fld.UPD_LOCK_LOCK : RegField := ⟨Reg.UPD_LOCK, 0, 1⟩
/-! ### TESTPERT -/
def Reg.TP_STAT : Nat := 0x40130000
def Fld.TP_STAT_ALLOWED : RegField := ⟨Reg.TP_STAT, 0, 1⟩
def Fld.TP_STAT_ACTIVE : RegField := ⟨Reg.TP_STAT, 1, 6⟩
def Fld.TP_STAT_REASON : RegField := ⟨Reg.TP_STAT, 8, 3⟩
def Reg.TP_CMD : Nat := 0x40130004
def Fld.TP_CMD_KINDS : RegField := ⟨Reg.TP_CMD, 0, 6⟩
def Fld.TP_CMD_START : RegField := ⟨Reg.TP_CMD, 6, 1⟩
def Fld.TP_CMD_STOP : RegField := ⟨Reg.TP_CMD, 7, 1⟩
def Fld.TP_CMD_KEY : RegField := ⟨Reg.TP_CMD, 16, 16⟩
def Reg.TP_LL : Nat := 0x40130010
def Fld.TP_LL_DELAY_US : RegField := ⟨Reg.TP_LL, 0, 10⟩
def Reg.TP_RING_LO : Nat := 0x40130014
def Fld.TP_RING_LO_MASK : RegField := ⟨Reg.TP_RING_LO, 0, 32⟩
def Reg.TP_RING_HI : Nat := 0x40130018
def Fld.TP_RING_HI_MASK : RegField := ⟨Reg.TP_RING_HI, 0, 32⟩
def Reg.TP_ISL : Nat := 0x40130020
def Fld.TP_ISL_ISLANDS : RegField := ⟨Reg.TP_ISL, 0, 16⟩
def Fld.TP_ISL_DIR : RegField := ⟨Reg.TP_ISL, 16, 2⟩
def Fld.TP_ISL_ACTION : RegField := ⟨Reg.TP_ISL, 18, 1⟩
def Fld.TP_ISL_EVERY : RegField := ⟨Reg.TP_ISL, 20, 8⟩
def Reg.TP_FL : Nat := 0x40130024
def Fld.TP_FL_PORTS : RegField := ⟨Reg.TP_FL, 0, 8⟩
def Fld.TP_FL_DIR : RegField := ⟨Reg.TP_FL, 8, 2⟩
def Fld.TP_FL_ACTION : RegField := ⟨Reg.TP_FL, 10, 1⟩
def Fld.TP_FL_EVERY : RegField := ⟨Reg.TP_FL, 20, 8⟩
def Reg.TP_COUNT_LIMIT : Nat := 0x40130028
def Fld.TP_COUNT_LIMIT_ISL : RegField := ⟨Reg.TP_COUNT_LIMIT, 0, 16⟩
def Fld.TP_COUNT_LIMIT_FL : RegField := ⟨Reg.TP_COUNT_LIMIT, 16, 16⟩
def Reg.TP_DRIP_LO : Nat := 0x40130030
def Fld.TP_DRIP_LO_MASK : RegField := ⟨Reg.TP_DRIP_LO, 0, 32⟩
def Reg.TP_DRIP_HI : Nat := 0x40130034
def Fld.TP_DRIP_HI_MASK : RegField := ⟨Reg.TP_DRIP_HI, 0, 32⟩
def Reg.TP_DRIP_J : Nat := 0x40130038
def Fld.TP_DRIP_J_JITTER : RegField := ⟨Reg.TP_DRIP_J, 0, 14⟩
def Fld.TP_DRIP_J_RANDOM : RegField := ⟨Reg.TP_DRIP_J, 14, 1⟩
def Reg.TP_SQZ : Nat := 0x4013003C
def Fld.TP_SQZ_RATIO : RegField := ⟨Reg.TP_SQZ, 0, 2⟩
def Reg.TP_DURATION : Nat := 0x40130040
def Fld.TP_DURATION_DURATION_S : RegField := ⟨Reg.TP_DURATION, 0, 12⟩
def Reg.TP_CNT : Nat := 0x40130044
def Fld.TP_CNT_STARTS : RegField := ⟨Reg.TP_CNT, 0, 16⟩
def Fld.TP_CNT_REFUSALS : RegField := ⟨Reg.TP_CNT, 16, 16⟩
def Reg.TP_LOCK : Nat := 0x4013FFFC
def Fld.TP_LOCK_LOCK : RegField := ⟨Reg.TP_LOCK, 0, 1⟩
/-! ### IDENT -/
def Reg.IDENT_DEVICE : Nat := 0x40000000
def Fld.IDENT_DEVICE_PART : RegField := ⟨Reg.IDENT_DEVICE, 0, 16⟩
def Fld.IDENT_DEVICE_FAMILY : RegField := ⟨Reg.IDENT_DEVICE, 16, 8⟩
def Reg.IDENT_REVISION : Nat := 0x40000004
def Fld.IDENT_REVISION_MINOR : RegField := ⟨Reg.IDENT_REVISION, 0, 8⟩
def Fld.IDENT_REVISION_MAJOR : RegField := ⟨Reg.IDENT_REVISION, 8, 8⟩
def Fld.IDENT_REVISION_BOARD : RegField := ⟨Reg.IDENT_REVISION, 16, 8⟩
def Reg.IDENT_SERIAL_LO : Nat := 0x40000008
def Fld.IDENT_SERIAL_LO_SERIAL : RegField := ⟨Reg.IDENT_SERIAL_LO, 0, 32⟩
def Reg.IDENT_SERIAL_HI : Nat := 0x4000000C
def Fld.IDENT_SERIAL_HI_SERIAL : RegField := ⟨Reg.IDENT_SERIAL_HI, 0, 32⟩
def Reg.IDENT_IDCODE : Nat := 0x40000010
def Fld.IDENT_IDCODE_ONE : RegField := ⟨Reg.IDENT_IDCODE, 0, 1⟩
def Fld.IDENT_IDCODE_MANUFACTURER : RegField := ⟨Reg.IDENT_IDCODE, 1, 11⟩
def Fld.IDENT_IDCODE_PART : RegField := ⟨Reg.IDENT_IDCODE, 12, 16⟩
def Fld.IDENT_IDCODE_VERSION : RegField := ⟨Reg.IDENT_IDCODE, 28, 4⟩
def Reg.IDENT_PARAM_A : Nat := 0x40000020
def Fld.IDENT_PARAM_A_CHAMBERS : RegField := ⟨Reg.IDENT_PARAM_A, 0, 5⟩
def Fld.IDENT_PARAM_A_SPARES_MAX : RegField := ⟨Reg.IDENT_PARAM_A, 5, 2⟩
def Fld.IDENT_PARAM_A_ISLANDS : RegField := ⟨Reg.IDENT_PARAM_A, 8, 5⟩
def Fld.IDENT_PARAM_A_FL_PORTS : RegField := ⟨Reg.IDENT_PARAM_A, 16, 4⟩
def Fld.IDENT_PARAM_A_CAN_CTRLS : RegField := ⟨Reg.IDENT_PARAM_A, 20, 3⟩
def Fld.IDENT_PARAM_A_BB_PORTS : RegField := ⟨Reg.IDENT_PARAM_A, 24, 2⟩
def Fld.IDENT_PARAM_A_LL_LANES : RegField := ⟨Reg.IDENT_PARAM_A, 26, 2⟩
def Reg.IDENT_PARAM_B : Nat := 0x40000024
def Fld.IDENT_PARAM_B_RINGS : RegField := ⟨Reg.IDENT_PARAM_B, 0, 8⟩
def Fld.IDENT_PARAM_B_DRIPS : RegField := ⟨Reg.IDENT_PARAM_B, 8, 8⟩
def Fld.IDENT_PARAM_B_TASKS : RegField := ⟨Reg.IDENT_PARAM_B, 16, 5⟩
def Reg.IDENT_PARAM_C : Nat := 0x40000028
def Fld.IDENT_PARAM_C_STATIONS : RegField := ⟨Reg.IDENT_PARAM_C, 0, 16⟩
def Fld.IDENT_PARAM_C_CHANNELS : RegField := ⟨Reg.IDENT_PARAM_C, 16, 16⟩
def Reg.IDENT_PARAM_D : Nat := 0x4000002C
def Fld.IDENT_PARAM_D_BANK_MIB : RegField := ⟨Reg.IDENT_PARAM_D, 0, 8⟩
def Fld.IDENT_PARAM_D_INSTANCE_MIB : RegField := ⟨Reg.IDENT_PARAM_D, 8, 8⟩
def Fld.IDENT_PARAM_D_SLOTS_LOG2 : RegField := ⟨Reg.IDENT_PARAM_D, 16, 5⟩
def Reg.IDENT_UNMAPPED_ADDR : Nat := 0x40000040
def Fld.IDENT_UNMAPPED_ADDR_ADDR : RegField := ⟨Reg.IDENT_UNMAPPED_ADDR, 0, 32⟩
def Reg.IDENT_UNMAPPED : Nat := 0x40000044
def Fld.IDENT_UNMAPPED_INITIATOR : RegField := ⟨Reg.IDENT_UNMAPPED, 0, 4⟩
def Fld.IDENT_UNMAPPED_KIND : RegField := ⟨Reg.IDENT_UNMAPPED, 4, 2⟩
def Fld.IDENT_UNMAPPED_COUNT : RegField := ⟨Reg.IDENT_UNMAPPED, 16, 8⟩
def Fld.IDENT_UNMAPPED_OVERRUN : RegField := ⟨Reg.IDENT_UNMAPPED, 30, 1⟩
def Fld.IDENT_UNMAPPED_VALID : RegField := ⟨Reg.IDENT_UNMAPPED, 31, 1⟩

end Sys2Proof.Machine
end

