-- ==== Sys2Proof/Machine/RegTable.lean ====
section
/-! DEFINITION. The access table of the registers (R7): for each register its instances, the bits of each access type, the LOCK of
its block and its reset value, as the register tables of the chapters give them. -/
namespace Sys2Proof.Machine

/-- One register of a block with its instances: `base` is the address of instance 0, `dims` the (count, stride) pairs of its
indexes; then the bits of each access type of R7, the address of the block's LOCK register (0 where it has none) and the reset value
(the bits that reset to a value given per source or per unit are 0 here and are added by `regReset` or by the read). -/
structure RegRow where
  base : Nat
  dims : List (Nat × Nat)
  ro : BitVec 32
  rw : BitVec 32
  rwl : BitVec 32
  w1c : BitVec 32
  w1s : BitVec 32
  wo : BitVec 32
  lock : Nat
  reset : BitVec 32
  deriving DecidableEq, Repr

/-- Registers of the CLOCK block. -/
def regRowsClock : List RegRow := [
  /- CLK_STAT -/ ⟨0x40010000, [], 0x7FF, 0x0, 0x0, 0x0, 0x0, 0x0, 0x0, 0x30⟩,
  /- CLK_CTRL -/ ⟨0x40010004, [], 0x0, 0x0, 0x0, 0x0, 0x0, 0x1, 0x0, 0x0⟩,
  /- CLK_EVENT -/ ⟨0x40010008, [], 0xEFF00, 0x0, 0x0, 0x10001, 0x0, 0x0, 0x0, 0x0⟩,
  /- CLK_MON_COUNT -/ ⟨0x40010010, [(6, 4)], 0xFFFF, 0x0, 0x0, 0x0, 0x0, 0x0, 0x0, 0x0⟩,
  /- CLK_REF_OFFSET -/ ⟨0x40010030, [], 0xFFFF, 0x0, 0x0, 0x0, 0x0, 0x0, 0x0, 0x0⟩]

/-- Registers of the RESET block. -/
def regRowsReset : List RegRow := [
  /- RST_CAUSE -/ ⟨0x40020000, [], 0x7000, 0x0, 0x0, 0x1FF, 0x0, 0x0, 0x400200FC, 0x0⟩,
  /- RST_COUNT -/ ⟨0x40020004, [], 0xFFFFFFFF, 0x0, 0x0, 0x0, 0x0, 0x0, 0x400200FC, 0x0⟩,
  /- RST_PWR_CYCLES -/ ⟨0x40020008, [], 0xFFFFFFFF, 0x0, 0x0, 0x0, 0x0, 0x0, 0x400200FC, 0x0⟩,
  /- RST_DETAIL -/ ⟨0x4002000C, [], 0xFFFF, 0x0, 0x0, 0x0, 0x0, 0x0, 0x400200FC, 0x0⟩,
  /- RST_SW -/ ⟨0x40020010, [], 0x0, 0x0, 0x0, 0x0, 0x0, 0xFFFF0001, 0x400200FC, 0x0⟩,
  /- RST_STRAP -/ ⟨0x40020014, [], 0x7F, 0x0, 0x0, 0x0, 0x0, 0x0, 0x400200FC, 0x0⟩,
  /- WDT_CTRL -/ ⟨0x40020020, [], 0x0, 0x0, 0x3FFF0001, 0x0, 0x0, 0x0, 0x400200FC, 0x13880001⟩,
  /- WDT_KICK -/ ⟨0x40020024, [], 0x0, 0x0, 0x0, 0x0, 0x0, 0xFF, 0x400200FC, 0x0⟩,
  /- WDT_STAT -/ ⟨0x40020028, [], 0xFFFFFF, 0x0, 0x0, 0x0, 0x0, 0x0, 0x400200FC, 0x1388⟩,
  /- RST_LOCK -/ ⟨0x400200FC, [], 0x0, 0x0, 0x0, 0x0, 0x1, 0x0, 0x400200FC, 0x0⟩,
  /- GATE_CTRL -/ ⟨0x40020100, [(64, 4)], 0xFFFF0C, 0x0, 0x2, 0x20, 0x0, 0x11, 0x400200FC, 0x8⟩]

/-- Registers of the CFGSTORE block. -/
def regRowsCfgstore : List RegRow := [
  /- CFG_STAT -/ ⟨0x40140000, [], 0x3F, 0x0, 0x0, 0x0, 0x0, 0x0, 0x4014FFFC, 0x0⟩,
  /- CFG_GEN -/ ⟨0x40140010, [(2, 4)], 0xFFFFFFFF, 0x0, 0x0, 0x0, 0x0, 0x0, 0x4014FFFC, 0x0⟩,
  /- CFG_AREA -/ ⟨0x40140020, [(2, 4)], 0x1FF, 0x0, 0x0, 0x0, 0x0, 0x0, 0x4014FFFC, 0xFF⟩,
  /- CFG_CLK -/ ⟨0x40140030, [], 0x0, 0x0, 0xF, 0x0, 0x0, 0x0, 0x4014FFFC, 0x2⟩,
  /- CFG_LOCK -/ ⟨0x4014FFFC, [], 0x0, 0x0, 0x0, 0x0, 0x1, 0x0, 0x4014FFFC, 0x0⟩]

/-- Registers of the SURVEY block. -/
def regRowsSurvey : List RegRow := [
  /- SVY_BANK -/ ⟨0x400A0000, [(2, 4)], 0xFFFF0007, 0x0, 0x0, 0x0, 0x0, 0x0, 0x0, 0x0⟩,
  /- SVY_BANK_GEN -/ ⟨0x400A0008, [(2, 4)], 0xFFFFFFFF, 0x0, 0x0, 0x0, 0x0, 0x0, 0x0, 0x0⟩,
  /- SVY_BANK_BUILD -/ ⟨0x400A0010, [(2, 4)], 0xFFFFFFFF, 0x0, 0x0, 0x0, 0x0, 0x0, 0x0, 0x0⟩,
  /- SVY_LOAD_ERR -/ ⟨0x400A0020, [], 0xFFFF7FFF, 0x0, 0x0, 0x0, 0x0, 0x0, 0x0, 0x0⟩,
  /- SVY_SCRUB -/ ⟨0x400A0024, [], 0xFFFF, 0x0, 0x0, 0x30000, 0x0, 0x0, 0x0, 0x0⟩,
  /- SEQ_STAT -/ ⟨0x400A0040, [], 0x7F, 0x0, 0x0, 0x0, 0x0, 0x0, 0x0, 0x0⟩,
  /- SEQ_HYPER -/ ⟨0x400A0044, [], 0xFFFFFFFF, 0x0, 0x0, 0x0, 0x0, 0x0, 0x0, 0x0⟩,
  /- SEQ_COMMIT -/ ⟨0x400A0048, [], 0xFFFFF, 0x0, 0x0, 0x0, 0x0, 0x0, 0x0, 0x0⟩,
  /- SEQ_TASK_CYC -/ ⟨0x400A0080, [(16, 4)], 0xFFFFFFFF, 0x0, 0x0, 0x0, 0x0, 0x0, 0x0, 0x0⟩,
  /- SEQ_TASK_STAT -/ ⟨0x400A00C0, [(16, 4)], 0xFFFF, 0x0, 0x0, 0x0, 0x0, 0x0, 0x0, 0x0⟩,
  /- SEQ_TASK_SKIPS -/ ⟨0x400A0100, [(16, 4)], 0xFFFFFFFF, 0x0, 0x0, 0x0, 0x0, 0x0, 0x0, 0x0⟩,
  /- SEQ_TASK_OVERRUNS -/ ⟨0x400A0140, [(16, 4)], 0xFFFFFFFF, 0x0, 0x0, 0x0, 0x0, 0x0, 0x0, 0x0⟩,
  /- SEQ_TASK_RECOVERED -/ ⟨0x400A0180, [(16, 4)], 0xFFFFFFFF, 0x0, 0x0, 0x0, 0x0, 0x0, 0x0, 0x0⟩,
  /- SEQ_TASK_LATE -/ ⟨0x400A01C0, [(16, 4)], 0xFFFFFFFF, 0x0, 0x0, 0x0, 0x0, 0x0, 0x0, 0x0⟩,
  /- SEQ_TASK_MARGIN -/ ⟨0x400A0200, [(16, 4)], 0xFFFFFFFF, 0x0, 0x0, 0x0, 0x0, 0x0, 0x0, 0xFFFFFFFF⟩,
  /- SEQ_TASK_CTRL -/ ⟨0x400A0240, [(16, 4)], 0x0, 0x0, 0x0, 0x0, 0x0, 0x7, 0x0, 0x0⟩,
  /- OLC_STAT -/ ⟨0x400A0300, [], 0x7F, 0x0, 0x0, 0x0, 0x0, 0x0, 0x0, 0x0⟩,
  /- OLC_CTRL -/ ⟨0x400A0304, [], 0x0, 0x3FF0000, 0x0, 0x0, 0x0, 0x7, 0x0, 0x140000⟩,
  /- OLC_SWAP_LO -/ ⟨0x400A0308, [], 0xFFFFFFFF, 0x0, 0x0, 0x0, 0x0, 0x0, 0x0, 0x0⟩,
  /- OLC_SWAP_HI -/ ⟨0x400A030C, [], 0xFFFFFFFF, 0x0, 0x0, 0x0, 0x0, 0x0, 0x0, 0x0⟩,
  /- OLC_SWEEP -/ ⟨0x400A0310, [], 0xFFFFFFF, 0x0, 0x0, 0x0, 0x0, 0x0, 0x0, 0x0⟩,
  /- OLC_REASON -/ ⟨0x400A0314, [], 0xFF, 0x0, 0x0, 0x0, 0x0, 0x0, 0x0, 0x0⟩,
  /- OLC_COUNT -/ ⟨0x400A0318, [], 0xFFFFFFFF, 0x0, 0x0, 0x0, 0x0, 0x0, 0x0, 0x0⟩,
  /- FRC_STAT -/ ⟨0x400A0380, [], 0x3FFF1FFF, 0x0, 0x0, 0x0, 0x0, 0x0, 0x0, 0x0⟩,
  /- FRC_SEL -/ ⟨0x400A0384, [], 0x0, 0xFFF, 0x0, 0x0, 0x0, 0x0, 0x0, 0x0⟩,
  /- FRC_ID -/ ⟨0x400A0388, [], 0x0, 0xFFFFFFFF, 0x0, 0x0, 0x0, 0x0, 0x0, 0x0⟩,
  /- FRC_VALUE -/ ⟨0x400A038C, [], 0x0, 0xFFFFFFFF, 0x0, 0x0, 0x0, 0x0, 0x0, 0x0⟩,
  /- FRC_MODE -/ ⟨0x400A0390, [], 0xF4, 0x3, 0x0, 0x0, 0x0, 0x0, 0x0, 0x0⟩,
  /- FRC_CMD -/ ⟨0x400A0394, [], 0x30, 0x0, 0x0, 0x0, 0x0, 0xF, 0x0, 0x0⟩,
  /- FRC_EFFECT -/ ⟨0x400A0398, [], 0xFFFFFFFF, 0x0, 0x0, 0x0, 0x0, 0x0, 0x0, 0x0⟩]

/-- Registers of the GALLERY block. -/
def regRowsGallery : List RegRow := [
  /- GAL_CH_STAT -/ ⟨0x40090000, [(16, 4)], 0x1FFF, 0x0, 0x0, 0x0, 0x0, 0x0, 0x400903FC, 0x0⟩,
  /- GAL_CH_TRAP -/ ⟨0x40090040, [(16, 4)], 0x7FFFFFF, 0x0, 0x0, 0x80000000, 0x0, 0x0, 0x400903FC, 0x0⟩,
  /- GAL_CH_TRAP_ADDR -/ ⟨0x40090080, [(16, 4)], 0xFFFFFFFF, 0x0, 0x0, 0x0, 0x0, 0x0, 0x400903FC, 0x0⟩,
  /- GAL_CH_EXECS -/ ⟨0x400900C0, [(16, 4)], 0xFFFFFFFF, 0x0, 0x0, 0x0, 0x0, 0x0, 0x400903FC, 0x0⟩,
  /- GAL_CH_MAXCYC -/ ⟨0x40090100, [(16, 4)], 0xFFFFFFFF, 0x0, 0x0, 0x0, 0x0, 0x0, 0x400903FC, 0x0⟩,
  /- GAL_CH_JMAX -/ ⟨0x40090140, [(16, 4)], 0x7FFFF, 0x0, 0x0, 0x0, 0x0, 0x0, 0x400903FC, 0x0⟩,
  /- GAL_CH_ECC -/ ⟨0x40090180, [(16, 4)], 0xFFFFFFFF, 0x0, 0x0, 0x0, 0x0, 0x0, 0x400903FC, 0x0⟩,
  /- GAL_TASK_INST_LO -/ ⟨0x400901C0, [(16, 4)], 0x1FFFFFF, 0x0, 0x0, 0x0, 0x0, 0x0, 0x400903FC, 0x0⟩,
  /- GAL_TASK_INST_HI -/ ⟨0x40090200, [(16, 4)], 0x3FFFFFF, 0x0, 0x0, 0x0, 0x0, 0x0, 0x400903FC, 0x0⟩,
  /- GAL_AREA_TAG_LO -/ ⟨0x40090240, [(2, 4)], 0xFFFFFFFF, 0x0, 0x0, 0x0, 0x0, 0x0, 0x400903FC, 0x0⟩,
  /- GAL_AREA_TAG_HI -/ ⟨0x40090248, [(2, 4)], 0xFFFFFFFF, 0x0, 0x0, 0x0, 0x0, 0x0, 0x400903FC, 0x0⟩,
  /- GAL_AREA -/ ⟨0x40090250, [], 0xF, 0x0, 0x0, 0x0, 0x0, 0x0, 0x400903FC, 0x0⟩,
  /- GAL_RELOC -/ ⟨0x40090260, [(2, 4)], 0x3FFF, 0x0, 0x0, 0x0, 0x0, 0x0, 0x400903FC, 0x0⟩,
  /- GAL_CTRL -/ ⟨0x40090300, [], 0x0, 0x0, 0x1, 0x0, 0x0, 0x2, 0x400903FC, 0x1⟩,
  /- GAL_LOCK -/ ⟨0x400903FC, [], 0x0, 0x0, 0x0, 0x0, 0x1, 0x0, 0x400903FC, 0x0⟩]

/-- Registers of the LOCKSTEP block. -/
def regRowsLockstep : List RegRow := [
  /- LS_CH_MM -/ ⟨0x400B0000, [(16, 4)], 0xFFFFFFFF, 0x0, 0x0, 0x0, 0x0, 0x0, 0x400B03FC, 0x0⟩,
  /- LS_CH_LAST -/ ⟨0x400B0040, [(16, 4)], 0xFFFF01F7, 0x0, 0x0, 0x0, 0x0, 0x0, 0x400B03FC, 0x0⟩,
  /- LS_CH_SIG_MAIN_LO -/ ⟨0x400B0080, [(16, 4)], 0xFFFFFFFF, 0x0, 0x0, 0x0, 0x0, 0x0, 0x400B03FC, 0x0⟩,
  /- LS_CH_SIG_MAIN_HI -/ ⟨0x400B00C0, [(16, 4)], 0xFFFFFFFF, 0x0, 0x0, 0x0, 0x0, 0x0, 0x400B03FC, 0x0⟩,
  /- LS_CH_SIG_CHK_LO -/ ⟨0x400B0100, [(16, 4)], 0xFFFFFFFF, 0x0, 0x0, 0x0, 0x0, 0x0, 0x400B03FC, 0x0⟩,
  /- LS_CH_SIG_CHK_HI -/ ⟨0x400B0140, [(16, 4)], 0xFFFFFFFF, 0x0, 0x0, 0x0, 0x0, 0x0, 0x400B03FC, 0x0⟩,
  /- LS_CH_RATE -/ ⟨0x400B0180, [(16, 4)], 0xFF, 0x0, 0x0, 0x0, 0x0, 0x0, 0x400B03FC, 0x0⟩,
  /- LS_ASYNC -/ ⟨0x400B01C0, [(16, 4)], 0xFFFF0000, 0x0, 0x0, 0xFFFF, 0x0, 0x0, 0x400B03FC, 0x0⟩,
  /- LS_FAILED -/ ⟨0x400B0300, [], 0xFFFF, 0x0, 0x0, 0x0, 0x0, 0x0, 0x400B03FC, 0x0⟩,
  /- LS_CTRL -/ ⟨0x400B0304, [], 0x0, 0x0, 0xFFF00FF, 0x0, 0x0, 0x0, 0x400B03FC, 0x3C0008⟩,
  /- LS_INJECT -/ ⟨0x400B0308, [], 0x200, 0x3F, 0x0, 0x400, 0x0, 0x100, 0x400B03FC, 0x0⟩,
  /- LS_LOCK -/ ⟨0x400B03FC, [], 0x0, 0x0, 0x0, 0x0, 0x1, 0x0, 0x400B03FC, 0x0⟩,
  /- LS_DBG_CTRL -/ ⟨0x400B0400, [(16, 4)], 0xFFFF3E78, 0x0, 0x0, 0x100, 0x0, 0x7, 0x400B03FC, 0x0⟩,
  /- LS_DBG_BP -/ ⟨0x400B0440, [(16, 16), (4, 4)], 0x0, 0x3FFFF01, 0x0, 0x0, 0x0, 0x0, 0x400B03FC, 0x0⟩,
  /- LS_DBG_SEL -/ ⟨0x400B0540, [], 0x0, 0x17F, 0x0, 0x0, 0x0, 0x0, 0x400B03FC, 0x0⟩,
  /- LS_DBG_ADDR -/ ⟨0x400B0544, [], 0x0, 0xFFFFFFFF, 0x0, 0x0, 0x0, 0x0, 0x400B03FC, 0x0⟩,
  /- LS_DBG_DATA_LO -/ ⟨0x400B0548, [], 0x0, 0xFFFFFFFF, 0x0, 0x0, 0x0, 0x0, 0x400B03FC, 0x0⟩,
  /- LS_DBG_DATA_HI -/ ⟨0x400B054C, [], 0x0, 0xFFFFFFFF, 0x0, 0x0, 0x0, 0x0, 0x400B03FC, 0x0⟩,
  /- LS_DBG_GO -/ ⟨0x400B0550, [], 0x0, 0x0, 0x0, 0x0, 0x0, 0x1, 0x400B03FC, 0x0⟩,
  /- LS_DBG_RESULT -/ ⟨0x400B0554, [], 0x3, 0x0, 0x0, 0x0, 0x0, 0x0, 0x400B03FC, 0x0⟩]

/-- Registers of the PAIR block. -/
def regRowsPair : List RegRow := [
  /- PAIR_STAT -/ ⟨0x400C0000, [], 0x7FF, 0x0, 0x0, 0x0, 0x0, 0x0, 0x400C00FC, 0x0⟩,
  /- PAIR_CTRL -/ ⟨0x400C0004, [], 0x0, 0x0, 0x3FF0004, 0x0, 0x0, 0x3, 0x400C00FC, 0x1F40004⟩,
  /- PAIR_PARTNER -/ ⟨0x400C0008, [], 0xFFFF3F, 0x0, 0x0, 0x0, 0x0, 0x0, 0x400C00FC, 0x0⟩,
  /- PAIR_VERSION -/ ⟨0x400C000C, [], 0xFFFF, 0x0, 0x0, 0x0, 0x0, 0x0, 0x400C00FC, 0x0⟩,
  /- PAIR_REVERT -/ ⟨0x400C0010, [], 0xFFF0FFF, 0x0, 0x0, 0x0, 0x0, 0x0, 0x400C00FC, 0x3C⟩,
  /- PAIR_JOIN -/ ⟨0x400C0014, [], 0xFFFF0007, 0x0, 0x0, 0x0, 0x0, 0x0, 0x400C00FC, 0x0⟩,
  /- PAIR_TIME_OFS -/ ⟨0x400C0018, [], 0xFFFFFFFF, 0x0, 0x0, 0x0, 0x0, 0x0, 0x400C00FC, 0x0⟩,
  /- PAIR_DUAL -/ ⟨0x400C001C, [], 0xFFFFFFFF, 0x0, 0x0, 0x0, 0x0, 0x0, 0x400C00FC, 0x0⟩,
  /- PAIR_CNT_A -/ ⟨0x400C0020, [], 0xFFFFFFFF, 0x0, 0x0, 0x0, 0x0, 0x0, 0x400C00FC, 0x0⟩,
  /- PAIR_CNT_B -/ ⟨0x400C0024, [], 0xFFFFFFFF, 0x0, 0x0, 0x0, 0x0, 0x0, 0x400C00FC, 0x0⟩,
  /- PAIR_CNT_C -/ ⟨0x400C0028, [], 0xFFFFFFFF, 0x0, 0x0, 0x0, 0x0, 0x0, 0x400C00FC, 0x0⟩,
  /- PAIR_LANE -/ ⟨0x400C0040, [(2, 4)], 0xFFFFFF03, 0x0, 0x0, 0x0, 0x0, 0x0, 0x400C00FC, 0x0⟩,
  /- PAIR_GAPS -/ ⟨0x400C0050, [], 0xFFFFFFFF, 0x0, 0x0, 0x0, 0x0, 0x0, 0x400C00FC, 0x0⟩,
  /- PAIR_EVENT -/ ⟨0x400C0060, [], 0x1C, 0x0, 0x0, 0x7E3, 0x0, 0x0, 0x400C00FC, 0x0⟩,
  /- PAIR_LOCK -/ ⟨0x400C00FC, [], 0x0, 0x0, 0x0, 0x0, 0x1, 0x0, 0x400C00FC, 0x0⟩]

/-- Registers of the ISLAND block. -/
def regRowsIsland : List RegRow := [
  /- ISL_STAT -/ ⟨0x400D0000, [(16, 4)], 0xFFFF003F, 0x0, 0x0, 0x0, 0x0, 0x0, 0x400DFFFC, 0x0⟩,
  /- ISL_EVENT -/ ⟨0x400D0040, [(16, 4)], 0xFF0000, 0x0, 0x0, 0x3F, 0x0, 0x0, 0x400DFFFC, 0x0⟩,
  /- ISL_LINK_ERR -/ ⟨0x400D0080, [(16, 4)], 0xFFFFFFFF, 0x0, 0x0, 0x0, 0x0, 0x0, 0x400DFFFC, 0x0⟩,
  /- ISL_CTRL -/ ⟨0x400D00C0, [(16, 4)], 0x0, 0x0, 0xFFFFF, 0x0, 0x0, 0x0, 0x400DFFFC, 0x4E20⟩,
  /- ISL_CH_CFG -/ ⟨0x400D0100, [(128, 4)], 0x7, 0x3FFFFF8, 0x0, 0x0, 0x0, 0x0, 0x400DFFFC, 0xA0300⟩,
  /- ISL_CH_STAT -/ ⟨0x400D0300, [(128, 4)], 0xFF07FF, 0x0, 0x0, 0x0, 0x0, 0x0, 0x400DFFFC, 0x6⟩,
  /- ISL_CH_EDGE -/ ⟨0x400D0500, [(128, 4)], 0xFFFFFFFF, 0x0, 0x0, 0x0, 0x0, 0x0, 0x400DFFFC, 0x0⟩,
  /- ISL_CH_COUNT -/ ⟨0x400D0700, [(128, 4)], 0xFFFFFFFF, 0x0, 0x0, 0x0, 0x0, 0x0, 0x400DFFFC, 0x0⟩,
  /- ISL_CFG_STAT -/ ⟨0x400D0900, [], 0x2, 0x0, 0x0, 0x1, 0x0, 0x0, 0x400DFFFC, 0x0⟩,
  /- ISL_CFG_EFFECT -/ ⟨0x400D0904, [], 0xFFFFFFFF, 0x0, 0x0, 0x0, 0x0, 0x0, 0x400DFFFC, 0x0⟩,
  /- ISL_LOCK -/ ⟨0x400DFFFC, [], 0x0, 0x0, 0x0, 0x0, 0x1, 0x0, 0x400DFFFC, 0x0⟩,
  /- ISL_AN_CFG -/ ⟨0x400D1000, [(128, 4)], 0x0, 0xFF000F, 0x0, 0x0, 0x0, 0x0, 0x400DFFFC, 0xB⟩,
  /- ISL_AN_STAT -/ ⟨0x400D1200, [(128, 4)], 0xFFFFFF3F, 0x0, 0x0, 0x0, 0x0, 0x0, 0x400DFFFC, 0x0⟩,
  /- ISL_AN_VALUE -/ ⟨0x400D1400, [(128, 4)], 0xFFFFFFFF, 0x0, 0x0, 0x0, 0x0, 0x0, 0x400DFFFC, 0x0⟩,
  /- ISL_AN_ZERO -/ ⟨0x400D1600, [(128, 4)], 0xFFFFFFFF, 0x0, 0x0, 0x0, 0x0, 0x0, 0x400DFFFC, 0x0⟩,
  /- ISL_AN_SPAN -/ ⟨0x400D1800, [(128, 4)], 0xFFFFFFFF, 0x0, 0x0, 0x0, 0x0, 0x0, 0x400DFFFC, 0x3F800000⟩,
  /- ISL_CAL_SEL -/ ⟨0x400D1A00, [], 0x0, 0x17F, 0x0, 0x0, 0x0, 0x0, 0x400DFFFC, 0x0⟩,
  /- ISL_CAL_REF -/ ⟨0x400D1A04, [], 0x0, 0xFFFFFFFF, 0x0, 0x0, 0x0, 0x0, 0x400DFFFC, 0x40800000⟩,
  /- ISL_CAL_MEAS -/ ⟨0x400D1A08, [], 0x0, 0xFFFFFFFF, 0x0, 0x0, 0x0, 0x0, 0x400DFFFC, 0x0⟩,
  /- ISL_CAL_CMD -/ ⟨0x400D1A0C, [], 0x0, 0x0, 0x0, 0x0, 0x0, 0xF, 0x400DFFFC, 0x0⟩,
  /- ISL_CAL_STAT -/ ⟨0x400D1A10, [], 0xF1, 0x0, 0x0, 0x2, 0x0, 0x0, 0x400DFFFC, 0x0⟩,
  /- ISL_CAL_EFFECT -/ ⟨0x400D1A14, [], 0xFFFFFFFF, 0x0, 0x0, 0x0, 0x0, 0x0, 0x400DFFFC, 0x0⟩]

/-- Registers of the FIELDLINK block. -/
def regRowsFieldlink : List RegRow := [
  /- FL_PORT_STAT -/ ⟨0x400E0000, [(8, 4)], 0x7F001F, 0x0, 0x0, 0x0, 0x0, 0x0, 0x400EFFFC, 0x0⟩,
  /- FL_PORT_CFG -/ ⟨0x400E0040, [(8, 4)], 0x0, 0x0, 0xFF01, 0x0, 0x0, 0x0, 0x400EFFFC, 0x1401⟩,
  /- FL_PORT_ERR -/ ⟨0x400E0080, [(8, 4)], 0xFFFFFFFF, 0x0, 0x0, 0x0, 0x0, 0x0, 0x400EFFFC, 0x0⟩,
  /- FL_PORT_SEEN -/ ⟨0x400E00C0, [(8, 4)], 0x3, 0x0, 0x0, 0x0, 0x0, 0x0, 0x400EFFFC, 0x0⟩,
  /- FL_PORT_SLOW -/ ⟨0x400E0100, [(8, 4)], 0xFFFFFFFF, 0x0, 0x0, 0x0, 0x0, 0x0, 0x400EFFFC, 0x0⟩,
  /- FL_EVENT -/ ⟨0x400E0300, [], 0x1FF00, 0x0, 0x0, 0x1F, 0x0, 0x0, 0x400EFFFC, 0x0⟩,
  /- FL_STN_STAT -/ ⟨0x400E0400, [(8, 256), (64, 4)], 0x3FF, 0x0, 0x0, 0x0, 0x0, 0x0, 0x400EFFFC, 0x0⟩,
  /- FL_STN_CNT -/ ⟨0x400E0C00, [(8, 256), (64, 4)], 0xFFFFFFFF, 0x0, 0x0, 0x0, 0x0, 0x0, 0x400EFFFC, 0x0⟩,
  /- FL_LOCK -/ ⟨0x400EFFFC, [], 0x0, 0x0, 0x0, 0x0, 0x1, 0x0, 0x400EFFFC, 0x0⟩]

/-- Registers of the BACKBONE block. -/
def regRowsBackbone : List RegRow := [
  /- BB_CTRL -/ ⟨0x400F0000, [], 0x0, 0x0, 0xF, 0x0, 0x0, 0x0, 0x400FFFFC, 0x2⟩,
  /- BB_PORT_STAT -/ ⟨0x400F0010, [(2, 4)], 0x3, 0x0, 0x0, 0x4, 0x0, 0x0, 0x400FFFFC, 0x0⟩,
  /- BB_PORT_CNT -/ ⟨0x400F0020, [(2, 4)], 0xFFFFFFFF, 0x0, 0x0, 0x0, 0x0, 0x0, 0x400FFFFC, 0x0⟩,
  /- BB_PORT_ERR -/ ⟨0x400F0030, [(2, 4)], 0xFFFFFFFF, 0x0, 0x0, 0x0, 0x0, 0x0, 0x400FFFFC, 0x0⟩,
  /- BB_PVID -/ ⟨0x400F0040, [(3, 4)], 0x0, 0x0, 0xFFF, 0x0, 0x0, 0x0, 0x400FFFFC, 0x1⟩,
  /- BB_VLAN -/ ⟨0x400F0100, [(64, 4)], 0x0, 0x0, 0x8003FFFF, 0x0, 0x0, 0x0, 0x400FFFFC, 0x0⟩,
  /- BB_CLASS -/ ⟨0x400F0200, [(16, 4)], 0x0, 0x0, 0x803FFFFF, 0x0, 0x0, 0x0, 0x400FFFFC, 0x0⟩,
  /- BB_CLASS_DEFAULT -/ ⟨0x400F0240, [], 0x0, 0x0, 0x8000003F, 0x0, 0x0, 0x0, 0x400FFFFC, 0x0⟩,
  /- BB_PRP_CFG -/ ⟨0x400F0300, [], 0x0, 0x0, 0xFFFFFFFF, 0x0, 0x0, 0x0, 0x400FFFFC, 0x19007D0⟩,
  /- BB_PRP_CNT -/ ⟨0x400F0304, [], 0xFFFFFFFF, 0x0, 0x0, 0x0, 0x0, 0x0, 0x400FFFFC, 0x0⟩,
  /- BB_TC_CFG -/ ⟨0x400F0380, [], 0x0, 0x0, 0x3F03, 0x0, 0x0, 0x0, 0x400FFFFC, 0x0⟩,
  /- BB_TC_STAT -/ ⟨0x400F0384, [], 0xFFFFFFFF, 0x0, 0x0, 0x0, 0x0, 0x0, 0x400FFFFC, 0x0⟩,
  /- BB_TS_ADJ -/ ⟨0x400F0390, [(2, 4)], 0x0, 0x0, 0xFFFFFFFF, 0x0, 0x0, 0x0, 0x400FFFFC, 0x0⟩,
  /- BB_WAKE_CFG -/ ⟨0x400F0400, [], 0x0, 0x0, 0xF, 0x0, 0x0, 0x0, 0x400FFFFC, 0xC⟩,
  /- BB_WAKE_SITE -/ ⟨0x400F0404, [], 0x0, 0x0, 0xFFFFFFFF, 0x0, 0x0, 0x0, 0x400FFFFC, 0x0⟩,
  /- BB_WAKE_STAT -/ ⟨0x400F0408, [], 0xFF06, 0x0, 0x0, 0x1, 0x0, 0x0, 0x400FFFFC, 0x0⟩,
  /- BB_MAC_LO -/ ⟨0x400F0410, [], 0xFFFFFFFF, 0x0, 0x0, 0x0, 0x0, 0x0, 0x400FFFFC, 0x0⟩,
  /- BB_MAC_HI -/ ⟨0x400F0414, [], 0xFFFF, 0x0, 0x0, 0x0, 0x0, 0x0, 0x400FFFFC, 0x0⟩,
  /- BB_LOCK -/ ⟨0x400FFFFC, [], 0x0, 0x0, 0x0, 0x0, 0x1, 0x0, 0x400FFFFC, 0x0⟩]

/-- Registers of the RING block. -/
def regRowsRing : List RegRow := [
  /- RING_BASE -/ ⟨0x40100000, [(64, 4)], 0x0, 0xFFFFFFC0, 0x0, 0x0, 0x0, 0x0, 0x4010FFFC, 0x0⟩,
  /- RING_BUFBASE -/ ⟨0x40100100, [(64, 4)], 0x0, 0xFFFFF800, 0x0, 0x0, 0x0, 0x0, 0x4010FFFC, 0x0⟩,
  /- RING_CFG -/ ⟨0x40100200, [(64, 4)], 0x0, 0x807F7F1F, 0x0, 0x0, 0x0, 0x0, 0x4010FFFC, 0x4⟩,
  /- RING_PROD -/ ⟨0x40100300, [(64, 4)], 0x0, 0xFFFFFFFF, 0x0, 0x0, 0x0, 0x0, 0x4010FFFC, 0x0⟩,
  /- RING_CONS -/ ⟨0x40100400, [(64, 4)], 0x0, 0xFFFFFFFF, 0x0, 0x0, 0x0, 0x0, 0x4010FFFC, 0x0⟩,
  /- RING_IRQ -/ ⟨0x40100500, [(64, 4)], 0x0, 0x87FFFFFF, 0x0, 0x0, 0x0, 0x0, 0x4010FFFC, 0x1⟩,
  /- RING_STAT -/ ⟨0x40100600, [(64, 4)], 0xFF03FFFF, 0x0, 0x0, 0x0, 0x0, 0x0, 0x4010FFFC, 0x0⟩,
  /- RING_IRQ_PEND_LO -/ ⟨0x40100700, [], 0x0, 0x0, 0x0, 0xFFFFFFFF, 0x0, 0x0, 0x4010FFFC, 0x0⟩,
  /- RING_IRQ_PEND_HI -/ ⟨0x40100704, [], 0x0, 0x0, 0x0, 0xFFFFFFFF, 0x0, 0x0, 0x4010FFFC, 0x0⟩,
  /- RING_EVENT -/ ⟨0x40100710, [], 0x3F00, 0x0, 0x0, 0x7, 0x0, 0x0, 0x4010FFFC, 0x0⟩,
  /- RING_LOCK -/ ⟨0x4010FFFC, [], 0x0, 0x0, 0x0, 0x0, 0x1, 0x0, 0x4010FFFC, 0x0⟩]

/-- Registers of the CAN block. -/
def regRowsCan : List RegRow := [
  /- CAN_CTRL -/ ⟨0x40110000, [(4, 64)], 0x0, 0x1F, 0x40, 0x0, 0x0, 0x20, 0x40110FFC, 0x10⟩,
  /- CAN_NBT -/ ⟨0x40110004, [(4, 64)], 0x0, 0x7F7FFFFF, 0x0, 0x0, 0x0, 0x0, 0x40110FFC, 0x3030E03⟩,
  /- CAN_DBT -/ ⟨0x40110008, [(4, 64)], 0x0, 0xF0F1F1F, 0x0, 0x0, 0x0, 0x0, 0x40110FFC, 0x4040D00⟩,
  /- CAN_TDC -/ ⟨0x4011000C, [(4, 64)], 0x7F00, 0x7F, 0x0, 0x0, 0x0, 0x0, 0x40110FFC, 0x0⟩,
  /- CAN_STAT -/ ⟨0x40110010, [(4, 64)], 0xFFFF0F, 0x0, 0x0, 0x0, 0x0, 0x0, 0x40110FFC, 0x0⟩,
  /- CAN_EVENT -/ ⟨0x40110014, [(4, 64)], 0x700, 0x0, 0x0, 0x3F, 0x0, 0x0, 0x40110FFC, 0x0⟩,
  /- CAN_CNT -/ ⟨0x40110018, [(4, 64)], 0xFFFFFFFF, 0x0, 0x0, 0x0, 0x0, 0x0, 0x40110FFC, 0x0⟩,
  /- CAN_ERRCNT -/ ⟨0x4011001C, [(4, 64)], 0xFFFFFFFF, 0x0, 0x0, 0x0, 0x0, 0x0, 0x40110FFC, 0x0⟩,
  /- CAN_RING -/ ⟨0x40110020, [(4, 64)], 0x0, 0x7F7F, 0x0, 0x0, 0x0, 0x0, 0x40110FFC, 0x0⟩,
  /- CAN_LOCK -/ ⟨0x40110FFC, [], 0x0, 0x0, 0x0, 0x0, 0x1, 0x0, 0x40110FFC, 0x0⟩,
  /- CAN_OBJ_CTRL -/ ⟨0x40111000, [(4, 512), (128, 4)], 0x3E004, 0x7FB, 0x0, 0x0, 0x0, 0x1800, 0x40110FFC, 0x80⟩,
  /- CAN_OBJ_ID -/ ⟨0x40111800, [(4, 512), (128, 4)], 0x0, 0xFFFFFFFF, 0x0, 0x0, 0x0, 0x0, 0x40110FFC, 0x0⟩,
  /- CAN_OBJ_MASK -/ ⟨0x40112000, [(4, 512), (128, 4)], 0x0, 0x1FFFFFFF, 0x0, 0x0, 0x0, 0x0, 0x40110FFC, 0x1FFFFFFF⟩,
  /- CAN_OBJ_STAT -/ ⟨0x40112800, [(4, 512), (128, 4)], 0xFFFFFF7F, 0x0, 0x0, 0x0, 0x0, 0x0, 0x40110FFC, 0x0⟩,
  /- CAN_OBJ_DATA -/ ⟨0x40118000, [(4, 8192), (128, 64), (16, 4)], 0x0, 0xFFFFFFFF, 0x0, 0x0, 0x0, 0x0, 0x40110FFC, 0x0⟩]

/-- Registers of the TIME block. -/
def regRowsTime : List RegRow := [
  /- TIME_STAT -/ ⟨0x40080000, [], 0x7F, 0x0, 0x0, 0x0, 0x0, 0x0, 0x4008FFFC, 0x0⟩,
  /- TIME_NS -/ ⟨0x40080004, [], 0x3FFFFFFF, 0x0, 0x0, 0x0, 0x0, 0x0, 0x4008FFFC, 0x0⟩,
  /- TIME_SEC_LO -/ ⟨0x40080008, [], 0xFFFFFFFF, 0x0, 0x0, 0x0, 0x0, 0x0, 0x4008FFFC, 0x0⟩,
  /- TIME_SEC_HI -/ ⟨0x4008000C, [], 0xFFFF, 0x0, 0x0, 0x0, 0x0, 0x0, 0x4008FFFC, 0x0⟩,
  /- TIME_RATE -/ ⟨0x40080010, [], 0x0, 0xFFFFFFFF, 0x0, 0x0, 0x0, 0x0, 0x4008FFFC, 0x0⟩,
  /- TIME_ADJ_LO -/ ⟨0x40080014, [], 0x0, 0xFFFFFFFF, 0x0, 0x0, 0x0, 0x0, 0x4008FFFC, 0x0⟩,
  /- TIME_ADJ_HI -/ ⟨0x40080018, [], 0x0, 0xFFFFFFFF, 0x0, 0x0, 0x0, 0x0, 0x4008FFFC, 0x0⟩,
  /- TIME_CMD -/ ⟨0x4008001C, [], 0x100, 0x0, 0x0, 0x0, 0x0, 0x3F, 0x4008FFFC, 0x0⟩,
  /- TIME_CFG -/ ⟨0x40080020, [], 0x0, 0x0, 0x1FFFFFFF, 0x0, 0x0, 0x0, 0x4008FFFC, 0x64003E8⟩,
  /- TIME_HOLD -/ ⟨0x40080024, [], 0x0, 0x0, 0xFFFF, 0x0, 0x0, 0x0, 0x4008FFFC, 0xBB8⟩,
  /- TIME_PEND_LO -/ ⟨0x40080028, [], 0xFFFFFFFF, 0x0, 0x0, 0x0, 0x0, 0x0, 0x4008FFFC, 0x0⟩,
  /- TIME_PEND_HI -/ ⟨0x4008002C, [], 0xFFFFFFFF, 0x0, 0x0, 0x0, 0x0, 0x0, 0x4008FFFC, 0x0⟩,
  /- TIME_SLEW_REM -/ ⟨0x40080030, [], 0xFFFFFFFF, 0x0, 0x0, 0x0, 0x0, 0x0, 0x4008FFFC, 0x0⟩,
  /- TIME_EVENT -/ ⟨0x40080034, [], 0x0, 0x0, 0x0, 0x1F, 0x0, 0x0, 0x4008FFFC, 0x0⟩,
  /- TIME_LIN_LO -/ ⟨0x40080038, [], 0xFFFFFFFF, 0x0, 0x0, 0x0, 0x0, 0x0, 0x4008FFFC, 0x0⟩,
  /- TIME_LIN_HI -/ ⟨0x4008003C, [], 0xFFFFFFFF, 0x0, 0x0, 0x0, 0x0, 0x0, 0x4008FFFC, 0x0⟩,
  /- DRIP_TGT_LO -/ ⟨0x40080100, [(64, 4)], 0x0, 0xFFFFFFFF, 0x0, 0x0, 0x0, 0x0, 0x4008FFFC, 0x0⟩,
  /- DRIP_TGT_HI -/ ⟨0x40080200, [(64, 4)], 0x0, 0xFF, 0x0, 0x0, 0x0, 0x0, 0x4008FFFC, 0x0⟩,
  /- DRIP_CTRL -/ ⟨0x40080300, [(64, 4)], 0xC, 0x10, 0x0, 0x60, 0x0, 0x3, 0x4008FFFC, 0x0⟩,
  /- DRIP_PER_LO -/ ⟨0x40080400, [(64, 4)], 0x0, 0xFFFFFFFF, 0x0, 0x0, 0x0, 0x0, 0x4008FFFC, 0x0⟩,
  /- DRIP_PER_HI -/ ⟨0x40080500, [(64, 4)], 0x0, 0xFF, 0x0, 0x0, 0x0, 0x0, 0x4008FFFC, 0x0⟩,
  /- DRIP_PEND_LO -/ ⟨0x40080600, [], 0x0, 0x0, 0x0, 0xFFFFFFFF, 0x0, 0x0, 0x4008FFFC, 0x0⟩,
  /- DRIP_PEND_HI -/ ⟨0x40080604, [], 0x0, 0x0, 0x0, 0xFFFFFFFF, 0x0, 0x0, 0x4008FFFC, 0x0⟩,
  /- CAP_CFG -/ ⟨0x40080700, [(16, 4)], 0x0, 0x7F, 0x0, 0x0, 0x0, 0x0, 0x4008FFFC, 0x4⟩,
  /- CAP_STAT -/ ⟨0x40080740, [(16, 4)], 0xFFFF0009, 0x0, 0x0, 0x6, 0x0, 0x0, 0x4008FFFC, 0x0⟩,
  /- CAP_TIME_LO -/ ⟨0x40080780, [(16, 4)], 0xFFFFFFFF, 0x0, 0x0, 0x0, 0x0, 0x0, 0x4008FFFC, 0x0⟩,
  /- CAP_TIME_HI -/ ⟨0x400807C0, [(16, 4)], 0xFFFFFFFF, 0x0, 0x0, 0x0, 0x0, 0x0, 0x4008FFFC, 0x0⟩,
  /- TIME_LOCK -/ ⟨0x4008FFFC, [], 0x0, 0x0, 0x0, 0x0, 0x1, 0x0, 0x4008FFFC, 0x0⟩]

/-- Registers of the GUARD block. -/
def regRowsGuard : List RegRow := [
  /- GUARD_CTRL -/ ⟨0x40060000, [(16, 4)], 0x0, 0x0, 0x7, 0x0, 0x0, 0x0, 0x4006FFFC, 0x3⟩,
  /- GUARD_STAT -/ ⟨0x40060040, [(14, 4)], 0xFFFF01, 0x0, 0x0, 0x0, 0x0, 0x0, 0x4006FFFC, 0x0⟩,
  /- GUARD_FAULTS -/ ⟨0x40060080, [(14, 4)], 0xFFFFFFFF, 0x0, 0x0, 0x0, 0x0, 0x0, 0x4006FFFC, 0x0⟩,
  /- GUARD_FAULT_ADDR -/ ⟨0x400600C0, [(14, 4)], 0xFFFFFFFF, 0x0, 0x0, 0x0, 0x0, 0x0, 0x4006FFFC, 0x0⟩,
  /- GUARD_FAULT_INFO -/ ⟨0x40060100, [(14, 4)], 0xF1F37F, 0x0, 0x0, 0xC0000000, 0x0, 0x0, 0x4006FFFC, 0x0⟩,
  /- GUARD_RGN_BASE -/ ⟨0x40060400, [(14, 128), (16, 8)], 0x0, 0xFFFFFFE0, 0x0, 0x0, 0x0, 0x0, 0x4006FFFC, 0x0⟩,
  /- GUARD_RGN_ATTR -/ ⟨0x40060404, [(14, 128), (16, 8)], 0x0, 0xFF013F3F, 0x0, 0x0, 0x800000, 0x0, 0x4006FFFC, 0xFF000500⟩,
  /- GUARD_LOCK -/ ⟨0x4006FFFC, [], 0x0, 0x0, 0x0, 0x0, 0x1, 0x0, 0x4006FFFC, 0x0⟩]

/-- Registers of the SUMP block. -/
def regRowsSump : List RegRow := [
  /- SUMP_SRC -/ ⟨0x40040000, [(256, 4)], 0x6, 0x0, 0x1F70, 0x2001, 0x0, 0x8, 0x4004FFFC, 0x0⟩,
  /- SUMP_CNT -/ ⟨0x40040400, [(256, 4)], 0xFFFF, 0x0, 0x0, 0x0, 0x0, 0x0, 0x4004FFFC, 0x0⟩,
  /- SUMP_DETAIL -/ ⟨0x40040800, [(256, 4)], 0x8000FFFF, 0x0, 0x0, 0x0, 0x0, 0x0, 0x4004FFFC, 0x0⟩,
  /- SUMP_FLAGS -/ ⟨0x40040C00, [(8, 4)], 0xFFFFFFFF, 0x0, 0x0, 0x0, 0x0, 0x0, 0x4004FFFC, 0x0⟩,
  /- SUMP_TOP -/ ⟨0x40040C20, [], 0x800007FF, 0x0, 0x0, 0x0, 0x0, 0x0, 0x4004FFFC, 0x0⟩,
  /- SUMP_CTRL -/ ⟨0x40040C24, [], 0x0, 0x0, 0xF, 0x0, 0x0, 0x0, 0x4004FFFC, 0x6⟩,
  /- SUMP_LOCK -/ ⟨0x4004FFFC, [], 0x0, 0x0, 0x0, 0x0, 0x1, 0x0, 0x4004FFFC, 0x0⟩]

/-- Registers of the FLOWSTONE block. -/
def regRowsFlowstone : List RegRow := [
  /- FLS_STAT -/ ⟨0x40050000, [], 0x7F03, 0x0, 0x0, 0x30000, 0x0, 0x0, 0x4005FFFC, 0x0⟩,
  /- FLS_HEAD_SEQ -/ ⟨0x40050004, [], 0xFFFFFFFF, 0x0, 0x0, 0x0, 0x0, 0x0, 0x4005FFFC, 0x0⟩,
  /- FLS_HEAD_OFF -/ ⟨0x40050008, [], 0xFFFFFFFF, 0x0, 0x0, 0x0, 0x0, 0x0, 0x4005FFFC, 0x0⟩,
  /- FLS_TAIL_SEQ -/ ⟨0x4005000C, [], 0xFFFFFFFF, 0x0, 0x0, 0x0, 0x0, 0x0, 0x4005FFFC, 0x0⟩,
  /- FLS_TAIL_OFF -/ ⟨0x40050010, [], 0xFFFFFFFF, 0x0, 0x0, 0x0, 0x0, 0x0, 0x4005FFFC, 0x0⟩,
  /- FLS_LOST -/ ⟨0x40050014, [], 0xFFFFFFFF, 0x0, 0x0, 0x0, 0x0, 0x0, 0x4005FFFC, 0x0⟩,
  /- FLS_OPTIME_LO -/ ⟨0x40050018, [], 0xFFFFFFFF, 0x0, 0x0, 0x0, 0x0, 0x0, 0x4005FFFC, 0x0⟩,
  /- FLS_OPTIME_HI -/ ⟨0x4005001C, [], 0xFFFF, 0x0, 0x0, 0x0, 0x0, 0x0, 0x4005FFFC, 0x0⟩,
  /- FLS_CTRL -/ ⟨0x40050020, [], 0x0, 0x0, 0x1, 0x4, 0x0, 0xFFFF0002, 0x4005FFFC, 0x1⟩,
  /- FLS_SEEK -/ ⟨0x40050024, [], 0x0, 0x0, 0x0, 0x0, 0x0, 0xFFFFFFFF, 0x4005FFFC, 0x0⟩,
  /- FLS_SEEK_OFF -/ ⟨0x40050028, [], 0xC0FFFFFF, 0x0, 0x0, 0x0, 0x0, 0x0, 0x4005FFFC, 0x0⟩,
  /- FLS_WTYPE -/ ⟨0x40050030, [], 0x0, 0x3FFF, 0x0, 0x0, 0x0, 0x0, 0x4005FFFC, 0x103⟩,
  /- FLS_WKEY -/ ⟨0x40050034, [], 0x0, 0xFFFFFFFF, 0x0, 0x0, 0x0, 0x0, 0x4005FFFC, 0x0⟩,
  /- FLS_WCMD -/ ⟨0x40050038, [], 0x6, 0x0, 0x0, 0x0, 0x0, 0x1, 0x4005FFFC, 0x0⟩,
  /- FLS_WBUF -/ ⟨0x40050100, [(246, 4)], 0x0, 0xFFFFFFFF, 0x0, 0x0, 0x0, 0x0, 0x4005FFFC, 0x0⟩,
  /- FLS_LOCK -/ ⟨0x4005FFFC, [], 0x0, 0x0, 0x0, 0x0, 0x1, 0x0, 0x4005FFFC, 0x0⟩]

/-- Registers of the POWER block. -/
def regRowsPower : List RegRow := [
  /- PWR_STAT -/ ⟨0x40030000, [], 0x1FFF, 0x0, 0x0, 0x0, 0x0, 0x0, 0x4003FFFC, 0x0⟩,
  /- PWR_SUPPLY -/ ⟨0x40030004, [], 0xFFFFFFFF, 0x0, 0x0, 0x0, 0x0, 0x0, 0x4003FFFC, 0x0⟩,
  /- PWR_TEMP -/ ⟨0x40030008, [], 0xFFFFFFFF, 0x0, 0x0, 0x0, 0x0, 0x0, 0x4003FFFC, 0x0⟩,
  /- PWR_SQZ_CFG -/ ⟨0x40030010, [], 0x0, 0x0, 0x7FF, 0x0, 0x0, 0x0, 0x4003FFFC, 0x432⟩,
  /- PWR_SQZ_CNT -/ ⟨0x40030014, [], 0xFFFFFFFF, 0x0, 0x0, 0x0, 0x0, 0x0, 0x4003FFFC, 0x0⟩,
  /- PWR_SQZ_TIME -/ ⟨0x40030018, [], 0xFFFFFFFF, 0x0, 0x0, 0x0, 0x0, 0x0, 0x4003FFFC, 0x0⟩,
  /- PWR_HIB_CMD -/ ⟨0x40030020, [], 0x0, 0x0, 0x0, 0x0, 0x0, 0xFFFF0001, 0x4003FFFC, 0x0⟩,
  /- PWR_HIB_STAT -/ ⟨0x40030024, [], 0xFFFF077F, 0x0, 0x0, 0x0, 0x0, 0x0, 0x4003FFFC, 0x0⟩,
  /- PWR_REFUSE_CNT_A -/ ⟨0x40030028, [], 0xFFFFFFFF, 0x0, 0x0, 0x0, 0x0, 0x0, 0x4003FFFC, 0x0⟩,
  /- PWR_REFUSE_CNT_B -/ ⟨0x4003002C, [], 0xFFFFFF, 0x0, 0x0, 0x0, 0x0, 0x0, 0x4003FFFC, 0x0⟩,
  /- PWR_WAKE_CFG -/ ⟨0x40030030, [], 0x0, 0x0, 0x1, 0x0, 0x0, 0x0, 0x4003FFFC, 0x1⟩,
  /- PWR_WAKE_STAT -/ ⟨0x40030034, [], 0xFFFF01FF, 0x0, 0x0, 0x0, 0x0, 0x0, 0x4003FFFC, 0x0⟩,
  /- PWR_LOCK -/ ⟨0x4003FFFC, [], 0x0, 0x0, 0x0, 0x0, 0x1, 0x0, 0x4003FFFC, 0x0⟩]

/-- Registers of the SECURITY block. -/
def regRowsSecurity : List RegRow := [
  /- SEC_STATUS -/ ⟨0x40070000, [], 0x1FF, 0x0, 0x0, 0x0, 0x0, 0x0, 0x4007FFFC, 0x0⟩,
  /- SEC_SVY_KEY -/ ⟨0x40070010, [(8, 4)], 0xF, 0x0, 0x0, 0x0, 0x0, 0x0, 0x4007FFFC, 0x0⟩,
  /- SEC_SYS_KEY -/ ⟨0x40070030, [], 0x3FFFF, 0x0, 0x0, 0x0, 0x0, 0x0, 0x4007FFFC, 0x0⟩,
  /- SEC_SECVER -/ ⟨0x40070040, [(5, 4)], 0xFF, 0x0, 0x0, 0x0, 0x0, 0x0, 0x4007FFFC, 0x0⟩,
  /- SEC_LC_CMD -/ ⟨0x40070080, [], 0x0, 0x0, 0x0, 0x8, 0x0, 0xFFFF0007, 0x4007FFFC, 0x0⟩,
  /- SEC_PROV -/ ⟨0x40070084, [], 0x40, 0x0, 0x0, 0x20, 0x0, 0xFFFF001F, 0x4007FFFC, 0x0⟩,
  /- SEC_PROV_ADDR -/ ⟨0x40070088, [], 0x0, 0xFFFFFFFF, 0x0, 0x0, 0x0, 0x0, 0x4007FFFC, 0x0⟩,
  /- SEC_REVOKE -/ ⟨0x4007008C, [], 0x0, 0x0, 0x0, 0x20, 0x0, 0xFFFF001F, 0x4007FFFC, 0x0⟩,
  /- SEC_AUTH_CNT -/ ⟨0x40070090, [], 0x3FF00FF, 0x0, 0x0, 0x0, 0x0, 0x0, 0x4007FFFC, 0x0⟩,
  /- SEC_ENG -/ ⟨0x40070094, [], 0xFFFFFFFF, 0x0, 0x0, 0x0, 0x0, 0x0, 0x4007FFFC, 0x0⟩,
  /- SEC_ENG_PEER -/ ⟨0x40070098, [], 0xFFFFFFFF, 0x0, 0x0, 0x0, 0x0, 0x0, 0x4007FFFC, 0x0⟩,
  /- SEC_ERASE -/ ⟨0x4007009C, [], 0xF, 0x0, 0x0, 0x0, 0x0, 0x0, 0x4007FFFC, 0x0⟩,
  /- SEC_LOCK -/ ⟨0x4007FFFC, [], 0x0, 0x0, 0x0, 0x0, 0x1, 0x0, 0x4007FFFC, 0x0⟩]

/-- Registers of the UPDATE block. -/
def regRowsUpdate : List RegRow := [
  /- UPD_STAT -/ ⟨0x40120000, [], 0x3FF, 0x0, 0x0, 0x0, 0x0, 0x0, 0x4012FFFC, 0x0⟩,
  /- UPD_SLOT -/ ⟨0x40120010, [(2, 4)], 0xFFFF07FF, 0x0, 0x0, 0x0, 0x0, 0x0, 0x4012FFFC, 0xFF⟩,
  /- UPD_COMP_VER -/ ⟨0x40120020, [(5, 4)], 0xFFFFFFFF, 0x0, 0x0, 0x0, 0x0, 0x0, 0x4012FFFC, 0x0⟩,
  /- UPD_XFER_ADDR -/ ⟨0x40120040, [], 0x0, 0xFFFFFFFF, 0x0, 0x0, 0x0, 0x0, 0x4012FFFC, 0x0⟩,
  /- UPD_XFER_LEN -/ ⟨0x40120044, [], 0x0, 0xFFFFF, 0x0, 0x0, 0x0, 0x0, 0x4012FFFC, 0x0⟩,
  /- UPD_CMD -/ ⟨0x40120048, [], 0xC0, 0x0, 0x0, 0x0, 0x0, 0xFFFF003F, 0x4012FFFC, 0x0⟩,
  /- UPD_REASON -/ ⟨0x4012004C, [], 0xFF, 0x0, 0x0, 0x0, 0x0, 0x0, 0x4012FFFC, 0x0⟩,
  /- UPD_HEALTH -/ ⟨0x40120050, [], 0xFFC2, 0x0, 0x0, 0x0, 0x0, 0xFFFF0001, 0x4012FFFC, 0x0⟩,
  /- UPD_ISL_CMD -/ ⟨0x40120060, [], 0x0, 0x0, 0x0, 0x20, 0x0, 0xFFFF001F, 0x4012FFFC, 0x0⟩,
  /- UPD_ISL_STAT -/ ⟨0x40120064, [], 0xFFFF007F, 0x0, 0x0, 0x0, 0x0, 0x0, 0x4012FFFC, 0x0⟩,
  /- UPD_ISL_BANK -/ ⟨0x40120068, [], 0xFFFF, 0x0, 0x0, 0x0, 0x0, 0x0, 0x4012FFFC, 0x0⟩,
  /- UPD_ISL_VER -/ ⟨0x40120080, [(16, 4)], 0xFFFFFFFF, 0x0, 0x0, 0x0, 0x0, 0x0, 0x4012FFFC, 0x0⟩,
  /- UPD_FLASH -/ ⟨0x401200C0, [], 0xFFFFFFFF, 0x0, 0x0, 0x0, 0x0, 0x0, 0x4012FFFC, 0x0⟩,
  /- UPD_LOCK -/ ⟨0x4012FFFC, [], 0x0, 0x0, 0x0, 0x0, 0x1, 0x0, 0x4012FFFC, 0x0⟩]

/-- Registers of the TESTPERT block. -/
def regRowsTestpert : List RegRow := [
  /- TP_STAT -/ ⟨0x40130000, [], 0x77F, 0x0, 0x0, 0x0, 0x0, 0x0, 0x4013FFFC, 0x0⟩,
  /- TP_CMD -/ ⟨0x40130004, [], 0x0, 0x0, 0x0, 0x0, 0x0, 0xFFFF00FF, 0x4013FFFC, 0x0⟩,
  /- TP_LL -/ ⟨0x40130010, [], 0x0, 0x3FF, 0x0, 0x0, 0x0, 0x0, 0x4013FFFC, 0x0⟩,
  /- TP_RING_LO -/ ⟨0x40130014, [], 0x0, 0xFFFFFFFF, 0x0, 0x0, 0x0, 0x0, 0x4013FFFC, 0x0⟩,
  /- TP_RING_HI -/ ⟨0x40130018, [], 0x0, 0xFFFFFFFF, 0x0, 0x0, 0x0, 0x0, 0x4013FFFC, 0x0⟩,
  /- TP_ISL -/ ⟨0x40130020, [], 0x0, 0xFF7FFFF, 0x0, 0x0, 0x0, 0x0, 0x4013FFFC, 0x100000⟩,
  /- TP_FL -/ ⟨0x40130024, [], 0x0, 0xFF007FF, 0x0, 0x0, 0x0, 0x0, 0x4013FFFC, 0x100000⟩,
  /- TP_COUNT_LIMIT -/ ⟨0x40130028, [], 0x0, 0xFFFFFFFF, 0x0, 0x0, 0x0, 0x0, 0x4013FFFC, 0x0⟩,
  /- TP_DRIP_LO -/ ⟨0x40130030, [], 0x0, 0xFFFFFFFF, 0x0, 0x0, 0x0, 0x0, 0x4013FFFC, 0x0⟩,
  /- TP_DRIP_HI -/ ⟨0x40130034, [], 0x0, 0xFFFFFFFF, 0x0, 0x0, 0x0, 0x0, 0x4013FFFC, 0x0⟩,
  /- TP_DRIP_J -/ ⟨0x40130038, [], 0x0, 0x7FFF, 0x0, 0x0, 0x0, 0x0, 0x4013FFFC, 0x4000⟩,
  /- TP_SQZ -/ ⟨0x4013003C, [], 0x0, 0x3, 0x0, 0x0, 0x0, 0x0, 0x4013FFFC, 0x1⟩,
  /- TP_DURATION -/ ⟨0x40130040, [], 0x0, 0x0, 0xFFF, 0x0, 0x0, 0x0, 0x4013FFFC, 0x3C⟩,
  /- TP_CNT -/ ⟨0x40130044, [], 0xFFFFFFFF, 0x0, 0x0, 0x0, 0x0, 0x0, 0x4013FFFC, 0x0⟩,
  /- TP_LOCK -/ ⟨0x4013FFFC, [], 0x0, 0x0, 0x0, 0x0, 0x1, 0x0, 0x4013FFFC, 0x0⟩]

/-- Registers of the IDENT block. (DEDUCED, log entry 14.) -/
def regRowsIdent : List RegRow := [
  /- IDENT_DEVICE -/ ⟨0x40000000, [], 0xFFFFFF, 0x0, 0x0, 0x0, 0x0, 0x0, 0x0, 0x17400⟩,
  /- IDENT_REVISION -/ ⟨0x40000004, [], 0xFFFFFF, 0x0, 0x0, 0x0, 0x0, 0x0, 0x0, 0x10100⟩,
  /- IDENT_SERIAL_LO -/ ⟨0x40000008, [], 0xFFFFFFFF, 0x0, 0x0, 0x0, 0x0, 0x0, 0x0, 0x0⟩,
  /- IDENT_SERIAL_HI -/ ⟨0x4000000C, [], 0xFFFFFFFF, 0x0, 0x0, 0x0, 0x0, 0x0, 0x0, 0x0⟩,
  /- IDENT_IDCODE -/ ⟨0x40000010, [], 0xFFFFFFFF, 0x0, 0x0, 0x0, 0x0, 0x0, 0x0, 0x17400E79⟩,
  /- IDENT_PARAM_A -/ ⟨0x40000020, [], 0xF7F1F7F, 0x0, 0x0, 0x0, 0x0, 0x0, 0x0, 0xA481050⟩,
  /- IDENT_PARAM_B -/ ⟨0x40000024, [], 0x1FFFFF, 0x0, 0x0, 0x0, 0x0, 0x0, 0x0, 0x104040⟩,
  /- IDENT_PARAM_C -/ ⟨0x40000028, [], 0xFFFFFFFF, 0x0, 0x0, 0x0, 0x0, 0x0, 0x0, 0x800200⟩,
  /- IDENT_PARAM_D -/ ⟨0x4000002C, [], 0x1FFFFF, 0x0, 0x0, 0x0, 0x0, 0x0, 0x0, 0x104030⟩,
  /- IDENT_UNMAPPED_ADDR -/ ⟨0x40000040, [], 0xFFFFFFFF, 0x0, 0x0, 0x0, 0x0, 0x0, 0x0, 0x0⟩,
  /- IDENT_UNMAPPED -/ ⟨0x40000044, [], 0xFF003F, 0x0, 0x0, 0xC0000000, 0x0, 0x0, 0x0, 0x0⟩]

/-- The register blocks and their rows, in address order (R464). -/
def regBlocks : List (Nat × List RegRow) := [
  (0x40000000, regRowsIdent),
  (0x40010000, regRowsClock),
  (0x40020000, regRowsReset),
  (0x40030000, regRowsPower),
  (0x40040000, regRowsSump),
  (0x40050000, regRowsFlowstone),
  (0x40060000, regRowsGuard),
  (0x40070000, regRowsSecurity),
  (0x40080000, regRowsTime),
  (0x40090000, regRowsGallery),
  (0x400A0000, regRowsSurvey),
  (0x400B0000, regRowsLockstep),
  (0x400C0000, regRowsPair),
  (0x400D0000, regRowsIsland),
  (0x400E0000, regRowsFieldlink),
  (0x400F0000, regRowsBackbone),
  (0x40100000, regRowsRing),
  (0x40110000, regRowsCan),
  (0x40120000, regRowsUpdate),
  (0x40130000, regRowsTestpert),
  (0x40140000, regRowsCfgstore)]

end Sys2Proof.Machine
end

