-- ==== Sys2Proof/Machine/Sources.lean ====
section
/-! DEFINITION. The Sump sources by name (R378), their default severity, kind and reaction mask (R379), and the reset values of the
registers (R7, R71). -/
namespace Sys2Proof.Machine

def Src.CLK_REF_LOST : Nat := 0
def Src.CLK_MON_WARN : Nat := 1
def Src.GATE_QUIESCE : Nat := 2
def Src.RST_BAD_KEY : Nat := 3
def Src.FW_VERIFY : Nat := 4
def Src.CFG_STORE_FAIL : Nat := 5
def Src.STORE_GEN_AHEAD : Nat := 6
def Src.STORE_CONFLICT : Nat := 7
def Src.CFG_NO_SURVEY : Nat := 8
def Src.TRIM_COPY : Nat := 9
def Src.PWR_INPUT_LOW : Nat := 16
def Src.PWR_HOLDUP : Nat := 17
def Src.PWR_HOLDUP_DEGRADED : Nat := 18
def Src.PWR_SQUEEZE : Nat := 19
def Src.PWR_RAIL : Nat := 20
def Src.PWR_TEMP_HIGH : Nat := 21
def Src.PWR_HIB_REFUSED : Nat := 22
def Src.PWR_WAKE_RETRY : Nat := 23
def Src.SEC_COVER_OPEN : Nat := 32
def Src.SEC_AUTH_FAIL : Nat := 33
def Src.SEC_DEBUG_SESSION : Nat := 34
def Src.SEC_LIFECYCLE : Nat := 35
def Src.SEC_KEY_FAULT : Nat := 36
def Src.SURVEY_REJECT : Nat := 48
def Src.SURVEY_BANK_WRITE : Nat := 49
def Src.SURVEY_ECC_UE_INACTIVE : Nat := 50
def Src.SURVEY_ECC_UE_ACTIVE : Nat := 51
def Src.COMMIT_BUDGET : Nat := 52
def Src.TASK_OVERRUN : Nat := 53
def Src.TASK_SKIPPED : Nat := 54
def Src.TASK_HOLD : Nat := 55
def Src.OLC_ABORT : Nat := 56
def Src.SWAP_FAIL : Nat := 57
def Src.FORCE_STORE : Nat := 58
def Src.FORCE_SUSPENDED : Nat := 59
def Src.GALLERY_TRAP : Nat := 80
def Src.INSTANCE_UE : Nat := 81
def Src.LANE_MISMATCH : Nat := 82
def Src.CHAMBER_FAILED : Nat := 83
def Src.CHAMBER_RELOCATED : Nat := 84
def Src.CHAMBER_MM_RATE : Nat := 85
def Src.STAGING_UE : Nat := 86
def Src.JOURNAL_UE : Nat := 87
def Src.ASYNC_DISCREPANCY : Nat := 88
def Src.LIFELINE_DOWN : Nat := 112
def Src.PAIR_LANE_DOWN : Nat := 113
def Src.PAIR_VERSION : Nat := 114
def Src.PAIR_SLOT_CONFLICT : Nat := 115
def Src.PAIR_FAULT : Nat := 116
def Src.PAIR_YIELD : Nat := 117
def Src.PAIR_REJOIN_LIMIT : Nat := 118
def Src.PAIR_JOIN_FAIL : Nat := 119
def Src.ISL_LINK_LOST : Nat := 128
def Src.ISL_CTRL_FAIL : Nat := 129
def Src.ISL_SUPPLY_WARN : Nat := 130
def Src.ISL_SUPPLY_LOCKOUT : Nat := 131
def Src.ISL_GROUP_SHED : Nat := 132
def Src.ISL_AI_FOLDBACK : Nat := 133
def Src.ISL_AI_OVERLAP : Nat := 134
def Src.ISL_AO_STEP_UP : Nat := 135
def Src.FL_STATION_LOST : Nat := 160
def Src.FL_STATION_BACK : Nat := 161
def Src.FL_STATION_RESTART : Nat := 162
def Src.FL_REPLY_LATE : Nat := 163
def Src.FL_RING_BREAK : Nat := 164
def Src.FL_LINK_DOWN : Nat := 165
def Src.FL_STATUS_RESERVED : Nat := 166
def Src.BB_LINK_DOWN : Nat := 176
def Src.BB_PRP_WRONG_LAN : Nat := 177
def Src.RING_DROP : Nat := 178
def Src.RING_PROTOCOL : Nat := 179
def Src.CAN_ERR_WARN : Nat := 192
def Src.CAN_ERR_PASSIVE : Nat := 193
def Src.CAN_BUS_OFF : Nat := 194
def Src.TIME_HOLDOVER : Nat := 200
def Src.TIME_JUMP_REFUSED : Nat := 201
def Src.DRIP_LATE : Nat := 202
def Src.GUARD_INIT_FAULT : Nat := 208
def Src.GUARD_TGT_FAULT : Nat := 209
def Src.GUARD_DRAIN : Nat := 210
def Src.FLS_OVERFLOW : Nat := 216
def Src.FLS_UE : Nat := 217
def Src.UPD_REFUSED : Nat := 224
def Src.UPD_VERIFY : Nat := 225
def Src.UPD_FALLBACK : Nat := 226
def Src.UPD_ISLAND_FAIL : Nat := 227
def Src.UPD_FLASH_UE : Nat := 228
def Src.TP_ACTIVE : Nat := 232
def Src.TP_REFUSED : Nat := 233
/-- FW_EVENT_0; FW_EVENT_x is source 240 + x. -/
def Src.FW_EVENT : Nat := 240

/-- Source, default severity and whether it is a level source, in source order (R378), for the sources below 240. -/
def sumpSources : List (Nat × Nat × Bool) := [
  (0, 3, false), (1, 3, false), (2, 2, false), (3, 2, false), (4, 4, false), (5, 5, false), (6, 5, false), (7, 5, false),
  (8, 5, false), (9, 2, false), (16, 2, true), (17, 3, true), (18, 4, true), (19, 1, true), (20, 4, false), (21, 4, true),
  (22, 1, false), (23, 3, false), (32, 4, true), (33, 3, false), (34, 2, true), (35, 3, false), (36, 6, false), (48, 4, false),
  (49, 3, false), (50, 4, false), (51, 7, false), (52, 3, false), (53, 3, false), (54, 2, false), (55, 4, false), (56, 2, false),
  (57, 7, false), (58, 3, false), (59, 3, true), (80, 4, false), (81, 7, false), (82, 1, false), (83, 7, false), (84, 4, false),
  (85, 4, false), (86, 3, false), (87, 7, false), (88, 3, false), (112, 4, true), (113, 2, true), (114, 4, false), (115, 4, false),
  (116, 3, false), (117, 4, true), (118, 4, false), (119, 4, false), (128, 4, true), (129, 3, false), (130, 2, true), (131, 4, true),
  (132, 3, false), (133, 3, true), (134, 2, false), (135, 2, true), (160, 4, true), (161, 1, false), (162, 2, false), (163, 1, false),
  (164, 3, true), (165, 3, true), (166, 2, false), (176, 2, true), (177, 2, false), (178, 1, false), (179, 2, false), (192, 1, true),
  (193, 2, true), (194, 3, true), (200, 2, true), (201, 3, true), (202, 1, false), (208, 3, false), (209, 3, false), (210, 3, false),
  (216, 2, false), (217, 3, false), (224, 2, false), (225, 3, false), (226, 4, false), (227, 3, false), (228, 4, false), (232, 2, true),
  (233, 1, false)]

/-- Default severity and level kind of source `s`; none for a reserved number (R377). -/
def sumpSource (s : Nat) : Option (Nat × Bool) :=
  if 240 ≤ s ∧ s < 256 then some (3, false)
  else (sumpSources.find? fun p => p.1 == s).map fun p => p.2

/-- The default reaction mask of a severity as bits 12:8 of SUMP_SRC: IRQ, NMI, BLOCK_RESET, MODULE_RESET, ERR_PIN (R379). -/
def sumpDefaultMask (severity : Nat) : BitVec 32 :=
  if severity = 0 then 0
  else if severity ≤ 4 then 0x100
  else if severity = 5 then 0x1100
  else 0x1200

/-- The reset value of SUMP_SRC[s]: KIND, SEVERITY and the mask per source (R378, R379). -/
def sumpSrcReset (s : Nat) : BitVec 32 :=
  match sumpSource s with
  | none => 0
  | some (sev, lvl) => (if lvl then 4 else 0) ||| (BitVec.ofNat 32 sev <<< 4) ||| sumpDefaultMask sev

/-- Whether an offset from a register's first instance is one of its instances. -/
def dimsMatch : List (Nat × Nat) → Nat → Bool
  | [], o => o == 0
  | (n, st) :: ds, o => decide (o / st < n) && dimsMatch ds (o % st)

/-- Whether a register exists at an address of its row: guards 6, 7, 14 and 15 are reserved (R363), and so are gates 50 to 63 (R76)
and the Sump numbers that R378 does not name (R377). -/
def regPresent (a : Nat) : Bool :=
  if 0x40060000 ≤ a ∧ a < 0x40060140 then
    let u := (a % 0x40) / 4
    u < 6 || (8 ≤ u && u < 14)
  else if 0x40060400 ≤ a ∧ a < 0x40060C00 then
    let u := (a - 0x40060400) / 128
    u < 6 || (8 ≤ u && u < 14)
  else if 0x400201C8 ≤ a ∧ a < 0x40020200 then false
  else if 0x40040000 ≤ a ∧ a < 0x40040C00 then (sumpSource ((a % 0x400) / 4)).isSome
  else true

/-- The row of the register at an address, if there is one. -/
def regFind (a : Nat) : Option RegRow :=
  if a % 4 = 0 ∧ regPresent a = true then
    match regBlocks.find? fun b => b.1 == a / 65536 * 65536 with
    | none => none
    | some (_, rows) => rows.find? fun r => decide (r.base ≤ a) && dimsMatch r.dims (a - r.base)
  else none

/-- The reset value of the register at an address; 0 where there is none. -/
def regReset (a : Nat) : BitVec 32 :=
  if 0x40040000 ≤ a ∧ a < 0x40040400 ∧ a % 4 = 0 then sumpSrcReset ((a - 0x40040000) / 4)
  else
    match regFind a with
    | none => 0
    | some r => r.reset

end Sys2Proof.Machine
end

