-- ==== Sys2Proof/Machine/State.lean ====
section
/-! DEFINITION. The state of the module as plain data: the register file, and one structure per part of the module for what the spec
gives it beside its registers. Software-visible fields live in `regs` alone; every structure below holds only what no register holds. -/
namespace Sys2Proof.Machine

/-- No command stops the module with a fault: what the spec calls an error is an error response, a trap of a lane, a Sump source or a
refusal bit, all of which are next states. The one name below is raised by no meaning. (DESIGN CHOICE, log entry 6.) -/
inductive Fault where
  /-- Raised by no meaning; safe. -/
  | none
  deriving DecidableEq, Repr

/-- Why the model gives a command no meaning. (DESIGN CHOICE, log entry 6.) -/
inductive Refusal where
  /-- The arm of `exec` of a command without a meaning; safe: the model stops where the module goes on. -/
  | notModelled (mnemonic : String)
  deriving DecidableEq, Repr

/-! ### Modes, supplies, front panel (01, 02) -/

/-- A mode transition accepted and waiting for its instant (R27, R28): the mode, the rank of its cause in R29, and the effective count
of the fastest task or base tick where the pair has agreed on one. -/
structure ModeReq where
  target : Mode
  rank : Nat
  effective : Option (BitVec 32)
  deriving DecidableEq, Repr

/-- The stages of insertion (R32, R54). -/
inductive MainPath where
  | absent | debouncing | ramping | on
  deriving DecidableEq, Repr

/-- Modes, supply and panel state that no register holds: a transition that waits, a start that waits, the insertion (R32, R54, R57), an
interruption and the sequence of its record (R45), a data save, the input below its warning level, link conditions that outlasted the last
reset (R71), ERR_N as LOAD and HIBERNATE hold it (R36), the panel, and the outputs and Humar emission stopped (R46). -/
structure CoreState where
  modeReq : Option ModeReq
  startPending : Bool
  mainPath : MainPath
  extracted : Bool
  porHeld : Bool
  interrupted : Bool
  interruptSeq : Option Nat
  saving : Bool
  inputLow : Bool
  standing : List (Nat × Nat)
  errForced : Bool
  errHeld : Bool
  lampTest : Bool
  cover : Bool
  page : Nat
  outputsOff : Bool
  humarOff : Bool
  deriving DecidableEq, Repr

/-! ### Clocks, reset, gates, boot (03) -/

/-- A gate's hidden state (R71, R77 to R79): released by LOAD, a block reset under way, whether it began in quiesce mode, the transfers
outstanding at the request where the command told them, a deferred request (R182). -/
structure Gate where
  released : Bool
  resetting : Bool
  quiesced : Bool
  outstanding : Option Nat
  deferred : Bool
  deriving DecidableEq, Repr

/-- Clock and reset state that no register holds. -/
structure ResetState where
  inReset : Bool
  asserted : BitVec 8
  pwrCounted : Bool
  refWanted : Bool
  refMoving : Option Nat
  ratioReq : Option Nat
  monBad : BitVec 6
  monSkip : BitVec 6
  wdtArmed : Bool
  wdtTimeout : Nat
  wdtRunning : Bool
  opSub : Nat
  msSub : Nat
  secSub : Nat
  sqzSub : Nat
  scrubHalf : Bool
  deriving DecidableEq, Repr

/-- The firmware candidates of LOAD step 4 (R84). -/
inductive FwCandidate where
  | store | slot (x : Nat)
  deriving DecidableEq, Repr

/-- LOAD progress that no register holds (R83 to R88): the last step done, the firmware candidates left, the running firmware's survey
interface version, the area of the running generation (R86, R87), whether the generation is resolved and whether it is being fetched from
the partner, START_POLICY in force, a LOAD that follows a wake, a LOAD that a strap keeps from ending (R34, R35), and the mode that
waits for a full hold-up reserve (R55). -/
structure LoadState where
  step : Nat
  candidates : List FwCandidate
  fwIface : Nat
  ownGen : Option Nat
  resolved : Bool
  fetching : Bool
  startPolicy : Nat
  wakeLoad : Bool
  hold : Bool
  leaving : Option Mode
  deriving DecidableEq, Repr

/-! ### Survey banks (04) -/

/-- A survey bank (R119, R120): the survey it holds, if any, and its generation. -/
structure Bank where
  survey : Option Survey
  deriving DecidableEq, Repr

/-! ### Chambers (05, 07) -/

/-- How a lane stands (R125, R142, R177). -/
inductive LaneEnd where
  | running
  | ended (pc : Nat)
  | trapped (cause : Nat) (pc : Nat) (addr : Nat)
  deriving DecidableEq, Repr

/-- One lane of a chamber (R124, R128, R174): registers with tags, PC, end, signature, counts, ring positions, its copies of working
SRAM (64-bit words by byte address / 8), journal and pending layers, and its words with uncorrectable errors. -/
structure LaneState where
  g : List (Nat × DWord)
  tags : List (Nat × Nibble)
  pc : Nat
  fin : LaneEnd
  sig : BitVec 64
  cycles : Nat
  rputs : Nat
  poll : List (Nat × Nat)
  put : List (Nat × Descriptor)
  work : List (Nat × DWord)
  journal : List (Nat × DWord)
  pendOut : List (Nat × DWord × BitVec 32)
  workUe : List Nat
  journalUe : List Nat
  deriving DecidableEq, Repr

/-- The execution a chamber is in (R97, R124, R153, R178): its task, entry, segment, WCET, variant and primary chamber; the cycle count, t0,
FIRST and instance window of its task cycle, which a re-execution keeps when the next cycle begins. -/
structure Execution where
  task : Nat
  cyc : BitVec 32
  t0 : Nat
  first : Bool
  winLo : Nat
  winHi : Nat
  entry : Nat
  segBase : Nat
  segBytes : Nat
  wcet : Nat
  variant : Nat
  primary : Nat
  reexec : Bool
  startNs : Nat
  deriving DecidableEq, Repr

/-- A debugger write to be replayed (R195). -/
structure ReplayWrite where
  space : Nat
  addr : BitVec 32
  data : DWord
  deriving DecidableEq, Repr

/-- A chamber (R121, R135, R145, R192, R195); `inputHeld` are the words that reach INPUT once the execution that runs has ended (R178). -/
structure Chamber where
  main : LaneState
  checker : LaneState
  code : List (Nat × BitVec 32)
  codeUe : List Nat
  exec : Option Execution
  current : List (Nat × DWord × BitVec 32)
  rx : List (Nat × List Descriptor)
  tx : List (Nat × List Descriptor)
  free : List (Nat × Nat)
  unequal : List (Nat × Nat)
  asyncImg : List (Nat × DWord)
  inputHeld : List (Nat × DWord)
  replay : List ReplayWrite
  haltCount : Nat
  stopDeferred : Bool
  mmDone : Bool
  deriving DecidableEq, Repr

/-- The instance store (R109, R131): words of both areas (key: area · 2²² + offset / 8) and the words with uncorrectable errors. -/
structure InstState where
  words : List (Nat × DWord)
  ue : List Nat
  deriving DecidableEq, Repr

/-! ### Tasks and the sequencer (06) -/

/-- A task and its cycle (R153 to R170): t0 in ns and as a CLK_TIME cycle (R154); whether the outcome is fixed; whether the next committed
cycle is a first scan; the cause of a hold due at this EMIT; the cycle in which a hold command takes effect in the pair; a resumption asked
for and its boundary in ns; the primary chambers whose executions have compared equal and
those whose first comparison mismatched; an end by program trap or INSTANCE_UE; the CLK_TIME cycle of the last equal comparison; the module's own
outcome, the partner's and the one that stands; the ring descriptors compared; the staging layers before this cycle's comparisons; the
cycle last committed; whether the last EMIT emitted nothing (R170); the fabric entries of this cycle that have ended; the compared journals
by primary chamber, LEAD's entries from the Lifeline stream, the journal bytes and CRC of LEAD's OUTCOME, and whether they are settled (R170,
R228); the slots of the signal table written in this cycle (R20); the cycle whose journals were committed last and their bytes so far (R160).
-/
structure TaskState where
  t0 : Nat
  t0Cyc : Nat
  outcomeFixed : Bool
  firstScan : Bool
  holdPending : Option Nat
  holdEffective : Option (BitVec 32)
  resumePending : Bool
  resumeEffective : Option Nat
  equal : List Nat
  mism : List Nat
  badEnd : Bool
  lastEqualCyc : Nat
  own : Option CycleOutcome
  partnerOutcome : Option CycleOutcome
  standing : Option CycleOutcome
  puts : List (Nat × Descriptor)
  undo : List (Nat × List (Nat × DWord × BitVec 32))
  committed : BitVec 32
  quiet : Bool
  moved : List Nat
  journals : List (Nat × List (Nat × DWord))
  stream : List (Nat × DWord)
  partnerJournal : Option (Nat × BitVec 32)
  streamDone : Bool
  wrote : List Nat
  spentCyc : BitVec 32
  spent : Nat
  deriving DecidableEq, Repr

/-- A compared journal in a chamber's journal SRAM (R158, R179, R186): the task and chamber it stands in, its primary chamber, and cycle
count, t0 and CLK_TIME cycle of t0 of its task cycle. -/
structure ReadyJournal where
  task : Nat
  chamber : Nat
  primary : Nat
  cyc : BitVec 32
  t0 : Nat
  t0Cyc : Nat
  deriving DecidableEq, Repr

/-- A spare's claim (R112): the variant, and the CLK_TIME cycle in which its chamber became FAILED. -/
structure SpareClaim where
  variant : Nat
  cycle : Nat
  deriving DecidableEq, Repr

/-- The commit unit (R158, R160) and what the sequencer holds beside its registers: the commit under way, journals ready, bytes committed in
base tick `tick`, variants withdrawn (R112), relocations not yet in effect (R184), the spares' claims. -/
structure SeqState where
  commit : Option ReadyJournal
  ready : List ReadyJournal
  tickBytes : Nat
  tick : BitVec 32
  withdrawn : List Nat
  relocPending : List (Nat × Nat)
  claims : List SpareClaim
  deriving DecidableEq, Repr

/-- The signal table (R17, R203): two pages, the active page, the port images of islands, fieldlinks and CAN (key: beat · 4 + slot). -/
structure SignalState where
  page0 : List (Nat × DWord)
  page1 : List (Nat × DWord)
  active : Nat
  port18 : List (Nat × DWord)
  port19 : List (Nat × DWord)
  port20 : List (Nat × DWord)
  deriving DecidableEq, Repr

/-- Injection: chamber and flips left (R197); rate leaks (R189); a debugger write waiting for the replay buffer (R195). -/
structure LockstepState where
  injectLeft : Nat
  injectChamber : Nat
  leaking : List Nat
  waiting : Option (Nat × ReplayWrite)
  deriving DecidableEq, Repr

/-! ### On-line change and forcing (08) -/

/-- An on-line change under way (R198 to R211): the new survey, its generation, store area and bank; a request whose answer the partner
still owes (generation, survey, reuse); whether the swap has been requested and the partner has agreed; S in ns; the old words and page
slots swept; the migration queue (R201); whether the mirror runs; the tasks whose tail EMIT is due (R207), and the relocations their tails
run with (task, failed chamber, spare, variant); the chambers whose staging is still being seeded; those whose code SRAM still holds the
old survey's code; S of the last swap. -/
structure OlcState where
  survey : Option Survey
  generation : Nat
  targetArea : Nat
  bank : Nat
  asking : Option (Nat × Survey × Bool)
  agreed : Bool
  partnerAgreed : Bool
  swapAt : Nat
  areaDone : List Nat
  pageDone : List Nat
  queue : List (Nat × DWord)
  mirror : Bool
  tail : List Nat
  tailReloc : List (Nat × Nat × Nat × Nat)
  seeding : List Nat
  oldCode : List Nat
  swappedAt : Nat
  deriving DecidableEq, Repr

/-- The force table (R212 to R217). -/
structure ForceState where
  entries : List ForceEntry
  waiting : List (BitVec 32 × ForceChange)
  deriving DecidableEq, Repr

/-! ### The pair (09) -/

/-- The pair and the Lifeline beyond PAIR's registers (R220 to R246): FRAME_NUM of the last ordered frame sent and the next one due; ordered
frames that wait for an earlier one (R222); the partner's HELLO, mode and survey; whether both modules have been in LOAD while LINKED (R239);
the store fetch and the survey bank sent to the partner; a pair fault after which nothing is emitted, and whether it is being settled (R231);
the instant of a RELINQUISH sent and the holds that SOLO would have made of its cause (R233); the yield watch (EMITs and FREEZEs left, a reply
has shown B, has shown A, the last valid Lifeline frame and the last EMIT in ns, R234, R235); operating times of automatic rejoins (R238);
a handover's E and the last H in ns (R244); DUPLEX frame in use and the one for the next EMIT (R230); LEAD's beats received by task; a join
being served, the tasks whose tails go on after S_J, the signal slots and staging slots written since the last JOURNAL (R240, R241); what a
joining module holds of items 2 to 6 (areas 0 and 1, staging 2 to 17, page 18, forces 19, state record 20) and whether it has taken LEAD's
time; TX_TIME of the last TIME frame sent, that of the partner's last one with its receipt, time offsets above 100 ns in a row (R225); the
instant of S_J; a refused fourth rejoin (R238); a join that failed (R242). -/
structure PairState where
  sendNum : BitVec 32
  recvNum : BitVec 32
  waiting : List (BitVec 32 × Instr)
  partnerHello : Option HelloBody
  partnerMode : Mode
  partnerSurveyOk : Bool
  bothLoad : Bool
  fetchSent : Bool
  bankSent : Bool
  emitStopped : Bool
  settling : Bool
  relinquishedAt : Option Nat
  owed : List (Nat × Nat)
  owedHold : Bool
  watchLeft : Nat
  watchReplies : Bool
  watchA : Bool
  lastFrameNs : Nat
  lastEmitNs : Nat
  rejoins : List Nat
  handover : Option (BitVec 32)
  swappedNs : Option Nat
  duplexIn : Option DuplexBody
  duplexNext : Option DuplexBody
  imageBeats : List (Nat × Nat)
  joinOut : Bool
  joinTails : List Nat
  sigDelta : List Nat
  stageDelta : List (Nat × Nat)
  joinItems : List Nat
  timeTaken : Bool
  timeSent : Option Nat
  timeRx : Option (Nat × Nat)
  badOffsets : Nat
  syncAt : Nat
  rejoinLatched : Bool
  joinFailed : Bool
  deriving DecidableEq, Repr

/-! ### The Sump and Flowstone (17) -/

/-- Sump: instances in which each level source holds (key: source; instance · 256 + sub), the source of a MODULE_RESET waiting for
its records and the CLK_TIME cycle of its occurrence (R381), the CLK_PER cycle of each source's latest occurrence (R382). -/
structure SumpState where
  levels : List (Nat × List Nat)
  moduleReset : Option (Nat × Nat)
  seen : List (Nat × Nat)
  deriving DecidableEq, Repr

/-- Flowstone: MRAM bytes by offset, offset of the newest record held, words with uncorrectable errors, the write queue, records lost
and not yet told, a GO waiting for room, the seek under way, operating time and its non-volatile copy (R385 to R394). -/
structure FlsState where
  mram : List (Nat × Byte)
  newest : Option Nat
  ue : List Nat
  queue : List FlsEntry
  lostRun : Nat
  goWaiting : Bool
  seeking : Option (BitVec 32)
  optime : BitVec 48
  optimeCopy : BitVec 48
  optimeHi : BitVec 16
  deriving DecidableEq, Repr

/-! ### Time base, drip units, capture inputs (15) -/

/-- Module time (R347, R348): seconds, nanoseconds, the 32 bits below the nanosecond; CLK_TIME cycles since the last reset began, which no steering
touches (R154); the slew remainder in units of 2⁻³² ns (R351);
whether the sequencer has run since reset or wake (R352); a step agreed in the pair with its instant (R353). -/
structure TimeState where
  seconds : Nat
  nanoseconds : Nat
  frac : Nat
  cycles : Nat
  slewRem : Int
  seqRan : Bool
  stepAt : Option (Nat × Int)
  deriving DecidableEq, Repr

/-- LIN (R347): module time in ns modulo 2⁶⁴. -/
def TimeState.lin (t : TimeState) : BitVec 64 := BitVec.ofNat 64 (t.seconds * 1000000000 + t.nanoseconds)

/-- A drip unit's target and period in force (R356, R358), and whether its next firing is LATE (R357, R358, R360). -/
structure Drip where
  target : BitVec 40
  period : BitVec 40
  late : Bool
  deriving DecidableEq, Repr

/-- A capture input (R361, R362): its level, none before the first sample after reset or wake, and the stamp of its last edge. -/
structure CapState where
  level : Option Bool
  stamp : BitVec 64
  deriving DecidableEq, Repr

/-! ### Islands (10, 11) -/

/-- A channel beside its registers (R254, R260, R264 to R288): the command, BAD and SAFE the island applies, and those it holds for a
KIND 2 instant; the last value applied from a command; why the driver is switched off (0 not, 1 short, 2 shed) and whether the command
has been 0 since; short and shed not yet cleared by a good retry; open load; external drive; trim or front-end fault; filtered changes
since the last latch; whether a conversion has completed since then; of an AI the LIN at which its latest conversion started and the
window W of that conversion in µs (R276); the status that the supervision of an analogue output gives and the current it sources;
LOW_REF of its user block; the current of a calibration drive, until the frame after its end (R288); a front-end or driver fault that the
island has found (R264, R271, R280); of a DI the stamp in µs that the next
change would take and the latest one (R263). -/
structure IslChan where
  out : BitVec 32
  bad : Bool
  safe : Bool
  heldOut : BitVec 32
  heldBad : Bool
  heldSafe : Bool
  lastCmd : Option (BitVec 32)
  off : Nat
  cmdLow : Bool
  short : Bool
  shed : Bool
  openLoad : Bool
  extDrive : Bool
  fault : Bool
  changes : Nat
  fresh : Bool
  conv : Option (Nat × Nat)
  ao : BitVec 4
  drive : BitVec 32
  lowRef : BitVec 32
  calRef : Option (BitVec 32)
  hwFault : Bool
  edge : Option Nat
  stamp : Nat
  deriving DecidableEq, Repr

/-- The image of a latch (R251, R253): LATCH_SEQ, LATCH_MASK, VALUE and STATUS by channel, and its instant in ns of module time. -/
structure LatchImage where
  seq : BitVec 8
  mask : BitVec 8
  slots : List (Nat × BitVec 32 × BitVec 4)
  takenAt : Nat
  deriving DecidableEq, Repr

/-- An island and its link (R247 to R257, R272): the supply state as the island finds it, a recovery whose outputs wait for the frame
boundary (R273), link silence (or a controller restart) with the consecutive valid frames since, a restart under way and one not yet
reported; the images of the latest latch and of the one before; for the module, the channels latched whose image has not come and the
instant of their latch, link loss, and the valid frames since; the frame under way, the instant it started and whether it is spoiled; FLAGS
of the last valid frame and its trigger words still to act; its channels. -/
structure Island where
  supply : Nat
  resuming : Bool
  silent : Bool
  goodRun : Nat
  restarting : Bool
  restarted : Bool
  latch : LatchImage
  prevLatch : LatchImage
  awaited : BitVec 8
  awaitedAt : Nat
  lost : Bool
  upGood : Nat
  frame : Option DownFrame
  frameAt : Nat
  spoiled : Bool
  run : Bool
  duplexOff : Bool
  dnBad : BitVec 16
  trigs : List (BitVec 32)
  chans : List (Nat × IslChan)
  deriving DecidableEq, Repr

/-- An AI calibration that averages (R287): its channel, point and reference; the readings since it began: their count, the sum of r in units
of 2^-149 mA, the lowest and the highest I in the same units, and whether one had a bad STATUS or the channel's mode has changed. -/
structure CalAverage where
  channel : Nat
  high : Bool
  ref : BitVec 32
  count : Nat
  sum : Int
  low : Int
  top : Int
  bad : Bool
  deriving DecidableEq, Repr

/-- Configuration words and trims under way (R259, R287, R289): words waiting for their cycle E (channel, whether analogue, value), store
writes outstanding, the calibration that averages, trims waiting for their E (channel, ZERO, SPAN, LOW_REF). -/
structure CalState where
  cfg : List (BitVec 32 × Nat × Bool × BitVec 32)
  cfgStore : List Nat
  averaging : Option CalAverage
  trims : List (BitVec 32 × Nat × BitVec 32 × BitVec 32 × BitVec 32)
  trimStore : List Nat
  deriving DecidableEq, Repr

/-! ### Fieldlinks, backbone, CAN (12 to 14) -/

/-- A frame sent that awaits its REPLY (R306): its entry and frame sequence, the reply kept with the CLK_TIME cycle in which it ended at the
port, and whether its consuming t0 has passed. -/
structure FlWait where
  slot : FrameSlot
  seq : BitVec 32
  reply : Option (ReplyFrame × Nat)
  past : Bool
  deriving DecidableEq, Repr

/-- Fieldlinks beside their registers: frames awaiting replies, stations heard (64p + s), ports with no partner frame for 1 ms (R310); the
latest writes to output images (R300): the CLK_TIME cycle, the key in port 19 and the slot before it; by port the CLK_TIME cycle of the FREEZE
that FL_PORT_SEEN shows (R305) and the one in which the latest SLOW frame ends (R312). -/
structure FlState where
  waits : List FlWait
  heard : List Nat
  partnerLost : List Nat
  outWrites : List (Nat × Nat × DWord)
  seenAt : List (Nat × Nat)
  slowEnd : List (Nat × Nat)
  deriving DecidableEq, Repr

/-- A frame stored for an egress port (R317, R318): port, high queue, frame, CLK_TIME cycle at ingress and ingress port of a forwarded
frame. -/
structure BbQueued where
  port : Nat
  high : Bool
  frame : BbFrame
  ingress : Option (Nat × Nat)
  deriving DecidableEq, Repr

/-- The bridge beside its registers (R316 to R323): egress queues, ports whose transmitter is busy and whether it cuts through, frames held
for full rings (ring, ingress port, ingress timestamp, frame), the PRP sequence number, the discard table (source, highest sequence number,
window) with the least recently used first, the residences of two-step Syncs held (key, residence in units of 2⁻¹⁶ ns, CLK_TIME cycle). -/
structure BbState where
  queue : List BbQueued
  busy : List (Nat × Bool)
  held : List (Nat × Nat × BitVec 64 × BbFrame)
  prpSeq : BitVec 16
  prp : List (Nat × BitVec 16 × BitVec 64)
  twoStep : List (Nat × Int × Nat)
  deriving DecidableEq, Repr

/-- A CAN controller beside its registers (R336, R337, R341): the object in ATTEMPT, whether a cancel has reached it, cancels on their way,
payloads held until the attempt ends; identifier words of the frames held by receive objects (R342) and the CLK_TIME cycles in which they
became valid (R340). -/
structure CanState where
  attempt : Option Nat
  cancelled : Bool
  cancels : List Nat
  held : List (Nat × List Byte)
  rxId : List (Nat × BitVec 32)
  rxAt : List (Nat × Nat)
  deriving DecidableEq, Repr

/-! ### Security, sessions, test access port (19) -/

/-- The security engine beyond its registers: lifecycle in OTP (R417), items written (SEC_SYS_KEY order 0 to 7, survey slot x as 8 + x)
and revoked (survey slot x as x, roots as 8 and 9), security version counters (R425), the nonce and the operating time at which it was
drawn (R431), the request being decided, the
operating times of the last failures, a decommissioning erase due (R419), the port of the engineering session (R435: 0 service port,
1 backbone). -/
structure SecState where
  lifecycle : Nat
  items : List Nat
  revoked : List Nat
  counters : List (Nat × Nat)
  nonce : Option (BitVec 64)
  nonceAt : Nat
  request : Option (Nat × AuthVerdict)
  failTimes : List Nat
  erasePending : Bool
  engPort : Nat
  tapIr : Nat
  deriving DecidableEq, Repr

/-! ### Test perturbation (21) -/

/-- Test perturbation: kinds accepted and waiting for their record and boundary, the kinds of each start (R460), frames or firings
affected per kind, frames since the last one spoiled per kind, received Lifeline frames held by LL_DELAY (R457). -/
structure TpState where
  waiting : List Nat
  starts : List (List Nat)
  affected : List (Nat × Nat)
  since : List (Nat × Nat)
  held : List Instr
  deriving DecidableEq, Repr

/-! ### Power (18) and updates (20) -/

/-- The retention image (R410, R411): register address and value records, the firmware survey-interface version, operating time and
ERR_N level at entry; `intact` is MAGIC and CRC. -/
structure Retention where
  records : List (Nat × BitVec 32)
  fwIface : Nat
  optime : BitVec 48
  errN : Bool
  intact : Bool
  deriving DecidableEq, Repr

/-- Power management beyond POWER's registers: the retention image, the wake attempt under way (0 none) and the failing items of the
failed ones, the wake source, whether a wake has failed and its record is due, the lowest sensor reading of the droop (R402), the CLK_TIME
cycle at which the hold interval of Squeeze began (R399), the operating time at which the hold-up bank was last recharged (R403). -/
structure PwrState where
  retention : Option Retention
  attempt : Nat
  failed : List Nat
  source : Option WakeSource
  wakeFailed : Bool
  lowestMv : Nat
  droopAt : Nat
  fullAt : Nat
  deriving DecidableEq, Repr

/-- A firmware slot of the internal flash (R438, R439); `sound` is MAGIC and CRC of its header. -/
structure FwSlot where
  sound : Bool
  seq : Nat
  state : Byte
  attempts : Byte
  images : List ComponentImage
  buildId : Nat
  deriving DecidableEq, Repr

/-- The update manager beyond its registers (R444 to R451). -/
structure UpdState where
  slot0 : FwSlot
  slot1 : FwSlot
  staged : Option Capsule
  received : Nat
  split : Bool
  loader : Bool
  fallback : Option Nat
  windowDone : Bool
  island : Option (Nat × BitVec 32)
  islandsDone : List Nat
  deriving DecidableEq, Repr

/-- A rule write that waits for earlier accesses (R372): guard, register address, value. -/
structure GuardWait where
  guard : Nat
  addr : Nat
  value : BitVec 32
  deriving DecidableEq, Repr

/-- The state of the module. -/
structure State where
  pending : List Instr
  mode : Mode
  regs : List (Nat × BitVec 32)
  core : CoreState
  rst : ResetState
  gates : List (Nat × Gate)
  load : LoadState
  store : StoreContents
  banks : List (Nat × Bank)
  chambers : List (Nat × Chamber)
  inst : InstState
  tasks : List (Nat × TaskState)
  seq : SeqState
  sig : SignalState
  ls : LockstepState
  olc : OlcState
  frc : ForceState
  pair : PairState
  time : TimeState
  drips : List (Nat × Drip)
  caps : List (Nat × CapState)
  isl : List (Nat × Island)
  factory : List (Nat × FactoryBlock)
  cal : CalState
  fl : FlState
  bb : BbState
  can : List (Nat × CanState)
  sump : SumpState
  fls : FlsState
  sec : SecState
  tp : TpState
  pwr : PwrState
  upd : UpdState
  sram : List (Nat × Byte)
  guardWaits : List GuardWait
  out : List Out
  bus : BusResponse
  freeCtr : Nat
  deriving DecidableEq, Repr

/-! ### Reset values -/

/-- An erased store area. (DESIGN CHOICE, log entry 2.) -/
def GenArea.erased : GenArea := ⟨0xFFFFFFFF, 0xFFFFFFFF, 0xFF, 0xFFFFFFFF, 2 ^ 384 - 1, 0xFFFFFFFF, false, none⟩

def StoreHeader.erased : StoreHeader := ⟨0xFFFFFFFF, 0xFFFFFFFF, 0xFF, 0xFFFFFF, 0xFFFF, 0xFFFF, BitVec.allOnes 352, 0xFFFFFFFF⟩

def ForceCopy.erased : ForceCopy := ⟨0xFFFFFFFF, 0xFFFFFFFF, 0xFFFFFFFF, []⟩

/-- DESIGN CHOICE, log entry 2. -/
def StoreContents.erased : StoreContents :=
  ⟨false, StoreHeader.erased, StoreHeader.erased, GenArea.erased, GenArea.erased, [], ForceCopy.erased, ForceCopy.erased, []⟩

/-- DESIGN CHOICE, log entry 2. -/
def CoreState.reset : CoreState :=
  ⟨none, false, .on, false, false, false, none, false, false, [], false, false, false, false, 0, false, false⟩

/-- DESIGN CHOICE, log entry 2. -/
def ResetState.reset : ResetState := ⟨true, 0, false, true, none, none, 0, 0, false, 0x1388, true, 0, 0, 0, 0, false⟩

def LoadState.reset : LoadState := ⟨0, [], 0, none, false, false, 0, false, false, none⟩

def SeqState.reset : SeqState := ⟨none, [], 0, 0, [], [], []⟩

def OlcState.reset : OlcState := ⟨none, 0, 0, 0, none, false, false, 0, [], [], [], false, [], [], [], [], 0⟩

/-- A change is over: the seeding, the tails' relocations and the code of a swap before it, and its S, stay. -/
def OlcState.over (o : OlcState) : OlcState :=
  { OlcState.reset with tailReloc := o.tailReloc, seeding := o.seeding, oldCode := o.oldCode, swappedAt := o.swappedAt }

def PairState.reset : PairState where
  sendNum := 0
  recvNum := 1
  waiting := []
  partnerHello := none
  partnerMode := .load
  partnerSurveyOk := false
  bothLoad := false
  fetchSent := false
  bankSent := false
  emitStopped := false
  settling := false
  relinquishedAt := none
  owed := []
  owedHold := false
  watchLeft := 0
  watchReplies := false
  watchA := false
  lastFrameNs := 0
  lastEmitNs := 0
  rejoins := []
  handover := none
  swappedNs := none
  duplexIn := none
  duplexNext := none
  imageBeats := []
  joinOut := false
  joinTails := []
  sigDelta := []
  stageDelta := []
  joinItems := []
  timeTaken := false
  timeSent := none
  timeRx := none
  badOffsets := 0
  syncAt := 0
  rejoinLatched := false
  joinFailed := false

def FlsState.reset : FlsState := ⟨[], none, [], [], 0, false, none, 0, 0, 0⟩

def PwrState.reset : PwrState := ⟨none, 0, [], none, false, 0, 0, 0⟩

def FwSlot.erased : FwSlot := ⟨false, 0xFFFFFFFF, 0xFF, 0xFF, [], 0⟩

def UpdState.reset : UpdState := ⟨FwSlot.erased, FwSlot.erased, none, 0, false, false, none, false, none, []⟩

/-- The machine right after a module-level reset of a module as it left manufacture: every source has released and MODULE_RESET_RELEASE
is due (R72). Every register is at the value of its table (R71): the register file lists nothing. The values that the spec does not state
are those of log entry 2. (DESIGN CHOICE, log entry 2; PRESUMED, log entry 44.) -/
def State.reset : State where
  pending := []
  mode := .load
  regs := []
  core := CoreState.reset
  rst := ResetState.reset
  gates := []
  load := LoadState.reset
  store := StoreContents.erased
  banks := []
  chambers := []
  inst := ⟨[], []⟩
  tasks := []
  seq := SeqState.reset
  sig := ⟨[], [], 0, [], [], []⟩
  ls := ⟨0, 0, [], none⟩
  olc := OlcState.reset
  frc := ⟨[], []⟩
  pair := PairState.reset
  time := ⟨0, 0, 0, 0, 0, false, none⟩
  drips := []
  caps := []
  isl := []
  factory := []
  cal := ⟨[], [], none, [], []⟩
  fl := ⟨[], [], [], [], [], []⟩
  bb := ⟨[], [], [], 0, [], []⟩
  can := []
  sump := ⟨[], none, []⟩
  fls := FlsState.reset
  sec := ⟨0, [0, 1, 2, 3, 4], [], [], none, 0, none, [], false, 0, 0x01⟩
  tp := ⟨[], [], [], [], []⟩
  pwr := PwrState.reset
  upd := UpdState.reset
  sram := []
  guardWaits := []
  out := []
  bus := .none
  freeCtr := 0

end Sys2Proof.Machine
end

