-- ==== Sys2Proof/Machine/Ops.lean ====
section
/-! DEFINITION. The named operations over the state that every family uses: register fields, free values, emissions, module time and
effective cycles, the Flowstone write queue (R386 to R391), Sump occurrences and reactions (R376 to R384), mode transitions (R26 to R29),
failover causes and yielding (R232, R237), gate requests (R77 to R79). -/
namespace Sys2Proof.Machine

/-! ### Registers -/

/-- The value a register holds. -/
def State.getReg (s : State) (a : Nat) : BitVec 32 := sparseGet regReset s.regs a

/-- Give a register a value. -/
def State.setReg (s : State) (a : Nat) (v : BitVec 32) : State :=
  { s with regs := sparseSet regReset s.regs a v }

/-- The ones of a field. -/
def RegField.mask (f : RegField) : BitVec 32 := BitVec.ofNat 32 ((2 ^ f.width - 1) <<< f.lo)

/-- The field's part of a word. -/
def RegField.ext (f : RegField) (w : BitVec 32) : Nat := (w.toNat >>> f.lo) % 2 ^ f.width

/-- A word with the field replaced. -/
def RegField.ins (f : RegField) (w : BitVec 32) (v : Nat) : BitVec 32 :=
  (w &&& ~~~f.mask) ||| BitVec.ofNat 32 ((v % 2 ^ f.width) <<< f.lo)

/-- The value of a field. -/
def State.get (s : State) (f : RegField) : Nat := f.ext (s.getReg f.addr)

/-- Set a field, modulo its width. -/
def State.put (s : State) (f : RegField) (v : Nat) : State := s.setReg f.addr (f.ins (s.getReg f.addr) v)

/-- Whether a field is not 0. -/
def State.bit (s : State) (f : RegField) : Bool := s.get f != 0

/-- Set a one-bit field. -/
def State.putBit (s : State) (f : RegField) (b : Bool) : State := s.put f b.toNat

/-- Whether a field of a written word is not 0. -/
def RegField.on (f : RegField) (w : BitVec 32) : Bool := f.ext w != 0

/-- Increment a counter that saturates. -/
def State.bump (s : State) (f : RegField) : State :=
  if s.get f + 1 < 2 ^ f.width then s.put f (s.get f + 1) else s

/-- Increment a counter by `n`, saturating. -/
def State.bumpBy (s : State) (f : RegField) (n : Nat) : State := s.put f (min (s.get f + n) (2 ^ f.width - 1))

/-- Increment a counter that wraps. -/
def State.bumpWrap (s : State) (f : RegField) : State := s.put f (s.get f + 1)

/-- Put several fields in turn. -/
def State.putAll (s : State) (l : List (RegField × Nat)) : State := l.foldl (fun s p => s.put p.1 p.2) s

/-! ### Free values, emissions, units -/

/-- A value the manual leaves open, and the state with the next one due. (DESIGN CHOICE, log entry 4.) -/
def State.draw (s : State) : BitVec 64 × State :=
  (Config.freeBits s.freeCtr, { s with freeCtr := s.freeCtr + 1 })


/-- `n` bytes that the manual leaves open. (DESIGN CHOICE, log entry 4.) -/
def State.freeBytes : Nat → State → List Byte × State
  | 0, s => ([], s)
  | n + 1, s =>
    let (v, s) := s.draw
    let (bs, s) := State.freeBytes n s
    (v.truncate 8 :: bs, s)

/-- A gate's state at reset: held (R71). -/
def Gate.reset : Gate := ⟨false, false, false, none, false⟩

def State.gate (s : State) (b : Nat) : Gate := sparseGet (fun _ => Gate.reset) s.gates b

def State.setGate (s : State) (b : Nat) (g : Gate) : State :=
  { s with gates := sparseSet (fun _ => Gate.reset) s.gates b g }

/-! ### Role, mode and time -/

/-- The pair role (R5), held in PAIR_STAT.ROLE. -/
def State.role (s : State) : Role :=
  match s.get Fld.PAIR_STAT_ROLE with
  | 0 => .solo
  | 1 => .lead
  | 2 => .shadow
  | _ => .joining

def roleCode : Role → Nat
  | .solo => 0
  | .lead => 1
  | .shadow => 2
  | .joining => 3

/-- Take a role (R5). The time base follows (R350): SHADOW and JOINING follow the partner; on leaving them the module holds over until the
next submission. (DEDUCED, log entry 24.) -/
def State.setRole (s : State) (r : Role) : State :=
  let s := s.put Fld.PAIR_STAT_ROLE (roleCode r)
  if r = .shadow ∨ r = .joining then s.putAll [(Fld.TIME_STAT_STATE, 3), (Fld.TIME_STAT_SOURCE, 3)]
  else if s.get Fld.TIME_STAT_STATE = 3 then
    s.putAll [(Fld.TIME_STAT_STATE, 2), (Fld.TIME_STAT_SOURCE, 0), (Fld.TIME_EVENT_HOLDOVER, 1)]
  else s

/-- The Lifeline's state (R223), held in PAIR_STAT.LL_STATE. -/
def State.ll (s : State) : LLState :=
  match s.get Fld.PAIR_STAT_LL_STATE with
  | 0 => .down
  | 1 => .training
  | 2 => .linked
  | _ => .synced

def llCode : LLState → Nat
  | .down => 0
  | .training => 1
  | .linked => 2
  | .synced => 3

/-- DEDUCED, log entry 60. -/
def State.setLl (s : State) (l : LLState) : State := s.put Fld.PAIR_STAT_LL_STATE (llCode l)

/-- Modes in the encoding of PAIR_PARTNER.MODE. -/
def modeCode : Mode → Nat
  | .load => 0
  | .run => 1
  | .hold => 2
  | .service => 3
  | .recovery => 4
  | .hibernate => 5

/-- LEAD or SHADOW: the module is one of a pair in step (R380). -/
def State.inPair (s : State) : Bool := s.role == .lead || s.role == .shadow

/-- The role that a module had before a handover. -/
def roleExchanged : Role → Role
  | .lead => .shadow
  | .shadow => .lead
  | r => r

/-- The role in which the module executes the present cycle of task `t` (R244): cycles with t0 before the last H finish under the old LEAD. -/
def State.cycleRole (s : State) (t0 : Nat) : Role :=
  match s.pair.swappedNs with
  | some h => if t0 < h then roleExchanged s.role else s.role
  | none => s.role

/-- This module's slot: 0 A, 1 B. -/
def State.slot (s : State) : Nat := s.get Fld.PAIR_STAT_SLOT

/-- Module time in ns since the epoch (R347). -/
def State.nowNs (s : State) : Nat := s.time.seconds * 1000000000 + s.time.nanoseconds

/-- `n` bytes of a number, least significant first. -/
def leBytes : Nat → Nat → List Byte
  | 0, _ => []
  | n + 1, v => BitVec.ofNat 8 v :: leBytes n (v / 256)

/-- The number spelled by bytes, least significant first. -/
def ofLeBytes : List Byte → Nat
  | [] => 0
  | b :: bs => b.toNat + 256 * ofLeBytes bs

/-- A list in parts of at most `n` elements, at least one; `fuel`: the list's length. -/
def partsOf {α : Type} (n : Nat) : Nat → List α → List (List α)
  | 0, l => [l]
  | fuel + 1, l => if l.length ≤ n then [l] else l.take n :: partsOf n fuel (l.drop n)

/-- Bit steps of the IEEE 802.3 CRC-32 (R220, R228). -/
def crc32Bits : Nat → BitVec 32 → BitVec 32
  | 0, c => c
  | n + 1, c => crc32Bits n (if c.getLsbD 0 then (c >>> 1) ^^^ 0xEDB88320 else c >>> 1)

/-- One byte enters the check sum. -/
def crc32Byte (c : BitVec 32) (b : Byte) : BitVec 32 := crc32Bits 8 (c ^^^ b.zeroExtend 32)

/-- CRC-32 of the IEEE 802.3 polynomial. -/
def crc32 (bs : List Byte) : BitVec 32 := ~~~(bs.foldl crc32Byte 0xFFFFFFFF)

/-- A frame with the check sum of its bytes after them, little-endian: an island frame (R249), the FCS of an Ethernet frame. -/
def crcSealed (body : List Byte) : List Byte := body ++ leBytes 4 (crc32 body).toNat

/-- The check sum of a received frame is right. -/
def crcRight (bs : List Byte) : Bool := crc32 (bs.take (bs.length - 4)) == BitVec.ofNat 32 (ofLeBytes (bs.drop (bs.length - 4)))

/-- A frame with its check sum inverted (R457). -/
def crcInverted (bs : List Byte) : List Byte := bs.take (bs.length - 4) ++ (bs.drop (bs.length - 4)).map fun b => ~~~b

/-- What a link with disturbance `noise` makes of the bytes of a frame. -/
def disturbed (noise bs : List Byte) : List Byte := bs.zipIdx.map fun p => p.1 ^^^ noise.getD p.2 0

/-- A frame with the bytes `bs` is received as valid: undisturbed, or with a check sum that is right all the same, a disturbance which the
receiver cannot tell. (DESIGN CHOICE, log entry 103.) -/
def frameArrives (noise bs : List Byte) : Bool := noise.all (fun b => b == 0) || crcRight (disturbed noise bs)

/-- Types that carry a FRAME_NUM (R220): all but STATUS and TIME. -/
def llOrdered : LLFrame → Bool
  | .status _ => false
  | .time _ => false
  | _ => true

/-- The next FRAME_NUM: previous value + 1, wrapping, never 0 (R220). -/
def nextFrameNum (n : BitVec 32) : BitVec 32 := if n + 1 = 0 then 1 else n + 1

/-- TYPE of a frame (R221). -/
def llType : LLFrame → Nat
  | .hello _ => 0x01
  | .status _ => 0x02
  | .image _ => 0x03
  | .outcome _ => 0x04
  | .journal _ => 0x05
  | .duplex _ => 0x06
  | .command _ => 0x07
  | .ack _ => 0x08
  | .time _ => 0x09
  | .bulk _ => 0x0A
  | .departure => 0x0B
  | .relinquish _ => 0x0C

/-- FLAGS of a header (R220). -/
def llFlags (h : LLHeader) : Nat := h.slotB.toNat + 2 * roleCode h.role + 8 * h.sync.toNat

/-- Bytes 0 to 19 of a header (R220). -/
def llHeaderBytes (h : LLHeader) : List Byte :=
  leBytes 1 h.protoMajor ++ leBytes 1 h.protoMinor ++ leBytes 1 h.type ++ leBytes 1 (llFlags h) ++ leBytes 4 h.frameNum.toNat ++ leBytes 8 h.txTime
    ++ leBytes 4 h.length

/-- Whether HDR_CRC is right (R220, R221). -/
def llHeaderOk (h : LLHeader) : Bool := h.hdrCrc == crc32 (llHeaderBytes h)

/-- The lane that carries the module's traffic: the first one up. (DEDUCED, log entry 60.) -/
def State.trafficLane (s : State) : Nat := if s.bit Fld.PAIR_STAT_LANE_0_UP || !s.bit Fld.PAIR_STAT_LANE_1_UP then 0 else 1

/-- LENGTH of the next frame (R219, R220): at most 8,192. (DESIGN CHOICE, log entry 107.) -/
def State.llLength (s : State) : Nat := min 8192 (Config.llLength s.out.length).toNat

/-- The header of the next Lifeline frame on a lane (R220). -/
def State.llHeaderOn (s : State) (lane : Nat) (f : LLFrame) : LLHeader :=
  let h : LLHeader :=
    { lane := lane, protoMajor := s.get Fld.PAIR_VERSION_PROTO_MAJOR, protoMinor := s.get Fld.PAIR_VERSION_PROTO_MINOR, type := llType f,
      slotB := s.slot == 1, role := s.role, sync := s.ll == .synced,
      frameNum := if llOrdered f then nextFrameNum s.pair.sendNum else 0, txTime := s.nowNs, length := s.llLength, hdrCrc := 0 }
  { h with hdrCrc := crc32 (llHeaderBytes h) }

/-- The header of the next Lifeline frame (R220), on the lane that carries traffic. -/
def State.llHeader (s : State) (f : LLFrame) : LLHeader := s.llHeaderOn s.trafficLane f

/-- Put something on the module's wires; a Lifeline frame takes its header (R220). (DESIGN CHOICE, log entries 10, 76.) -/
def State.emit (s : State) (o : Out) : State :=
  match o with
  | .lifeline f _ =>
    let h := s.llHeader f
    { s with out := s.out ++ [.lifeline f h], pair := { s.pair with sendNum := if llOrdered f then h.frameNum else s.pair.sendNum } }
  | o => { s with out := s.out ++ [o] }

/-- Send a Lifeline frame on a given lane (R220, R221). -/
def State.emitOn (s : State) (lane : Nat) (f : LLFrame) : State :=
  let h := s.llHeaderOn lane f
  { s with out := s.out ++ [.lifeline f h], pair := { s.pair with sendNum := if llOrdered f then h.frameNum else s.pair.sendNum } }

/-- Send one frame on both lanes (R56, R221, R232): one FRAME_NUM, so that the receiver's merged lanes deliver it once (R222).
(DEDUCED, log entry 60.) -/
def State.emitBoth (s : State) (f : LLFrame) : State :=
  let h := s.llHeaderOn 0 f
  let h' := s.llHeaderOn 1 f
  { s with out := s.out ++ [.lifeline f h, .lifeline f h'], pair := { s.pair with sendNum := if llOrdered f then h.frameNum else s.pair.sendNum } }

/-- The base-tick count (R28): LIN / 250,000 ns modulo 2³². -/
def State.baseTick (s : State) : BitVec 32 := BitVec.ofNat 32 (s.time.lin.toNat / 250000)

/-- The count that stands for the fastest task's cycle count: its own while the sequencer runs, else the base tick (R28). -/
def State.fastCount (s : State) : BitVec 32 :=
  if s.bit Fld.SEQ_STAT_RUNNING then s.getReg (Reg.SEQ_TASK_CYC (s.get Fld.SEQ_STAT_FASTEST)) else s.baseTick

/-- The effective cycle E of an accepted write: the count at acceptance plus 4 (R28, R215, R259, R289). -/
def State.effective (s : State) : BitVec 32 := s.fastCount + 4

/-- The survey in the active bank, if it holds one. -/
def State.activeSurvey (s : State) : Option Survey :=
  (sparseGet (fun _ => (⟨none⟩ : Bank)) s.banks (s.get Fld.SEQ_STAT_ACTIVE_BANK)).survey

/-- Whether the active bank is VERIFIED or ACTIVE (R119). -/
def State.surveyVerified (s : State) : Bool :=
  s.activeSurvey.isSome

/-! ### Record bodies (R472) and Flowstone's queue (R386 to R391) -/

/-- Lay items out as (width, value), each aligned to its own width, from an offset that is a multiple of 8 (R472).
(DESIGN CHOICE, log entry 75.) -/
def recordItems (acc : List Byte) : List (Nat × Nat) → List Byte
  | [] => acc
  | (w, v) :: is => recordItems (acc ++ List.replicate ((w - acc.length % w) % w) 0 ++ leBytes w v) is

/-- The body of a record (R472). (DESIGN CHOICE, log entry 75.) -/
def recordBody (items : List (Nat × Nat)) : List Byte := recordItems [] items

/-- A record's length in bytes: header, keyed part, body, timestamp, to a multiple of 16 (R386). (DESIGN CHOICE, log entry 75.) -/
def recordLength (r : FlsRecord) : Nat :=
  (24 + r.body.length + 15) / 16 * 16 + if r.stamp.isSome then 16 else 0

/-- The bytes of a record (R386). (DESIGN CHOICE, log entry 75.) -/
def recordBytes (r : FlsRecord) : List Byte :=
  let len := recordLength r
  let head := leBytes 1 (len / 16 - 1 + if r.stamp.isSome then 64 else 0) ++ leBytes 1 r.type ++ leBytes 4 r.seq.toNat
    ++ leBytes 6 r.opTime ++ leBytes 4 r.pwrCycles.toNat ++ leBytes 4 r.key.toNat ++ leBytes 2 r.rep
    ++ leBytes 2 (r.forced.toNat + 2 * r.dataSave.toNat) ++ r.body
  let ts := match r.stamp with
    | none => []
    | some (sec, ns, st) => leBytes 8 sec ++ leBytes 4 ns ++ leBytes 1 st ++ leBytes 3 0
  head ++ List.replicate (len - head.length - ts.length) 0 ++ ts

/-- Room in the write queue: 64 entries or 16 KiB (R389). -/
def entrySize : FlsEntry → Nat
  | .record r => recordLength r
  | .repeatAt _ => 8

def flsQueueBytes (q : List FlsEntry) : Nat := (q.map entrySize).sum

def flsRoom (q : List FlsEntry) (e : FlsEntry) : Bool :=
  decide (q.length < 64) && decide (flsQueueBytes q + entrySize e ≤ 16384)

/-- An unlisted byte of Flowstone MRAM: MAGIC and FORMAT of an initialised ring, else 0. (DESIGN CHOICE, log entry 2.) -/
def flsDefault (k : Nat) : Byte :=
  match k with
  | 0 => 0x46
  | 1 => 0x4C
  | 2 => 0x4F
  | 3 => 0x57
  | 4 => 0x01
  | _ => 0

/-- `n` bytes of Flowstone MRAM from offset `k`. -/
def State.flsRead (s : State) (k n : Nat) : List Byte := (List.range n).map fun j => sparseGet flsDefault s.fls.mram (k + j)

/-- A number of `n` bytes at offset `k`. -/
def State.flsNat (s : State) (k n : Nat) : Nat := ofLeBytes (s.flsRead k n)

def mramWrite (m : List (Nat × Byte)) (k : Nat) : List Byte → List (Nat × Byte)
  | [] => m
  | b :: bs => mramWrite (sparseSet flsDefault m k b) (k + 1) bs

/-- Write bytes to Flowstone MRAM; a 64-bit word written whole has valid ECC. -/
def State.flsWrite (s : State) (k : Nat) (bs : List Byte) : State :=
  { s with fls := { s.fls with mram := mramWrite s.fls.mram k bs
                               ue := s.fls.ue.filter fun w => decide (8 * w < k) || decide (k + bs.length < 8 * w + 8) } }

/-- HEAD_SEQ as the recorder counts it: the sequence the next queued record takes (R387, R389). -/
def State.flsNextSeq (s : State) : BitVec 32 :=
  BitVec.ofNat 32 (s.flsNat 12 4 + (s.fls.queue.filter fun e => match e with
    | .record _ => true
    | .repeatAt _ => false).length)

/-- Types whose recurrences count as repeats (R396, R416, R436, R455, R462). -/
def flsRepeats (type : Nat) : Bool :=
  [0x01, 0x03, 0x13, 0x14, 0x16, 0x18, 0x21, 0x23, 0x24, 0x25, 0x30, 0x33, 0x34, 0x35, 0x40, 0x41, 0x50, 0x51, 0x52, 0x58, 0x59,
    0x5C, 0x61, 0x62, 0x68, 0x70, 0x72, 0x74, 0x81, 0x83, 0x86, 0x95, 0xA2].contains type

/-- Whether `r` repeats the newest record queued or held (R390): type, key, PWR_CYCLES, REPEAT below 0xFFFF, and for GUARD_FAULT body
bytes 24 to 27. -/
def flsSame (r : FlsRecord) (type : Nat) (key : Nat) (pwr : Nat) (rep : Nat) (first4 : List Byte) : Bool :=
  decide (r.type = type) && decide (r.key.toNat = key) && decide (r.pwrCycles.toNat = pwr) && decide (rep < 0xFFFF)
    && flsRepeats r.type && (decide (r.type ≠ 0x68) || decide (r.body.take 4 = first4))

/-- The newest record in the queue, with its index. -/
def flsNewestQueued (q : List FlsEntry) : Option (Nat × FlsRecord) :=
  (q.zipIdx.reverse).findSome? fun p => match p.1 with
    | .record r => some (p.2, r)
    | .repeatAt _ => none

/-- REPEAT increments queued for the record held at `off`. -/
def flsQueuedRepeats (q : List FlsEntry) (off : Nat) : Nat :=
  (q.filter fun e => decide (e = FlsEntry.repeatAt off)).length

/-- Add an entry to the write queue; when it is full the record is discarded and counted, and the third component says so (R391). -/
def State.flsAdd (s : State) (e : FlsEntry) : State × Bool :=
  if flsRoom s.fls.queue e then ({ s with fls := { s.fls with queue := s.fls.queue ++ [e] } }, false)
  else
    let s := s.bump ⟨Reg.FLS_LOST, 0, 32⟩
    let s := s.putBit Fld.FLS_STAT_OVERFLOW true
    let s := s.flsWrite 0x1C (leBytes 4 (s.flsNat 0x1C 4 + 1))
    ({ s with fls := { s.fls with lostRun := s.fls.lostRun + 1 } }, true)

/-- Queue a record: a repeat of the newest record changes that record's REPEAT alone (R390), any other takes the next sequence and its
times (R389). The second component says that it was lost. -/
def State.flsQueueRecord (s : State) (type key : Nat) (body : List Byte) (forced : Bool) : State × Bool :=
  let stamp := if s.bit Fld.FLS_CTRL_TS_EN && s.get Fld.TIME_STAT_STATE != 0
    then some (s.time.seconds, s.time.nanoseconds, s.get Fld.TIME_STAT_STATE) else none
  let r : FlsRecord := ⟨type, s.flsNextSeq, s.fls.optime.toNat, s.getReg Reg.RST_PWR_CYCLES, BitVec.ofNat 32 key, 0, forced,
    s.core.saving, body, stamp⟩
  match flsNewestQueued s.fls.queue with
  | some (ix, q) =>
    if flsSame r q.type q.key.toNat q.pwrCycles.toNat q.rep (q.body.take 4) then
      ({ s with fls := { s.fls with queue := s.fls.queue.set ix (.record { q with rep := q.rep + 1 }) } }, false)
    else s.flsAdd (.record r)
  | none =>
    match s.fls.newest with
    | some off =>
      if flsSame r (s.flsNat (0x10000 + off + 1) 1) (s.flsNat (0x10000 + off + 16) 4) (s.flsNat (0x10000 + off + 12) 4)
          (s.flsNat (0x10000 + off + 20) 2 + flsQueuedRepeats s.fls.queue off) (s.flsRead (0x10000 + off + 24) 4) then
        s.flsAdd (.repeatAt off)
      else s.flsAdd (.record r)
    | none => s.flsAdd (.record r)

/-! ### Gate requests (R77 to R79, R182) -/

/-- A block reset request to gate `b` (R77 to R79): discarded during a module-level reset, before LOAD releases the gate and on a
reserved gate; merged into a reset under way; else the gate closes, and in quiesce mode an idle block goes into reset at once. -/
def State.gateRequest (s : State) (b : Nat) : State :=
  let g := s.gate b
  if s.rst.inReset || !g.released || g.resetting || decide (50 ≤ b) then s
  else
    let q := s.bit (Fld.GATE_CTRL_QUIESCE b)
    let s := s.setGate b { g with resetting := true, quiesced := q, outstanding := none, deferred := false }
    s.put (Fld.GATE_CTRL_STATE b) 1

/-- A request that the host or the Sump makes of a chamber's gate while the chamber executes is deferred (R182); any other goes to the
gate at once. -/
def State.gateRequestOuter (s : State) (b : Nat) : State :=
  if b < 16 ∧ 2 ≤ s.get (Fld.GAL_CH_STAT_STATE b) ∧ s.get (Fld.GAL_CH_STAT_STATE b) ≤ 4 then
    if (s.gate b).released then s.setGate b { s.gate b with deferred := true } else s
  else s.gateRequest b

/-- The gate that BLOCK_RESET of source `src` resets, for the instance of its detail word (R377). -/
def sumpGate (src inst : Nat) : Option Nat :=
  if 80 ≤ src ∧ src < 112 then some (inst % 16)
  else if 112 ≤ src ∧ src < 128 then some 45
  else if 128 ≤ src ∧ src < 160 then some (16 + inst % 16)
  else if 160 ≤ src ∧ src < 176 then some (32 + inst % 8)
  else if src = 176 ∨ src = 177 then some 44
  else if src = 178 ∨ src = 179 then some 46
  else if 192 ≤ src ∧ src < 200 then some (40 + inst % 4)
  else if 224 ≤ src ∧ src < 232 then some 48
  else if 232 ≤ src ∧ src < 240 then some 49
  else none

/-! ### Sump occurrences (R376 to R384) -/

/-- Flag, counter and detail word of an occurrence (R376, R382); the detail word of FW_EVENT is the host's (R383). -/
def State.sumpFlag (s : State) (src inst sub : Nat) (forced : Bool) : State :=
  let s := s.putBit (Fld.SUMP_SRC_FLAG src) true
  let s := s.bump (Fld.SUMP_CNT_COUNT src)
  if 240 ≤ src then s
  else s.putAll [(Fld.SUMP_DETAIL_INSTANCE src, inst), (Fld.SUMP_DETAIL_SUB src, sub), (Fld.SUMP_DETAIL_FORCED src, forced.toNat)]

/-- The reaction mask of a source as SUMP_SRC bits 12:8, bit 0 IRQ. -/
def State.sumpMask (s : State) (src : Nat) : Nat := (s.getReg (Reg.SUMP_SRC src)).toNat / 256 % 32

/-- The CLK_PER cycle that holds CLK_TIME cycle `c`: 2 of them at /1, 4 at /2, 8 at /4 (R63). (DESIGN CHOICE, log entry 113.) -/
def State.perCycle (s : State) (c : Nat) : Nat := c / (2 * 2 ^ s.get Fld.CLK_STAT_SQZ_RATIO)

/-- Of several MODULE_RESET sources in one CLK_PER cycle the one of highest severity stands, lowest number first (R381); a later one finds
the reset on its way. -/
def State.sumpModule (s : State) (src : Nat) : State :=
  let take : State := { s with sump := { s.sump with moduleReset := some (src, s.time.cycles) } }
  match s.sump.moduleReset with
  | none => take
  | some (o, c) =>
    let sev (n : Nat) : Nat := s.get (Fld.SUMP_SRC_SEVERITY n)
    if s.perCycle c = s.perCycle s.time.cycles ∧ (sev o < sev src ∨ (sev o = sev src ∧ src < o)) then take else s

/-- NMI, BLOCK_RESET and MODULE_RESET of an occurrence (R381). IRQ and ERR_PIN are levels that follow flags and masks. -/
def State.sumpReact (s : State) (src inst : Nat) : State :=
  let s := if s.bit (Fld.SUMP_SRC_NMI src) then s.emit (.nmi (s.get Fld.SUMP_CTRL_ROUTE) src) else s
  let s := if s.bit (Fld.SUMP_SRC_BLOCK_RESET src) then
      match sumpGate src inst with
      | some b => s.gateRequestOuter b
      | none => s
    else s
  if s.bit (Fld.SUMP_SRC_MODULE_RESET src) then s.sumpModule src else s

/-- The source has occurred in this CLK_PER cycle (R382). -/
def State.sumpSeen (s : State) (src : Nat) : Bool := s.sump.seen.contains (src, s.perCycle s.time.cycles)

/-- The next occurrence of a source is one of another CLK_PER cycle: it stands for an earlier instant. -/
def State.sumpForget (s : State) (src : Nat) : State :=
  { s with sump := { s.sump with seen := s.sump.seen.filter fun p => p.1 != src } }

/-- A further occurrence of a source in one CLK_PER cycle counts as one with the first: the flag stands, and the detail word records the
lowest instance (R382). The record of the first stays as it is. (DESIGN CHOICE, log entry 113.) -/
def State.sumpMerge (s : State) (src inst sub : Nat) (forced : Bool) : State :=
  let s := s.putBit (Fld.SUMP_SRC_FLAG src) true
  if 240 ≤ src then s
  else
    let s := if inst * 256 + sub < s.get (Fld.SUMP_DETAIL_INSTANCE src) * 256 + s.get (Fld.SUMP_DETAIL_SUB src) then
        s.putAll [(Fld.SUMP_DETAIL_INSTANCE src, inst), (Fld.SUMP_DETAIL_SUB src, sub)]
      else s
    if forced then s.putBit (Fld.SUMP_DETAIL_FORCED src) true else s

/-- The first occurrence of a source in a CLK_PER cycle: flag, counter, detail word and reactions. -/
def State.sumpNote (s : State) (src inst sub : Nat) (forced : Bool) : State :=
  let s := s.sumpForget src
  let s : State := { s with sump := { s.sump with seen := s.sump.seen ++ [(src, s.perCycle s.time.cycles)] } }
  (s.sumpFlag src inst sub forced).sumpReact src inst

/-- The SUMP_EVENT record of an occurrence, where R384 calls for one, and whether it was lost. -/
def State.sumpRecord (s : State) (src : Nat) (forced : Bool) : State × Bool :=
  let sev := s.get (Fld.SUMP_SRC_SEVERITY src)
  if s.get Fld.SUMP_CTRL_REC_SEV ≤ sev || forced then
    s.flsQueueRecord 0x01 (src * 2 ^ 24 + (s.getReg (Reg.SUMP_DETAIL src)).toNat % 2 ^ 24) (recordBody [(1, sev), (1, s.sumpMask src)]) forced
  else (s, false)

/-- An occurrence without the fixed action of severity 7: flag, reactions, and the SUMP_EVENT record of R384. A record lost for want of
room raises FLS_OVERFLOW in turn (R391), whose own record, if it calls for one, is lost and counted with it. -/
def State.sumpOccur (s : State) (src inst sub : Nat) (forced : Bool) : State :=
  if (sumpSource src).isNone then s
  else if s.sumpSeen src then s.sumpMerge src inst sub forced
  else
    let (s, lost) := (s.sumpNote src inst sub forced).sumpRecord src forced
    if lost then
      if s.sumpSeen Src.FLS_OVERFLOW then s.sumpMerge Src.FLS_OVERFLOW 0 0 false
      else ((s.sumpNote Src.FLS_OVERFLOW 0 0 false).sumpRecord Src.FLS_OVERFLOW false).1
    else s

/-- Queue a record of a chapter's own type; a record lost for want of room raises FLS_OVERFLOW (R391). -/
def State.record (s : State) (type key : Nat) (items : List (Nat × Nat)) : State :=
  let (s, lost) := s.flsQueueRecord type key (recordBody items) false
  if lost then s.sumpOccur Src.FLS_OVERFLOW 0 0 false else s

/-! ### Mode transitions (R26 to R29) -/

/-- Ask for a mode transition (R27, R29): of transitions due in one fastest-task cycle the one of lowest rank stands; an engineering
command (rank 4) displaced by another is refused. Of two engineering commands, which R29 gives one rank, the earlier stands and the later
is refused. (DESIGN CHOICE, log entry 85.) -/
def State.requestMode (s : State) (target : Mode) (rank : Nat) (effective : Option (BitVec 32)) : State :=
  match s.core.modeReq with
  | none => { s with core := { s.core with modeReq := some ⟨target, rank, effective⟩ } }
  | some r =>
    if r.rank ≤ rank then (if rank = 4 then s.emit .engRefused else s)
    else
      let s := if r.rank = 4 then s.emit .engRefused else s
      { s with core := { s.core with modeReq := some ⟨target, rank, effective⟩ } }

/-- Ask for module HOLD by a Sump reaction: from RUN and SERVICE alone (R26). -/
def State.requestHold (s : State) : State :=
  if s.mode = .run ∨ s.mode = .service then s.requestMode .hold 2 none else s

/-! ### Failover causes and yielding (R232, R237) -/

/-- One byte of a value the manual does not give (a record's cause code without an enumeration). (DESIGN CHOICE, log entry 4.) -/
def State.freeByte (s : State) : Nat × State := let (v, s) := s.draw; (v.toNat % 256, s)

/-- A level source's condition comes to hold in an instance: ACTIVE is set and each rise is an occurrence (R376).
(DEDUCED, log entry 50.) -/
def State.sumpRise (s : State) (src inst sub : Nat) : State :=
  let key := inst * 256 + sub
  let held := sparseGet (fun _ => []) s.sump.levels src
  if held.contains key then s
  else
    let s := { s with sump := { s.sump with levels := sparseSet (fun _ => []) s.sump.levels src (held ++ [key]) } }
    (s.putBit (Fld.SUMP_SRC_ACTIVE src) true).sumpOccur src inst sub false

/-- A level source's condition ceases to hold in an instance; ACTIVE follows the last instance (R376). (DEDUCED, log entry 50.) -/
def State.sumpFall (s : State) (src inst sub : Nat) : State :=
  let key := inst * 256 + sub
  let held := (sparseGet (fun _ => []) s.sump.levels src).filter fun k => k != key
  let s := { s with sump := { s.sump with levels := sparseSet (fun _ => []) s.sump.levels src held } }
  s.putBit (Fld.SUMP_SRC_ACTIVE src) (!held.isEmpty)

/-- Whether perturbation is allowed (R456). -/
def State.tpAllowed (s : State) : Bool :=
  match s.get Fld.SEC_STATUS_LIFECYCLE with
  | 1 => true
  | 2 => s.bit Fld.SEC_STATUS_ENG_SESSION && decide (s.mode = .service) && (s.role == .shadow || s.role == .solo)
      && !s.bit Fld.PAIR_STAT_YIELDED
  | _ => false

/-- Ask for the ratio that the three contributors give (R64, R400, R402); of requests before one edge the higher wins.
(DEDUCED, log entry 53.) -/
def State.squeezeRequest (s : State) : State :=
  let r := max (s.get Fld.PWR_STAT_RATIO_DROOP) (max (s.get Fld.PWR_STAT_RATIO_THERMAL) (s.get Fld.PWR_STAT_RATIO_FORCED))
  let r := match s.rst.ratioReq with
    | some q => max q r
    | none => r
  { s with rst := { s.rst with ratioReq := some r } }

/-- Whether perturbation kind `k` is active (R457). -/
def State.tpActive (s : State) (k : Nat) : Bool := s.get Fld.TP_STAT_ACTIVE / 2 ^ k % 2 == 1

/-- A kind is in no start and waits for nothing. -/
def TpState.forget (t : TpState) (k : Nat) : TpState :=
  { t with
    waiting := t.waiting.filter fun j => j != k
    starts := (t.starts.map fun (l : List Nat) => l.filter fun j => j != k).filter fun l => !l.isEmpty }

/-- The unit of a kind is as before (R460). -/
def State.tpRestore (s : State) (k : Nat) : State :=
  let s := if s.tpActive k then s.put Fld.TP_STAT_ACTIVE (s.get Fld.TP_STAT_ACTIVE - 2 ^ k) else s
  let s := if k = 5 then (s.put Fld.PWR_STAT_RATIO_FORCED 0).squeezeRequest else s
  if s.get Fld.TP_STAT_ACTIVE = 0 then s.sumpFall Src.TP_ACTIVE 0 0 else s

/-- A kind of perturbation stops (R460) and its unit is restored at once. The manual gives the causes no codes.
(DESIGN CHOICE, log entry 29.) -/
def State.tpStopKind (s : State) (k : Nat) : State :=
  if s.tpActive k || s.tp.waiting.contains k then
    let n := sparseGet (fun _ => 0) s.tp.affected k
    let (cause, s) := s.freeByte
    let s := s.record 0xA1 k [(1, cause), (4, n)]
    ({ s with tp := s.tp.forget k } : State).tpRestore k
  else s

/-- Stop kinds in their order. -/
def State.tpStopKinds (s : State) (ks : List Nat) : State := ks.foldl (fun s k => s.tpStopKind k) s

/-- Every kind stops in the cycle in which R456 ceases to hold (R460). -/
def State.tpCheck (s : State) : State := if s.tpAllowed then s else s.tpStopKinds (List.range 6)

/-- The module yields (R237): PAIR_YIELD, the record, HOLD, no Humar frame. (DESIGN CHOICE, log entry 29.) -/
def State.yieldModule (s : State) : State :=
  if s.bit Fld.PAIR_STAT_YIELDED then s
  else
    let s := s.putAll [(Fld.PAIR_STAT_YIELDED, 1), (Fld.PAIR_EVENT_YIELD, 1), (Fld.PAIR_STAT_WATCH, 0)]
    let s := s.bump Fld.PAIR_CNT_C_YIELDS
    let (cause, s) := s.freeByte
    let s := s.record 0x42 0 [(1, cause)]
    let s := s.sumpRise Src.PAIR_YIELD 0 0
    let s := { s with core := { s.core with humarOff := true }, pair := { s.pair with watchLeft := 0 } }
    s.tpCheck.requestHold

/-- Leave LEAD or SHADOW for SOLO (R226), counting a failover; a handover whose H has not passed does not take place (R244). The module
emits from the next EMIT on. -/
def State.becomeSolo (s : State) : State :=
  let s := if s.inPair then s.bump Fld.PAIR_CNT_A_FAILOVERS else s
  let s := (s.setRole .solo).putAll [(Fld.PAIR_STAT_HANDOVER_PENDING, 0), (Fld.PAIR_REVERT_REMAIN_S, 0), (Fld.PAIR_TIME_OFS_NS, 0)]
  { s with pair := { s.pair with handover := none, swappedNs := none, imageBeats := [], emitStopped := false, settling := false } }

/-- An on-line change ends before agreement (R210): sweep and mirror stop, the other area's tag is not valid, the inactive bank is EMPTY. A
refusal or an abort counts (OLC_COUNT). -/
def State.olcAbort (s : State) (reason : Nat) : State :=
  let st := s.get Fld.OLC_STAT_STATE
  if 1 ≤ st ∧ st ≤ 5 then
    let other := 1 - s.get Fld.GAL_AREA_RUN_AREA
    let b := 1 - s.get Fld.SEQ_STAT_ACTIVE_BANK
    let gen := s.olc.generation
    let s := s.put ⟨Reg.GAL_AREA, 1 + other, 1⟩ 0
    let s := s.putAll [(Fld.SVY_BANK_STATE b, 0), (Fld.SVY_BANK_GEN_GENERATION b, 0), (Fld.OLC_STAT_STATE, 0), (Fld.OLC_STAT_PARTNER_READY, 0),
      (Fld.OLC_STAT_AREA_SWEPT, 0), (Fld.OLC_STAT_PAGE_SWEPT, 0), (Fld.OLC_SWEEP_REMAIN, 0), (Fld.OLC_SWEEP_QUEUE, 0),
      (Fld.OLC_REASON_CODE, reason)]
    let s := { s with banks := sparseSet (fun _ => (⟨none⟩ : Bank)) s.banks b ⟨none⟩
                      olc := s.olc.over }
    let s := (s.bump Fld.OLC_COUNT_ABORTS).sumpOccur Src.OLC_ABORT 0 0 false
    s.record 0x28 reason [(4, gen)]
  else s

/-- A request for a change whose answer the partner still owes is refused with PARTNER once the Lifeline is not SYNCED (R198). -/
def State.olcUnanswered (s : State) : State :=
  if s.olc.asking.isSome then
    (({ s with olc := { s.olc with asking := none } } : State).put Fld.OLC_REASON_CODE 6).bump Fld.OLC_COUNT_ABORTS
  else s

/-- The Lifeline leaves SYNCED (R231, R233): a handover whose H has not passed does not take place (R244), a change not yet agreed ends in
each module (R210). -/
def State.leaveSynced (s : State) : State :=
  if s.ll = .synced then
    let s := (s.olcUnanswered.setLl .linked).putAll [(Fld.PAIR_STAT_HANDOVER_PENDING, 0), (Fld.PAIR_REVERT_REMAIN_S, 0)]
    ({ s with pair := { s.pair with handover := none } } : State).olcAbort 9
  else s

/-- A failover cause in this module (R232): RELINQUISH on both lanes with the Sump source that caused it, SOLO and yielded; the Lifeline leaves
SYNCED. -/
def State.failover (s : State) (src : Nat) : State :=
  let s := s.emitBoth (.relinquish src)
  let s := { s with pair := { s.pair with relinquishedAt := some s.nowNs, owed := [], owedHold := false } }
  let s := s.leaveSynced
  s.becomeSolo.yieldModule

/-- Sources whose consequence in SOLO their own chapter states (R120, R131, R185, R190, R211). -/
def sumpOwnSolo (src : Nat) : Bool :=
  [Src.SURVEY_ECC_UE_ACTIVE, Src.INSTANCE_UE, Src.CHAMBER_FAILED, Src.JOURNAL_UE, Src.SWAP_FAIL].contains src

/-- The fixed action of severity 7 (R380). -/
def State.sumpFixed (s : State) (src : Nat) : State :=
  if s.get (Fld.SUMP_SRC_SEVERITY src) = 7 then
    if s.inPair then
      let s := s.failover src
      { s with pair := { s.pair with owedHold := !sumpOwnSolo src } }
    else if sumpOwnSolo src then s
    else s.requestHold
  else s

/-- An occurrence with the fixed action of severity 7 (R380), once in a CLK_PER cycle (R382). -/
def State.sumpOccurFixed (s : State) (src inst sub : Nat) (forced : Bool) : State :=
  let t := s.sumpOccur src inst sub forced
  if s.sumpSeen src then t else t.sumpFixed src

/-- An occurrence of a Sump source as hardware raises it (R376). -/
def State.raise (s : State) (src inst sub : Nat) : State :=
  if (sumpSource src).isNone then s else s.sumpOccurFixed src inst sub false

/-- A level source's condition comes to hold, with the fixed action of a raised severity 7 (R380). -/
def State.rise (s : State) (src inst sub : Nat) : State :=
  if (sparseGet (fun _ => []) s.sump.levels src).contains (inst * 256 + sub) then s
  else
    let t := s.sumpRise src inst sub
    if s.sumpSeen src then t else t.sumpFixed src

/-- A level source's condition ceases to hold. -/
def State.fall (s : State) (src inst sub : Nat) : State := s.sumpFall src inst sub

/-- ERR_N as the module drives it (R36): released in module reset, held in HIBERNATE, else asserted by LOAD, by the wake stall or by a
flagged source with ERR_PIN. -/
def State.errN (s : State) : Bool :=
  if s.mode = .hibernate then s.core.errHeld
  else if s.rst.inReset then false
  else s.core.errForced || (List.range 256).any fun i => s.bit (Fld.SUMP_SRC_FLAG i) && s.bit (Fld.SUMP_SRC_ERR_PIN i)

/-- The Sump interrupt level to a host core pair (R381). -/
def State.sumpIrq (s : State) (pair : Nat) : Bool :=
  decide (s.get Fld.SUMP_CTRL_ROUTE = pair) && (List.range 256).any fun i => s.bit (Fld.SUMP_SRC_FLAG i) && s.bit (Fld.SUMP_SRC_IRQ i)

end Sys2Proof.Machine
end

