-- ==== Sys2Proof/Machine/Operands.lean ====
section
/-! DEFINITION. The operand forms of commands: a register write by field access type (R7, R9), clamped values (R468), action bits
(R469), the lock of a block, and the shapes the written word of a command register takes. -/
namespace Sys2Proof.Machine

/-- Whether the LOCK of a register's block is 1 (R7). -/
def State.rowLocked (s : State) (r : RegRow) : Bool := decide (r.lock ≠ 0) && (s.getReg r.lock).getLsbD 0

/-- What a write of `v` leaves in a register that held `old`, by the access types of its bits: RW bits take `v`, RWL bits do so unless
locked, W1C bits clear, W1S bits set, all others keep (R7, R9). (DEDUCED, log entry 11.) -/
def rowStore (r : RegRow) (locked : Bool) (old v : BitVec 32) : BitVec 32 :=
  let wr := if locked then r.rw else r.rw ||| r.rwl
  let w := (old &&& ~~~wr) ||| (v &&& wr)
  (w &&& ~~~(v &&& r.w1c)) ||| (v &&& r.w1s)

/-- Fields whose out-of-range values are clamped, with their bounds (R468, and the registers' tables). -/
def clampTable : List (RegField × Nat × Nat) := [
  (Fld.WDT_CTRL_TIMEOUT, 10, 10000),
  (Fld.PAIR_CTRL_LL_LOSS_US, 100, 1000),
  (Fld.TP_DURATION_DURATION_S, 1, 3600),
  (Fld.TIME_CFG_JUMP_US, 1, 1000000),
  (Fld.TIME_CFG_SLEW_PPM, 1, 500),
  (Fld.TIME_HOLD_HOLD_MS, 100, 60000),
  (Fld.PWR_SQZ_CFG_HOLD_US, 10, 1000),
  (Fld.LS_CTRL_LEAK_S, 1, 3600),
  (Fld.OLC_CTRL_SWAP_LEAD_MS, 2, 1000),
  (Fld.BB_PRP_CFG_LIFE_MS, 100, 10000),
  (Fld.BB_PRP_CFG_FORGET_MS, 10, 10000)]

/-- Clamp the fields of the register at `a` (R468); TIME_RATE is signed and clamped to ±500,000,000 (R348). -/
def clampReg (a : Nat) (v : BitVec 32) : BitVec 32 :=
  if a = Reg.TIME_RATE then BitVec.ofInt 32 (max (-500000000) (min 500000000 v.toInt))
  else if 16 > (List.range 16).findIdx (fun i => a == Reg.ISL_CTRL i) then
    (Fld.ISL_CTRL_TIMEOUT_US 0).ins v (max 100 (min 1000000 ((Fld.ISL_CTRL_TIMEOUT_US 0).ext v)))
  else clampTable.foldl (fun v c => if c.1.addr = a then c.1.ins v (max c.2.1 (min c.2.2 (c.1.ext v))) else v) v

/-- The plain effect of a register write (R7): no action, no refusal. A write to reserved space is ignored (R465). -/
def State.regStore (s : State) (a : Nat) (v : BitVec 32) : State :=
  match regFind a with
  | none => s
  | some r => s.setReg a (clampReg a (rowStore r (s.rowLocked r) (s.getReg a) v))

/-- How many of the given action bits a written word sets (R469). -/
def actionCount (acts : List RegField) (v : BitVec 32) : Nat := (acts.filter fun f => f.on v).length

/-- Whether a write sets two or more action bits and is ignored whole (R469). -/
def actionClash (acts : List RegField) (v : BitVec 32) : Bool := decide (2 ≤ actionCount acts v)

/-- A write of a register with action bits: one that sets two of them is ignored whole, and REFUSED, where there is one, is set (R469). -/
def State.actions (s : State) (acts : List RegField) (refused : Option RegField) (v : BitVec 32) (k : State → State) : State :=
  if actionClash acts v then
    match refused with
    | some f => s.putBit f true
    | none => s
  else k s

/-- Whether an authenticated engineering session is open (R435). -/
def State.session (s : State) : Bool := s.bit Fld.SEC_STATUS_ENG_SESSION

/-- An access to the registers of a block while its gate is closed or in reset gets an error response and changes nothing (R77, R465).
(DESIGN CHOICE, log entry 10; DEDUCED, log entry 74.) -/
def State.gated (s : State) (b : Nat) (k : State → State) : State :=
  if s.get (Fld.GATE_CTRL_STATE b) = 0 then k s else { s with bus := .error }

/-- Answer of a command that ends in a next state. -/
def done (s : State) : Host.Outcome State Fault Refusal := .next s

end Sys2Proof.Machine
end

