-- ==== Sys2Proof/Machine/Flags.lean ====
section
/-! DEFINITION. The status nibble and the tags of lanes (R23 to R25, R133), and the signal slot's fields (R17, R19, R20). -/
namespace Sys2Proof.Machine

def Tag.GOOD : Nibble := 0
def Tag.FORCED : Nibble := 1
def Tag.SIMULATED : Nibble := 2
def Tag.HELD : Nibble := 3
def Tag.STALE : Nibble := 4
def Tag.UNCERTAIN_RANGE : Nibble := 5
def Tag.INIT : Nibble := 6
def Tag.BAD_LOW_ALARM : Nibble := 8
def Tag.BAD_HIGH_ALARM : Nibble := 9
def Tag.BAD_WIRE : Nibble := 0xA
def Tag.BAD_COMPLIANCE : Nibble := 0xB
def Tag.BAD_EXTERNAL_DRIVE : Nibble := 0xC
def Tag.BAD_STATION_LOST : Nibble := 0xD
def Tag.BAD_SUPPLY : Nibble := 0xE
def Tag.BAD_CHANNEL_FAULT : Nibble := 0xF

/-- Rank of a status code in the order of precedence of R25; 7, which no slot holds, ranks last. -/
def tagRank (x : Nibble) : Nat :=
  match x.toNat with
  | 1 => 1
  | 2 => 2
  | 14 => 3
  | 13 => 4
  | 15 => 5
  | 12 => 6
  | 10 => 7
  | 11 => 8
  | 9 => 9
  | 8 => 9
  | 4 => 10
  | 3 => 11
  | 5 => 12
  | 6 => 13
  | 0 => 14
  | _ => 15

/-- The first applicable of two status codes (R25). -/
def tagFirst (x y : Nibble) : Nibble := if tagRank y < tagRank x then y else x

/-- The status a tag contributes to a result: FORCED and SIMULATED never propagate (R133). -/
def tagCarried (x : Nibble) : Nibble := if 3 ≤ tagRank x ∧ tagRank x ≤ 13 then x else Tag.GOOD

/-- propagate(x, y) of R133. -/
def propagate (x y : Nibble) : Nibble := tagFirst (tagCarried x) (tagCarried y)

/-- Whether a status is bad (R23). -/
def tagBad (x : Nibble) : Bool := x.getLsbD 3

/-! ### Signal slots (R17) -/

def slotValue (w : DWord) : BitVec 32 := w.extractLsb' 32 32
def slotStatus (w : DWord) : Nibble := w.extractLsb' 28 4
def slotOrigin (w : DWord) : Nibble := w.extractLsb' 24 4
def slotAge (w : DWord) : Nat := (w.extractLsb' 16 8).toNat
def slotSeq (w : DWord) : BitVec 16 := w.extractLsb' 0 16

/-- A slot from its fields (R17). -/
def mkSlot (value : BitVec 32) (status origin : Nibble) (age : Nat) (seq : BitVec 16) : DWord :=
  (value ++ status ++ origin ++ BitVec.ofNat 8 (min age 255) ++ seq : BitVec 64)

def slotWithStatus (w : DWord) (st : Nibble) : DWord := mkSlot (slotValue w) st (slotOrigin w) (slotAge w) (slotSeq w)

def slotWithValue (w : DWord) (v : BitVec 32) : DWord := mkSlot v (slotStatus w) (slotOrigin w) (slotAge w) (slotSeq w)

/-- AGE one cycle later, saturating (R20). -/
def slotAged (w : DWord) : DWord := mkSlot (slotValue w) (slotStatus w) (slotOrigin w) (slotAge w + 1) (slotSeq w)

/-- The slot of LEAD, this module in SOLO, in a task cycle with instant `t0` (R19, R244): 0 A, 1 B. -/
def State.leadSlot (s : State) (t0 : Nat) : Nat :=
  let r := s.cycleRole t0
  if r = .shadow ∨ r = .joining then 1 - s.slot else s.slot

/-- ORIGIN of a slot that LEAD (this module in SOLO) derives (R19): bit 3 its slot, bits 2:0 the source class. -/
def State.origin (s : State) (t0 cls : Nat) : Nibble := BitVec.ofNat 4 (s.leadSlot t0 % 2 * 8 + cls)

/-- The NaN rule of the signal table: a signalling NaN is stored as the quiet NaN with BAD_CHANNEL_FAULT (R18), which takes its place in the
order of R25. -/
def isSnan (v : BitVec 32) : Bool := v.extractLsb' 23 8 == 0xFF && v.extractLsb' 0 22 != 0 && !v.getLsbD 22

def storeFloat (v : BitVec 32) (st : Nibble) : BitVec 32 × Nibble :=
  if isSnan v then (v ||| 0x00400000, tagFirst st Tag.BAD_CHANNEL_FAULT) else (v, st)

end Sys2Proof.Machine
end

