-- ==== Sys2Proof/Machine/Float.lean ====
section
/-! DEFINITION. Binary32 arithmetic of the lanes (R139): round to nearest even, subnormal operands and results flushed to zero of the same
sign, one quiet NaN. -/
namespace Sys2Proof.Machine

/-- A binary32 operand: NaN (signalling or quiet), infinity, zero (a subnormal is flushed), or ±m · 2^e with m of 24 bits. -/
inductive F32 where
  | nan (signalling : Bool)
  | inf (neg : Bool)
  | zero (neg : Bool)
  | fin (neg : Bool) (m : Nat) (e : Int)
  deriving DecidableEq, Repr

def f32Read (v : BitVec 32) : F32 :=
  let sgn := v.getLsbD 31
  let ex := (v.extractLsb' 23 8).toNat
  let fr := (v.extractLsb' 0 23).toNat
  if ex = 255 then (if fr = 0 then .inf sgn else .nan (!v.getLsbD 22))
  else if ex = 0 then .zero sgn
  else .fin sgn (fr + 8388608) ((ex : Int) - 150)

def f32Nan : BitVec 32 := 0x7FC00000
def f32Inf (neg : Bool) : BitVec 32 := if neg then 0xFF800000 else 0x7F800000
def f32Zero (neg : Bool) : BitVec 32 := if neg then 0x80000000 else 0

/-- Divide by 2^k rounding to nearest, ties to even. -/
def roundShift (m k : Nat) : Nat :=
  let q := m / 2 ^ k
  let r := m % 2 ^ k
  if k = 0 then m
  else if 2 ^ (k - 1) < r ∨ (r = 2 ^ (k - 1) ∧ q % 2 = 1) then q + 1 else q

/-- The binary32 nearest to ±m · 2^e (R139); a subnormal result is flushed. (DEDUCED, log entry 30.) -/
def f32Round (neg : Bool) (m : Nat) (e : Int) : BitVec 32 :=
  if m = 0 then f32Zero neg
  else
    let n : Int := (Nat.log2 m : Int)
    let sh : Int := max (n - 23) (-149 - e)
    let q := if 0 ≤ sh then roundShift m sh.toNat else m * 2 ^ (-sh).toNat
    let (q, ex) := if q = 16777216 then (8388608, e + sh + 1) else (q, e + sh)
    if q < 8388608 then f32Zero neg
    else if 255 ≤ ex + 150 then f32Inf neg
    else (if neg then 0x80000000 else 0) ||| BitVec.ofNat 32 ((ex + 150).toNat * 8388608 + (q - 8388608))

/-- A result and whether it takes BAD_CHANNEL_FAULT whatever the operands' tags. -/
abbrev FRes := BitVec 32 × Bool

/-- A NaN result for NaN operands (R139). -/
def nanOf (a b : F32) : Option FRes :=
  match a, b with
  | .nan s, .nan t => some (f32Nan, s || t)
  | .nan s, _ => some (f32Nan, s)
  | _, .nan t => some (f32Nan, t)
  | _, _ => none

/-- DEDUCED, log entry 30. -/
def f32Add (x y : BitVec 32) : FRes :=
  let a := f32Read x
  let b := f32Read y
  match nanOf a b with
  | some r => r
  | none =>
    match a, b with
    | .inf s, .inf t => if s = t then (f32Inf s, false) else (f32Nan, true)
    | .inf s, _ => (f32Inf s, false)
    | _, .inf t => (f32Inf t, false)
    | .zero s, .zero t => (f32Zero (s && t), false)
    | .zero _, .fin t m e => (f32Round t m e, false)
    | .fin s m e, .zero _ => (f32Round s m e, false)
    | .fin s m e, .fin t n f =>
      let lo := min e f
      let p : Int := (m * 2 ^ (e - lo).toNat : Nat)
      let q : Int := (n * 2 ^ (f - lo).toNat : Nat)
      let sum := (if s then -p else p) + (if t then -q else q)
      if sum = 0 then (f32Zero false, false) else (f32Round (decide (sum < 0)) sum.natAbs lo, false)
    | _, _ => (f32Nan, true)

def f32Neg (x : BitVec 32) : BitVec 32 := x ^^^ 0x80000000

/-- DEDUCED, log entry 30. -/
def f32Mul (x y : BitVec 32) : FRes :=
  let a := f32Read x
  let b := f32Read y
  match nanOf a b with
  | some r => r
  | none =>
    match a, b with
    | .inf s, .inf t => (f32Inf (s != t), false)
    | .inf s, .fin t _ _ => (f32Inf (s != t), false)
    | .fin s _ _, .inf t => (f32Inf (s != t), false)
    | .zero s, .zero t => (f32Zero (s != t), false)
    | .zero s, .fin t _ _ => (f32Zero (s != t), false)
    | .fin s _ _, .zero t => (f32Zero (s != t), false)
    | .fin s m e, .fin t n f => (f32Round (s != t) (m * n) (e + f), false)
    | _, _ => (f32Nan, true)

/-- DEDUCED, log entry 30. -/
def f32Div (x y : BitVec 32) : FRes :=
  let a := f32Read x
  let b := f32Read y
  match nanOf a b with
  | some r => r
  | none =>
    match a, b with
    | .inf s, .fin t _ _ => (f32Inf (s != t), false)
    | .inf s, .zero t => (f32Inf (s != t), false)
    | .fin s _ _, .inf t => (f32Zero (s != t), false)
    | .zero s, .inf t => (f32Zero (s != t), false)
    | .fin s _ _, .zero t => (f32Inf (s != t), false)
    | .zero s, .fin t _ _ => (f32Zero (s != t), false)
    | .fin s m e, .fin t n f =>
      let p := m * 2 ^ 64
      let q := 2 * (p / n) + (if p % n = 0 then 0 else 1)
      (f32Round (s != t) q (e - f - 65), false)
    | _, _ => (f32Nan, true)

/-- Integer square root of a number below 2^(2k), bit by bit. -/
def isqrt : Nat → Nat → Nat → Nat
  | 0, _, r => r
  | k + 1, n, r => if (r + 2 ^ k) * (r + 2 ^ k) ≤ n then isqrt k n (r + 2 ^ k) else isqrt k n r

/-- DEDUCED, log entry 30. -/
def f32Sqrt (x : BitVec 32) : FRes :=
  match f32Read x with
  | .nan s => (f32Nan, s)
  | .inf false => (f32Inf false, false)
  | .inf true => (f32Nan, true)
  | .zero s => (f32Zero s, false)
  | .fin true _ _ => (f32Nan, true)
  | .fin false m e =>
    let (m, e) := if e % 2 = 0 then (m * 2 ^ 40, e - 40) else (m * 2 ^ 41, e - 41)
    let r := isqrt 34 m 0
    (f32Round false (2 * r + (if r * r = m then 0 else 1)) (e / 2 - 1), false)

/-- An operand as the unit sees it: subnormals are zero of the same sign. (DEDUCED, log entry 30.) -/
def f32Flush (x : BitVec 32) : BitVec 32 :=
  match f32Read x with
  | .zero s => f32Zero s
  | .nan _ => f32Nan
  | _ => x

/-- a < b as numbers; −0 equals +0. -/
def f32Lt (x y : BitVec 32) : Bool :=
  match f32Read x, f32Read y with
  | .nan _, _ => false
  | _, .nan _ => false
  | .inf s, .inf t => s && !t
  | .inf s, _ => s
  | _, .inf t => !t
  | .zero _, .zero _ => false
  | .zero _, .fin t _ _ => !t
  | .fin s _ _, .zero _ => s
  | .fin s m e, .fin t n f =>
    if s != t then s
    else
      let lo := min e f
      let p := m * 2 ^ (e - lo).toNat
      let q := n * 2 ^ (f - lo).toNat
      if s then decide (q < p) else decide (p < q)

def f32IsNan (x : BitVec 32) : Bool :=
  match f32Read x with
  | .nan _ => true
  | _ => false

/-- Whether a NaN operand is signalling (R139). -/
def f32Snan (x : BitVec 32) : Bool :=
  match f32Read x with
  | .nan s => s
  | _ => false

def f32Eq (x y : BitVec 32) : Bool := !f32IsNan x && !f32IsNan y && !f32Lt x y && !f32Lt y x

/-- FMIN (`least`) and FMAX: one NaN returns the other operand, −0 is below +0 (R139). (DEDUCED, log entry 30.) -/
def f32Pick (least : Bool) (x y : BitVec 32) : FRes :=
  let bad := f32Snan x || f32Snan y
  let r :=
    if f32IsNan x then f32Flush y
    else if f32IsNan y then f32Flush x
    else if f32Lt x y then f32Flush (if least then x else y)
    else if f32Lt y x then f32Flush (if least then y else x)
    else
      match f32Read x, f32Read y with
      | .zero s, .zero t => f32Zero (if least then s || t else s && t)
      | _, _ => f32Flush x
  (r, bad)

/-- FABS and FNEG. -/
def f32Sign (x : BitVec 32) (f : Bool → Bool) : FRes :=
  match f32Read x with
  | .nan s => (f32Nan, s)
  | .inf s => (f32Inf (f s), false)
  | .zero s => (f32Zero (f s), false)
  | .fin s _ _ => ((x &&& 0x7FFFFFFF) ||| (if f s then 0x80000000 else 0), false)

/-- I2F and U2F of an exact integer. -/
def f32OfInt (i : Int) : BitVec 32 := if i = 0 then 0 else f32Round (decide (i < 0)) i.natAbs 0

/-- F2I (`even`) and F2IT: saturating; a NaN gives 0. (DEDUCED, log entry 30.) -/
def f32ToInt (even : Bool) (x : BitVec 32) : BitVec 32 :=
  let sat (neg : Bool) (n : Nat) : BitVec 32 :=
    if neg then (if 2147483648 ≤ n then 0x80000000 else -(BitVec.ofNat 32 n))
    else (if 2147483648 ≤ n then 0x7FFFFFFF else BitVec.ofNat 32 n)
  match f32Read x with
  | .nan _ => 0
  | .inf s => sat s 2147483648
  | .zero _ => 0
  | .fin s m e =>
    if 0 ≤ e then sat s (m * 2 ^ (min e 40).toNat)
    else
      let k := (-e).toNat
      sat s (if even then roundShift m k else m / 2 ^ k)

end Sys2Proof.Machine
end

