-- ==== Sys2Proof/Machine/BlockCode.lean ====
section
/-! DEFINITION. Block code: the instructions of a lane, their decoding from a word of code SRAM (R136 to R140), their integer and
floating-point results (R138, R139), their cycle counts (R141), and the signature (R174). -/
namespace Sys2Proof.Machine

/-- ALU operations in the order of FUNC[4:0] (R138). -/
inductive AluFn where
  | add | sub | and | or | xor | sll | srl | sra | slt | sltu | min | max | minu | maxu | mul | mulh | mulhu | div | divu | rem | remu
  deriving DecidableEq, Repr

/-- Immediate operations (R137, 0x01 to 0x06). -/
inductive ImmFn where
  | addi | andi | ori | xori | slti | sltiu
  deriving DecidableEq, Repr

/-- Shift types of SHI (R137). -/
inductive ShiftFn where
  | sll | srl | sra
  deriving DecidableEq, Repr

/-- FPU operations in the order of FUNC[4:0] (R139). -/
inductive FpuFn where
  | fadd | fsub | fmul | fdiv | fsqrt | fmin | fmax | fabs | fneg | flt | fle | feq | i2f | f2i | u2f | f2it
  deriving DecidableEq, Repr

/-- Conditions of branches (R137). -/
inductive BranchFn where
  | eq | ne | lt | ge | ltu | geu
  deriving DecidableEq, Repr

/-- One instruction of a lane. Sizes are in bytes. -/
inductive LaneOp where
  | alu (f : AluFn) (w32 : Bool) (d a b : BitVec 5)
  | imm (f : ImmFn) (d a : BitVec 5) (i : BitVec 16)
  | shift (f : ShiftFn) (d a : BitVec 5) (n : BitVec 6)
  | lui (d : BitVec 5) (i : BitVec 16)
  | fpu (f : FpuFn) (d a b : BitVec 5)
  | endOp
  | tok (i : BitVec 12)
  | gett (d a : BitVec 5)
  | sett (d a : BitVec 5)
  | joint (d a : BitVec 5)
  | jr (a : BitVec 5)
  | cyc (d : BitVec 5)
  | t0ns (d : BitVec 5)
  | first (d : BitVec 5)
  | rpoll (d a : BitVec 5) (i : BitVec 12)
  | rput (d a : BitVec 5) (i : BitVec 12)
  | period (d : BitVec 5)
  | jump (off : BitVec 26)
  | call (off : BitVec 26)
  | load (size : Nat) (d a : BitVec 5) (i : BitVec 16)
  | store (size : Nat) (d a : BitVec 5) (i : BitVec 16)
  | iload (size : Nat) (d a : BitVec 5) (i : BitVec 16)
  | istore (size : Nat) (d a : BitVec 5) (i : BitVec 16)
  | lds (whole : Bool) (d a : BitVec 5) (i : BitVec 16)
  | sts (d a : BitVec 5) (i : BitVec 16)
  | branch (f : BranchFn) (a b : BitVec 5) (off : BitVec 16)
  | branchTag (bad : Bool) (a : BitVec 5) (off : BitVec 16)
  deriving DecidableEq, Repr

def aluFns : List AluFn := [.add, .sub, .and, .or, .xor, .sll, .srl, .sra, .slt, .sltu, .min, .max, .minu, .maxu, .mul, .mulh, .mulhu,
  .div, .divu, .rem, .remu]

def fpuFns : List FpuFn := [.fadd, .fsub, .fmul, .fdiv, .fsqrt, .fmin, .fmax, .fabs, .fneg, .flt, .fle, .feq, .i2f, .f2i, .u2f, .f2it]

def immFns : List ImmFn := [.addi, .andi, .ori, .xori, .slti, .sltiu]

def branchFns : List BranchFn := [.eq, .ne, .lt, .ge, .ltu, .geu]

/-- The SYS operation of a word (R140). -/
def decodeSys (sub : Nat) (d a : BitVec 5) (i : BitVec 12) : Option LaneOp :=
  match sub with
  | 0x0 => some .endOp
  | 0x1 => some (.tok i)
  | 0x2 => some (.gett d a)
  | 0x3 => some (.sett d a)
  | 0x4 => some (.joint d a)
  | 0x5 => some (.jr a)
  | 0x6 => some (.cyc d)
  | 0x7 => some (.t0ns d)
  | 0x8 => some (.first d)
  | 0x9 => some (.rpoll d a i)
  | 0xA => some (.rput d a i)
  | 0xB => some (.period d)
  | _ => none

/-- The instruction a word of code SRAM spells; none is ILLEGAL (R136 to R140, R142). -/
def decodeBlock (w : BitVec 32) : Option LaneOp :=
  let op := (w.extractLsb' 26 6).toNat
  let f1 : BitVec 5 := w.extractLsb' 21 5
  let f2 : BitVec 5 := w.extractLsb' 16 5
  let f3 : BitVec 5 := w.extractLsb' 11 5
  let func := (w.extractLsb' 0 11).toNat
  let i16 : BitVec 16 := w.extractLsb' 0 16
  if op = 0x00 then
    if func / 32 % 32 = 0 then (aluFns[func % 32]?).map fun f => .alu f (w.getLsbD 10) f1 f2 f3 else none
  else if op < 0x07 then (immFns[op - 1]?).map fun f => .imm f f1 f2 i16
  else if op = 0x07 then
    match (w.extractLsb' 6 2).toNat with
    | 0 => some (.shift .sll f1 f2 (w.extractLsb' 0 6))
    | 1 => some (.shift .srl f1 f2 (w.extractLsb' 0 6))
    | 2 => some (.shift .sra f1 f2 (w.extractLsb' 0 6))
    | _ => none
  else if op = 0x08 then some (.lui f1 i16)
  else if op = 0x10 then
    if func / 32 = 0 then (fpuFns[func % 32]?).map fun f => .fpu f f1 f2 f3 else none
  else if op = 0x18 then decodeSys (w.extractLsb' 12 4).toNat f1 f2 (w.extractLsb' 0 12)
  else if op = 0x19 then some (.jump (w.extractLsb' 0 26))
  else if op = 0x1A then some (.call (w.extractLsb' 0 26))
  else if 0x20 ≤ op ∧ op < 0x24 then some (.load (2 ^ (op - 0x20)) f1 f2 i16)
  else if 0x24 ≤ op ∧ op < 0x28 then some (.store (2 ^ (op - 0x24)) f1 f2 i16)
  else if 0x28 ≤ op ∧ op < 0x2C then some (.iload (2 ^ (op - 0x28)) f1 f2 i16)
  else if 0x2C ≤ op ∧ op < 0x30 then some (.istore (2 ^ (op - 0x2C)) f1 f2 i16)
  else if op = 0x30 then some (.lds false f1 f2 i16)
  else if op = 0x31 then some (.lds true f1 f2 i16)
  else if op = 0x32 then some (.sts f1 f2 i16)
  else if 0x38 ≤ op ∧ op < 0x3E then (branchFns[op - 0x38]?).map fun f => .branch f f1 f2 i16
  else if op = 0x3E then (if f2 = 0 then some (.branchTag true f1 i16) else none)
  else if op = 0x3F then (if f2 = 0 then some (.branchTag false f1 i16) else none)
  else none

/-- What an instruction's fields may hold: sizes are 1, 2, 4 and 8 bytes (R137). -/
def LaneOp.wf : LaneOp → Bool
  | .load size .. | .store size .. | .iload size .. | .istore size .. => [1, 2, 4, 8].contains size
  | _ => true

/-- The word of an instruction with `d`, `a` and IMM16 (R136). -/
def encodeI (op : BitVec 6) (d a : BitVec 5) (i : BitVec 16) : BitVec 32 := op ++ d ++ a ++ i

/-- The word of a SYS instruction (R136, R140). -/
def encodeS (sub : BitVec 4) (d a : BitVec 5) (i : BitVec 12) : BitVec 32 := (0x18 : BitVec 6) ++ d ++ a ++ sub ++ i

/-- The word of an instruction (R136 to R140); a field it does not use is 0. -/
def encodeBlock : LaneOp → BitVec 32
  | .alu f w32 d a b => (0x00 : BitVec 6) ++ d ++ a ++ b ++ BitVec.ofBool w32 ++ (0 : BitVec 5) ++ BitVec.ofNat 5 (aluFns.idxOf f)
  | .imm f d a i => encodeI (BitVec.ofNat 6 (1 + immFns.idxOf f)) d a i
  | .shift f d a n =>
    encodeI 0x07 d a ((0 : BitVec 8) ++ (match f with | .sll => (0 : BitVec 2) | .srl => 1 | .sra => 2) ++ n)
  | .lui d i => encodeI 0x08 d 0 i
  | .fpu f d a b => (0x10 : BitVec 6) ++ d ++ a ++ b ++ (0 : BitVec 6) ++ BitVec.ofNat 5 (fpuFns.idxOf f)
  | .endOp => encodeS 0x0 0 0 0
  | .tok i => encodeS 0x1 0 0 i
  | .gett d a => encodeS 0x2 d a 0
  | .sett d a => encodeS 0x3 d a 0
  | .joint d a => encodeS 0x4 d a 0
  | .jr a => encodeS 0x5 0 a 0
  | .cyc d => encodeS 0x6 d 0 0
  | .t0ns d => encodeS 0x7 d 0 0
  | .first d => encodeS 0x8 d 0 0
  | .rpoll d a i => encodeS 0x9 d a i
  | .rput d a i => encodeS 0xA d a i
  | .period d => encodeS 0xB d 0 0
  | .jump off => (0x19 : BitVec 6) ++ off
  | .call off => (0x1A : BitVec 6) ++ off
  | .load size d a i => encodeI (BitVec.ofNat 6 (0x20 + Nat.log2 size)) d a i
  | .store size d a i => encodeI (BitVec.ofNat 6 (0x24 + Nat.log2 size)) d a i
  | .iload size d a i => encodeI (BitVec.ofNat 6 (0x28 + Nat.log2 size)) d a i
  | .istore size d a i => encodeI (BitVec.ofNat 6 (0x2C + Nat.log2 size)) d a i
  | .lds whole d a i => encodeI (if whole then 0x31 else 0x30) d a i
  | .sts d a i => encodeI 0x32 d a i
  | .branch f a b off => encodeI (BitVec.ofNat 6 (0x38 + branchFns.idxOf f)) a b off
  | .branchTag bad a off => encodeI (if bad then 0x3E else 0x3F) a 0 off

/-! ### Results -/

def boolWord {n : Nat} (b : Bool) : BitVec n := if b then 1 else 0

/-- The ALU at width `n` (R138): 64, or 32 with W = 1. -/
def aluAt {n : Nat} (f : AluFn) (x y : BitVec n) : BitVec n :=
  let sh := y.toNat % n
  match f with
  | .add => x + y
  | .sub => x - y
  | .and => x &&& y
  | .or => x ||| y
  | .xor => x ^^^ y
  | .sll => x <<< sh
  | .srl => x >>> sh
  | .sra => x.sshiftRight sh
  | .slt => boolWord (x.slt y)
  | .sltu => boolWord (x.ult y)
  | .min => if y.slt x then y else x
  | .max => if x.slt y then y else x
  | .minu => if y.ult x then y else x
  | .maxu => if x.ult y then y else x
  | .mul => x * y
  | .mulh => BitVec.ofInt n (x.toInt * y.toInt / (2 ^ n : Nat))
  | .mulhu => BitVec.ofNat n (x.toNat * y.toNat / 2 ^ n)
  | .div => if y = 0 then 0 else BitVec.ofInt n (x.toInt.tdiv y.toInt)
  | .divu => if y = 0 then 0 else BitVec.ofNat n (x.toNat / y.toNat)
  | .rem => if y = 0 then x else BitVec.ofInt n (x.toInt.tmod y.toInt)
  | .remu => if y = 0 then x else BitVec.ofNat n (x.toNat % y.toNat)

/-- The ALU (R138): with W = 1 on bits 31:0, sign-extended. -/
def alu (f : AluFn) (w32 : Bool) (x y : DWord) : DWord :=
  if w32 then (aluAt f (x.truncate 32) (y.truncate 32)).signExtend 64 else aluAt f x y

def aluDivides (f : AluFn) : Bool := f == .div || f == .divu || f == .rem || f == .remu

/-- The tag of an ALU result (R133, R138): a division by zero is BAD_CHANNEL_FAULT. -/
def aluTag (f : AluFn) (w32 : Bool) (y : DWord) (ta tb : Nibble) : Nibble :=
  if aluDivides f && (if w32 then y.truncate 32 == (0 : BitVec 32) else y == 0) then Tag.BAD_CHANNEL_FAULT else propagate ta tb

def immResult (f : ImmFn) (x : DWord) (i : BitVec 16) : DWord :=
  let se : DWord := i.signExtend 64
  let ze : DWord := i.zeroExtend 64
  match f with
  | .addi => x + se
  | .andi => x &&& ze
  | .ori => x ||| ze
  | .xori => x ^^^ ze
  | .slti => boolWord (x.slt se)
  | .sltiu => boolWord (x.ult se)

def shiftResult (f : ShiftFn) (x : DWord) (n : BitVec 6) : DWord :=
  match f with
  | .sll => x <<< n.toNat
  | .srl => x >>> n.toNat
  | .sra => x.sshiftRight n.toNat

/-- Whether an FPU operation uses a alone (R139). -/
def fpuUnary (f : FpuFn) : Bool := [FpuFn.fsqrt, .fabs, .fneg, .i2f, .f2i, .u2f, .f2it].contains f

/-- The FPU (R139). -/
def fpu (f : FpuFn) (x y : BitVec 32) : FRes :=
  let sn := f32Snan x || f32Snan y
  match f with
  | .fadd => f32Add x y
  | .fsub => f32Add x (f32Neg y)
  | .fmul => f32Mul x y
  | .fdiv => f32Div x y
  | .fsqrt => f32Sqrt x
  | .fmin => f32Pick true x y
  | .fmax => f32Pick false x y
  | .fabs => f32Sign x fun _ => false
  | .fneg => f32Sign x fun s => !s
  | .flt => (boolWord (f32Lt x y), sn)
  | .fle => (boolWord (f32Lt x y || f32Eq x y), sn)
  | .feq => (boolWord (f32Eq x y), sn)
  | .i2f => (f32OfInt x.toInt, false)
  | .f2i => (f32ToInt true x, f32Snan x)
  | .u2f => (f32OfInt x.toNat, false)
  | .f2it => (f32ToInt false x, f32Snan x)

def branchTaken (f : BranchFn) (x y : DWord) : Bool :=
  match f with
  | .eq => x == y
  | .ne => x != y
  | .lt => x.slt y
  | .ge => !x.slt y
  | .ltu => x.ult y
  | .geu => !x.ult y

/-! ### Cycles (R141) -/

def aluCycles (f : AluFn) (w32 : Bool) : Nat :=
  if f == .mul || f == .mulh || f == .mulhu then 3 else if aluDivides f then (if w32 then 18 else 34) else 1

def fpuCycles (f : FpuFn) : Nat := if f = .fdiv then 14 else if f = .fsqrt then 16 else 4

/-! ### The signature (R174) -/

/-- One bit of the CRC-64 of ECMA-182. -/
def crc64Bit (c : BitVec 64) : BitVec 64 := if c.getLsbD 63 then (c <<< 1) ^^^ 0x42F0E1EBA9EA3693 else c <<< 1

def crc64Bits : Nat → BitVec 64 → BitVec 64
  | 0, c => c
  | n + 1, c => crc64Bits n (crc64Bit c)

/-- Feed one byte, most significant bit first. -/
def crc64Byte (c : BitVec 64) (b : Byte) : BitVec 64 := crc64Bits 8 (c ^^^ (b.zeroExtend 64 <<< 56))

/-- Feed one event word, least significant byte first. -/
def crc64Word (c : BitVec 64) (w : DWord) : BitVec 64 :=
  (List.range 8).foldl (fun c k => crc64Byte c (w.extractLsb' (8 * k) 8)) c

end Sys2Proof.Machine
end

