-- ==== Sys2Proof/Machine/Perturb.lean ====
section
/-! DEFINITION. Test perturbation (R456 to R462): starts and stops of its kinds, and the frames it spoils. -/
namespace Sys2Proof.Machine

/-- The kinds a written TP_CMD names. -/
def tpKinds (v : Word) : List Nat := (List.range 6).filter fun k => v.getLsbD k

/-- A kind's configuration is complete and in range (R458). -/
def State.tpConfigOk (s : State) (k : Nat) : Bool :=
  match k with
  | 0 => decide (1 ≤ s.get Fld.TP_LL_DELAY_US) && decide (s.get Fld.TP_LL_DELAY_US ≤ 1000)
  | 1 => s.bit Fld.TP_RING_LO_MASK || s.bit Fld.TP_RING_HI_MASK
  | 2 => s.bit Fld.TP_ISL_ISLANDS && s.bit Fld.TP_ISL_DIR && s.bit Fld.TP_ISL_EVERY
  | 3 => s.bit Fld.TP_FL_PORTS && s.bit Fld.TP_FL_DIR && s.bit Fld.TP_FL_EVERY
  | 4 => (s.bit Fld.TP_DRIP_LO_MASK || s.bit Fld.TP_DRIP_HI_MASK) && decide (1 ≤ s.get Fld.TP_DRIP_J_JITTER)
      && decide (s.get Fld.TP_DRIP_J_JITTER ≤ 10000)
  | _ => s.get Fld.TP_SQZ_RATIO == 1 || s.get Fld.TP_SQZ_RATIO == 2

/-- The configuration registers of a kind, which ignore writes while it is active (R459). -/
def tpConfigRegs (k : Nat) : List Nat :=
  match k with
  | 0 => [Reg.TP_LL]
  | 1 => [Reg.TP_RING_LO, Reg.TP_RING_HI]
  | 2 => [Reg.TP_ISL]
  | 3 => [Reg.TP_FL]
  | 4 => [Reg.TP_DRIP_LO, Reg.TP_DRIP_HI, Reg.TP_DRIP_J]
  | _ => [Reg.TP_SQZ]

/-- Whether a write to the register at `a` is ignored because a kind it configures is active (R459). -/
def State.tpConfigLocked (s : State) (a : Nat) : Bool := (List.range 6).any fun k => s.tpActive k && (tpConfigRegs k).contains a

/-- Configuration word and mask of a kind, as TP_ACTIVATE gives them (R462). -/
def State.tpConfig (s : State) (k : Nat) : Nat × Nat :=
  match k with
  | 0 => ((s.getReg Reg.TP_LL).toNat, 0)
  | 1 => ((s.getReg Reg.TP_RING_LO).toNat, s.get Fld.TP_RING_HI_MASK * 2 ^ 32 + s.get Fld.TP_RING_LO_MASK)
  | 2 => ((s.getReg Reg.TP_ISL).toNat, s.get Fld.TP_ISL_ISLANDS)
  | 3 => ((s.getReg Reg.TP_FL).toNat, s.get Fld.TP_FL_PORTS)
  | 4 => ((s.getReg Reg.TP_DRIP_J).toNat, s.get Fld.TP_DRIP_HI_MASK * 2 ^ 32 + s.get Fld.TP_DRIP_LO_MASK)
  | _ => ((s.getReg Reg.TP_SQZ).toNat, 0)

/-- Queue one TP_ACTIVATE record for each kind (R459); the second component says that one found no room (R391). -/
def State.tpRecords (s : State) : List Nat → State × Bool
  | [] => (s, false)
  | k :: ks =>
    let (cfg, mask) := s.tpConfig k
    let body := recordBody [(4, cfg), (8, mask), (2, s.get Fld.TP_DURATION_DURATION_S), (4, s.get Fld.SEC_ENG_PEER_PEER_HASH)]
    let (s, lost) := s.flsQueueRecord 0xA0 k body false
    if lost then (s.sumpOccur Src.FLS_OVERFLOW 0 0 false, true) else s.tpRecords ks

/-- A refused start (R458). -/
def State.tpRefuse (s : State) (reason : Nat) (v : Word) : State :=
  let s := (s.put Fld.TP_STAT_REASON reason).bump Fld.TP_CNT_REFUSALS
  (s.raise Src.TP_REFUSED 0 0).record 0xA2 reason [(1, Fld.TP_CMD_KINDS.ext v)]

/-- Kinds begin to wait for their records, their counts at 0. -/
def TpState.begin (t : TpState) (ks : List Nat) : TpState :=
  { t with
    waiting := t.waiting ++ ks
    starts := if ks.isEmpty then t.starts else t.starts ++ [ks]
    affected := t.affected.filter fun p => !ks.contains p.1
    since := t.since.filter fun p => !ks.contains (p.1 / 256) }

/-- An accepted start, unless a record cannot be queued (R458, R459). (DEDUCED, log entry 67.) -/
def State.tpAccept (s : State) (ks : List Nat) (v : Word) : State :=
  let (s, lost) := s.tpRecords ks
  if lost then s.tpRefuse 4 v
  else ({ s with tp := s.tp.begin ks } : State).bump Fld.TP_CNT_STARTS

/-- A start (R458): the first reason that applies refuses it. -/
def State.tpStart (s : State) (v : Word) : State :=
  let ks := tpKinds v
  if !s.tpAllowed then s.tpRefuse 1 v
  else if ks.any fun k => s.tpActive k || s.tp.waiting.contains k then s.tpRefuse 2 v
  else if ks.any fun k => !s.tpConfigOk k then s.tpRefuse 3 v
  else s.tpAccept ks v

/-- A write to TP_CMD (R458, R460, R461). -/
def State.tpCmdWrite (s : State) (v : Word) : State :=
  if Fld.TP_CMD_KEY.ext v ≠ 0x5450 then s
  else if Fld.TP_CMD_STOP.on v then
    let s := s.tpStopKinds (tpKinds v)
    if Fld.TP_CMD_START.on v then s.tpRefuse 2 v else s
  else if Fld.TP_CMD_START.on v then s.tpStart v
  else s

/-- TP_START (R458). -/
def execTpStart (v : Word) (s : State) : Host.Outcome State Fault Refusal := done (s.gated 49 fun s => s.tpCmdWrite v)

/-- TP_STOP (R460). -/
def execTpStop (v : Word) (s : State) : Host.Outcome State Fault Refusal := done (s.gated 49 fun s => s.tpCmdWrite v)

/-- Whether the TP_ACTIVATE record of a kind is still in the write queue. -/
def State.tpRecordQueued (s : State) (k : Nat) : Bool :=
  s.fls.queue.any fun e => match e with
    | .record r => r.type == 0xA0 && r.key.toNat == k
    | .repeatAt _ => false

/-- TP_KIND_EFFECT (R459): its record is in MRAM. -/
def State.tpEffect (s : State) (k : Nat) : State :=
  if s.tp.waiting.contains k && !s.tpRecordQueued k then
    let s := { s with tp := { s.tp with waiting := s.tp.waiting.filter fun j => j != k } }
    let s := s.put Fld.TP_STAT_ACTIVE (s.get Fld.TP_STAT_ACTIVE ||| 2 ^ k)
    let s := if k = 5 then (s.put Fld.PWR_STAT_RATIO_FORCED (s.get Fld.TP_SQZ_RATIO)).squeezeRequest else s
    s.rise Src.TP_ACTIVE 0 0
  else s

def execTpKindEffect (kind : Fin 6) (s : State) : Host.Outcome State Fault Refusal := done (s.tpEffect kind.val)

/-- TP_DURATION_EXPIRY (R460): the oldest start that still has a kind has lasted DURATION_S. (DEDUCED, log entry 67.) -/
def execTpDurationExpiry (s : State) : Host.Outcome State Fault Refusal :=
  match s.tp.starts with
  | [] => done s
  | l :: _ => done (s.tpStopKinds l)

/-- One frame or firing of a kind is affected; COUNT frames stop the kind (R457, R460). -/
def State.tpAffect (s : State) (k : Nat) : State :=
  let n := sparseGet (fun _ => 0) s.tp.affected k + 1
  let s := { s with tp := { s.tp with affected := sparseSet (fun _ => 0) s.tp.affected k n } }
  let limit := if k = 2 then s.get Fld.TP_COUNT_LIMIT_ISL else if k = 3 then s.get Fld.TP_COUNT_LIMIT_FL else 0
  if limit ≠ 0 ∧ limit ≤ n then s.tpStopKind k else s

/-- Whether the frame that unit `u` sends (direction 0) or receives (direction 1) is spoiled: one in every EVERY frames of a unit of the
mask in a chosen direction (R457). (DEDUCED, log entry 67.) -/
def State.tpSpoil (s : State) (k u dir : Nat) : Bool × State :=
  let mask := if k = 2 then s.get Fld.TP_ISL_ISLANDS else s.get Fld.TP_FL_PORTS
  let dirs := if k = 2 then s.get Fld.TP_ISL_DIR else s.get Fld.TP_FL_DIR
  let every := if k = 2 then s.get Fld.TP_ISL_EVERY else s.get Fld.TP_FL_EVERY
  if s.tpActive k ∧ mask / 2 ^ u % 2 = 1 ∧ dirs / 2 ^ dir % 2 = 1 then
    let key := 256 * k + 2 * u + dir
    let n := sparseGet (fun _ => 0) s.tp.since key + 1
    let hit := decide (every ≤ n)
    let s := { s with tp := { s.tp with since := sparseSet (fun _ => 0) s.tp.since key (if hit then 0 else n) } }
    if hit then (true, s.tpAffect k) else (false, s)
  else (false, s)

/-- The delay of a firing of drip unit `d` in CLK_TIME cycles (R457): JITTER, or a random count up to it, which is a free value.
(DEDUCED, log entry 67.) -/
def State.tpJitter (s : State) (d : Nat) : Nat × State :=
  let mask := s.get Fld.TP_DRIP_HI_MASK * 2 ^ 32 + s.get Fld.TP_DRIP_LO_MASK
  if s.tpActive 4 ∧ mask / 2 ^ d % 2 = 1 then
    let j := s.get Fld.TP_DRIP_J_JITTER
    if s.bit Fld.TP_DRIP_J_RANDOM then
      let (v, s) := s.draw
      (v.toNat % (j + 1), s.tpAffect 4)
    else (j, s.tpAffect 4)
  else (0, s)

end Sys2Proof.Machine
end

