-- ==== Sys2Proof/Machine/Reset.lean ====
section
/-! DEFINITION. Module-level reset (R69 to R75): what a reset preserves, episodes and their causes, release; the watchdog (R470); the
reference, the clock monitors and their resets (R60 to R68). -/
namespace Sys2Proof.Machine

/-! ### What a reset leaves (R71) -/

/-- The bit of a source in RST_CAUSE (R69). -/
def sourceBit : ResetSource → Nat
  | .por => 0
  | .bor => 1
  | .pin => 2
  | .wdt => 3
  | .sw => 4
  | .dbg => 5
  | .clkf => 6
  | .lockup => 7

/-- Registers held in non-volatile fields (R71, R130): they keep their value through a module-level reset. (DEDUCED, log entry 20.) -/
def keptRegs : List Nat := [Reg.RST_CAUSE, Reg.RST_COUNT, Reg.RST_PWR_CYCLES, Reg.GAL_AREA_TAG_LO 0, Reg.GAL_AREA_TAG_LO 1,
  Reg.GAL_AREA_TAG_HI 0, Reg.GAL_AREA_TAG_HI 1]

/-- The register file after a module-level reset: reset values but for the non-volatile fields (R71), the counts since manufacture of
PWR_HIB_STAT and PWR_WAKE_STAT, and the hold-up bank, which a reset does not discharge (R55). (DEDUCED, log entries 20, 51.) -/
def State.resetRegs (s : State) : List (Nat × BitVec 32) :=
  let keep (m : List (Nat × BitVec 32)) (a : Nat) := sparseSet regReset m a (s.getReg a)
  let m := keptRegs.foldl keep []
  let m := sparseSet regReset m Reg.GAL_AREA (Fld.GAL_AREA_TAG_VALID.ins 0 (s.get Fld.GAL_AREA_TAG_VALID))
  let m := sparseSet regReset m Reg.PWR_HIB_STAT (Fld.PWR_HIB_STAT_ENTRIES.ins 0 (s.get Fld.PWR_HIB_STAT_ENTRIES))
  let m := sparseSet regReset m Reg.PWR_WAKE_STAT (Fld.PWR_WAKE_STAT_WAKES.ins 0 (s.get Fld.PWR_WAKE_STAT_WAKES))
  sparseSet regReset m Reg.PWR_STAT (Fld.PWR_STAT_HOLDUP_FULL.ins 0 (s.get Fld.PWR_STAT_HOLDUP_FULL))

/-- The level sources of the links, whose condition outlasts a reset and which no later command reports anew (R71, R382). -/
def linkLevels : List Nat := [Src.LIFELINE_DOWN, Src.PAIR_LANE_DOWN, Src.FL_LINK_DOWN, Src.BB_LINK_DOWN]

/-- The link conditions present, by source and place. -/
def State.linkConditions (s : State) : List (Nat × Nat) :=
  linkLevels.flatMap fun n => (sparseGet (fun _ => []) s.sump.levels n).map fun k => (n, k)

/-- The module as a module-level reset leaves it (R71): State.reset but for what is non-volatile, what the world outside holds (the base
store, the islands' factory trims, the cover switch, the supply, the insertion, links that are down) and the model's own fields. POR loses the retention memory and the operating time
since its last copy (R71, R388). (DEDUCED, log entry 20.) -/
def State.afterReset (s : State) (por : Bool) : State :=
  { State.reset with
    pending := s.pending
    regs := s.resetRegs
    core :=
      { CoreState.reset with
        mainPath := s.core.mainPath
        cover := s.core.cover
        porHeld := s.core.porHeld
        extracted := s.core.extracted
        interrupted := s.core.interrupted
        interruptSeq := s.core.interruptSeq
        inputLow := s.core.inputLow
        standing := s.core.standing ++ s.linkConditions }
    pair := { PairState.reset with rejoins := if por then [] else s.pair.rejoins }
    store := s.store
    factory := s.factory
    inst := s.inst
    fls :=
      { FlsState.reset with
        mram := s.fls.mram
        newest := s.fls.newest
        ue := s.fls.ue
        optimeCopy := s.fls.optimeCopy
        optime := if por then s.fls.optimeCopy else s.fls.optime }
    sec :=
      { State.reset.sec with
        lifecycle := s.sec.lifecycle
        items := s.sec.items
        revoked := s.sec.revoked
        counters := s.sec.counters
        erasePending := s.sec.erasePending }
    pwr := { PwrState.reset with retention := if por then none else s.pwr.retention, fullAt := s.pwr.fullAt }
    upd := { UpdState.reset with slot0 := s.upd.slot0, slot1 := s.upd.slot1, staged := s.upd.staged }
    sram := if por then [] else s.sram.filter fun p => decide (0x02000000 ≤ p.1)
    out := s.out
    freeCtr := s.freeCtr }

/-- What a loss of power takes beside (R71, R388): retention memory, host SRAM, operating time since its last copy, the hold-up charge.
(DEDUCED, log entry 20.) -/
def State.losePower (s : State) : State :=
  ({ s with pwr := { s.pwr with retention := none }, sram := [], fls := { s.fls with optime := s.fls.optimeCopy } } : State).putBit
    Fld.PWR_STAT_HOLDUP_FULL false

/-- Source bits in the order of R73. -/
def firstOrder : List Nat := [0, 1, 6, 7, 3, 2, 5, 4]

/-- A source that asserts in the own-oscillator cycle in which the episode began takes RST_CAUSE.FIRST where R73 puts it first: 40 ns are
16 CLK_TIME cycles. (DEDUCED, log entry 105.) -/
def State.resetTie (s : State) (n : Nat) : State :=
  if s.time.cycles < 16 ∧ firstOrder.idxOf n < firstOrder.idxOf (s.get Fld.RST_CAUSE_FIRST) then s.put Fld.RST_CAUSE_FIRST n else s

/-- A reset displaces a transition that waits; an engineering command among them is refused (R29). -/
def State.resetDisplaces (s : State) : State :=
  match s.core.modeReq with
  | some r => if r.rank = 4 then s.emit .engRefused else s
  | none => s

/-- A source asserts (R69, R72 to R75). In reset it joins the episode; else the episode begins: the reset of R71, RST_CAUSE.FIRST,
RST_COUNT, and RST_DETAIL rewritten. RST_PWR_CYCLES counts an episode with POR or BOR once. -/
def State.assertReset (s : State) (src : ResetSource) (detail : List (RegField × Nat)) : State :=
  let n := sourceBit src
  let power := n < 2
  let s :=
    if s.rst.inReset then (if n = 0 then s.losePower.resetTie n else s.resetTie n)
    else
      let s := s.resetDisplaces.afterReset (n == 0)
      let s := if n = 0 then s.losePower else s
      (s.bump ⟨Reg.RST_COUNT, 0, 32⟩).put Fld.RST_CAUSE_FIRST n
  let s := (s.setReg Reg.RST_CAUSE (s.getReg Reg.RST_CAUSE ||| BitVec.twoPow 32 n)).putAll detail
  let s := if power && !s.rst.pwrCounted then s.bump ⟨Reg.RST_PWR_CYCLES, 0, 32⟩ else s
  { s with
    rst := { s.rst with inReset := true, asserted := s.rst.asserted ||| BitVec.twoPow 8 n, pwrCounted := s.rst.pwrCounted || power } }

/-- A source releases (R72). -/
def State.releaseSource (s : State) (src : ResetSource) : State :=
  { s with rst := { s.rst with asserted := s.rst.asserted &&& ~~~BitVec.twoPow 8 (sourceBit src) } }

/-- The software reset (R69). -/
def State.softReset (s : State) : State := s.assertReset .sw []

/-! ### Meanings: reset sources -/

/-- POR_ASSERT (R69). -/
def execPorAssert (s : State) : Host.Outcome State Fault Refusal := done (s.assertReset .por [])

/-- POR_RELEASE (R54): not while a withdrawn module holds itself in power-on reset (R57). -/
def execPorRelease (s : State) : Host.Outcome State Fault Refusal :=
  if s.core.porHeld then done s else done (s.releaseSource .por)

/-- BOR_RELEASE (R69). -/
def execBorRelease (s : State) : Host.Outcome State Fault Refusal := done (s.releaseSource .bor)

/-- PIN_ACCEPT (R70); in HIBERNATE the reset powers the domains, the retention image is not used and PWR_WAKE_STAT shows RESET_N (R412).
(DEDUCED, log entry 54.) -/
def execPinAccept (s : State) : Host.Outcome State Fault Refusal :=
  done (s.assertReset .pin (if s.mode = .hibernate then [(Fld.PWR_WAKE_STAT_SOURCE, 4)] else []))

/-- PIN_RELEASE (R69). -/
def execPinRelease (s : State) : Host.Outcome State Fault Refusal := done (s.releaseSource .pin)

/-- WATCHDOG_EXPIRY (R69): a stopped watchdog does not expire. (DEDUCED, log entry 21.) -/
def execWatchdogExpiry (s : State) : Host.Outcome State Fault Refusal :=
  if s.rst.wdtRunning then done (s.assertReset .wdt []) else done s

/-- Restart the watchdog: the count starts from the TIMEOUT in force (R470). (DEDUCED, log entry 21.) -/
def State.wdtRestart (s : State) : State :=
  let t := s.get Fld.WDT_CTRL_TIMEOUT
  let s := { s with rst := { s.rst with wdtTimeout := t } }
  if s.rst.wdtRunning then s.put Fld.WDT_STAT_REMAIN_MS t else s

/-- The kick logic's outcome of a write (R470). (DEDUCED, log entry 21.) -/
def State.kick (s : State) (code : Nat) : State :=
  if s.rst.wdtArmed then
    if code = 0x5A then ({ s with rst := { s.rst with wdtArmed := false } } : State).wdtRestart
    else if code = 0xA5 then s.bump Fld.WDT_STAT_BAD_KICKS
    else ({ s with rst := { s.rst with wdtArmed := false } } : State).bump Fld.WDT_STAT_BAD_KICKS
  else if code = 0xA5 then { s with rst := { s.rst with wdtArmed := true } }
  else s.bump Fld.WDT_STAT_BAD_KICKS

/-- WDT_KICK (R470). -/
def execWdtKick (v : Word) (s : State) : Host.Outcome State Fault Refusal := done (s.kick (Fld.WDT_KICK_CODE.ext v))

/-- KICK_ARM_TIMEOUT (R470). -/
def execKickArmTimeout (s : State) : Host.Outcome State Fault Refusal :=
  if s.rst.wdtArmed then
    done (({ s with rst := { s.rst with wdtArmed := false } } : State).bump Fld.WDT_STAT_BAD_KICKS)
  else done s

/-- A write to WDT_CTRL (R470): ENABLE from 0 to 1 starts the count with the current TIMEOUT, clearing it stops the count; a new TIMEOUT
applies from the next restart. (DEDUCED, log entry 21.) -/
def State.wdtCtrlWrite (s : State) (v : Word) : State :=
  let was := s.bit Fld.WDT_CTRL_ENABLE
  let s := s.regStore Reg.WDT_CTRL v
  let now := s.bit Fld.WDT_CTRL_ENABLE
  if was = now then s
  else
    let s := { s with rst := { s.rst with wdtRunning := now } }
    if now then s.wdtRestart else s

/-- WDT_CTRL_WRITE (R470). -/
def execWdtCtrlWrite (v : Word) (s : State) : Host.Outcome State Fault Refusal := done (s.wdtCtrlWrite v)

/-- A write to RST_SW (R69): REQ with the key asserts SW, with any other key raises RST_BAD_KEY. -/
def State.rstSwWrite (s : State) (v : Word) : State :=
  if Fld.RST_SW_REQ.on v then
    if Fld.RST_SW_KEY.ext v = 0x5EB0 then s.softReset else s.raise Src.RST_BAD_KEY 0 0
  else s

/-- RST_SW_REQ (R69). -/
def execRstSwReq (v : Word) (s : State) : Host.Outcome State Fault Refusal := done (s.rstSwWrite v)

/-- RESET_PULSE_END (R69): the sources that release 10 µs after assertion. -/
def execResetPulseEnd (src : ResetSource) (s : State) : Host.Outcome State Fault Refusal :=
  match src with
  | .wdt => done (s.releaseSource .wdt)
  | .sw => done (s.releaseSource .sw)
  | .lockup => done (s.releaseSource .lockup)
  | _ => done s

/-- Whether the debugger may request a reset (R428): at CONTROL unless LEAD, at FULL in any role. -/
def State.dbgResetAllowed (s : State) : Bool :=
  s.get Fld.SEC_STATUS_DBG_LEVEL == 3 || (s.get Fld.SEC_STATUS_DBG_LEVEL == 2 && s.role != .lead)

/-- DBG_RESET_REQUEST (R69, R428). -/
def execDbgResetRequest (s : State) : Host.Outcome State Fault Refusal :=
  if s.dbgResetAllowed then done (s.assertReset .dbg []) else done s

/-- DBG_RESET_RELEASE (R69). -/
def execDbgResetRelease (s : State) : Host.Outcome State Fault Refusal := done (s.releaseSource .dbg)

/-- CLKF_RELEASE (R69). -/
def execClkfRelease (s : State) : Host.Outcome State Fault Refusal :=
  done ((s.putAll [(Fld.CLK_STAT_OWN_OK, 1), (Fld.CLK_STAT_PLL_LOCK, 1)]).releaseSource .clkf)

/-- LOCKUP (R69). -/
def execLockup (pair : Fin 2) (kind : Fin 2) (s : State) : Host.Outcome State Fault Refusal :=
  done (s.assertReset .lockup [(Fld.RST_DETAIL_LOCKUP_PAIR, pair.val), (Fld.RST_DETAIL_LOCKUP_KIND, kind.val)])

/-- RST_CAUSE_CLEAR (R74): exactly the bits written as 1 clear. -/
def execRstCauseClear (v : Word) (s : State) : Host.Outcome State Fault Refusal := done (s.regStore Reg.RST_CAUSE v)

/-! ### Meanings: reference and monitors -/

/-- The status bit of the strapped reference: base or partner (R34). -/
def State.strapOkField (s : State) : RegField :=
  if s.get Fld.CLK_STAT_REF_STRAP = 1 then Fld.CLK_STAT_BASE_OK else Fld.CLK_STAT_PARTNER_OK

/-- Start the hitless move of the root to a reference (R61). -/
def State.moveRef (s : State) (r : Nat) : State :=
  ({ s with rst := { s.rst with refMoving := some r } } : State).putBit Fld.CLK_STAT_SWITCHING true

/-- The step of LOAD at which the strapped reference is taken has come (R60, R83): step 5 for the base reference, step 9 for the
partner's, which follows step 8 without a command. -/
def State.refStepCome (s : State) (strap : Nat) : Bool := s.mode != .load || (if strap = 1 then decide (5 ≤ s.load.step) else decide (8 ≤ s.load.step))

/-- The root changes to the strapped reference, once it is good and LOAD has come to it (R60, R63). -/
def State.takeRef (s : State) : State :=
  let strap := s.get Fld.CLK_STAT_REF_STRAP
  if (strap = 1 ∨ strap = 2) ∧ s.rst.refWanted = true ∧ s.bit s.strapOkField = true ∧ s.refStepCome strap = true
      ∧ s.get Fld.CLK_STAT_REF_ACTIVE ≠ strap ∧ s.rst.refMoving ≠ some strap then s.moveRef strap
  else s

/-- STRAPPED_REF_TAKEN (R60, R63): the strapped reference has been good for 100 ms. The partner's reference needs the Lifeline LINKED.
After a loss the root returns only by REF_RESTORE (R62), so the report then only shows the reference good. (DEDUCED, log entry 22.) -/
def execStrappedRefTaken (s : State) : Host.Outcome State Fault Refusal :=
  let strap := s.get Fld.CLK_STAT_REF_STRAP
  if s.rst.inReset || (strap != 1 && strap != 2) || (strap == 2 && s.get Fld.PAIR_STAT_LL_STATE < 2) then done s
  else
    done (s.putBit s.strapOkField true).takeRef

/-- REF_SWITCH_DONE (R61). -/
def execRefSwitchDone (s : State) : Host.Outcome State Fault Refusal :=
  match s.rst.refMoving with
  | none => done s
  | some r => done (({ s with rst := { s.rst with refMoving := none } } : State).putAll
      [(Fld.CLK_STAT_REF_ACTIVE, r), (Fld.CLK_STAT_SWITCHING, 0)])

/-- CLK_REF_LOST (R62), whose record carries the offset last measured, a free value: while the root runs from the strapped reference, or moves to it, it changes to the own oscillator.
(DEDUCED, log entry 22.) -/
def State.refLost (s : State) : State :=
  let strap := s.get Fld.CLK_STAT_REF_STRAP
  if strap ≠ 0 ∧ (s.get Fld.CLK_STAT_REF_ACTIVE = strap ∨ s.rst.refMoving = some strap) then
    let s := (s.moveRef 0).putBit s.strapOkField false
    let s := { s with rst := { s.rst with refWanted := false } }
    let s := (s.putBit Fld.CLK_EVENT_LOST true).bump Fld.CLK_EVENT_LOST_COUNT
    let s := s.raise Src.CLK_REF_LOST 0 0
    let (ppm, s) := s.draw
    s.record 0x14 strap [(2, ppm.toNat % 65536)]
  else s.putBit s.strapOkField false

def execClkRefLost (s : State) : Host.Outcome State Fault Refusal := done s.refLost

/-- A write to CLK_CTRL (R62): REF_RESTORE returns the root to the strapped reference, and is ignored while that is not good.
(DEDUCED, log entry 22.) -/
def State.clkCtrlWrite (s : State) (v : Word) : State :=
  let strap := s.get Fld.CLK_STAT_REF_STRAP
  if Fld.CLK_CTRL_REF_RESTORE.on v && strap != 0 && s.bit s.strapOkField then
    let s := { s with rst := { s.rst with refWanted := true } }
    if s.get Fld.CLK_STAT_REF_ACTIVE = strap then s else s.moveRef strap
  else s

/-- REF_RESTORE (R62). -/
def execRefRestore (v : Word) (s : State) : Host.Outcome State Fault Refusal := done (s.clkCtrlWrite v)

/-- The expected count of a monitor window at /1, and whether Squeeze divides it (R66). -/
def monExpected : Nat → Nat × Bool
  | 0 => (8000, true)
  | 1 => (12000, true)
  | 2 => (4000, true)
  | 3 => (4000, false)
  | 4 => (2000, true)
  | _ => (1000, false)

/-- Whether a count lies outside ±1 % of the expected count at a ratio code (R66). -/
def monOut (x ratio count : Nat) : Bool :=
  let (e, scaled) := monExpected x
  let e := if scaled then e / 2 ^ ratio else e
  decide (count * 100 < e * 99) || decide (e * 101 < count * 100)

/-- CLK_MON_WINDOW (R66, R67): a window with a ratio change is discarded; one out of tolerance warns, two consecutive ones of a clock
reset the module. (DEDUCED, log entry 22.) -/
def execClkMonWindow (x : Fin 6) (count : Nat) (s : State) : Host.Outcome State Fault Refusal :=
  let s := s.put (Fld.CLK_MON_COUNT_COUNT x.val) count
  if s.rst.monSkip.getLsbD x.val then
    done { s with rst := { s.rst with monSkip := s.rst.monSkip &&& ~~~BitVec.twoPow 6 x.val } }
  else if monOut x.val (s.get Fld.CLK_STAT_SQZ_RATIO) count then
    let s := (s.putAll [(Fld.CLK_EVENT_MON_WARN, 1), (Fld.CLK_EVENT_MON_CLK, x.val)]).raise Src.CLK_MON_WARN 0 0
    if s.rst.monBad.getLsbD x.val then done (s.assertReset .clkf [(Fld.RST_DETAIL_CLK_ID, x.val)])
    else done { s with rst := { s.rst with monBad := s.rst.monBad ||| BitVec.twoPow 6 x.val } }
  else done { s with rst := { s.rst with monBad := s.rst.monBad &&& ~~~BitVec.twoPow 6 x.val } }

/-- PLL_LOCK_LOSS (R67). -/
def execPllLockLoss (s : State) : Host.Outcome State Fault Refusal :=
  done ((s.assertReset .clkf [(Fld.RST_DETAIL_CLK_ID, 6)]).putBit Fld.CLK_STAT_PLL_LOCK false)

/-- OWN_OSC_CHECK (R68): fewer than 40 or more than 140 edges fail. -/
def execOwnOscCheck (count : Nat) (s : State) : Host.Outcome State Fault Refusal :=
  if count < 40 ∨ 140 < count then
    done ((s.assertReset .clkf [(Fld.RST_DETAIL_CLK_ID, 7)]).putBit Fld.CLK_STAT_OWN_OK false)
  else done (s.putBit Fld.CLK_STAT_OWN_OK true)

end Sys2Proof.Machine
end

