-- ==== Sys2Proof/Machine/SumpFlow.lean ====
section
/-! DEFINITION. Commands of the Sump and Flowstone (17). -/
namespace Sys2Proof.Machine

/-! ### SUMP_SRC (R379, R382, R383) -/

/-- SUMP_OCCURRENCE (R376): a level source's condition comes to hold, any other source occurs. -/
def execSumpOccurrence (n : Fin 256) (inst sub : BitVec 8) (s : State) : Host.Outcome State Fault Refusal :=
  match sumpSource n.val with
  | some (_, true) => done (s.rise n.val inst.toNat sub.toNat)
  | _ => done (s.raise n.val inst.toNat sub.toNat)

/-- A force (R383): refused on severity 7 or a MODULE_RESET mask unless perturbation is allowed; FW_EVENT is always accepted and not
marked FORCED. It does not set ACTIVE. -/
def State.sumpForce (s : State) (n : Nat) : State :=
  let strong := s.get (Fld.SUMP_SRC_SEVERITY n) == 7 || s.bit (Fld.SUMP_SRC_MODULE_RESET n)
  if 240 ≤ n then s.sumpOccurFixed n 0 0 false
  else if strong && !s.tpAllowed then s.putBit (Fld.SUMP_SRC_FORCE_REFUSED n) true
  else s.sumpOccurFixed n (s.get (Fld.SUMP_DETAIL_INSTANCE n)) (s.get (Fld.SUMP_DETAIL_SUB n)) true

/-- A write to SUMP_SRC[n]: severity and mask while unlocked (a default severity of 7 stays 7, BLOCK_RESET needs a gate: R377, R379), the
flag's W1C, ignored for a level source that is ACTIVE (R382), then FORCE. A reserved number ignores writes. (DEDUCED, log entry 50.) -/
def State.sumpSrcWrite (s : State) (n : Nat) (v : Word) : State :=
  match sumpSource n with
  | none => s
  | some (sev, _) =>
    let v1 := if sev = 7 then (Fld.SUMP_SRC_SEVERITY n).ins v 7 else v
    let v2 := if (sumpGate n 0).isNone then (Fld.SUMP_SRC_BLOCK_RESET n).ins v1 0 else v1
    let v3 := if s.bit (Fld.SUMP_SRC_ACTIVE n) then (Fld.SUMP_SRC_FLAG n).ins v2 0 else v2
    let s := s.regStore (Reg.SUMP_SRC n) v3
    if (Fld.SUMP_SRC_FORCE n).on v then s.sumpForce n else s

/-- SUMP_FORCE (R383). -/
def execSumpForce (n : Fin 256) (v : Word) (s : State) : Host.Outcome State Fault Refusal := done (s.sumpSrcWrite n.val v)

/-- SUMP_FLAG_CLEAR (R382). -/
def execSumpFlagClear (n : Fin 256) (v : Word) (s : State) : Host.Outcome State Fault Refusal := done (s.sumpSrcWrite n.val v)

/-- SUMP_MODULE_RESET (R381): once the queue of records has drained, and at the latest 20 µs after the occurrence, the software reset with the
source in RST_DETAIL. -/
def execSumpModuleReset (s : State) : Host.Outcome State Fault Refusal :=
  match s.sump.moduleReset with
  | none => done s
  | some (src, c) =>
    if s.fls.queue.isEmpty || decide (c + 8000 ≤ s.time.cycles) then
      done (s.assertReset .sw [(Fld.RST_DETAIL_SW_BY_SUMP, 1), (Fld.RST_DETAIL_SUMP_SRC, src)])
    else done s

/-! ### The recorder (R389 to R394) -/

/-- Size of the record area (R385). -/
def flsArea : Nat := 16711680

def State.headSeq (s : State) : Nat := s.flsNat 12 4
def State.headOff (s : State) : Nat := s.flsNat 8 4
def State.tailSeq (s : State) : Nat := s.flsNat 20 4
def State.tailOff (s : State) : Nat := s.flsNat 16 4

/-- Write the HEAD word (R385). -/
def State.setHead (s : State) (seq off : Nat) : State := s.flsWrite 8 (leBytes 4 off ++ leBytes 4 (seq % 2 ^ 32))

/-- Write the TAIL word (R385). -/
def State.setTail (s : State) (seq off : Nat) : State := s.flsWrite 16 (leBytes 4 off ++ leBytes 4 (seq % 2 ^ 32))

/-- Length of the record at an offset of the record area, from its LEN field (R386). -/
def State.recLen (s : State) (off : Nat) : Nat := (s.flsNat (0x10000 + off) 1 % 64 + 1) * 16

/-- The offset of the record after the one at `off`, past a FILL record (R386, R389). -/
def State.recNext (s : State) (off : Nat) : Nat :=
  let n := off + s.recLen off
  let n := if flsArea ≤ n then 0 else n
  if s.flsNat (0x10000 + n + 1) 1 = 0 ∧ s.flsNat (0x10000 + n + 2) 4 = 0 ∧ flsArea ≤ n + s.recLen n then 0 else n

/-- Advance the tail past every held record that overlaps [lo, hi) (R389). -/
def State.freeSpan : Nat → State → Nat → Nat → State
  | 0, s, _, _ => s
  | fuel + 1, s, lo, hi =>
    if s.tailSeq ≠ s.headSeq ∧ s.tailOff < hi ∧ lo < s.tailOff + s.recLen s.tailOff then
      State.freeSpan fuel (s.setTail (s.tailSeq + 1) (s.recNext s.tailOff)) lo hi
    else s

/-- Write a record at the head, wrapping behind a FILL record where it does not fit (R389). -/
def State.writeRecord (s : State) (r : FlsRecord) : State :=
  let len := recordLength r
  let off := s.headOff
  let s :=
    if flsArea - off < len ∧ off < flsArea then
      let s := s.freeSpan 1044480 off flsArea
      let fill := flsArea - off
      s.flsWrite (0x10000 + off) (leBytes 1 (min 63 (fill / 16 - 1)) ++ leBytes 1 0 ++ leBytes 4 0 ++ leBytes 6 r.opTime
        ++ leBytes 4 r.pwrCycles.toNat)
    else s
  let off := if flsArea - off < len then 0 else off
  let s := s.freeSpan 1044480 off (off + len)
  let s := if s.tailSeq = s.headSeq then s.setTail s.tailSeq off else s
  let s := s.flsWrite (0x10000 + off) (recordBytes r)
  let s := s.setHead (s.headSeq + 1) (off + len)
  { s with fls := { s.fls with newest := some off } }

/-- Once there is room again, the count of lost records is queued as RECORDS_LOST ahead of later records (R391). -/
def State.flsTellLost (s : State) : State :=
  if s.fls.lostRun = 0 then s
  else
    let n := s.fls.lostRun
    let s := { s with fls := { s.fls with lostRun := 0 } }
    (s.flsQueueRecord 0x02 0 (recordBody [(4, n)]) false).1

/-- Whether the write queue has no room for the host record that FLS_WTYPE describes (R389, R392). -/
def State.flsGoFull (s : State) : Bool :=
  let stamped := s.bit Fld.FLS_CTRL_TS_EN && s.get Fld.TIME_STAT_STATE != 0
  decide (64 ≤ s.fls.queue.length)
    || decide (16384 < flsQueueBytes s.fls.queue + (s.get Fld.FLS_WTYPE_LEN + 1 + stamped.toNat) * 16)

/-- Queue the host record that FLS_WTYPE, FLS_WKEY and FLS_WBUF describe (R392). -/
def State.flsHostRecord (s : State) : State :=
  let body := ((List.range 246).flatMap fun w => leBytes 4 (s.getReg (Reg.FLS_WBUF w)).toNat).take
    ((s.get Fld.FLS_WTYPE_LEN + 1) * 16 - 24)
  let s := (s.flsQueueRecord (s.get Fld.FLS_WTYPE_TYPE) (s.getReg Reg.FLS_WKEY).toNat body false).1
  s.putAll [(Fld.FLS_WCMD_DONE, 1), (Fld.FLS_WCMD_REFUSED, 0)]

/-- The recorder meets an uncorrectable error in the HEAD or TAIL word: TAIL is set to HEAD, FLS_UE is raised and RECORDS_LOST written
(R391). -/
def State.flsHeadUe (s : State) : State :=
  let n := (s.headSeq + 2 ^ 32 - s.tailSeq) % 2 ^ 32
  let s := { s with fls := { s.fls with ue := s.fls.ue.filter fun w => w != 1 && w != 2, newest := none } }
  let s := s.setTail s.headSeq s.headOff
  let s := (s.putBit Fld.FLS_STAT_UE true).raise Src.FLS_UE 0 0
  s.record 0x02 0 [(4, n)]

/-- Write the entry at the head of the queue to MRAM (R389, R390). -/
def State.flsDrainOne (s : State) : State :=
  match s.fls.queue with
  | [] => s
  | e :: q =>
    if s.fls.ue.contains 1 || s.fls.ue.contains 2 then s.flsHeadUe
    else
      let s := { s with fls := { s.fls with queue := q } }
      let s := match e with
        | .record r => s.writeRecord r
        | .repeatAt off => s.flsWrite (0x10000 + off + 20) (leBytes 2 (min 0xFFFF (s.flsNat (0x10000 + off + 20) 2 + 1)))
      let s := s.flsTellLost
      if s.fls.goWaiting && !s.flsGoFull then ({ s with fls := { s.fls with goWaiting := false } } : State).flsHostRecord else s

/-- FLS_RECORD_WRITE (R389), with the 64-bit words of Flowstone MRAM that have come to hold uncorrectable errors (R391).
(DEDUCED, log entry 19; DESIGN CHOICE, log entry 81.) -/
def execFlsRecordWrite (errors : List Nat) (s : State) : Host.Outcome State Fault Refusal :=
  if s.fls.queue.isEmpty then done s
  else done ({ s with fls := { s.fls with ue := s.fls.ue ++ errors } } : State).flsDrainOne

/-- Drain the whole queue (R46, R56, R409). -/
def State.flsDrain (s : State) : State := (List.range 80).foldl (fun s _ => s.flsDrainOne) s

/-- FLS_WCMD (R392): a forbidden type or length is refused; GO waits while the queue is full. -/
def State.flsGo (s : State) (v : Word) : State :=
  if Fld.FLS_WCMD_GO.on v then
    let t := s.get Fld.FLS_WTYPE_TYPE
    let len := s.get Fld.FLS_WTYPE_LEN
    if t ≤ 2 ∨ len < 1 ∨ 0x3E < len then s.putAll [(Fld.FLS_WCMD_DONE, 0), (Fld.FLS_WCMD_REFUSED, 1)]
    else if s.flsGoFull then
      let s := s.putAll [(Fld.FLS_WCMD_DONE, 0), (Fld.FLS_WCMD_REFUSED, 0)]
      { s with fls := { s.fls with goWaiting := true } }
    else s.flsHostRecord
  else s

/-- FLS_WRITE_GO (R392). -/
def execFlsWriteGo (v : Word) (s : State) : Host.Outcome State Fault Refusal := done (s.flsGo v)

/-- A write to FLS_CTRL (R393): ERASE with the key in DEVELOPMENT or DECOMMISSIONED empties the ring behind the records that
wait in the queue, counts in ERASES, and ERASED becomes the first record; else it is refused. (DEDUCED, log entry 19.) -/
def State.flsCtrlWrite (s : State) (v : Word) : State :=
  let s := s.regStore Reg.FLS_CTRL v
  if Fld.FLS_CTRL_ERASE.on v then
    if Fld.FLS_CTRL_KEY.ext v = 0x4552 ∧ (s.get Fld.SEC_STATUS_LIFECYCLE = 1 ∨ s.get Fld.SEC_STATUS_LIFECYCLE = 3) then
      let s := s.flsDrain
      let erases := s.flsNat 0x18 4 + 1
      let s := (s.setTail s.headSeq s.headOff).flsWrite 0x18 (leBytes 4 erases)
      let s := { s with fls := { s.fls with newest := none } }
      s.record 0x04 0 [(4, erases), (4, (s.getReg Reg.SEC_ENG_PEER).toNat)]
    else s.putBit Fld.FLS_CTRL_REFUSED true
  else s

/-- FLS_ERASE (R393). -/
def execFlsErase (v : Word) (s : State) : Host.Outcome State Fault Refusal := done (s.flsCtrlWrite v)

/-- FLS_SEEK (R394): a sequence is being located. -/
def State.flsSeekWrite (s : State) (v : Word) : State :=
  let s := s.putAll [(Fld.FLS_SEEK_OFF_DONE, 0), (Fld.FLS_SEEK_OFF_VALID, 0)]
  { s with fls := { s.fls with seeking := some v } }

def execFlsSeek (v : Word) (s : State) : Host.Outcome State Fault Refusal := done (s.flsSeekWrite v)

/-- The offset `n` records after `off`. -/
def State.recSkip : Nat → State → Nat → Nat
  | 0, _, off => off
  | n + 1, s, off => State.recSkip n s (s.recNext off)

/-- FLS_SEEK_DONE (R394): VALID when the sequence is held. -/
def execFlsSeekDone (s : State) : Host.Outcome State Fault Refusal :=
  match s.fls.seeking with
  | none => done s
  | some q =>
    let s := { s with fls := { s.fls with seeking := none } }
    let ahead := (q.toNat + 2 ^ 32 - s.tailSeq) % 2 ^ 32
    if ahead < (s.headSeq + 2 ^ 32 - s.tailSeq) % 2 ^ 32 then
      done (s.putAll [(Fld.FLS_SEEK_OFF_OFF, s.recSkip ahead s.tailOff), (Fld.FLS_SEEK_OFF_DONE, 1), (Fld.FLS_SEEK_OFF_VALID, 1)])
    else done (s.putAll [(Fld.FLS_SEEK_OFF_DONE, 1), (Fld.FLS_SEEK_OFF_VALID, 0)])

/-- The operating-time copy is brought up to date (R388). -/
def State.optimeCopyNow (s : State) : State := { s with fls := { s.fls with optimeCopy := s.fls.optime } }

/-- OPTIME_COPY (R388): not in HIBERNATE (R412). -/
def execOptimeCopy (s : State) : Host.Outcome State Fault Refusal :=
  if s.mode = .hibernate then done s else done s.optimeCopyNow

end Sys2Proof.Machine
end

