-- ==== Sys2Proof/Machine/TimeBase.lean ====
section
/-! DEFINITION. The time base (15): submissions and steps (R350 to R353), the drip units (R356 to R360), the capture inputs (R361, R362). -/
namespace Sys2Proof.Machine

/-! ### Drip units -/

def Drip.reset : Drip := ⟨0, 0, false⟩

/-- The target and period of drip unit `d` in force. -/
def State.drip (s : State) (d : Nat) : Drip := sparseGet (fun _ => Drip.reset) s.drips d

def State.setDrip (s : State) (d : Nat) (u : Drip) : State :=
  { s with drips := sparseSet (fun _ => Drip.reset) s.drips d u }

/-- D := (LIN[39:0] − target) mod 2⁴⁰ (R356). -/
def State.dripD (s : State) (target : BitVec 40) : BitVec 40 := s.time.lin.truncate 40 - target

/-- Whether the target is reached: D below 2³⁹ (R356). -/
def State.dripDue (s : State) (d : Nat) : Bool := decide ((s.dripD (s.drip d).target).toNat < 2 ^ 39)

/-- A firing is LATE (R357, R358). -/
def State.dripLate (s : State) (d : Nat) : State :=
  (s.putAll [(Fld.DRIP_CTRL_LATE d, 1), (Fld.TIME_EVENT_DRIP_LATE, 1)]).raise Src.DRIP_LATE d 0

/-- DRIP_PEND bit of a host unit (R360). -/
def dripPend (d : Nat) : RegField := if d < 32 then ⟨Reg.DRIP_PEND_LO, d, 1⟩ else ⟨Reg.DRIP_PEND_HI, d - 32, 1⟩

/-- The firing of unit `d` (R356 to R358, R360). -/
def State.dripFires (s : State) (d : Nat) : State :=
  let u := s.drip d
  let (j, s) := s.tpJitter d
  let s := s.emit (.drip d)
  let s := s.putBit (Fld.DRIP_CTRL_FIRED d) true
  let s := if u.late || j != 0 then s.dripLate d else s
  let s := if s.bit (Fld.DRIP_CTRL_SURVEY d) then s else s.putBit (dripPend d) true
  if u.period = 0 then (s.setDrip d { u with late := false }).putBit (Fld.DRIP_CTRL_ARMED d) false
  else
    let t := u.target + u.period
    s.setDrip d { u with target := t, late := decide ((s.dripD t).toNat < 2 ^ 39) }

/-- DRIP_FIRE (R356): an armed unit whose target is reached. -/
def execDripFire (d : Fin 64) (s : State) : Host.Outcome State Fault Refusal :=
  if s.bit (Fld.DRIP_CTRL_ARMED d.val) && s.dripDue d.val then done (s.dripFires d.val) else done s

/-- Arm a unit to a target and period (R357): one already reached fires at once, LATE. (DEDUCED, log entry 25.) -/
def State.dripSet (s : State) (d : Nat) (target period : BitVec 40) : State :=
  let s := s.putBit (Fld.DRIP_CTRL_ARMED d) true
  let s := s.setDrip d ⟨target, period, false⟩
  if s.dripDue d then (s.setDrip d ⟨target, period, true⟩).dripFires d else s

/-- The period a unit's registers hold. -/
def State.dripPeriod (s : State) (d : Nat) : Nat := s.get (Fld.DRIP_PER_HI_PER d) * 2 ^ 32 + s.get (Fld.DRIP_PER_LO_PER d)

/-- The target a unit's registers hold. -/
def State.dripTarget (s : State) (d : Nat) : Nat := s.get (Fld.DRIP_TGT_HI_TGT d) * 2 ^ 32 + s.get (Fld.DRIP_TGT_LO_TGT d)

/-- Disarm a unit (R359, R360). (DEDUCED, log entry 25.) -/
def State.dripStop (s : State) (d : Nat) : State := s.putBit (Fld.DRIP_CTRL_ARMED d) false

/-- A write to DRIP_CTRL[d] (R357 to R360): ARM with a period outside 1 µs to 2³⁹ − 1 ns is refused; ARM of a survey unit is ignored.
(DEDUCED, log entry 25.) -/
def State.dripCtrlWrite (s : State) (d : Nat) (v : Word) : State :=
  s.actions [Fld.DRIP_CTRL_ARM d, Fld.DRIP_CTRL_DISARM d] none v fun s =>
    let s := s.regStore (Reg.DRIP_CTRL d) v
    if (Fld.DRIP_CTRL_ARM d).on v then
      if s.bit (Fld.DRIP_CTRL_SURVEY d) then s
      else
        let p := s.dripPeriod d
        if p ≠ 0 ∧ (p < 1000 ∨ 2 ^ 39 ≤ p) then s.putBit Fld.TIME_EVENT_DRIP_REFUSED true
        else s.dripSet d (BitVec.ofNat 40 (s.dripTarget d)) (BitVec.ofNat 40 p)
    else if (Fld.DRIP_CTRL_DISARM d).on v then s.dripStop d
    else s

/-- DRIP_ARM (R357). -/
def execDripArm (d : Fin 64) (v : Word) (s : State) : Host.Outcome State Fault Refusal := done (s.dripCtrlWrite d.val v)

/-- DRIP_DISARM (R359). -/
def execDripDisarm (d : Fin 64) (v : Word) (s : State) : Host.Outcome State Fault Refusal := done (s.dripCtrlWrite d.val v)

/-- The host units whose target a step of module time has put behind fire in the next cycle with LATE (R360). (DEDUCED, log entry 25.) -/
def State.dripsAfterStep (s : State) : State :=
  (List.range 64).foldl (fun s d =>
    if s.bit (Fld.DRIP_CTRL_ARMED d) && !s.bit (Fld.DRIP_CTRL_SURVEY d) && s.dripDue d then
      s.setDrip d { s.drip d with late := true }
    else s) s

/-! ### Steering -/

/-- A step of module time in one CLK_TIME cycle (R352, R353); a TIME exchange under way ends, its instants lying before the step (R225). -/
def State.stepTime (s : State) (ofs : Int) : State :=
  let total := (((s.nowNs : Int) + ofs) % ((2 ^ 48 * 1000000000 : Nat) : Int)).toNat
  let s := { s with time := { s.time with seconds := total / 1000000000, nanoseconds := total % 1000000000 } }
  let s := { s with pair := { s.pair with timeSent := none, timeRx := none } }
  let s := s.putBit Fld.TIME_EVENT_STEPPED true
  (s.record 0x60 0 [(8, (BitVec.ofInt 64 ofs).toNat)]).dripsAfterStep

/-- TIME_STAT.STATE: FREE 0, LOCKED 1, HOLDOVER 2, FOLLOW 3 (R350). Leaving HOLDOVER ends the condition of TIME_HOLDOVER. -/
def State.timeState (s : State) (st : Nat) : State :=
  let was := s.get Fld.TIME_STAT_STATE
  let s := s.put Fld.TIME_STAT_STATE st
  if st = 2 then (if was = 2 then s else s.putBit Fld.TIME_EVENT_HOLDOVER true) else s.fall Src.TIME_HOLDOVER 0 0

/-- Add an offset to the slew remainder (R351). -/
def State.slewBy (s : State) (ofs : Int) : State :=
  { s with time := { s.time with slewRem := s.time.slewRem + ofs * 4294967296 } }

/-- The pending refused offset as the registers hold it (R353). -/
def State.pendingOffset (s : State) : Int :=
  (BitVec.ofNat 64 (s.get Fld.TIME_PEND_HI_OFS * 2 ^ 32 + s.get Fld.TIME_PEND_LO_OFS)).toInt

/-- Clear the pending offset (R353). -/
def State.clearPending (s : State) : State :=
  (s.putAll [(Fld.TIME_STAT_STEP_PENDING, 0), (Fld.TIME_PEND_LO_OFS, 0), (Fld.TIME_PEND_HI_OFS, 0)]).fall Src.TIME_JUMP_REFUSED 0 0

/-- A refused submission (R353). -/
def State.refuseJump (s : State) (ofs : Int) : State :=
  let o := BitVec.ofInt 64 ofs
  let s := s.putAll [(Fld.TIME_PEND_LO_OFS, o.toNat % 2 ^ 32), (Fld.TIME_PEND_HI_OFS, o.toNat / 2 ^ 32), (Fld.TIME_STAT_STEP_PENDING, 1),
    (Fld.TIME_EVENT_JUMP_REFUSED, 1)]
  let s := s.timeState 2
  let s := s.rise Src.TIME_JUMP_REFUSED 0 0
  s.record 0x62 0 [(8, o.toNat)]

/-- JUMP_US in force, in ns (R351, R468). -/
def State.jumpNs (s : State) : Nat := max 1 (min 1000000 (s.get Fld.TIME_CFG_JUMP_US)) * 1000

/-- A submission from PTP source `src` (R350 to R353): the first while FREE before the sequencer has run steps; one within JUMP_US slews,
not in HOLDOVER while a step is pending; one beyond is refused. (DEDUCED, log entry 24.) -/
def State.submission (s : State) (ofs : Int) (src : Nat) : State :=
  if s.get Fld.TIME_STAT_STATE = 3 then s
  else if s.get Fld.TIME_STAT_STATE = 0 ∧ s.time.seqRan = false then
    ((s.stepTime ofs).put Fld.TIME_STAT_SOURCE src).timeState 1
  else if ofs.natAbs ≤ s.jumpNs then
    if s.get Fld.TIME_STAT_STATE = 2 ∧ s.bit Fld.TIME_STAT_STEP_PENDING = true then s
    else ((s.slewBy ofs).put Fld.TIME_STAT_SOURCE src).timeState 1
  else s.refuseJump ofs

/-- Offset O as TIME_ADJ holds it. -/
def State.adjOffset (s : State) : Int :=
  (BitVec.ofNat 64 (s.get Fld.TIME_ADJ_HI_OFS * 2 ^ 32 + s.get Fld.TIME_ADJ_LO_OFS)).toInt

/-- ACCEPT_STEP (R353): in an authenticated session (R435), while an offset is pending and the sequencer does not run. In a SYNCED pair
LEAD relays it with an instant 10 ms ahead. (DEDUCED, log entry 24.) -/
def State.acceptStep (s : State) : State :=
  if !s.session || !s.bit Fld.TIME_STAT_STEP_PENDING || s.bit Fld.SEQ_STAT_RUNNING then s.putBit Fld.TIME_CMD_REFUSED true
  else
    let s := s.putBit Fld.TIME_CMD_REFUSED false
    let o := s.pendingOffset
    if s.ll = .synced ∧ s.role = .lead then
      let at10 := s.nowNs + 10000000
      let s := { s with time := { s.time with stepAt := some (at10, o) } }
      s.emit (.lifeline (.command (.timeStep at10 o)))
    else ((s.stepTime o).clearPending).timeState 1

/-- A write to TIME_CMD (R351, R353, R469). (DEDUCED, log entry 24.) -/
def State.timeCmdWrite (s : State) (v : Word) : State :=
  s.actions [Fld.TIME_CMD_SUBMIT, Fld.TIME_CMD_ACCEPT_STEP, Fld.TIME_CMD_ACCEPT_SLEW, Fld.TIME_CMD_DISCARD] (some Fld.TIME_CMD_REFUSED) v
    fun s =>
      let src := Fld.TIME_CMD_SRC.ext v
      if Fld.TIME_CMD_SUBMIT.on v then
        if src = 1 ∨ src = 2 then (s.putBit Fld.TIME_CMD_REFUSED false).submission s.adjOffset src else s
      else if Fld.TIME_CMD_ACCEPT_STEP.on v then s.acceptStep
      else if Fld.TIME_CMD_ACCEPT_SLEW.on v then
        if s.session && s.bit Fld.TIME_STAT_STEP_PENDING then
          (((s.slewBy s.pendingOffset).clearPending).timeState 1).putBit Fld.TIME_CMD_REFUSED false
        else s.putBit Fld.TIME_CMD_REFUSED true
      else if Fld.TIME_CMD_DISCARD.on v then s.clearPending.putBit Fld.TIME_CMD_REFUSED false
      else s

/-- SUBMIT (R351). -/
def execSubmit (v : Word) (s : State) : Host.Outcome State Fault Refusal := done (s.timeCmdWrite v)

/-- ACCEPT_STEP (R353). -/
def execAcceptStep (v : Word) (s : State) : Host.Outcome State Fault Refusal := done (s.timeCmdWrite v)

/-- ACCEPT_SLEW (R353). -/
def execAcceptSlew (v : Word) (s : State) : Host.Outcome State Fault Refusal := done (s.timeCmdWrite v)

/-- TIME_DISCARD (R353). -/
def execTimeDiscard (v : Word) (s : State) : Host.Outcome State Fault Refusal := done (s.timeCmdWrite v)

/-- TIME_STEP_INSTANT (R353): the agreed step, once module time has reached its instant. LEAD's pending offset is settled by it. -/
def execTimeStepInstant (s : State) : Host.Outcome State Fault Refusal :=
  match s.time.stepAt with
  | none => done s
  | some (i, o) =>
    if s.nowNs < i then done s
    else
      let s := { s with time := { s.time with stepAt := none } }
      let s := s.stepTime o
      if s.get Fld.TIME_STAT_STATE = 3 then done s else done ((s.clearPending).timeState 1)

/-- TIME_HOLDOVER (R350). -/
def execTimeHoldover (s : State) : Host.Outcome State Fault Refusal :=
  if s.get Fld.TIME_STAT_STATE = 1 then
    let s := (s.timeState 2).rise Src.TIME_HOLDOVER 0 0
    done (s.record 0x61 0 [(4, (s.getReg Reg.TIME_RATE).toNat)])
  else done s

/-- PTP_LAN_CHANGE (R355): in PRP mode the servo takes its submissions from the other LAN; the offset between the two masters comes as a
submission. (DEDUCED, log entry 24.) -/
def execPtpLanChange (s : State) : Host.Outcome State Fault Refusal :=
  if s.get Fld.BB_CTRL_MODE = 1 then
    if s.get Fld.TIME_STAT_SOURCE = 1 then done (s.put Fld.TIME_STAT_SOURCE 2)
    else if s.get Fld.TIME_STAT_SOURCE = 2 then done (s.put Fld.TIME_STAT_SOURCE 1)
    else done s
  else done s

/-! ### Capture inputs -/

def CapState.reset : CapState := ⟨none, 0⟩

def State.cap (s : State) (k : Nat) : CapState := sparseGet (fun _ => CapState.reset) s.caps k

def State.setCap (s : State) (k : Nat) (c : CapState) : State := { s with caps := sparseSet (fun _ => CapState.reset) s.caps k c }

/-- Samples a capture input must show (R361): FILT 0 means 16. (DEDUCED, log entry 26.) -/
def State.capFilt (s : State) (k : Nat) : Nat :=
  if s.get (Fld.CAP_CFG_FILT k) = 0 then 16 else s.get (Fld.CAP_CFG_FILT k)

/-- The stamp of an edge accepted now: the whole microsecond of the first of its samples (R361). (DEDUCED, log entry 26.) -/
def State.capStamp (s : State) (k : Nat) : BitVec 64 :=
  BitVec.ofNat 64 (s.time.lin.toNat / 1000 * 1000) - BitVec.ofNat 64 ((s.capFilt k - 1) * 1000)

/-- CAPTURE_EDGE (R361, R362): input `k` has shown `level` for its samples. The first level after reset or wake is the starting level and
gives no edge; an edge not selected changes the level alone. (DEDUCED, log entry 26.) -/
def execCaptureEdge (k : Fin 16) (level : Bool) (s : State) : Host.Outcome State Fault Refusal :=
  let k := k.val
  let c := s.cap k
  let s := s.putBit (Fld.CAP_STAT_LEVEL k) level
  let sel := s.get (Fld.CAP_CFG_EDGE k)
  let wanted := if level then sel % 2 == 1 else decide (2 ≤ sel)
  if c.level.isNone || c.level == some level || !wanted then done (s.setCap k { c with level := some level })
  else
    let stamp := s.capStamp k
    let s := s.setCap k ⟨some level, stamp⟩
    let s := s.setReg (Reg.CAP_TIME_LO k) (stamp.truncate 32)
    let s := if s.bit (Fld.CAP_STAT_VALID k) then s.putBit (Fld.CAP_STAT_OVERRUN k) true else s
    let s := s.putBit (Fld.CAP_STAT_VALID k) true
    done ((s.putBit (Fld.CAP_STAT_RISING k) level).bumpWrap (Fld.CAP_STAT_COUNT k))

/-- The time-base interrupt (R471). -/
def State.timeIrq (s : State) : Bool :=
  ((List.range 64).any fun d => s.bit (dripPend d) && s.bit (Fld.DRIP_CTRL_IRQ_EN d))
    || (List.range 16).any fun k => s.bit (Fld.CAP_STAT_VALID k) && s.bit (Fld.CAP_CFG_IRQ_EN k)

end Sys2Proof.Machine
end

