-- ==== Sys2Proof/Machine/Updates.lean ====
section
/-! DEFINITION. Updates (20): firmware slots, capsules and their checks, staging, installation at LOAD, the health window and fallback. -/
namespace Sys2Proof.Machine

/-! ### Firmware slots (R438 to R440) -/

/-- A slot of the firmware flash. -/
def State.fwSlotAt (s : State) (x : Nat) : FwSlot := if x = 0 then s.upd.slot0 else s.upd.slot1

def State.setFwSlot (s : State) (x : Nat) (f : FwSlot) : State :=
  { s with upd := if x = 0 then { s.upd with slot0 := f } else { s.upd with slot1 := f } }

/-- MAGIC and CRC correct and STATE one of R439. -/
def FwSlot.intact (f : FwSlot) : Bool := f.sound && [0xFF, 0x7F, 0x3F, 0x1F, 0x0F].contains f.state.toNat

/-- An eligible TENTATIVE slot (R440). -/
def FwSlot.eligible (f : FwSlot) : Bool := f.intact && f.state == 0x3F && f.attempts != 0xF8

/-- An intact CONFIRMED slot. -/
def FwSlot.confirmed (f : FwSlot) : Bool := f.intact && f.state == 0x1F

/-- The internal active slot (R440). -/
def State.fwActive (s : State) : Option Nat :=
  if s.upd.slot0.eligible then some 0
  else if s.upd.slot1.eligible then some 1
  else if s.upd.slot0.confirmed && (!s.upd.slot1.confirmed || decide (s.upd.slot1.seq ≤ s.upd.slot0.seq)) then some 0
  else if s.upd.slot1.confirmed then some 1
  else none

/-- The next ATTEMPTS value (R439). -/
def nextAttempt (a : Byte) : Byte := if a = 0xFF then 0xFE else if a = 0xFE then 0xFC else 0xF8

/-- ATTEMPTS as UPD_SLOT shows it. -/
def attemptCount (a : Byte) : Nat := if a = 0xFF then 0 else if a = 0xFE then 1 else if a = 0xFC then 2 else 3

/-- Images with those of `new` in place of the images of the same components (R445). (DEDUCED, log entry 66.) -/
def mergeImages (old new : List ComponentImage) : List ComponentImage :=
  (old.filter fun i => !(new.any fun j => j.component == i.component)) ++ new

/-! ### Checks of a capsule (R443) -/

/-- Bytes 0 to 251 of a signature trailer (R93). -/
def trailerBytes (x : SurveyTrailer) : List Byte :=
  leBytes 4 x.magic ++ leBytes 4 x.keyIndex ++ leBytes 48 x.digest ++ leBytes 48 x.sigR ++ leBytes 48 x.sigS ++ leBytes 12 x.iv
    ++ leBytes 16 x.tag ++ List.replicate 72 0

/-- MAGIC and CRC of a signature trailer (R93; check 0x03 of R117). -/
def trailerOk (x : SurveyTrailer) : Bool := x.magic == 0x47495353 && crc32 (trailerBytes x) == x.crc

/-- Bytes 0 to 59 of a capsule's header (R441). -/
def capsuleBytes (c : Capsule) : List Byte :=
  leBytes 4 c.magic ++ leBytes 2 c.format ++ leBytes 1 c.component ++ leBytes 1 c.members.toNat ++ leBytes 4 c.length
    ++ leBytes 1 c.manifestCount ++ leBytes 1 c.sectionCount ++ leBytes 2 0 ++ leBytes 8 c.buildId ++ List.replicate 36 0

/-- The components whose images a capsule's section entries name, in their order (R437, R441). -/
def capsuleSections (component : Nat) : List Nat := if component = 0 then [1, 2, 4, 5] else [component]

/-- Check 0x02 (R441, R443): MAGIC, FORMAT, HEADER_CRC, LENGTH, entry counts, the member; BUILD_ID is never 0. -/
def capsuleFormatOk (c : Capsule) : Bool :=
  c.magic == 0x53504143 && c.format == 1 && crc32 (capsuleBytes c) == c.headerCrc && decide (c.length ≤ 0x3FF0000)
    && decide (1 ≤ c.manifestCount ∧ c.manifestCount ≤ 32)
    && c.manifestCount == (c.images.map fun i => i.provides.length + i.requires.length).sum
    && c.sectionCount == c.images.length && (c.images.map fun i => i.component) == capsuleSections c.component
    && decide (c.component < 6) && c.buildId != 0 && c.members.getLsbD 3

/-- Check 0x03 (R93, R423, R441, R443) but for the lifecycle: trailer, digest and signature, IV and TAG 0, every image sound. -/
def capsuleSigned (c : Capsule) : Bool :=
  trailerOk c.trailer && c.trailer.iv == 0 && c.trailer.tag == 0 && c.trailer.digestOk && c.trailer.signatureOk && !c.readUe
    && c.images.all fun i => i.ok

/-- The security version counter of a component (R437). -/
def State.secCounter (s : State) (component : Nat) : Nat := sparseGet (fun _ => 0) s.sec.counters (component - 1)

/-- A firmware key slot is allowed in a lifecycle state (R423); the recovery ROM accepts slots 0 and 1 in BLANK. -/
def fwKeyAllowed (lifecycle key : Nat) (rom : Bool) : Bool :=
  match lifecycle with
  | 0 => rom && decide (key < 2)
  | 1 => decide (key < 2)
  | 2 => key == 0
  | _ => false

/-- An interface version that the islands provide, from a VERSION word: its major and minor (R439, R442). (DEDUCED, log entry 42.) -/
def islandIface (ver : Nat) : Nat := ver / 65536

/-- The interfaces provided by the checked set (R443): the running slot's components with the capsule's in their place, and the version
every island reports. -/
def State.providedIfaces (s : State) (images : List ComponentImage) (component : Nat) : List (Nat × Nat) :=
  (images.flatMap fun i => i.provides)
    ++ (if component = 3 then [] else (List.range 16).map fun i => (3, islandIface (s.get (Fld.UPD_ISL_VER_VERSION i))))

/-- Every requirement of the checked set is met (R442). -/
def State.matrixOk (s : State) (c : Capsule) : Bool :=
  let set := mergeImages (s.fwSlotAt (s.get Fld.UPD_STAT_RUN_SLOT)).images c.images
  let given := s.providedIfaces set c.component
  set.all fun i => i.requires.all fun (f, lo, hi) => given.any fun (g, v) => g == f && decide (lo ≤ v) && decide (v ≤ hi)

/-- The version of an interface a capsule provides. -/
def capsuleIface (c : Capsule) (f : Nat) : Option Nat :=
  (c.images.flatMap fun i => i.provides).findSome? fun (g, v) => if g = f then some v else none

/-- The first check of R443 that a capsule fails, 0 when it passes, with the verdicts of 0x03 on the capsule and of 0x05 given; `rom` for the
recovery ROM. (DEDUCED, log entry 66.) -/
def State.capsuleCheckWith (s : State) (c : Capsule) (rom signed matrix : Bool) : Nat :=
  if !capsuleFormatOk c then 2
  else if !signed || !fwKeyAllowed (s.get Fld.SEC_STATUS_LIFECYCLE) c.trailer.keyIndex rom then 3
  else if c.images.any fun i => decide (i.secver < s.secCounter i.component) then 4
  else if !matrix then 5
  else if decide (2 ≤ s.get Fld.PAIR_STAT_LL_STATE) && (c.component == 0 || c.component == 1) && !s.upd.split
      && (match capsuleIface c 2 with
          | some v => decide (v / 256 ≠ s.get Fld.PAIR_PARTNER_PROTO_MAJOR)
          | none => false) then 6
  else
    match capsuleIface c 1 with
    | none => 0
    | some v =>
      let low (sv : Option Survey) := match sv with
        | some g => decide (v < g.header.fwIfaceMin)
        | none => false
      if low s.activeSurvey || low s.olc.survey then 7 else 0

/-- The checks of R443 on a capsule as it is read now. -/
def State.capsuleCheck (s : State) (c : Capsule) (rom : Bool) : Nat := s.capsuleCheckWith c rom (capsuleSigned c) (s.matrixOk c)

/-- A read of the firmware flash that meets an uncorrectable error is counted and raises UPD_FLASH_UE (R438). -/
def State.flashRead (s : State) (ue : Bool) : State := if ue then (s.bump Fld.UPD_FLASH_UE).raise Src.UPD_FLASH_UE 0 0 else s

/-- VERSION of a capsule's first image. -/
def capsuleVersion (c : Capsule) : Nat :=
  match c.images with
  | i :: _ => i.version.toNat
  | [] => 0

/-! ### Staging (R444) -/

def State.updDone (s : State) : State := s.putAll [(Fld.UPD_CMD_DONE, 1), (Fld.UPD_CMD_REFUSED, 0)]

/-- A refused command (UPD_CMD.REFUSED, UPD_REASON). -/
def State.updRefuse (s : State) (code : Nat) : State :=
  s.putAll [(Fld.UPD_CMD_DONE, 0), (Fld.UPD_CMD_REFUSED, 1), (Fld.UPD_REASON_CODE, code)]

/-- Staging becomes EMPTY. -/
def State.stagingEmpty (s : State) : State :=
  let s := s.putAll [(Fld.UPD_STAT_STAGE, 0), (Fld.UPD_STAT_STAGED_COMP, 0), (Fld.UPD_STAT_BUSY, 0)]
  { s with upd := { s.upd with staged := none, received := 0, loader := false } }

/-- A capsule refused by R443. -/
def State.capsuleRefused (s : State) (c : Capsule) (code : Nat) : State :=
  let s := (s.updRefuse code).raise Src.UPD_REFUSED 0 0
  let s := s.record 0x95 code [(1, c.component), (8, c.buildId)]
  let s :=
    if code = 4 then
      c.images.foldl (fun s i =>
        if i.secver < s.secCounter i.component then s.record 0x86 i.component [(1, i.secver), (1, s.secCounter i.component)]
        else s) s
    else s
  s.stagingEmpty

/-- Whether a slot is TENTATIVE. -/
def State.anyTentative (s : State) : Bool := s.upd.slot0.state == 0x3F || s.upd.slot1.state == 0x3F

/-- The reason for which BEGIN is refused, if any (R444, R446). -/
def State.beginRefusal (s : State) (loader : Bool) : Option Nat :=
  if s.get Fld.UPD_STAT_STAGE = 3 ∨ s.get Fld.UPD_STAT_STAGE = 2 then some 9
  else if s.anyTentative then some 8
  else if !s.session then some 1
  else if loader then
    if s.mode = .hold ∧ s.role = .solo ∧ s.get Fld.SEC_STATUS_LIFECYCLE = 1 then none else some 0xA
  else if s.mode = .run ∨ s.mode = .service ∨ s.mode = .hold then none
  else some 0xA

/-- The in-place write of the resident loader or of the recovery ROM (R446, R447): the slot becomes TENTATIVE with no attempt used.
(DEDUCED, log entry 66.) -/
def State.writeSlot (s : State) (x : Nat) (c : Capsule) : State :=
  let f := s.fwSlotAt x
  let seq := (match s.fwActive with
    | some a => (s.fwSlotAt a).seq
    | none => 0) + 1
  s.setFwSlot x ⟨true, seq, 0x3F, 0xFF, mergeImages f.images c.images, c.buildId⟩

/-- CAPSULE_VERIFIED (R443, R446): the verification that END began. -/
def State.capsuleVerified (s : State) (c : Capsule) : State :=
  if s.get Fld.UPD_STAT_STAGE = 2 then
    let code := s.capsuleCheck c false
    let s := s.flashRead c.readUe
    if code ≠ 0 then s.capsuleRefused c code
    else if s.upd.loader then
      let x := s.fwActive.getD 0
      let s := (s.writeSlot x c).stagingEmpty.updDone
      s.record 0x96 c.component [(4, capsuleVersion c)]
    else
      let s := { s with upd := { s.upd with staged := some c } }
      let s := s.putAll [(Fld.UPD_STAT_STAGE, 3), (Fld.UPD_STAT_STAGED_COMP, c.component), (Fld.UPD_STAT_BUSY, 0)]
      s.updDone.record 0x90 c.component [(4, capsuleVersion c), (8, c.buildId)]
  else s

def execCapsuleVerified (c : Capsule) (s : State) : Host.Outcome State Fault Refusal := done (s.capsuleVerified c)

/-! ### Installation at LOAD (R445) and the start of a slot (R440) -/

/-- LOAD finds what staging holds (R444, R445): an area left RECEIVING is erased; a staged slot component is verified again and installed.
(DESIGN CHOICE, log entry 114.) -/
def State.installStaged (s : State) (m : ResetSample) : State :=
  match s.upd.staged with
  | none => s.stagingEmpty
  | some c =>
    let reason := s.capsuleCheckWith c false (capsuleSigned c && m.capsuleSigned && !m.capsuleUe) m.capsuleMatrix
    if c.component = 3 then s.putAll [(Fld.UPD_STAT_STAGE, 3), (Fld.UPD_STAT_STAGED_COMP, 3)]
    else if reason ≠ 0 then (s.flashRead m.capsuleUe).capsuleRefused c reason
    else
      let a := s.fwActive
      let x := match a with
        | some 0 => 1
        | _ => 0
      let (oldSeq, oldImages) := match a with
        | some y => ((s.fwSlotAt y).seq, (s.fwSlotAt y).images)
        | none => (0, [])
      let slot : FwSlot := ⟨true, oldSeq + 1, 0x3F, 0xFF, mergeImages oldImages c.images, c.buildId⟩
      if m.installOk then
        let s := (s.setFwSlot x slot).stagingEmpty
        s.record 0x91 c.component [(1, x), (4, oldSeq + 1), (4, capsuleVersion c)]
      else
        ((s.setFwSlot x { slot with state := 0x0F }).raise Src.UPD_VERIFY 0 0).stagingEmpty

/-- The fallback of R449 on slot `x`: retired, reported. (DESIGN CHOICE, log entry 29.) -/
def State.fallbackSlot (s : State) (x : Nat) : State :=
  let s := s.setFwSlot x { s.fwSlotAt x with state := 0x0F }
  let s := s.raise Src.UPD_FALLBACK 0 0
  let (cause, s) := s.freeByte
  s.record 0x93 x [(1, cause)]

/-- At LOAD, a TENTATIVE slot that has used its three attempts falls back (R440). -/
def State.retireSpent (s : State) : State :=
  [0, 1].foldl (fun s x =>
    if (s.fwSlotAt x).intact && (s.fwSlotAt x).state == 0x3F && (s.fwSlotAt x).attempts == 0xF8 then s.fallbackSlot x else s) s

/-- UPD_COMP_VER and RUN_SLOT of a slot that starts (R437). -/
def State.showRunning (s : State) (images : List ComponentImage) : State :=
  images.foldl (fun s i => if 1 ≤ i.component ∧ i.component ≤ 5 ∧ i.component ≠ 3 then
    s.put (Fld.UPD_COMP_VER_VERSION (i.component - 1)) i.version.toNat else s) s

/-! ### Health (R448, R449) -/

/-- The window opens at the first entry to RUN or SERVICE (R448). -/
def State.healthOpen (s : State) : State :=
  if s.bit Fld.UPD_STAT_TENTATIVE && !s.upd.windowDone then
    let s := { s with upd := { s.upd with windowDone := true } }
    s.putAll [(Fld.UPD_HEALTH_OPEN, 1), (Fld.UPD_HEALTH_REMAIN_S, 600)]
  else s

/-- Advance a security version counter (R425). -/
def State.advanceCounter (s : State) (component secver : Nat) : State :=
  if 1 ≤ component ∧ component ≤ 5 ∧ s.secCounter component < secver then
    let s := { s with sec := { s.sec with counters := sparseSet (fun _ => 0) s.sec.counters (component - 1) secver } }
    s.put (Fld.SEC_SECVER_COUNTER (component - 1)) secver
  else s

/-- Confirmation of the running TENTATIVE slot (R448), accepted from the exit from LOAD onward. -/
def State.healthConfirm (s : State) : State :=
  if s.bit Fld.UPD_STAT_TENTATIVE && (s.mode == .run || s.mode == .hold || s.mode == .service) && s.upd.fallback.isNone then
    let x := s.get Fld.UPD_STAT_RUN_SLOT
    let f := s.fwSlotAt x
    let left := s.get Fld.UPD_HEALTH_REMAIN_S
    let s := if s.get Fld.RST_STRAP_BOOT = 0 then { s with store := { s.store with firmware := f.images } } else s
    let s := f.images.foldl (fun s i => s.advanceCounter i.component i.secver) s
    let s := s.setFwSlot x { f with state := 0x1F }
    let s := s.putAll [(Fld.UPD_STAT_TENTATIVE, 0), (Fld.UPD_HEALTH_OPEN, 0), (Fld.UPD_HEALTH_REMAIN_S, 0)]
    s.record 0x92 x [(4, f.seq), (2, left)]
  else s

/-- A write to UPD_HEALTH (R448). -/
def State.updHealthWrite (s : State) (v : Word) : State :=
  if Fld.UPD_HEALTH_CONFIRM.on v ∧ Fld.UPD_HEALTH_KEY.ext v = 0x4F4B then s.healthConfirm else s

/-- HEALTH_CONFIRM (R448). -/
def execHealthConfirm (v : Word) (s : State) : Host.Outcome State Fault Refusal := done (s.gated 48 fun s => s.updHealthWrite v)

/-- The software reset of a fallback is owed (R449). (DEDUCED, log entry 66.) -/
def State.oweFallback (s : State) (x : Nat) : State := { s with upd := { s.upd with fallback := some x } }

/-- The window ends unconfirmed (R449); in a SYNCED pair the fallback is a failover cause. -/
def State.healthExpiry (s : State) : State :=
  let x := s.get Fld.UPD_STAT_RUN_SLOT
  let s := s.putAll [(Fld.UPD_HEALTH_OPEN, 0), (Fld.UPD_HEALTH_REMAIN_S, 0)]
  let s := (s.fallbackSlot x).oweFallback x
  if s.ll = .synced then s.failover Src.UPD_FALLBACK else s

/-- HEALTH_WINDOW_EXPIRY (R449): once the window has run down. -/
def execHealthWindowExpiry (s : State) : Host.Outcome State Fault Refusal :=
  if s.bit Fld.UPD_HEALTH_OPEN ∧ s.get Fld.UPD_HEALTH_REMAIN_S = 0 then done s.healthExpiry else done s

/-- FALLBACK_RESET (R449): not while an on-line change is ARMED or in its TAIL, nor while an island update runs. (DEDUCED, log entry 66.) -/
def execFallbackReset (s : State) : Host.Outcome State Fault Refusal :=
  if s.upd.fallback.isNone || s.get Fld.OLC_STAT_STATE == 6 || s.get Fld.OLC_STAT_STATE == 7 || s.bit Fld.UPD_STAT_ISL_BUSY then done s
  else done s.softReset

/-- RECOVERY_TFTP_WRITE (R447): in RECOVERY, a FULL capsule under a key the lifecycle state allows goes into the slot that is not intact or
has the lower SLOT_SEQ. (DEDUCED, log entry 66.) -/
def State.recoveryWrite (s : State) (c : Capsule) : State :=
  if s.mode = .recovery ∧ c.component = 0 then
    let code := s.capsuleCheck c true
    if code ≠ 0 then s.capsuleRefused c code
    else
      let x := if !s.upd.slot0.intact then 0 else if !s.upd.slot1.intact then 1
        else if s.upd.slot0.seq ≤ s.upd.slot1.seq then 0 else 1
      let s := s.writeSlot x c
      (s.record 0x97 x [(4, capsuleVersion c)]).softReset
  else s

def execRecoveryTftpWrite (c : Capsule) (s : State) : Host.Outcome State Fault Refusal := done (s.recoveryWrite c)

end Sys2Proof.Machine
end

