-- ==== Sys2Proof/Machine/Units.lean ====
section
/-! DEFINITION. Chambers, tasks and the tables of the running survey: how the state holds them, and their values at reset. -/
namespace Sys2Proof.Machine

/-- Insertion by a key, for small lists. -/
def insertBy {α : Type} (key : α → Nat) (x : α) : List α → List α
  | [] => [x]
  | y :: l => if key x ≤ key y then x :: y :: l else y :: insertBy key x l

def sortBy {α : Type} (key : α → Nat) (l : List α) : List α := l.foldr (insertBy key) []

def LaneState.reset : LaneState := ⟨[], [], 0, .ended 0, 0, 0, 0, [], [], [], [], [], [], []⟩

def Chamber.reset : Chamber :=
  ⟨LaneState.reset, LaneState.reset, [], [], none, [], [], [], [], [], [], [], [], 0, false, false⟩

/-- A task that no cycle has touched. FIRST for a task number that only a new survey brings is 1: R147 names a start and a first scan ends
with its first commit, R209 keeps the state of tasks that both surveys have. (DESIGN CHOICE, log entry 94.) -/
def TaskState.reset : TaskState where
  t0 := 0
  t0Cyc := 0
  outcomeFixed := false
  firstScan := true
  holdPending := none
  holdEffective := none
  resumePending := false
  resumeEffective := none
  equal := []
  mism := []
  badEnd := false
  lastEqualCyc := 0
  own := none
  partnerOutcome := none
  standing := none
  puts := []
  undo := []
  committed := 0
  quiet := false
  moved := []
  journals := []
  stream := []
  partnerJournal := none
  streamDone := false
  wrote := []
  spentCyc := 0
  spent := 0

def State.chamber (s : State) (c : Nat) : Chamber := sparseGet (fun _ => Chamber.reset) s.chambers c

def State.setChamber (s : State) (c : Nat) (x : Chamber) : State :=
  { s with chambers := sparseSet (fun _ => Chamber.reset) s.chambers c x }

def State.task (s : State) (t : Nat) : TaskState := sparseGet (fun _ => TaskState.reset) s.tasks t

def State.setTask (s : State) (t : Nat) (x : TaskState) : State :=
  { s with tasks := sparseSet (fun _ => TaskState.reset) s.tasks t x }

/-- A lane of a chamber. -/
def Chamber.lane (ch : Chamber) (w : Lane) : LaneState :=
  match w with
  | .main => ch.main
  | .checker => ch.checker

def Chamber.setLane (ch : Chamber) (w : Lane) (l : LaneState) : Chamber :=
  match w with
  | .main => { ch with main := l }
  | .checker => { ch with checker := l }

/-- Chamber states of GAL_CH_STAT (R121 ff.). -/
def Ch.OFF : Nat := 0
def Ch.IDLE : Nat := 1
def Ch.EXECUTING : Nat := 2
def Ch.COMPARING : Nat := 3
def Ch.RECOVERING : Nat := 4
def Ch.SPARE : Nat := 5
def Ch.FAILED : Nat := 6

def State.chState (s : State) (c : Nat) : Nat := s.get (Fld.GAL_CH_STAT_STATE c)

def State.setChState (s : State) (c st : Nat) : State := s.put (Fld.GAL_CH_STAT_STATE c) st

/-- A chamber of the survey that executes nothing and is not FAILED. -/
def State.chamberIdle (s : State) (c : Nat) : Bool := (s.chState c == Ch.IDLE || s.chState c == Ch.SPARE) && (s.chamber c).exec.isNone

/-- A task that is held (R168), one waiting to resume included (R169). -/
def State.taskHeld (s : State) (t : Nat) : Bool := s.get (Fld.SEQ_TASK_STAT_STATE t) == 2 || s.get (Fld.SEQ_TASK_STAT_STATE t) == 3

/-- A task's cycle count (SEQ_TASK_CYC). -/
def State.cyc (s : State) (t : Nat) : BitVec 32 := s.getReg (Reg.SEQ_TASK_CYC t)

/-- The survey in the inactive bank. -/
def State.otherSurvey (s : State) : Option Survey :=
  (sparseGet (fun _ => (⟨none⟩ : Bank)) s.banks (1 - s.get Fld.SEQ_STAT_ACTIVE_BANK)).survey

/-- Whether a task cycle with instant `t0` belongs to the tail of a swap: it lies before S (R207). (DEDUCED, log entry 36.) -/
def State.tailAt (s : State) (t0 : Nat) : Bool := decide (t0 < s.olc.swappedAt)

/-- Whether task `t`'s cycle belongs to the tail of a swap (R207). -/
def State.inTail (s : State) (t : Nat) : Bool := s.tailAt (s.task t).t0

/-- The survey whose tables a task cycle with instant `t0` runs under: a tail cycle runs under the old one (R207). -/
def State.surveyAt (s : State) (t0 : Nat) : Option Survey := if s.tailAt t0 then s.otherSurvey else s.activeSurvey

/-- The survey whose tables task `t`'s cycle runs under (R207). -/
def State.surveyFor (s : State) (t : Nat) : Option Survey := s.surveyAt (s.task t).t0

/-- Task `t`'s entry in the survey of a cycle with instant `t0`. -/
def State.taskEntryAt (s : State) (t0 t : Nat) : Option TaskEntry :=
  match s.surveyAt t0 with
  | none => none
  | some v => v.tasks.find? fun e => e.task == t

/-- A task's entry in its survey's task table. -/
def State.taskEntry (s : State) (t : Nat) : Option TaskEntry := s.taskEntryAt (s.task t).t0 t

/-- PERIOD_TICKS of task `t` in a cycle with instant `t0`. -/
def State.ticksAt (s : State) (t0 t : Nat) : Nat := ((s.taskEntryAt t0 t).map fun e => e.periodTicks).getD 0

/-- T of task `t` in ns in a cycle with instant `t0`: PERIOD_TICKS base ticks of 250 µs (R95). -/
def State.periodAt (s : State) (t0 t : Nat) : Nat := s.ticksAt t0 t * 250000

/-- T of a task in ns. -/
def State.periodNs (s : State) (t : Nat) : Nat := s.periodAt (s.task t).t0 t

/-- The offset of `n` hundredths of task `t`'s period from the instant `t0` in CLK_TIME cycles (R154): 1,000 · n per tick of period. -/
def State.offsetCyc (s : State) (t0 t n : Nat) : Nat := s.ticksAt t0 t * 1000 * n

/-- The ring slot table entry of slot `n` (R144), in the tables that a task cycle with instant `t0` runs under (R207). -/
def State.ringSlotAt (s : State) (t0 n : Nat) : Option RingSlotEntry :=
  match s.surveyAt t0 with
  | none => none
  | some v => v.ringSlots.find? fun e => e.slot == n

/-- The replacement of the fabric entry with index `i` among patches (R110): of two with one index the first stands. (DESIGN CHOICE, log
entry 87.) -/
def patchFor (l : List (Nat × FabricEntry)) (i : Nat) : Option FabricEntry := (l.find? fun p => p.1 == i).map fun p => p.2

/-- The task of the fabric entry with index `i` (R184). -/
def surveyPatchedTask (g : Survey) (i : Nat) : Nat := (g.fabric[i]?.map fun e => e.task).getD 0

/-- The running instance area (GAL_AREA.RUN_AREA). -/
def State.runArea (s : State) : Nat := s.get Fld.GAL_AREA_RUN_AREA

/-- The instance area of a task cycle with instant `t0`: tail commits go to the old one (R208). -/
def State.areaAt (s : State) (t0 : Nat) : Nat := if s.tailAt t0 then 1 - s.runArea else s.runArea

/-- The instance area of task `t`'s cycle. -/
def State.areaFor (s : State) (t : Nat) : Nat := s.areaAt (s.task t).t0

/-- Key of the 64-bit word at byte offset `o` of instance area `a`. -/
def instKey (a o : Nat) : Nat := a * 4194304 + o / 8

/-- A committed instance word. -/
def State.instWord (s : State) (a o : Nat) : DWord := sparseGet (fun _ => 0) s.inst.words (instKey a o)

def State.setInstWord (s : State) (a o : Nat) (w : DWord) : State :=
  { s with inst := { s.inst with words := sparseSet (fun _ => 0) s.inst.words (instKey a o) w,
                                 ue := s.inst.ue.filter fun k => k != instKey a o } }

end Sys2Proof.Machine
end

