-- ==== Sys2Proof/Machine/LaneExec.lean ====
section
/-! DEFINITION. What one instruction does to its lane (R121 to R149, R172 to R175): fetch, operands, memories, journal, staging, ring slots,
traps. One command is one instruction of one lane. -/
namespace Sys2Proof.Machine

/-- What an instruction makes of its lane: the lane afterwards and the cycles occupied, or a trap with its cause and data address. -/
inductive LaneRes where
  | ok (l : LaneState) (cycles : Nat)
  | trap (cause : Nat) (addr : Nat) (cycles : Nat)
  deriving DecidableEq, Repr

/-- The fixed values of an execution that its instructions read (R124 to R126, R134, R140, R144 to R146). -/
structure LaneEnv where
  task : Nat
  primary : Nat
  cyc : BitVec 32
  t0 : Nat
  first : Bool
  period : Nat
  winLo : Nat
  winHi : Nat
  origin : Nibble
  inst : Nat → DWord
  instUe : Nat → Bool
  ringSlot : Nat → Option RingSlotEntry
  rx : Nat → List Descriptor
  rxBase : Nat → Nat
  txBase : Nat → Nat
  free : Nat → Nat

/-! ### Registers and tags (R124) -/

def LaneState.reg (l : LaneState) (n : BitVec 5) : DWord := if n = 0 then 0 else sparseGet (fun _ => 0) l.g n.toNat

def LaneState.tag (l : LaneState) (n : BitVec 5) : Nibble := if n = 0 then 0 else sparseGet (fun _ => 0) l.tags n.toNat

def LaneState.setTag (l : LaneState) (n : BitVec 5) (t : Nibble) : LaneState :=
  if n = 0 then l else { l with tags := sparseSet (fun _ => 0) l.tags n.toNat t }

/-- Write a register with its tag; a write to G[0] is discarded. -/
def LaneState.setReg (l : LaneState) (n : BitVec 5) (v : DWord) (t : Nibble) : LaneState :=
  if n = 0 then l else ({ l with g := sparseSet (fun _ => 0) l.g n.toNat v } : LaneState).setTag n t

def LaneState.next (l : LaneState) : LaneState := { l with pc := l.pc + 4 }

def LaneState.feed (l : LaneState) (ws : List DWord) : LaneState := { l with sig := ws.foldl crc64Word l.sig }

/-- The address of a load or store: G[a] + sext(imm), 64 bits (R136). -/
def LaneState.addr (l : LaneState) (a : BitVec 5) (i : BitVec 16) : Nat := (l.reg a + i.signExtend 64).toNat

/-! ### Words in parts -/

/-- The `size` bytes at byte `k` of a word, zero-extended. -/
def wordPart (w : DWord) (k size : Nat) : DWord := (w >>> (8 * k)) &&& BitVec.ofNat 64 (2 ^ (8 * size) - 1)

/-- A word with `size` bytes at byte `k` replaced. -/
def wordMerge (w v : DWord) (k size : Nat) : DWord :=
  let m : DWord := BitVec.ofNat 64 (2 ^ (8 * size) - 1) <<< (8 * k)
  (w &&& ~~~m) ||| ((v <<< (8 * k)) &&& m)

/-- Extension of a loaded value: 1 and 2 bytes zero-extend, 4 bytes sign-extend (R137). -/
def loadExtend (v : DWord) (size : Nat) : DWord := if size = 4 then (v.truncate 32).signExtend 64 else v

def workWord (l : LaneState) (a : Nat) : DWord := sparseGet (fun _ => 0) l.work (a / 8)

def LaneState.setWork (l : LaneState) (a : Nat) (w : DWord) : LaneState :=
  { l with work := sparseSet (fun _ => 0) l.work (a / 8) w, workUe := l.workUe.filter fun k => k != a / 8 }

/-! ### Memory instructions -/

/-- LDB to LDD: INPUT and SCRATCH (R122, R137). -/
def laneLoad (l : LaneState) (size : Nat) (d a : BitVec 5) (i : BitVec 16) : LaneRes :=
  let x := l.addr a i
  if x % size ≠ 0 then .trap 3 x 1
  else if 0x1E0000 ≤ x then .trap 4 x 1
  else if l.workUe.contains (x / 8) then .trap 0xA x 2
  else .ok (l.next.setReg d (loadExtend (wordPart (workWord l x) (x % 8) size) size) Tag.GOOD) 2

/-- STB to STD: SCRATCH (R122, R137); a store of part of a word reads it (R121). -/
def laneStore (l : LaneState) (size : Nat) (d a : BitVec 5) (i : BitVec 16) : LaneRes :=
  let x := l.addr a i
  if x % size ≠ 0 then .trap 3 x 1
  else if x < 0x100000 ∨ 0x1E0000 ≤ x then .trap 4 x 1
  else if size < 8 ∧ l.workUe.contains (x / 8) then .trap 0xA x 1
  else .ok (l.next.setWork x (wordMerge (workWord l x) (l.reg d) (x % 8) size)) 1

/-- Whether the word at an instance offset has a journal entry. -/
def LaneState.hit (l : LaneState) (o : Nat) : Bool := l.journal.any fun e => e.1 == o / 8 * 8

/-- The lane's view of an instance word (R127): its own entry, else the committed word. -/
def LaneState.instView (l : LaneState) (e : LaneEnv) (o : Nat) : DWord :=
  match l.journal.find? fun j => j.1 == o / 8 * 8 with
  | some j => j.2
  | none => e.inst (o / 8 * 8)

/-- What prevents reading the word at an instance offset: an error of the journal (WORK_UE) or of the store (INSTANCE_UE). -/
def LaneState.instBlocked (l : LaneState) (e : LaneEnv) (o : Nat) : Option Nat :=
  if l.hit o then (if l.journalUe.contains (o / 8) then some 0xA else none)
  else if e.instUe (o / 8 * 8) then some 0xB else none

/-- ILDB to ILDD (R126, R127). -/
def laneILoad (l : LaneState) (e : LaneEnv) (size : Nat) (d a : BitVec 5) (i : BitVec 16) : LaneRes :=
  let x := l.addr a i
  let cycles := if l.hit x then 2 else 40
  if x % size ≠ 0 then .trap 3 x 1
  else if x < e.winLo ∨ e.winHi ≤ x then .trap 5 x 1
  else
    match l.instBlocked e x with
    | some cause => .trap cause x cycles
    | none => .ok (l.next.setReg d (loadExtend (wordPart (l.instView e x) (x % 8) size) size) Tag.GOOD) cycles

/-- Put a word in the journal: in place, which leaves valid ECC (R121), or as a new last entry (R128). An error the command of the execution
has told of a word without an entry arises once the entry is there. (DESIGN CHOICE, log entry 81.) -/
def LaneState.journalPut (l : LaneState) (o : Nat) (w : DWord) : LaneState :=
  let o := o / 8 * 8
  if l.hit o then { l with journal := l.journal.map fun j => if j.1 = o then (o, w) else j, journalUe := l.journalUe.filter fun k => k != o / 8 }
  else { l with journal := l.journal ++ [(o, w)] }

/-- ISTB to ISTD (R126, R128, R175). -/
def laneIStore (l : LaneState) (e : LaneEnv) (size : Nat) (d a : BitVec 5) (i : BitVec 16) : LaneRes :=
  let x := l.addr a i
  let cycles := if size = 8 ∨ l.hit x then 2 else 40
  if x % size ≠ 0 then .trap 3 x 1
  else if x < e.winLo ∨ e.winHi ≤ x then .trap 5 x 1
  else if !l.hit x ∧ 16384 ≤ l.journal.length then .trap 6 x 1
  else
    let k := x % 8
    let w0 : DWord := 0x1000000000000000 ||| BitVec.ofNat 64 ((2 ^ size - 1) * 2 ^ k * 2 ^ 32 + x / 8 * 8 % 2 ^ 32)
    let w1 := wordMerge 0 (l.reg d) k size
    if size = 8 then .ok ((l.next.journalPut x (l.reg d)).feed [w0, w1]) cycles
    else
      match l.instBlocked e x with
      | some cause => .trap cause x cycles
      | none => .ok ((l.next.journalPut x (wordMerge (l.instView e x) (l.reg d) k size)).feed [w0, w1]) cycles

/-- LDS and LDSX (R132). -/
def laneLds (l : LaneState) (whole : Bool) (d a : BitVec 5) (i : BitVec 16) : LaneRes :=
  let x := l.addr a i
  if x % 8 ≠ 0 then .trap 3 x 1
  else if 0x100000 ≤ x then .trap 4 x 1
  else if l.workUe.contains (x / 8) then .trap 0xA x 2
  else
    let w := workWord l x
    .ok (l.next.setReg d (if whole then w else (slotValue w).signExtend 64) (slotStatus w)) 2

/-- The status STS writes: FORCED and SIMULATED are written as GOOD (R134). -/
def stsStatus (t : Nibble) : Nibble := if t = Tag.FORCED ∨ t = Tag.SIMULATED then Tag.GOOD else t

/-- STS (R121, R134, R175): the pending layer, with the full cycle count of the write. -/
def laneSts (l : LaneState) (e : LaneEnv) (d a : BitVec 5) (i : BitVec 16) : LaneRes :=
  let x := l.addr a i
  if x % 8 ≠ 0 then .trap 3 x 1
  else if x < 0x1F0000 ∨ 0x200000 ≤ x then .trap 4 x 1
  else
    let st := stsStatus (l.tag d)
    let v := (l.reg d).truncate 32
    let w := mkSlot v st e.origin 0 (e.cyc.truncate 16)
    let l := { l.next with
      pendOut := (l.pendOut.filter fun (p : Nat × DWord × BitVec 32) => p.1 != x) ++ [(x, w, e.cyc)]
      workUe := l.workUe.filter fun k => k != x / 8 }
    .ok (l.feed [0x2000000000000000 ||| BitVec.ofNat 64 x, mkSlot v st 0 0 0]) 1

/-! ### Ring slots (R144 to R146) -/

/-- Whether ring slot `n` is assigned to the execution in a direction. -/
def LaneEnv.slotOk (e : LaneEnv) (n : Nat) (send : Bool) : Bool :=
  match e.ringSlot n with
  | none => false
  | some r => r.chamber == e.primary && r.task == e.task && r.send == send

def LaneState.polled (l : LaneState) (n : Nat) : Nat := sparseGet (fun _ => 0) l.poll n

/-- The descriptors put on slot `n`, in put order. -/
def LaneState.puts (l : LaneState) (n : Nat) : List Descriptor := (l.put.filter fun p => p.1 == n).map fun p => p.2

/-- Whether one of the four words from byte address `x` on holds an uncorrectable error (R121). -/
def LaneState.quadUe (l : LaneState) (x : Nat) : Bool := (List.range 4).any fun j => l.workUe.contains (x / 8 + j)

/-- The four words from byte address `x` on are written whole: their ECC is valid (R121). -/
def LaneState.quadValid (l : LaneState) (x : Nat) : LaneState :=
  { l with workUe := l.workUe.filter fun k => decide (k < x / 8) || decide (x / 8 + 4 ≤ k) }

/-- What prevents 32 bytes of SCRATCH at `x` from being reached (R122, R142). -/
def quadBlocked (x : Nat) : Option Nat :=
  if x % 32 ≠ 0 then some 3 else if x < 0x100000 ∨ 0x1E0000 ≤ x then some 4 else none

/-- RPOLL (R145): the next unpolled descriptor, read from its place in RING_RX, to 32 bytes of SCRATCH. Of several causes the lowest traps
(R142). (DEDUCED, log entry 31.) -/
def laneRpoll (l : LaneState) (e : LaneEnv) (d a : BitVec 5) (i : BitVec 12) : LaneRes :=
  let n := i.toNat % 256
  let x := (l.reg a).toNat
  if e.slotOk n false then
    match (e.rx n)[l.polled n]? with
    | none => .ok (l.next.setReg d 0 Tag.GOOD) 12
    | some q =>
      match quadBlocked x with
      | some cause => .trap cause x 1
      | none =>
        let at' := e.rxBase n + 32 * l.polled n
        if l.quadUe at' then .trap 0xA at' 12
        else
          let l := (((l.next.setWork x q.w0).setWork (x + 8) q.w1).setWork (x + 16) q.w2).setWork (x + 24) q.w3
          .ok (({ l with poll := sparseSet (fun _ => 0) l.poll n (l.polled n + 1) } : LaneState).setReg d 1 Tag.GOOD) 12
  else .trap ((quadBlocked x).getD 8) x 1

/-- RPUT (R146, R175): 32 bytes of SCRATCH to the pending layer, at the next place of its share of RING_TX, while fewer than FREE have been
put. Of several causes the lowest traps (R142). (DEDUCED, log entry 31.) -/
def laneRput (l : LaneState) (e : LaneEnv) (d a : BitVec 5) (i : BitVec 12) : LaneRes :=
  let n := i.toNat % 256
  let x := (l.reg a).toNat
  let k := (l.puts n).length
  if e.slotOk n true then
    if e.free n ≤ k then .ok (l.next.setReg d 0 Tag.GOOD) 12
    else
      match quadBlocked x with
      | some cause => .trap cause x 1
      | none =>
        if l.quadUe x then .trap 0xA x 12
        else
          let q : Descriptor := ⟨workWord l x, workWord l (x + 8), workWord l (x + 16), workWord l (x + 24)⟩
          let w0 : DWord := 0x3000000000000000 ||| BitVec.ofNat 64 (n * 2 ^ 32 + k)
          let l := ({ l.next with put := l.put ++ [(n, q)], rputs := l.rputs + 1 } : LaneState).quadValid (e.txBase n + 32 * k)
          .ok ((l.feed [w0, q.w0, q.w1, q.w2, q.w3]).setReg d 1 Tag.GOOD) 12
  else .trap ((quadBlocked x).getD 8) x 1

/-! ### One instruction -/

/-- PC of a taken branch: PC + OFF · 4 (R136). -/
def branchPc (pc : Nat) (off : DWord) : Nat := (BitVec.ofNat 64 pc + off * 4).toNat

/-- The effect of an instruction that was fetched (R137 to R149). -/
def laneEffect (l : LaneState) (e : LaneEnv) : LaneOp → LaneRes
  | .alu f w32 d a b =>
    .ok (l.next.setReg d (alu f w32 (l.reg a) (l.reg b)) (aluTag f w32 (l.reg b) (l.tag a) (l.tag b))) (aluCycles f w32)
  | .imm f d a i => .ok (l.next.setReg d (immResult f (l.reg a) i) (propagate (l.tag a) Tag.GOOD)) 1
  | .shift f d a n => .ok (l.next.setReg d (shiftResult f (l.reg a) n) (propagate (l.tag a) Tag.GOOD)) 1
  | .lui d i => .ok (l.next.setReg d (i.signExtend 64 <<< 16) Tag.GOOD) 1
  | .fpu f d a b =>
    let tb := if fpuUnary f then Tag.GOOD else l.tag b
    let (r, bad) := fpu f ((l.reg a).truncate 32) (if fpuUnary f then 0 else (l.reg b).truncate 32)
    .ok (l.next.setReg d (r.zeroExtend 64) (if bad then Tag.BAD_CHANNEL_FAULT else propagate (l.tag a) tb)) (fpuCycles f)
  | .endOp => .ok ({ l with fin := .ended l.pc }.feed [0xD000000000000000 ||| BitVec.ofNat 64 (l.pc % 2 ^ 32)]) 1
  | .tok i =>
    .ok (l.next.feed [0xF000000000000000 ||| (i.zeroExtend 64 <<< 32) ||| BitVec.ofNat 64 (l.pc % 2 ^ 32)]) 1
  | .gett d a => .ok (l.next.setReg d ((l.tag a).zeroExtend 64) Tag.GOOD) 1
  | .sett d a =>
    let t : Nibble := (l.reg a).truncate 4
    if t = 7 then .trap 7 0 1 else .ok (l.next.setTag d t) 1
  | .joint d a => .ok (l.next.setTag d (propagate (l.tag d) (l.tag a))) 1
  | .jr a => .ok { l with pc := (l.reg a).toNat } 2
  | .cyc d => .ok (l.next.setReg d (e.cyc.zeroExtend 64) Tag.GOOD) 1
  | .t0ns d => .ok (l.next.setReg d (BitVec.ofNat 64 e.t0) Tag.GOOD) 1
  | .first d => .ok (l.next.setReg d (boolWord e.first) Tag.GOOD) 1
  | .rpoll d a i => laneRpoll l e d a i
  | .rput d a i => laneRput l e d a i
  | .period d => .ok (l.next.setReg d (BitVec.ofNat 64 e.period) Tag.GOOD) 1
  | .jump off => .ok { l with pc := branchPc l.pc (off.signExtend 64) } 2
  | .call off => .ok { l.setReg 31 (BitVec.ofNat 64 (l.pc + 4)) Tag.GOOD with pc := branchPc l.pc (off.signExtend 64) } 2
  | .load size d a i => laneLoad l size d a i
  | .store size d a i => laneStore l size d a i
  | .iload size d a i => laneILoad l e size d a i
  | .istore size d a i => laneIStore l e size d a i
  | .lds whole d a i => laneLds l whole d a i
  | .sts d a i => laneSts l e d a i
  | .branch f a b off =>
    if branchTaken f (l.reg a) (l.reg b) then .ok { l with pc := branchPc l.pc (off.signExtend 64) } 2 else .ok l.next 1
  | .branchTag bad a off =>
    if tagBad (l.tag a) = bad then .ok { l with pc := branchPc l.pc (off.signExtend 64) } 2 else .ok l.next 1

/-- The trap a fetch meets, if any (R125, R142): CODE_RANGE, ALIGN, CODE_UE. (DEDUCED, log entry 31.) -/
def fetchTrap (ch : Chamber) (x : Execution) (pc : Nat) : Option Nat :=
  if pc < x.segBase ∨ x.segBase + x.segBytes ≤ pc then some 2
  else if pc % 4 ≠ 0 then some 3
  else if ch.codeUe.contains (pc / 8) then some 9
  else none

/-- A trap ends the execution of its lane and enters the signature (R142, R175). -/
def LaneState.trapped (l : LaneState) (cause addr cycles : Nat) : LaneState :=
  ({ l with fin := .trapped cause l.pc addr, cycles := l.cycles + cycles } : LaneState).feed
    [0xE000000000000000 ||| BitVec.ofNat 64 (cause * 2 ^ 32 + l.pc % 2 ^ 32)]

/-- The lane after an instruction. -/
def LaneState.after (l : LaneState) : LaneRes → LaneState
  | .ok m cycles => { m with cycles := l.cycles + cycles }
  | .trap cause addr cycles => l.trapped cause addr cycles

/-- Where ring slot `n`'s share of RING_RX or RING_TX begins (R144): the shares of a chamber stand in SLOT order, MAX descriptors each. -/
def State.ringBase (s : State) (t0 c : Nat) (send : Bool) (n : Nat) : Nat :=
  let base := if send then 0x1E8000 else 0x1E0000
  match s.surveyAt t0 with
  | none => base
  | some g => base + 32 * ((g.ringSlots.filter fun e => e.chamber == c && e.send == send && decide (e.slot < n)).map fun e => e.max).sum

/-- The fixed values of the execution of chamber `c` (R140, R178). -/
def State.laneEnv (s : State) (c : Nat) (x : Execution) : LaneEnv where
  task := x.task
  primary := x.primary
  cyc := x.cyc
  t0 := x.t0
  first := x.first
  period := s.periodAt x.t0 x.task
  winLo := x.winLo
  winHi := x.winHi
  origin := s.origin x.t0 4
  inst := fun o => s.instWord (s.areaAt x.t0) o
  instUe := fun o => s.inst.ue.contains (instKey (s.areaAt x.t0) o)
  ringSlot := s.ringSlotAt x.t0
  rxBase := s.ringBase x.t0 x.primary false
  txBase := s.ringBase x.t0 x.primary true
  rx := fun n => sparseGet (fun _ => []) (s.chamber c).rx n
  free := fun n => sparseGet (fun _ => 0) (s.chamber c).free n

/-- Whether lane `w` of chamber `c` issues instructions: the chamber executes (the comparison may have begun with the other lane's end),
is not halted, and the lane has not ended. -/
def State.laneRuns (s : State) (c : Nat) (w : Lane) : Bool :=
  (s.chState c == Ch.EXECUTING || s.chState c == Ch.COMPARING) && !s.bit (Fld.LS_DBG_CTRL_HALTED c) && ((s.chamber c).lane w).fin == .running
    && (s.chamber c).exec.isSome

/-- Put a lane back; the comparison starts when the first lane ends (R177). -/
def State.laneDone (s : State) (c : Nat) (w : Lane) (l : LaneState) : State :=
  let s := s.setChamber c ((s.chamber c).setLane w l)
  if l.fin = .running then s else s.setChState c Ch.COMPARING

/-- One instruction of a lane: the fetch, then the effect (R124, R125, R173). (DEDUCED, log entry 31.) -/
def State.laneIssue (s : State) (c : Nat) (w : Lane) (op : LaneOp) : State :=
  let ch := s.chamber c
  match ch.exec with
  | none => s
  | some x =>
    let l := ch.lane w
    match fetchTrap ch x l.pc with
    | some cause => s.laneDone c w (l.trapped cause l.pc 1)
    | none => s.laneDone c w (l.after (laneEffect l (s.laneEnv c x) op))

/-- The command of a lane's instruction; a lane that does not run ignores it. (DEDUCED, log entry 31.) -/
def State.laneOp (s : State) (c : Nat) (w : Lane) (op : LaneOp) : State := if s.laneRuns c w then s.laneIssue c w op else s

/-- A reserved OP, FUNC or SUB, or a non-zero required-zero field (R137, R142). A word that spells an instruction is none of this command's.
(DEDUCED, log entry 31.) -/
def State.laneIllegal (s : State) (c : Nat) (w : Lane) (word : Word) : State :=
  if s.laneRuns c w && (decodeBlock word).isNone then
    let ch := s.chamber c
    match ch.exec with
    | none => s
    | some x =>
      let l := ch.lane w
      match fetchTrap ch x l.pc with
      | some cause => s.laneDone c w (l.trapped cause l.pc 1)
      | none => s.laneDone c w (l.trapped 1 l.pc 1)
  else s

end Sys2Proof.Machine
end

