-- ==== Sys2Proof/Machine/Guard.lean ====
section
/-! DEFINITION. Guard units (16): the rules in force, the check of an access at both ends of its path, what a refused access and an
access to unmapped space record, and rule writes. -/
namespace Sys2Proof.Machine

/-! ### Targets (R363, R463) -/

/-- The guard unit of the target that holds an address, none for unmapped space. -/
def targetOf (a : Nat) : Option Nat :=
  if a < 0x40000 then some 8
  else if 0x01000000 ≤ a ∧ a < 0x02004000 then some 9
  else if 0x40000000 ≤ a ∧ a < 0x40150000 then some 10
  else if 0x60000000 ≤ a ∧ a < 0x64000000 then some 11
  else if 0x70000000 ≤ a ∧ a < 0x70080000 then some 12
  else if 0x80000000 ≤ a ∧ a < 0x81000000 then some 13
  else none

/-- Guard units that exist (R363). -/
def guardExists (u : Nat) : Bool := decide (u < 6) || (decide (8 ≤ u) && decide (u < 14))

/-! ### Regions (R365, R366) -/

/-- A region that takes part in matching: its number, base, the exponent of its size, its sectors and its permission bits. -/
structure GuardRegion where
  index : Nat
  base : Nat
  sizeLog : Nat
  sectors : Nat
  perms : Nat
  deriving DecidableEq, Repr

/-- Region `g` of guard `u`, unless it matches nothing (R365). -/
def State.guardRegion (s : State) (u g : Nat) : Option GuardRegion :=
  let lg := s.get (Fld.GUARD_RGN_ATTR_SIZE_LOG2 u g)
  let sectors := s.get (Fld.GUARD_RGN_ATTR_SECTORS u g)
  if s.bit (Fld.GUARD_RGN_ATTR_ENABLE u g) ∧ 5 ≤ lg ∧ lg ≤ 32 ∧ sectors ≠ 0 then
    some ⟨g, (s.getReg (Reg.GUARD_RGN_BASE u g)).toNat / 2 ^ lg * 2 ^ lg, lg, sectors, (s.getReg (Reg.GUARD_RGN_ATTR u g)).toNat % 64⟩
  else none

def State.guardRegions (s : State) (u : Nat) : List GuardRegion := (List.range 16).filterMap (s.guardRegion u)

/-- The bytes of one sector (R365). -/
def GuardRegion.sector (r : GuardRegion) : Nat := 2 ^ (r.sizeLog - 3)

def GuardRegion.covers (r : GuardRegion) (x : Nat) : Bool :=
  decide (r.base ≤ x) && decide (x < r.base + 2 ^ r.sizeLog) && r.sectors.testBit ((x - r.base) / r.sector)

/-- A region or sector boundary lies just before address `x` (R369). -/
def GuardRegion.cuts (r : GuardRegion) (x : Nat) : Bool :=
  decide (r.base ≤ x) && decide (x ≤ r.base + 2 ^ r.sizeLog) && (x - r.base) % r.sector == 0

/-- The more specific of the regions that cover `x`: smallest size, then lowest number (R366). -/
def guardMatch (rs : List GuardRegion) (x : Nat) : Option GuardRegion :=
  (rs.filter fun r => r.covers x).foldl (fun best r =>
    match best with
    | none => some r
    | some b => if r.sizeLog < b.sizeLog then some r else some b) none

/-- The background rule as permission bits (R366). -/
def guardBackground (bg : Nat) : Nat :=
  match bg with
  | 1 => 0b000111
  | 2 => 0b000011
  | _ => 0

/-- Whether permission bits grant a kind at a privilege (R367). -/
def guardGrants (perms : Nat) (kind : AccessKind) (privileged : Bool) : Bool :=
  let p := if privileged then perms % 8 else perms / 8
  match kind with
  | .read => p.testBit 0
  | .write => p.testBit 1
  | .fetch => p.testBit 2 && p.testBit 0
  | .atomic => p.testBit 0 && p.testBit 1

/-! ### Checking an access (R369, R370) -/

/-- A refusal: address and number of the first failing part, REGION and CAUSE of GUARD_FAULT_INFO. -/
structure GuardFinding where
  addr : Nat
  part : Nat
  region : Nat
  cause : Nat
  deriving DecidableEq, Repr

/-- The start addresses of an access's parts (R369). (DEDUCED, log entry 16.) -/
def guardParts (rs : List GuardRegion) (addr len : Nat) : List Nat :=
  addr :: ((List.range len).map fun j => addr + j).filter fun x => decide (addr < x) && rs.any fun r => r.cuts x

/-- The check of one part. -/
def guardPart (rs : List GuardRegion) (bg : Nat) (a : Access) (part x : Nat) : Option GuardFinding :=
  match guardMatch rs x with
  | some r => if guardGrants r.perms a.kind a.privileged then none else some ⟨x, part, r.index, 1⟩
  | none => if guardGrants (guardBackground bg) a.kind a.privileged then none else some ⟨x, part, 16, 0⟩

/-- Guard `u` on an access: the first part that fails (R369). A guard that is not enabled passes every access (R367). -/
def State.guardCheck (s : State) (u : Nat) (a : Access) : Option GuardFinding :=
  if s.bit (Fld.GUARD_CTRL_ENABLE u) then
    let rs := s.guardRegions u
    (guardParts rs a.addr.toNat a.len).zipIdx.findSome? fun p => guardPart rs (s.get (Fld.GUARD_CTRL_BG u)) a p.2 p.1
  else none

/-- An access that lies in two targets, or in a target and unmapped space (R370). (DEDUCED, log entry 71.) -/
def crossesTargets (a : Access) : Bool := targetOf a.addr.toNat != targetOf (a.addr.toNat + (a.len - 1))

/-- The initiator guard of an initiator (R363, R375). (DESIGN CHOICE, log entry 80.) -/
def initiatorGuard (i : Nat) : Nat := i - 1

/-- The initiator guard on an access (R370): a crossing access is refused whatever the rules. (DEDUCED, log entry 71.) -/
def State.initiatorCheck (s : State) (a : Access) : Option GuardFinding :=
  let u := initiatorGuard a.initiator
  if crossesTargets a then
    some ⟨a.addr.toNat, 0, ((guardMatch (s.guardRegions u) a.addr.toNat).map fun r => r.index).getD 16, 2⟩
  else s.guardCheck u a

/-- Both guards pass an access, and it reaches a target. -/
def State.accessPasses (s : State) (a : Access) : Bool :=
  (s.initiatorCheck a).isNone && match targetOf a.addr.toNat with
    | some t => (s.guardCheck t a).isNone
    | none => false

/-! ### Fault reporting (R375, R466) -/

/-- KIND of GUARD_FAULT_INFO and IDENT_UNMAPPED. -/
def kindCode : AccessKind → Nat
  | .read => 0
  | .write => 1
  | .fetch => 2
  | .atomic => 3

/-- PART of a fault: an index above 15 does not fit the field, and what the field then holds is a free value. (DEDUCED, log entry 16.) -/
def State.guardPartCode (s : State) (part : Nat) : Nat × State :=
  if part < 16 then (part, s) else let (v, s) := s.freeByte; (v % 16, s)

/-- GUARD_FAULT_ADDR and GUARD_FAULT_INFO take a refusal while VALID is 0; else OVERRUN is set (R375). -/
def State.guardNote (s : State) (u : Nat) (a : Access) (f : GuardFinding) : State :=
  if s.bit (Fld.GUARD_FAULT_INFO_VALID u) then s.putBit (Fld.GUARD_FAULT_INFO_OVERRUN u) true
  else
    let (part, s) := s.guardPartCode f.part
    s.putAll [(Fld.GUARD_FAULT_ADDR_ADDR u, f.addr), (Fld.GUARD_FAULT_INFO_INITIATOR u, a.initiator),
      (Fld.GUARD_FAULT_INFO_KIND u, kindCode a.kind), (Fld.GUARD_FAULT_INFO_PRIV u, a.privileged.toNat),
      (Fld.GUARD_FAULT_INFO_CAUSE u, f.cause), (Fld.GUARD_FAULT_INFO_REGION u, f.region), (Fld.GUARD_FAULT_INFO_PART u, part),
      (Fld.GUARD_FAULT_INFO_VALID u, 1)]

/-- A refused access (R375). -/
def State.guardFault (s : State) (u : Nat) (a : Access) (f : GuardFinding) : State :=
  let s := (s.guardNote u a f).bump (Fld.GUARD_FAULTS_COUNT u)
  let s := s.raise (if u < 8 then Src.GUARD_INIT_FAULT else Src.GUARD_TGT_FAULT) u 0
  s.record 0x68 f.addr [(1, u), (1, a.initiator), (1, f.cause), (1, kindCode a.kind), (1, a.privileged.toNat)]

/-- An access that is wholly unmapped (R466). -/
def State.unmappedAccess (s : State) (a : Access) : State :=
  if s.bit Fld.IDENT_UNMAPPED_VALID then (s.putBit Fld.IDENT_UNMAPPED_OVERRUN true).bump Fld.IDENT_UNMAPPED_COUNT
  else
    (s.putAll [(Fld.IDENT_UNMAPPED_ADDR_ADDR, a.addr.toNat), (Fld.IDENT_UNMAPPED_INITIATOR, a.initiator),
      (Fld.IDENT_UNMAPPED_KIND, kindCode a.kind), (Fld.IDENT_UNMAPPED_VALID, 1)]).bump Fld.IDENT_UNMAPPED_COUNT

/-- The way of an access to its target (R369, R370, R466): whether it arrives, and what a refusal on the way records. -/
def State.route (s : State) (a : Access) : Bool × State :=
  match s.initiatorCheck a with
  | some f => (false, s.guardFault (initiatorGuard a.initiator) a f)
  | none =>
    match targetOf a.addr.toNat with
    | none => (false, s.unmappedAccess a)
    | some t =>
      match s.guardCheck t a with
      | some f => (false, s.guardFault t a f)
      | none => (true, s)

/-! ### Changing the rules (R368, R372 to R374) -/

/-- What a register address means to the guards: the guard and, for a region register, the region. -/
inductive GuardRule where
  | ctrl (u : Nat)
  | region (u g : Nat)
  deriving DecidableEq, Repr

def GuardRule.guard : GuardRule → Nat
  | .ctrl u => u
  | .region u _ => u

/-- The rule that an address in the GUARD block holds. -/
def guardRule (a : Nat) : Option GuardRule :=
  if a % 4 ≠ 0 then none
  else if 0x40060000 ≤ a ∧ a < 0x40060040 then some (.ctrl ((a - 0x40060000) / 4))
  else if 0x40060400 ≤ a ∧ a < 0x40060C00 then some (.region ((a - 0x40060400) / 128) ((a - 0x40060400) % 128 / 8))
  else none

/-- A rule that its lock makes read-only (R368). -/
def State.guardLocked (s : State) : GuardRule → Bool
  | .ctrl _ => s.bit Fld.GUARD_LOCK_LOCK
  | .region u g => s.bit (Fld.GUARD_RGN_ATTR_LOCK u g)

/-- A write to a locked rule is ignored; on a region LOCKED_WR counts it (R368). (DEDUCED, log entry 16.) -/
def State.guardIgnored (s : State) : GuardRule → State
  | .ctrl _ => s
  | .region u _ => s.bump (Fld.GUARD_STAT_LOCKED_WR u)

/-- A rule write takes effect. -/
def State.guardTake (s : State) (r : GuardRule) (a : Nat) (v : Word) : State :=
  if s.guardLocked r then s.guardIgnored r else s.regStore a v

/-- A write to GUARD_CTRL, GUARD_RGN_BASE or GUARD_RGN_ATTR with accesses outstanding (R372, R374): a locked rule and a reserved guard
ignore it at once; it waits for earlier accesses and for earlier rule writes to the same guard. (DEDUCED, log entry 16.) -/
def State.guardRuleWrite (s : State) (r : GuardRule) (a : Nat) (v : Word) (outstanding : Nat) : State :=
  if !guardExists r.guard then s
  else if s.guardLocked r then s.guardIgnored r
  else if outstanding = 0 ∧ (s.guardWaits.all fun w => w.guard != r.guard) then s.guardTake r a v
  else
    ({ s with guardWaits := s.guardWaits ++ [⟨r.guard, a, v⟩] } : State).putBit (Fld.GUARD_STAT_DRAINING r.guard) true

/-- GUARD_RULE_WRITE (R372). -/
def execGuardRuleWrite (addr : Word) (v : Word) (outstanding : Nat) (s : State) : Host.Outcome State Fault Refusal :=
  match guardRule addr.toNat with
  | some r => done (s.guardRuleWrite r addr.toNat v outstanding)
  | none => done s

/-- The first rule write that waits at guard `u` takes effect; DRAINING stays while another waits (R372, R374). -/
def State.guardDrained (s : State) (u : Nat) : State :=
  match s.guardWaits.find? fun w => w.guard == u with
  | none => s
  | some w =>
    let s := { s with guardWaits := s.guardWaits.erase w }
    let s := match guardRule w.addr with
      | some r => s.guardTake r w.addr w.value
      | none => s
    s.putBit (Fld.GUARD_STAT_DRAINING u) (s.guardWaits.any fun w => w.guard == u)

/-- GUARD_DRAIN_END (R372). -/
def execGuardDrainEnd (u : Fin 16) (s : State) : Host.Outcome State Fault Refusal := done (s.guardDrained u.val)

/-- GUARD_DRAIN_TIMEOUT (R373): after 2 µs the accesses still outstanding complete with an error response, each counted and raised. -/
def execGuardDrainTimeout (u : Fin 16) (aborted : Nat) (s : State) : Host.Outcome State Fault Refusal :=
  if s.guardWaits.any fun w => w.guard == u.val then
    let s := (List.range aborted).foldl (fun s _ => s.raise Src.GUARD_DRAIN u.val 0) (s.bumpBy (Fld.GUARD_STAT_DRAIN_ABORTS u.val) aborted)
    done (s.guardDrained u.val)
  else done s

end Sys2Proof.Machine
end

