-- ==== Sys2Proof/Machine/Rings.lean ====
section
/-! DEFINITION. Host SRAM as bytes, the hardware rings in it (R325 to R331), the guards on their way to it (R371), and their register rows. -/
namespace Sys2Proof.Machine

/-! ### Host SRAM (R463) -/

/-- An unlisted byte of host SRAM or retention memory reads 0. (DESIGN CHOICE, log entry 2.) -/
def State.sramByte (s : State) (a : Nat) : Byte := sparseGet (fun _ => 0) s.sram a

def State.setSramByte (s : State) (a : Nat) (b : Byte) : State := { s with sram := sparseSet (fun _ => 0) s.sram a b }

/-- `n` bytes from an address. -/
def State.sramRead (s : State) (a n : Nat) : List Byte := (List.range n).map fun j => s.sramByte (a + j)

def State.sramWrite (s : State) (a : Nat) : List Byte → State
  | [] => s
  | b :: bs => (s.setSramByte a b).sramWrite (a + 1) bs

def State.sramWord (s : State) (a : Nat) : DWord := BitVec.ofNat 64 (ofLeBytes (s.sramRead a 8))

def inHostSram (a n : Nat) : Bool := decide (0x01000000 ≤ a) && decide (a + n ≤ 0x02000000)

/-! ### Rings -/

def State.ringSize (s : State) (q : Nat) : Nat := 2 ^ s.get (Fld.RING_CFG_SIZE_LOG2 q)
def State.ringProd (s : State) (q : Nat) : BitVec 32 := s.getReg (Reg.RING_PROD q)
def State.ringCons (s : State) (q : Nat) : BitVec 32 := s.getReg (Reg.RING_CONS q)

/-- Occupancy (R325). -/
def State.ringOcc (s : State) (q : Nat) : Nat := (s.ringProd q - s.ringCons q).toNat

def State.ringEnabled (s : State) (q : Nat) : Bool := s.bit (Fld.RING_CFG_ENABLE q)

/-- A ring that test perturbation makes appear full to its producer (R457). -/
def State.ringForcedFull (s : State) (q : Nat) : Bool :=
  (s.get Fld.TP_STAT_ACTIVE / 2 % 2 == 1) && (if q < 32 then (s.getReg Reg.TP_RING_LO).getLsbD q else (s.getReg Reg.TP_RING_HI).getLsbD (q - 32))

/-- Places free to the producer. -/
def State.ringFree (s : State) (q : Nat) : Nat := if s.ringForcedFull q then 0 else s.ringSize q - s.ringOcc q

def State.ringAddr (s : State) (q : Nat) (n : BitVec 32) : Nat :=
  (s.getReg (Reg.RING_BASE q)).toNat + 32 * (n.toNat % s.ringSize q)

/-- The buffer of a place (R327). -/
def State.ringBuf (s : State) (q : Nat) (n : BitVec 32) : Nat :=
  (s.getReg (Reg.RING_BUFBASE q)).toNat + 2048 * (n.toNat % s.ringSize q)

def State.descAt (s : State) (a : Nat) : Descriptor := ⟨s.sramWord a, s.sramWord (a + 8), s.sramWord (a + 16), s.sramWord (a + 24)⟩

def State.setDesc (s : State) (a : Nat) (d : Descriptor) : State :=
  s.sramWrite a ([d.w0, d.w1, d.w2, d.w3].flatMap fun w => leBytes 8 w.toNat)

def descLength (d : Descriptor) : Nat := d.w0.toNat % 65536
def descFlags (d : Descriptor) : Nat := d.w0.toNat / 65536 % 256
def descCode (d : Descriptor) : Nat := d.w0.toNat / 16777216 % 256
def descTag (d : Descriptor) : Nat := d.w0.toNat / 4294967296
def descInline (d : Descriptor) : Bool := d.w0.getLsbD 16
def descFirst (d : Descriptor) : Bool := d.w0.getLsbD 17
def descLast (d : Descriptor) : Bool := d.w0.getLsbD 18

/-- The first word of a descriptor (R327). -/
def descWord (length flags code tag : Nat) : DWord := BitVec.ofNat 64 (length + 65536 * flags + 16777216 * code + 4294967296 * tag)

/-- The 24 inline payload bytes. -/
def descPayload (d : Descriptor) : List Byte := [d.w1, d.w2, d.w3].flatMap fun w => leBytes 8 w.toNat

/-- Pending bit of a ring. -/
def ringPend (q : Nat) : RegField := if q < 32 then ⟨Reg.RING_IRQ_PEND_LO, q, 1⟩ else ⟨Reg.RING_IRQ_PEND_HI, q - 32, 1⟩

/-- The host's side of a ring needs service (R330). -/
def State.ringService (s : State) (q : Nat) : State :=
  if s.bit (Fld.RING_IRQ_ENABLE q) && s.ringEnabled q
      && ((s.get (Fld.RING_CFG_CONS_KIND q) == 1 && decide (s.get (Fld.RING_IRQ_WATERMARK q) ≤ s.ringOcc q))
        || (s.get (Fld.RING_CFG_PROD_KIND q) == 1 && decide (s.get (Fld.RING_IRQ_WATERMARK q) ≤ s.ringSize q - s.ringOcc q)))
  then s.putBit (ringPend q) true else s

/-- RING_PROTOCOL with the ring (R326, R328). -/
def State.ringProtocol (s : State) (q : Nat) : State :=
  (s.putAll [(Fld.RING_EVENT_PROTOCOL, 1), (Fld.RING_EVENT_RING, q)]).raise Src.RING_PROTOCOL q 0

/-! ### The ring manager's accesses (R363, R364, R371) -/

/-- An access of the ring manager: privileged, through guards 3 and 9. -/
def ringAccess (kind : AccessKind) (addr len : Nat) : Access := ⟨4, kind, true, BitVec.ofNat 32 addr, len, []⟩

/-- The bursts of at most 256 bytes in which the ring manager moves `len` bytes (R370, log entry 72). (DESIGN CHOICE, log entry 72.) -/
def ringBursts (kind : AccessKind) (addr len : Nat) : List Access :=
  (List.range ((len + 255) / 256)).map fun j => ringAccess kind (addr + 256 * j) (min 256 (len - 256 * j))

/-- An access of a module engine is performed: both guards pass it and it lies in host SRAM. (DESIGN CHOICE, log entry 17.) -/
def State.ringPasses (s : State) (a : Access) : Bool := s.accessPasses a && targetOf a.addr.toNat == some 9

/-- The first of the ring manager's bursts that is answered with an error. (DESIGN CHOICE, log entry 72.) -/
def State.ringRefusedAt (s : State) (kind : AccessKind) (addr len : Nat) : Option Access :=
  (ringBursts kind addr len).find? fun a => !s.ringPasses a

/-- An item meets an error response (R371): what the guards record, DROPS and RING_PROTOCOL. -/
def State.ringDiscard (s : State) (q : Nat) (a : Access) : State :=
  ((s.route a).2.bump (Fld.RING_STAT_DROPS q)).ringProtocol q

/-- FLAGS.ERROR is written back where the descriptor is writable (R371). (DESIGN CHOICE, log entry 17.) -/
def State.ringErrorBack (s : State) (a : Nat) : State :=
  if s.ringPasses (ringAccess .write a 32) then
    let d := s.descAt a
    s.setDesc a { d with w0 := d.w0 ||| 0x80000 }
  else s

/-- A hardware consumer advances past one place. -/
def State.ringAdvance (s : State) (q : Nat) : State := (s.setReg (Reg.RING_CONS q) (s.ringCons q + 1)).ringService q

/-- A hardware consumer takes the next place (R326): its descriptor, or none where reading it was refused (R371). -/
def State.ringPop (s : State) (q : Nat) : Option (Option Descriptor × State) :=
  if s.ringEnabled q ∧ 0 < s.ringOcc q then
    let a := s.ringAddr q (s.ringCons q)
    match s.ringRefusedAt .read a 32 with
    | some x => some (none, ((s.ringErrorBack a).ringAdvance q).ringDiscard q x)
    | none => some (some (s.descAt a), s.ringAdvance q)
  else none

/-- A hardware producer enqueues a descriptor where there is room; one that cannot be written is discarded (R371). -/
def State.ringPush (s : State) (q : Nat) (d : Descriptor) : Option State :=
  if s.ringEnabled q ∧ 0 < s.ringFree q then
    let a := s.ringAddr q (s.ringProd q)
    match s.ringRefusedAt .write a 32 with
    | some x => some (s.ringDiscard q x)
    | none => some (((s.setDesc a d).setReg (Reg.RING_PROD q) (s.ringProd q + 1)).ringService q)
  else none

/-- A buffer descriptor on a chamber ring is discarded and counted (R326, RING_STAT.DROPS). -/
def State.ringNotInline (s : State) (q : Nat) : State := (s.bump (Fld.RING_STAT_DROPS q)).ringProtocol q

/-- A dropped frame (R329). -/
def State.ringDrop (s : State) (q : Nat) : State :=
  ((s.bump (Fld.RING_STAT_DROPS q)).putAll [(Fld.RING_EVENT_DROP, 1), (Fld.RING_EVENT_RING, q)]).raise Src.RING_DROP q 0

/-- Up to `n` inline descriptors leave ring `q` for a chamber's share; a buffer descriptor is discarded with RING_PROTOCOL (R145, R326). -/
def State.ringTake : Nat → State → Nat → List Descriptor × State
  | 0, s, _ => ([], s)
  | n + 1, s, q =>
    match s.ringPop q with
    | none => ([], s)
    | some (none, s) => State.ringTake n s q
    | some (some d, s) =>
      if descInline d then
        let (ds, s) := State.ringTake n s q
        (d :: ds, s)
      else State.ringTake n (s.ringNotInline q) q

/-- Enqueue compared descriptors in put order (R146). -/
def State.ringPutAll (s : State) (q : Nat) (ds : List Descriptor) : State :=
  ds.foldl (fun s d => if descInline d then (s.ringPush q d).getD s else s.ringNotInline q) s

/-- The ring whose ends have the given kinds and indexes, the lowest q first. -/
def State.ringWith (s : State) (f : Nat → Bool) : Option Nat := (List.range 64).find? fun q => s.ringEnabled q && f q

def State.ringProdIs (s : State) (q kind idx : Nat) : Bool :=
  s.get (Fld.RING_CFG_PROD_KIND q) == kind && (kind == 2 || s.get (Fld.RING_CFG_PROD_INDEX q) == idx)

def State.ringConsIs (s : State) (q kind idx : Nat) : Bool :=
  s.get (Fld.RING_CFG_CONS_KIND q) == kind && (kind == 2 || s.get (Fld.RING_CFG_CONS_INDEX q) == idx)

/-- An endpoint that exists (R326). -/
def endpointOk (kind idx : Nat) : Bool :=
  kind == 1 || kind == 2 || (kind == 3 && decide (idx < 8)) || (kind == 4 && decide (idx < 4)) || (kind == 5 && decide (idx < 16))

/-- Whether ENABLE of a configuration word is refused (R325, R326). -/
def State.ringRefused (s : State) (q : Nat) (v : Word) : Bool :=
  let lg := (Fld.RING_CFG_SIZE_LOG2 q).ext v
  let pk := (Fld.RING_CFG_PROD_KIND q).ext v
  let ck := (Fld.RING_CFG_CONS_KIND q).ext v
  let base := (s.getReg (Reg.RING_BASE q)).toNat
  let buf := (s.getReg (Reg.RING_BUFBASE q)).toNat
  decide (lg < 4) || decide (16 < lg) || !endpointOk pk ((Fld.RING_CFG_PROD_INDEX q).ext v)
    || !endpointOk ck ((Fld.RING_CFG_CONS_INDEX q).ext v)
    || (pk == 5 && ck != 1 && ck != 4) || (ck == 5 && pk != 1 && pk != 4)
    || !inHostSram base (32 * 2 ^ lg) || base % 64 != 0
    || ((pk == 2 || pk == 3) && !inHostSram buf (2048 * 2 ^ lg))

/-- A write to RING_CFG[q] (R325). -/
def State.ringCfgWrite (s : State) (q : Nat) (v : Word) : State :=
  let old := s.getReg (Reg.RING_CFG q)
  let on := (Fld.RING_CFG_ENABLE q).on v
  let v := if s.ringEnabled q || s.bit Fld.RING_LOCK_LOCK then (Fld.RING_CFG_ENABLE q).ins old on.toNat else v
  if on && !s.ringEnabled q && s.ringRefused q v then
    let s := s.regStore (Reg.RING_CFG q) ((Fld.RING_CFG_ENABLE q).ins v 0)
    s.putAll [(Fld.RING_EVENT_CONFIG, 1), (Fld.RING_EVENT_RING, q)]
  else
    let was := s.ringEnabled q
    let s := s.regStore (Reg.RING_CFG q) v
    if was && !on then (s.setReg (Reg.RING_PROD q) 0).setReg (Reg.RING_CONS q) 0 else s

/-- RING_CFG_WRITE (R325). -/
def execRingCfgWrite (q : Fin 64) (v : Word) (s : State) : Host.Outcome State Fault Refusal := done (s.gated 46 fun s => s.ringCfgWrite q.val v)

/-- The doorbell (R328). -/
def State.ringProdWrite (s : State) (q : Nat) (v : Word) : State :=
  if s.get (Fld.RING_CFG_PROD_KIND q) ≠ 1 ∨ s.ringEnabled q = false then s
  else
    let old := s.ringProd q
    if (v - old).toNat ≤ s.ringSize q ∧ (v - s.ringCons q).toNat ≤ s.ringSize q ∧ ¬(s.ringForcedFull q ∧ v ≠ old) then
      (s.setReg (Reg.RING_PROD q) v).ringService q
    else s.ringProtocol q

/-- RING_PROD_WRITE (R328). -/
def execRingProdWrite (q : Fin 64) (v : Word) (s : State) : Host.Outcome State Fault Refusal := done (s.gated 46 fun s => s.ringProdWrite q.val v)

/-- The consumer index (R328). -/
def State.ringConsWrite (s : State) (q : Nat) (v : Word) : State :=
  if s.get (Fld.RING_CFG_CONS_KIND q) ≠ 1 ∨ s.ringEnabled q = false then s
  else if (v - s.ringCons q).toNat ≤ s.ringOcc q then (s.setReg (Reg.RING_CONS q) v).ringService q
  else s.ringProtocol q

/-! ### Chains (R327) -/

/-- What a hardware consumer finds at the head of a ring: a payload in `n` descriptors with the first one, a broken chain of `n`, or nothing
complete; or an access refused in its `n`-th descriptor (R371). -/
inductive Chain where
  | payload (n : Nat) (first : Descriptor) (bytes : List Byte)
  | broken (n : Nat)
  | refused (n : Nat) (a : Access)
  | nothing
  deriving DecidableEq, Repr

/-- The inline payload bytes of a descriptor, as many as its LENGTH. -/
def descBytes (d : Descriptor) : List Byte := (descPayload d).take (descLength d)

/-- Gather the rest of an inline chain: `k` descriptors may still come, `n` are gathered. (DEDUCED, log entry 49.) -/
def State.chainRest (s : State) (q : Nat) (first : Descriptor) : Nat → Nat → List Byte → Chain
  | 0, n, _ => .broken n
  | k + 1, n, bytes =>
    if s.ringOcc q ≤ n then .nothing
    else
      let a := s.ringAddr q (s.ringCons q + BitVec.ofNat 32 n)
      match s.ringRefusedAt .read a 32 with
      | some x => .refused (n + 1) x
      | none =>
        let d := s.descAt a
        if !descInline d || descFirst d then .broken n
        else if descLast d then .payload (n + 1) first (bytes ++ descBytes d)
        else s.chainRest q first k (n + 1) (bytes ++ descBytes d)

/-- The chain at the head of ring `q`. A chain has at most three descriptors. (DEDUCED, log entry 49.) -/
def State.ringChain (s : State) (q : Nat) : Chain :=
  if s.ringEnabled q ∧ 0 < s.ringOcc q then
    let a := s.ringAddr q (s.ringCons q)
    match s.ringRefusedAt .read a 32 with
    | some x => .refused 1 x
    | none =>
      let d := s.descAt a
      if !descInline d then
        match s.ringRefusedAt .read (d.w1.toNat % 2 ^ 32) (descLength d) with
        | some x => .refused 1 x
        | none => .payload 1 d (s.sramRead (d.w1.toNat % 2 ^ 32) (descLength d))
      else if !descFirst d then .broken 1
      else if descLast d then .payload 1 d (descBytes d)
      else s.chainRest q d 2 1 (descBytes d)
  else .nothing

/-- A hardware consumer writes FLAGS back (ERROR where asked) and advances past `n` places (R327). -/
def State.ringConsume (s : State) (q : Nat) (error : Bool) : Nat → State
  | 0 => s
  | n + 1 =>
    let s := if error then s.ringErrorBack (s.ringAddr q (s.ringCons q)) else s
    (s.ringAdvance q).ringConsume q error n

/-- A chain that an access of the ring manager could not read is discarded (R371). -/
def State.ringRefuse (s : State) (q n : Nat) (x : Access) : State := (s.ringConsume q true n).ringDiscard q x

/-- Descriptors of an inline chain of at most 72 bytes, each with its own LENGTH. (DEDUCED, log entry 49.) -/
def inlineChain (code tag : Nat) (bytes : List Byte) : List Descriptor :=
  let n := max 1 ((bytes.length + 23) / 24)
  (List.range n).map fun k =>
    let part := (bytes.drop (24 * k)).take 24
    let word (j : Nat) : DWord := BitVec.ofNat 64 (ofLeBytes ((part.drop (8 * j)).take 8))
    ⟨descWord part.length (1 + 2 * (k == 0).toNat + 4 * (k + 1 == n).toNat) code tag, word 0, word 1, word 2⟩

/-- Enqueue the descriptors of one payload where all of them find room; where one cannot be written the payload is discarded (R371).
(DEDUCED, log entry 49.) -/
def State.ringPushAll (s : State) (q : Nat) (ds : List Descriptor) : Option State :=
  if s.ringEnabled q ∧ ds.length ≤ s.ringFree q then
    match (List.range ds.length).findSome? fun j => s.ringRefusedAt .write (s.ringAddr q (s.ringProd q + BitVec.ofNat 32 j)) 32 with
    | some x => some (s.ringDiscard q x)
    | none => some (ds.foldl (fun s d => (s.ringPush q d).getD s) s)
  else none

/-- Enqueue a payload in the ring's fixed buffer (R327): one descriptor with FIRST, LAST and TS_VALID. A burst refused stops it (R371).
(DESIGN CHOICE, log entry 72.) -/
def State.ringPushBuf (s : State) (q code tag : Nat) (bytes : List Byte) (time : DWord) : Option State :=
  if s.ringEnabled q ∧ 0 < s.ringFree q then
    let a := s.ringBuf q (s.ringProd q)
    match s.ringRefusedAt .write a bytes.length with
    | some x => some ((s.sramWrite a (bytes.take (x.addr.toNat - a))).ringDiscard q x)
    | none => (s.sramWrite a bytes).ringPush q ⟨descWord bytes.length 0x16 code tag, BitVec.ofNat 64 a, time, 0⟩
  else none

/-- RING_COALESCE_EXPIRY (R330): a ring the host consumes has been non-empty for COALESCE_US. -/
def execRingCoalesceExpiry (q : Fin 64) (s : State) : Host.Outcome State Fault Refusal :=
  if s.bit (Fld.RING_IRQ_ENABLE q.val) && s.ringEnabled q.val && s.get (Fld.RING_CFG_CONS_KIND q.val) == 1 && decide (0 < s.ringOcc q.val)
  then done (s.putBit (ringPend q.val) true) else done s

/-- A gate reset of the ring manager (R331): the contents of every ring and the frames held for full rings are discarded. -/
def State.ringsReset (s : State) : State :=
  let s := (List.range 64).foldl (fun s q => (s.setReg (Reg.RING_PROD q) 0).setReg (Reg.RING_CONS q) 0) s
  { s with bb := { s.bb with held := [] } }

end Sys2Proof.Machine
end

