-- ==== Sys2Proof/Machine/Gallery.lean ====
section
/-! DEFINITION. Chambers as the sequencer and the lockstep checker drive them (05, 06, 07): executions, comparison, mismatch, failure and
relocation, commit, cycle outcomes, held tasks. -/
namespace Sys2Proof.Machine

/-! ### The slot table in effect (R97, R110, R112, R184) -/

/-- The relocations in effect for task `t`'s cycle: failed chamber, spare, variant. A tail cycle keeps those of S (R187, R207). -/
def State.relocations (s : State) (t : Nat) : List (Nat × Nat × Nat) :=
  if s.inTail t then (s.olc.tailReloc.filter fun r => r.1 == t).map fun r => r.2
  else ([0, 1].filter fun x => s.bit (Fld.GAL_RELOC_ACTIVE x)).map fun x =>
    (s.get (Fld.GAL_RELOC_FAILED x), s.get (Fld.GAL_RELOC_SPARE x), s.get (Fld.GAL_RELOC_VARIANT x))

/-- Whether a relocation of chamber `p` still waits for task `t`'s next t0 (R184). -/
def State.relocWaits (s : State) (p t : Nat) : Bool := !s.inTail t && s.seq.relocPending.contains (p, t)

/-- The spare and variant that have taken chamber `p`'s work, once they are in effect for task `t`. -/
def State.relocOf (s : State) (p t : Nat) : Option (Nat × Nat) :=
  if s.relocWaits p t then none else ((s.relocations t).find? fun r => r.1 == p).map fun r => r.2

/-- A relocation variant of the survey of task `t`'s cycle. -/
def State.variantOf (s : State) (t v : Nat) : Option RelocVariant := (s.surveyFor t).bind fun g => g.variants.find? fun r => r.variant == v

/-- The chamber that runs primary chamber `p`'s execution of task `t`, and the entry. -/
def State.placed (s : State) (e : SlotEntry) : Nat × SlotEntry :=
  match s.relocOf e.chamber e.task with
  | none => (e.chamber, e)
  | some (spare, v) =>
    match (s.variantOf e.task v).bind fun r => r.entries.find? fun y => y.task == e.task with
    | none => (e.chamber, e)
    | some y => (spare, y)

/-- The primary entries of task `t`. -/
def State.entriesOf (s : State) (t : Nat) : List SlotEntry :=
  match s.surveyFor t with
  | none => []
  | some g => g.slots.filter fun e => e.task == t

/-- The execution of task `t` on chamber `c`: the primary entry and the entry in effect. -/
def State.execEntry (s : State) (c t : Nat) : Option (SlotEntry × SlotEntry) :=
  (s.entriesOf t).findSome? fun e =>
    let (d, y) := s.placed e
    if d = c then some (e, y) else none

/-- A task that runs (SEQ_TASK_STAT.STATE 0b01). -/
def State.taskRunning (s : State) (t : Nat) : Bool := s.get (Fld.SEQ_TASK_STAT_STATE t) == 1

/-- The code of a chamber's section as a bank holds it, by word of code SRAM (R92, R98, R181). -/
def surveyCode (g : Option Survey) (c variant : Nat) : List (Nat × BitVec 32) :=
  match g with
  | none => []
  | some g =>
    let base := match g.variants.find? fun r => r.variant == variant with
      | some r => r.codeBase
      | none => 0
    match g.code.find? fun k => k.chamber == c && k.variant == variant with
    | none => []
    | some k => k.words.zipIdx.map fun (w, j) => (base / 4 + j, w)

/-- All the code a survey puts into chamber `c`: its primary section, or the sections of every variant a spare covers (R98, R111). -/
def surveyChamberCode (g : Option Survey) (c : Nat) : List (Nat × BitVec 32) :=
  match g with
  | none => []
  | some h => ((h.code.filter fun k => k.chamber == c).flatMap fun k => surveyCode g c k.variant).foldl
      (fun m p => sparseSet (fun _ => 0) m p.1 p.2) []

/-- Load a chamber's code SRAM from a survey. -/
def State.loadCode (s : State) (c : Nat) (g : Option Survey) : State :=
  s.setChamber c { s.chamber c with code := surveyChamberCode g c, codeUe := [] }

/-- The code SRAM of chamber `c` holds the code of task `t`'s survey: through a swap it changes with the first execution of the other
survey on the chamber. (DEDUCED, log entry 36.) -/
def State.codeFor (s : State) (c t : Nat) : State :=
  if s.olc.oldCode.contains c = s.inTail t then s
  else
    let s := s.loadCode c (s.surveyFor t)
    let l := s.olc.oldCode.filter fun d => d != c
    { s with olc := { s.olc with oldCode := if s.inTail t then l ++ [c] else l } }

/-! ### Executions (R124, R155, R178) -/

/-- A lane at the start of an execution (R124, R135): SCRATCH and INPUT stay, pending equals current. -/
def LaneState.begin (l : LaneState) (entry : Nat) (current : List (Nat × DWord × BitVec 32)) : LaneState :=
  { LaneState.reset with pc := entry, fin := .running, pendOut := current, work := l.work, workUe := l.workUe }

def Chamber.begin (ch : Chamber) (x : Execution) : Chamber :=
  { ch with main := ch.main.begin x.entry ch.current, checker := ch.checker.begin x.entry ch.current, exec := some x, mmDone := x.reexec }

/-- The journals that the commit unit holds or waits for. -/
def SeqState.journals (q : SeqState) : List ReadyJournal := q.commit.toList ++ q.ready

/-- Whether the commit unit still holds or waits for chamber `c`'s journal (R180). -/
def State.journalBusy (s : State) (c : Nat) : Bool := s.seq.journals.any fun j => j.chamber == c

/-- Whether a commit of task `t` is under way, or a journal of an earlier cycle of it waits (R159). -/
def State.commitPending (s : State) (t : Nat) : Bool :=
  (s.seq.commit.any fun j => j.task == t) || s.seq.ready.any fun j => j.task == t && j.t0 != (s.task t).t0

/-- The fabric entries of a task cycle, with the patches of the relocations in effect for them (R110, R184), by index of the table. A patch
takes effect with the task of the entry it patches. Of two patches with one index the first of the section stands. (DESIGN CHOICE, log
entry 87.) -/
def State.fabricFor (s : State) (t : Nat) : List (Nat × FabricEntry) :=
  match s.surveyFor t with
  | none => []
  | some g =>
    let patches := (s.relocations t).flatMap fun x =>
      match s.variantOf t x.2.2 with
      | none => []
      | some r => r.patches.filter fun p => !s.relocWaits r.failed (surveyPatchedTask g p.1)
    (g.fabric.zipIdx.map fun p => (p.2, (patchFor patches p.2).getD p.1)).filter fun p => p.2.task == t

/-- A T0- or EXEC-anchored transfer into chamber `c`'s INPUT area (R155). -/
def intoInput (c : Nat) (e : FabricEntry) : Bool := decide (e.anchor ≤ 1) && e.dstPort == c + 1 && decide (e.dstIndex < 0x8000)

/-- Whether the input transfers of task `t`'s cycle into chamber `c` have ended and START has come (R155). -/
def State.startDue (s : State) (c t start : Nat) : Bool :=
  ((s.fabricFor t).all fun p => !intoInput c p.2 || (s.task t).moved.contains p.1)
    && decide ((s.task t).t0Cyc + start ≤ s.time.cycles)

/-- Whether an execution of task `t` may begin on chamber `c`. -/
def State.mayExecute (s : State) (c t : Nat) : Bool :=
  s.bit Fld.SEQ_STAT_RUNNING && (s.mode == .run || s.mode == .service) && s.taskRunning t && (s.chState c == Ch.IDLE || s.chState c == Ch.SPARE)
    && s.get (Fld.GATE_CTRL_STATE c) == 0 && !s.bit (Fld.LS_DBG_CTRL_HALTED c) && !s.journalBusy c && !s.commitPending t
    && !(s.task t).outcomeFixed && (s.inTail t || !s.olc.seeding.contains c)

/-- Words of a lane's memories come to hold uncorrectable errors. -/
def LaneState.withErrors (l : LaneState) (w : Lane) (errors : List MemError) : LaneState :=
  { l with workUe := l.workUe ++ errors.filterMap (MemError.workWord w), journalUe := l.journalUe ++ errors.filterMap (MemError.journalWord w) }

/-- Words of a chamber's memories and of its task's instance area come to hold uncorrectable errors (R121, R131): the manual has no event
for an error, only for its effects. (DESIGN CHOICE, log entry 81.) -/
def State.memErrors (s : State) (c t : Nat) (errors : List MemError) : State :=
  let ch := s.chamber c
  let s := s.setChamber c { ch with codeUe := ch.codeUe ++ errors.filterMap MemError.codeWord, main := ch.main.withErrors .main errors,
                                    checker := ch.checker.withErrors .checker errors }
  { s with inst := { s.inst with ue := s.inst.ue ++ (errors.filterMap MemError.instWord).map fun w => instKey (s.areaFor t) (8 * w) } }

/-- EXECUTION_START (R155, R180). -/
def State.executionStart (s : State) (c t : Nat) (errors : List MemError) : State :=
  match s.execEntry c t with
  | none => s
  | some (p, y) =>
    if s.mayExecute c t && s.startDue c t y.start && !(s.task t).equal.contains p.chamber && !(s.task t).mism.contains p.chamber then
      let x : Execution := {
        task := t, cyc := s.cyc t, t0 := (s.task t).t0, first := (s.task t).firstScan, entry := y.entry, segBase := y.segBase
        winLo := s.get (Fld.GAL_TASK_INST_LO_OFFSET t), winHi := s.get (Fld.GAL_TASK_INST_HI_END t)
        segBytes := y.segBytes, wcet := y.wcet, variant := y.variant, primary := p.chamber, reexec := false, startNs := s.nowNs }
      let s := s.codeFor c t
      let s := (s.setChamber c ((s.chamber c).begin x)).memErrors c t errors
      s.putAll [(Fld.GAL_CH_STAT_STATE c, Ch.EXECUTING), (Fld.GAL_CH_STAT_TASK c, t), (Fld.GAL_CH_STAT_DOZE c, 0)]
    else s

def execExecutionStart (c : Fin 16) (t : Fin 16) (errors : List MemError) (s : State) : Host.Outcome State Fault Refusal :=
  done (s.executionStart c.val t.val errors)

/-! ### Ends of executions -/

/-- What a chamber returns to when it executes nothing: SPARE for a spare, else IDLE. -/
def State.restState (s : State) (c : Nat) : Nat :=
  match s.activeSurvey with
  | none => Ch.OFF
  | some g => if g.header.spareMask.getLsbD c then Ch.SPARE else if g.header.chamberMask.getLsbD c then Ch.IDLE else Ch.OFF

/-- Put a word into both lanes' INPUT copies. -/
def Chamber.input (ch : Chamber) (a : Nat) (w : DWord) : Chamber :=
  { ch with main := ch.main.setWork a w, checker := ch.checker.setWork a w }

/-- A word arrives for INPUT: while an execution runs its image stays as delivered, through every re-execution (R178, R192), and the word
reaches INPUT when it ends. (DEDUCED, log entry 96.) -/
def Chamber.inputWord (ch : Chamber) (a : Nat) (w : DWord) : Chamber :=
  if ch.exec.isSome then { ch with inputHeld := ch.inputHeld ++ [(a, w)] } else ch.input a w

/-- The execution is over: the chamber executes nothing, and the words held for INPUT reach it. -/
def Chamber.leave (ch : Chamber) : Chamber :=
  { ch.inputHeld.foldl (fun (k : Chamber) p => k.input p.1 p.2) ch with exec := none, mmDone := false, inputHeld := [] }

/-- A lane's journal and pending layer are discarded (R135, R181). -/
def LaneState.discard (l : LaneState) (current : List (Nat × DWord × BitVec 32)) : LaneState :=
  { l with journal := [], put := [], poll := [], pendOut := current, rputs := 0 }

/-- Both lanes' journals and pending layers are discarded. -/
def Chamber.discard (ch : Chamber) : Chamber :=
  { ch with main := ch.main.discard ch.current, checker := ch.checker.discard ch.current }

/-- The execution ends with its journal and pending layer discarded. -/
def State.dropExecution (s : State) (c : Nat) : State :=
  (s.setChamber c (s.chamber c).discard.leave).setChState c (s.restState c)

/-- The chamber's gate resets it in native mode (R77, R163, R164, R181): never deferred. -/
def State.gateInternal (s : State) (c : Nat) : State :=
  let s := s.setGate c { s.gate c with resetting := true, quiesced := false, outstanding := none }
  s.put (Fld.GATE_CTRL_STATE c) 1

/-- Ask for task HOLD at the EMIT of this cycle (R168); the first cause stands. A hold command that waits for a later cycle of the pair
delays no other cause. -/
def State.holdTask (s : State) (t cause : Nat) : State :=
  let k := s.task t
  if s.get (Fld.SEQ_TASK_STAT_STATE t) = 2 ∨ s.get (Fld.SEQ_TASK_STAT_STATE t) = 0 then s
  else
    match k.holdPending with
    | some _ => s
    | none => s.setTask t { k with holdPending := some cause }

/-- The holds of tasks that a failover cause makes in SOLO; in a pair they are owed, for a RELINQUISH that is withdrawn (R233).
(DEDUCED, log entry 62.) -/
def State.soloHold (s : State) (solo : Bool) (ts : List Nat) (cause : Nat) : State :=
  if solo then ts.foldl (fun s t => s.holdTask t cause) s
  else { s with pair := { s.pair with owed := s.pair.owed ++ ts.map fun t => (t, cause) } }

/-- The trap registers of a chamber (R142); a TAG_RESERVED trap has no address, so the field is a free value. (DEDUCED, log entry 34.) -/
def State.recordTrap (s : State) (c task cause pc addr : Nat) (program : Bool) : State :=
  let s := s.setReg (Reg.GAL_CH_TRAP c) (BitVec.ofNat 32 (cause + 16 * task + 256 * (pc / 4 % 262144) + 2 ^ 26 * program.toNat + 2 ^ 31))
  if cause = 7 then
    let (v, s) := s.draw
    s.setReg (Reg.GAL_CH_TRAP_ADDR c) (v.truncate 32)
  else s.setReg (Reg.GAL_CH_TRAP_ADDR c) (BitVec.ofNat 32 addr)

/-- Every execution of task `t` has compared equal. -/
def State.allEqual (s : State) (t : Nat) : Bool := (s.entriesOf t).all fun e => (s.task t).equal.contains e.chamber

/-! ### Failure and relocation (R110 to R112, R183 to R185) -/

/-- The relocation slot of a spare: 0 for the lower of the survey's spares, 1 for the higher. (DEDUCED, log entry 34.) -/
def relocSlot (g : Survey) (spare : Nat) : Nat := if (List.range spare).any fun d => g.header.spareMask.getLsbD d then 1 else 0

/-- Whether chamber `c` is the spare that has claimed chamber `p`'s work, in effect or from a t0 still to come (R112, R184). -/
def State.claimedBy (s : State) (c p : Nat) : Bool :=
  [0, 1].any fun x => s.bit (Fld.GAL_RELOC_ACTIVE x) && s.get (Fld.GAL_RELOC_FAILED x) == p && s.get (Fld.GAL_RELOC_SPARE x) == c

/-- The tasks with an entry on chamber `c`: those it runs, and those of a chamber whose work it has claimed (R185). -/
def State.tasksOn (s : State) (c : Nat) : List Nat :=
  (List.range 16).filter fun t => (s.execEntry c t).isSome || (s.entriesOf t).any fun e => s.claimedBy c e.chamber

/-- A chamber with no relocation: CHAMBER_FAILED at severity 7; in SOLO its tasks hold (R185). -/
def State.failNoSpare (s : State) (c : Nat) : State :=
  let tasks := s.tasksOn c
  let solo := !s.inPair
  (s.raise Src.CHAMBER_FAILED c 0).soloHold solo tasks 3

/-- The variant that moves chamber `c`'s work, not withdrawn, its spare neither FAILED nor claimed (R112). -/
def State.variantFor (s : State) (g : Survey) (c : Nat) : Option RelocVariant :=
  g.variants.find? fun r => r.failed == c && !s.seq.withdrawn.contains r.variant && s.chState r.spare != Ch.FAILED

/-- Relocate (R112, R184): claim the spare, withdraw the other variants that name it; each task's entries, and each patch with the task of
the entry it patches, at that task's next t0. -/
def State.relocate (s : State) (g : Survey) (c : Nat) (r : RelocVariant) : State :=
  let x := relocSlot g r.spare
  let others := (g.variants.filter fun v => v.spare == r.spare && v.variant != r.variant).map fun v => v.variant
  let pend := (r.entries.map fun e => (c, e.task)) ++ r.patches.map fun p => (c, surveyPatchedTask g p.1)
  let s := { s with seq := { s.seq with withdrawn := s.seq.withdrawn ++ others, relocPending := s.seq.relocPending ++ pend
                                        claims := s.seq.claims ++ [SpareClaim.mk r.variant s.time.cycles] } }
  let s := s.putAll [(Fld.GAL_RELOC_SPARE x, r.spare), (Fld.GAL_RELOC_FAILED x, c), (Fld.GAL_RELOC_VARIANT x, r.variant),
    (Fld.GAL_RELOC_ACTIVE x, 1), (Fld.GAL_RELOC_PRESENT x, 1), (Fld.GAL_CH_STAT_RELOCATED c, 1), (Fld.GAL_CH_STAT_VARIANT r.spare, r.variant)]
  (s.raise Src.CHAMBER_RELOCATED c 0).record 0x32 c [(1, r.spare), (1, r.variant)]

/-- The variant of chamber `c` whose spare a higher-numbered chamber has claimed in this very CLK_TIME cycle, with that chamber's (R112). -/
def State.contested (s : State) (g : Survey) (c : Nat) : Option (RelocVariant × RelocVariant) :=
  (g.variants.find? fun r => r.failed == c && s.chState r.spare != Ch.FAILED).bind fun r =>
    (g.variants.find? fun v => v.spare == r.spare && decide (c < v.failed) && s.seq.claims.contains ⟨v.variant, s.time.cycles⟩).map
      fun v => (r, v)

/-- The claim of variant `v` gives way to one of the same cycle (R112): its chamber proceeds as one without relocation. What its claim has
recorded stays recorded. (DEDUCED, log entry 97.) -/
def State.yieldClaim (s : State) (v r : RelocVariant) : State :=
  let s := { s with seq := { s.seq with
    withdrawn := (s.seq.withdrawn.filter fun n => n != r.variant) ++ [v.variant]
    relocPending := s.seq.relocPending.filter fun p => p.1 != v.failed
    claims := s.seq.claims.filter fun k => k.variant != v.variant } }
  (s.put (Fld.GAL_CH_STAT_RELOCATED v.failed) 0).failNoSpare v.failed

/-- What follows a chamber's failure (R184, R185); of two in one CLK_TIME cycle the lower-numbered claims the spare (R112). -/
def State.afterFailure (s : State) (c : Nat) : State :=
  match s.activeSurvey with
  | none => s.failNoSpare c
  | some g =>
    match s.variantFor g c, s.contested g c with
    | some r, _ => s.relocate g c r
    | none, some (r, v) => (s.relocate g c r).yieldClaim v r
    | none, none => s.failNoSpare c

/-- A chamber becomes FAILED (R183), in the cycle `cyc` of `task`: the count of second mismatches, the registers, the record.
(DEDUCED, log entry 34.) -/
def State.failChamber (s : State) (c task : Nat) (cyc : BitVec 32) : State :=
  let s := (s.dropExecution c).bump (Fld.LS_CH_MM_SECOND c)
  let s := s.put ⟨Reg.LS_FAILED, c, 1⟩ 1
  let s := s.putAll [(Fld.GAL_CH_STAT_STATE c, Ch.FAILED), (Fld.GAL_CH_STAT_DOZE c, 1)]
  let s := s.record 0x31 c [(1, task), (4, cyc.toNat)]
  s.afterFailure c

/-- An uncorrectable error in the active bank: failover in a pair, module HOLD in SOLO (R120). -/
def State.activeBankUe (s : State) (x off : Nat) : State :=
  let solo := !s.inPair
  let s := ((s.putBit Fld.SVY_SCRUB_UE_ACTIVE true).record 0x21 x [(4, off)]).raise Src.SURVEY_ECC_UE_ACTIVE x 0
  if solo then s.requestHold else { s with pair := { s.pair with owedHold := true } }

/-! ### Comparison (R177, R181, R189) -/

/-- The first unequal item of R177, 0 when all are equal; `flip` inverts bit 0 of the checker's signature (R197). -/
def compareCause (m k : LaneState) (flip : Bool) : Nat :=
  let ksig := if flip then k.sig ^^^ 1 else k.sig
  let kind (f : LaneEnd) : Nat := match f with
    | .running => 99
    | .ended _ => 0
    | .trapped cause _ _ => 16 + cause
  let pc (f : LaneEnd) : Nat := match f with
    | .running => 0
    | .ended p => p
    | .trapped _ p _ => p
  if m.fin = .running ∨ k.fin = .running ∨ m.cycles ≠ k.cycles then 6
  else if kind m.fin ≠ kind k.fin then 2
  else if pc m.fin ≠ pc k.fin then 3
  else if m.journal.length ≠ k.journal.length then 4
  else if m.rputs ≠ k.rputs then 5
  else if m.sig ≠ ksig then 1
  else 0

/-- One armed flip is used (R197). -/
def State.useInjection (s : State) (c : Nat) : Bool × State :=
  if 0 < s.ls.injectLeft ∧ s.ls.injectChamber = c then
    let s := { s with ls := { s.ls with injectLeft := s.ls.injectLeft - 1 } }
    (true, if s.ls.injectLeft = 0 then s.putBit Fld.LS_INJECT_PENDING false else s)
  else (false, s)

/-- The rate level rises at a first mismatch (R189). -/
def State.rateUp (s : State) (c : Nat) : State :=
  let was := s.get (Fld.LS_CH_RATE_LEVEL c)
  let s := s.bump (Fld.LS_CH_RATE_LEVEL c)
  let s := if was = 0 then { s with ls := { s.ls with leaking := s.ls.leaking ++ [c] } } else s
  let limit := max 1 (s.get Fld.LS_CTRL_RATE_LIMIT)
  if was + 1 = limit then (s.raise Src.CHAMBER_MM_RATE c 0).record 0x33 c [(1, limit)] else s

/-- The registers that a mismatch leaves (R177, R181). -/
def State.mismatchRegs (s : State) (c : Nat) (x : Execution) (cause : Nat) (m k : LaneState) (flip : Bool) : State :=
  let ksig := if flip then k.sig ^^^ 1 else k.sig
  let s := s.setReg (Reg.LS_CH_LAST c) (BitVec.ofNat 32 (cause + 16 * x.task + 256 * x.reexec.toNat + 65536 * (x.cyc.toNat % 65536)))
  let s := s.setReg (Reg.LS_CH_SIG_MAIN_LO c) (m.sig.truncate 32)
  let s := s.setReg (Reg.LS_CH_SIG_MAIN_HI c) ((m.sig >>> 32).truncate 32)
  let s := s.setReg (Reg.LS_CH_SIG_CHK_LO c) (ksig.truncate 32)
  s.setReg (Reg.LS_CH_SIG_CHK_HI c) ((ksig >>> 32).truncate 32)

/-- The trap of a lane, if any. -/
def LaneState.trapOf (l : LaneState) : Option (Nat × Nat × Nat) :=
  match l.fin with
  | .trapped cause pc addr => some (cause, pc, addr)
  | _ => none

/-- The task cycle of an execution is still the present one of its task. -/
def State.presentCycle (s : State) (x : Execution) : Bool := x.t0 == (s.task x.task).t0

/-- A mismatch: the first of an execution recovers, that of a re-execution fails the chamber (R181, R183). The registers, the count and the
record of step 5 of R181 follow with the comparison that found it, as R177 has LS_CH_LAST record it, and not after step 4. (DESIGN CHOICE,
log entry 98.) -/
def State.mismatch (s : State) (c : Nat) (x : Execution) (cause : Nat) (flip : Bool) : State :=
  let ch := s.chamber c
  let m := ch.main
  let k := ch.checker
  let s := match m.trapOf, k.trapOf with
    | some (t, pc, a), _ => s.recordTrap c x.task t pc a false
    | none, some (t, pc, a) => s.recordTrap c x.task t pc a false
    | none, none => s
  let s := s.mismatchRegs c x cause m k flip
  if x.reexec then s.failChamber c x.task x.cyc
  else
    let s := s.setChamber c { ch.discard with mmDone := true }
    let s := (s.setChState c Ch.RECOVERING).gateInternal c
    let tk := s.task x.task
    let s := s.setTask x.task { tk with mism := tk.mism ++ [x.primary] }
    let s := (s.bump (Fld.LS_CH_MM_FIRST c)).rateUp c
    let s := s.raise Src.LANE_MISMATCH c 0
    s.record 0x30 c [(1, x.task), (4, x.cyc.toNat), (1, cause), (8, m.sig.toNat),
      (8, (if flip then k.sig ^^^ 1 else k.sig).toNat)]

/-- The end of an execution that makes its cycle a bad one (R131, R142, R162). -/
def State.badEndOf (s : State) (x : Execution) : State :=
  if s.presentCycle x then
    s.setTask x.task { s.task x.task with badEnd := true, mism := (s.task x.task).mism ++ [x.primary] }
  else s

/-- A program trap (R142): the cycle ends SKIPPED and the task holds. -/
def State.programTrap (s : State) (c : Nat) (x : Execution) (cause pc addr : Nat) : State :=
  let s := s.recordTrap c x.task cause pc addr true
  let a := s.getReg (Reg.GAL_CH_TRAP_ADDR c)
  let s := (s.dropExecution c).badEndOf x
  let s := (s.holdTask x.task 2).raise Src.GALLERY_TRAP c 0
  s.record 0x24 c [(1, cause), (4, pc), (4, a.toNat), (1, x.task)]

/-- An INSTANCE_UE end (R131): severity 7; in SOLO the task holds. The record gives the offset of the 64-bit word. -/
def State.instanceUe (s : State) (c : Nat) (x : Execution) (pc addr : Nat) : State :=
  let s := s.recordTrap c x.task 0xB pc addr false
  let s := (s.dropExecution c).badEndOf x
  let solo := !s.inPair
  let s := s.raise Src.INSTANCE_UE c 0
  let s := s.record 0x23 (addr / 8 * 8) [(1, x.task), (4, x.cyc.toNat)]
  s.soloHold solo [x.task] 4

/-- The highest value a register has shown. -/
def State.putMax (s : State) (f : RegField) (v : Nat) : State := if s.get f < v then s.put f (min v (2 ^ f.width - 1)) else s

/-- An equal comparison (R135, R145, R179). After the cycle's outcome is fixed, the next cycle begun or not, the results are discarded
(R163). -/
def State.comparedEqual (s : State) (c : Nat) (x : Execution) : State :=
  let ch := s.chamber c
  let tk := s.task x.task
  if tk.outcomeFixed || !s.presentCycle x then s.dropExecution c
  else
    let rx := ch.rx.map fun (n, ds) => (n, ds.drop (ch.main.polled n))
    let s := s.setTask x.task { tk with
      equal := tk.equal ++ [x.primary]
      lastEqualCyc := s.time.cycles
      puts := tk.puts ++ ch.main.put
      undo := tk.undo ++ [(c, ch.current)]
      journals := tk.journals ++ [(x.primary, ch.main.journal)] }
    let s := s.setChamber c ({ ch with current := ch.main.pendOut, rx := rx } : Chamber).leave
    let s := { s with seq := { s.seq with ready := s.seq.ready ++ [ReadyJournal.mk x.task c x.primary x.cyc x.t0 tk.t0Cyc] } }
    let s := s.setChState c (s.restState c)
    let s := s.bumpWrap (Fld.GAL_CH_EXECS_COUNT c)
    (s.putMax (Fld.GAL_CH_MAXCYC_CYCLES c) ch.main.cycles).putMax (Fld.GAL_CH_JMAX_BYTES c) (16 * ch.main.journal.length)

/-- COMPARISON (R177): once a lane has ended. -/
def State.comparison (s : State) (c : Nat) : State :=
  match (s.chamber c).exec with
  | none => s
  | some x =>
    if s.chState c ≠ Ch.COMPARING ∨ s.bit (Fld.LS_DBG_CTRL_HALTED c) then s
    else
      let (flip, s) := s.useInjection c
      let ch := s.chamber c
      let cause := compareCause ch.main ch.checker flip
      if cause ≠ 0 then s.mismatch c x cause flip
      else
        match ch.main.fin with
        | .trapped k pc addr =>
          if k ≤ 8 then s.programTrap c x k pc addr
          else if k = 0xB then s.instanceUe c x pc addr
          else s.mismatch c x 7 flip
        | _ => s.comparedEqual c x

/-- CODE_REFRESH_END (R181): after the gate reset, the segment is fresh and the re-execution starts from the cairn; an uncorrectable error of the bank fails the
chamber and raises SURVEY_ECC_UE of the active bank (R120, R183). (DESIGN CHOICE, log entry 29.) -/
def State.codeRefreshEnd (s : State) (c : Nat) (bankError : Bool) : State :=
  match (s.chamber c).exec with
  | none => s
  | some x =>
    if s.chState c ≠ Ch.RECOVERING ∨ (s.gate c).resetting = true then s
    else
      if bankError then
        let (off, s) := (s.failChamber c x.task x.cyc).draw
        s.activeBankUe (s.get Fld.SEQ_STAT_ACTIVE_BANK) (off.toNat % 2 ^ 32)
      else
        let ch := s.chamber c
        let inSeg (w : Nat) := decide (x.segBase ≤ 4 * w) && decide (4 * w < x.segBase + x.segBytes)
        let fresh := (surveyCode (s.surveyAt x.t0) c x.variant).filter fun p => inSeg p.1
        let code := fresh.foldl (fun m p => sparseSet (fun _ => 0) m p.1 p.2) (ch.code.filter fun p => !inSeg p.1)
        let ue := ch.codeUe.filter fun w => !inSeg (2 * w)
        let s := s.setChamber c (({ ch with code := code, codeUe := ue } : Chamber).begin { x with reexec := true })
        s.setChState c Ch.EXECUTING

def execCodeRefreshEnd (c : Fin 16) (bankError : Bool) (s : State) : Host.Outcome State Fault Refusal :=
  done (s.codeRefreshEnd c.val bankError)

/-- REEXEC_ABANDON (R163): a re-execution in the slack of its SKIPPED cycle, the next cycle begun or not. -/
def State.reexecAbandon (s : State) (c : Nat) : State :=
  match (s.chamber c).exec with
  | none => s
  | some x =>
    if (s.chamber c).mmDone && ((s.task x.task).outcomeFixed || !s.presentCycle x) then
      ((s.dropExecution c).gateInternal c).bump (Fld.LS_CH_MM_ABANDONED c)
    else s

def execReexecAbandon (c : Fin 16) (s : State) : Host.Outcome State Fault Refusal := done (s.reexecAbandon c.val)

/-! ### Commit (R158 to R160, R179, R190) -/

/-- The commit deadline t0 + 0.94T of a journal, as a CLK_TIME cycle (R154, R158). -/
def State.commitDeadline (s : State) (j : ReadyJournal) : Nat := j.t0Cyc + s.offsetCyc j.t0 j.task 94

/-- Whether a journal goes before another (R158): earlier deadline, lower task, lower chamber. The chamber is the primary one, whose order
alone is the same in both modules of a pair when one of them has relocated it (R186). (DEDUCED, log entry 88.) -/
def State.commitBefore (s : State) (p q : ReadyJournal) : Bool :=
  decide (s.commitDeadline p < s.commitDeadline q)
    || (s.commitDeadline p == s.commitDeadline q && (decide (p.task < q.task) || (p.task == q.task && decide (p.primary < q.primary))))

/-- Whether a compared journal may be committed: every execution of its task cycle has compared equal (R179), which holds of what is left of
an earlier cycle; and SHADOW of a SYNCED pair, which discards its journals when LEAD's outcome is a bad one (R170), has LEAD's outcome.
(DEDUCED, log entry 99.) -/
def State.committable (s : State) (j : ReadyJournal) : Bool :=
  let k := s.task j.task
  j.t0 != k.t0 || (s.allEqual j.task && (s.ll != .synced || s.cycleRole k.t0 != .shadow || k.standing.isSome))

/-- COMMIT_START (R158, R179): the ready journal that the order picks. -/
def State.commitStart (s : State) (c t : Nat) : State :=
  let able := s.seq.ready.filter fun j => s.committable j
  match able.find? fun j => j.task == t && j.chamber == c with
  | none => s
  | some j =>
    if s.seq.commit.isNone && able.all fun q => q == j || s.commitBefore j q then
      let s := { s with seq := { s.seq with commit := some j, ready := s.seq.ready.filter fun q => q != j } }
      s.putBit Fld.SEQ_STAT_COMMIT_BUSY true
    else s

/-- The journal as the commit unit reads it (R190): from the main lane, from the checker lane where the main copy has an error; an entry bad
in both is left out. The flags: a fallback was used, an entry was lost. (DEDUCED, log entry 35.) -/
def Chamber.compared (ch : Chamber) : List (Nat × DWord) × Bool × Bool :=
  ch.main.journal.foldl (fun (acc : List (Nat × DWord) × Bool × Bool) e =>
    let (l, fb, lost) := acc
    if ch.main.journalUe.contains (e.1 / 8) then
      match ch.checker.journal.find? fun j => j.1 == e.1 with
      | some j => if ch.checker.journalUe.contains (e.1 / 8) then (l, fb, true) else (l ++ [j], true, lost)
      | none => (l, fb, true)
    else (l ++ [e], fb, lost)) ([], false, false)

/-! ### Task statistics and holds -/

/-- TASK_CLR_STATS: SEQ_TASK_CTRL.CLR_STATS clears SKIPS, OVERRUNS, RECOVERED, LATE and MARGIN. -/
def State.taskClrStats (s : State) (t : Nat) : State :=
  let s := (s.setReg (Reg.SEQ_TASK_SKIPS t) 0).setReg (Reg.SEQ_TASK_OVERRUNS t) 0
  let s := (s.setReg (Reg.SEQ_TASK_RECOVERED t) 0).setReg (Reg.SEQ_TASK_LATE t) 0
  s.setReg (Reg.SEQ_TASK_MARGIN t) 0xFFFFFFFF

/-- Whether a chamber that task `t` needs is FAILED with no spare carrying its work (R169). -/
def State.taskBlocked (s : State) (t : Nat) : Bool :=
  (s.entriesOf t).any fun e =>
    match [0, 1].find? fun x => s.bit (Fld.GAL_RELOC_ACTIVE x) && s.get (Fld.GAL_RELOC_FAILED x) == e.chamber with
    | some x => s.chState (s.get (Fld.GAL_RELOC_SPARE x)) == Ch.FAILED
    | none => s.chState e.chamber == Ch.FAILED

/-- A hold command reaches the task (R168, R169): in a SYNCED pair LEAD fixes the cycle four ahead and relays it; SHADOW passes it on. -/
def State.taskHoldCommand (s : State) (t : Nat) : State :=
  if s.ll = .synced ∧ s.role = .shadow then s.emit (.lifeline (.command (.holdTask t none)))
  else if s.taskRunning t then
    if s.ll = .synced ∧ s.role = .lead then
      let e := s.cyc t + 4
      let s := s.setTask t { s.task t with holdEffective := some e }
      s.emit (.lifeline (.command (.holdTask t (some e))))
    else s.holdTask t 5
  else s

/-- Ask a held task to resume at a boundary (R169). -/
def State.taskResumeAt (s : State) (t : Nat) (boundary : Option Nat) : State :=
  (s.setTask t { s.task t with resumePending := true, resumeEffective := boundary }).put (Fld.SEQ_TASK_STAT_STATE t) 3

/-- The hyperperiod in ns (R96). -/
def State.hyperNs (s : State) : Nat :=
  match s.activeSurvey with
  | none => 0
  | some g => g.header.hyperTicks * 250000

/-- The next hyperperiod boundary at least `ahead` ns after now. -/
def State.nextBoundary (s : State) (ahead : Nat) : Nat :=
  if s.hyperNs = 0 then s.nowNs else (s.nowNs + ahead) / s.hyperNs * s.hyperNs + s.hyperNs

/-- A resume command reaches the task (R169). -/
def State.taskResumeCommand (s : State) (t : Nat) : State :=
  if s.ll = .synced ∧ s.role = .shadow then s.emit (.lifeline (.command (.resumeTask t none)))
  else if s.get (Fld.SEQ_TASK_STAT_STATE t) = 2 ∧ s.taskBlocked t = false then
    if s.ll = .synced ∧ s.role = .lead then
      let b := s.nextBoundary 1000000
      (s.taskResumeAt t (some b)).emit (.lifeline (.command (.resumeTask t (some b))))
    else s.taskResumeAt t (some (s.nextBoundary 0))
  else s

/-- A write to SEQ_TASK_CTRL[t] (R7, R168, R169, R469). -/
def State.seqTaskCtrlWrite (s : State) (t : Nat) (v : Word) : State :=
  s.actions [Fld.SEQ_TASK_CTRL_RESUME t, Fld.SEQ_TASK_CTRL_HOLD_REQ t, Fld.SEQ_TASK_CTRL_CLR_STATS t] none v fun s =>
    if (Fld.SEQ_TASK_CTRL_RESUME t).on v then s.taskResumeCommand t
    else if (Fld.SEQ_TASK_CTRL_HOLD_REQ t).on v then s.taskHoldCommand t
    else if (Fld.SEQ_TASK_CTRL_CLR_STATS t).on v then s.taskClrStats t
    else s

/-- TASK_HOLD_REQ (R168). -/
def execTaskHoldReq (t : Fin 16) (v : Word) (s : State) : Host.Outcome State Fault Refusal := done (s.seqTaskCtrlWrite t.val v)

/-- TASK_RESUME (R169). -/
def execTaskResume (t : Fin 16) (v : Word) (s : State) : Host.Outcome State Fault Refusal := done (s.seqTaskCtrlWrite t.val v)

/-- TASK_CLR_STATS. -/
def execTaskClrStats (t : Fin 16) (v : Word) (s : State) : Host.Outcome State Fault Refusal := done (s.seqTaskCtrlWrite t.val v)

/-- TASK_RESUME_BOUNDARY (R147, R169): once module time has reached the hyperperiod boundary fixed for it, the task runs again, its first
committed cycle a first scan. -/
def State.taskResumed (s : State) (t : Nat) : State :=
  if s.get (Fld.SEQ_TASK_STAT_STATE t) = 3 ∧ (s.task t).resumeEffective.all (fun b => decide (b ≤ s.nowNs)) = true then
    let s := s.setTask t { s.task t with resumePending := false, resumeEffective := none, firstScan := true, holdPending := none,
                                         holdEffective := none, outcomeFixed := true }
    s.putAll [(Fld.SEQ_TASK_STAT_STATE t, 1), (Fld.SEQ_TASK_STAT_HOLD_CAUSE t, 0), (Fld.SEQ_TASK_STAT_HELD_RUN t, 0)]
  else s

def execTaskResumeBoundary (t : Fin 16) (s : State) : Host.Outcome State Fault Refusal := done (s.taskResumed t.val)

/-- Whether a chamber stays gated (R171, R183): in HOLD, while every task it serves is held, or FAILED. -/
def State.staysGated (s : State) (c : Nat) : Bool :=
  s.mode == .hold || s.chState c == Ch.FAILED || (s.tasksOn c).all fun t => s.taskHeld t

/-- With DOZE_AUTO, chambers that execute nothing and stay gated are gated (R171). -/
def State.gateHeld (s : State) : State :=
  (List.range 16).foldl (fun s c =>
    if s.bit Fld.GAL_CTRL_DOZE_AUTO && s.chamberIdle c && s.staysGated c then s.put (Fld.GAL_CH_STAT_DOZE c) 1 else s) s

/-- A task enters HOLD (R166, R168): a chamber whose tasks are all held stays gated from now on (R171). -/
def State.enterTaskHold (s : State) (t cause : Nat) : State :=
  let s := s.setTask t { s.task t with holdPending := none, holdEffective := none }
  let s := s.putAll [(Fld.SEQ_TASK_STAT_STATE t, 2), (Fld.SEQ_TASK_STAT_HOLD_CAUSE t, cause)]
  ((s.raise Src.TASK_HOLD t 0).record 0x26 t [(1, cause), (4, (s.cyc t).toNat)]).gateHeld

/-- DOZE of every chamber follows a write to DOZE_AUTO (R171): without it only a FAILED chamber's clock stays gated; with it idle chambers
are gated. (DEDUCED, log entry 82.) -/
def State.dozeAuto (s : State) (was : Bool) : State :=
  let now := s.bit Fld.GAL_CTRL_DOZE_AUTO
  if was = now then s
  else (List.range 16).foldl (fun s c =>
    if now then (if s.chamberIdle c then s.put (Fld.GAL_CH_STAT_DOZE c) 1 else s)
    else if s.chState c = Ch.FAILED then s else s.put (Fld.GAL_CH_STAT_DOZE c) 0) s

/-- A write to GAL_CTRL: DOZE_AUTO gates and ungates chambers; CLR_STATS clears MAXCYC, JMAX and ECC of every chamber. -/
def State.galCtrlWrite (s : State) (v : Word) : State :=
  let s := (s.regStore Reg.GAL_CTRL v).dozeAuto (s.bit Fld.GAL_CTRL_DOZE_AUTO)
  if Fld.GAL_CTRL_CLR_STATS.on v then
    (List.range 16).foldl (fun s c =>
      ((s.setReg (Reg.GAL_CH_MAXCYC c) 0).setReg (Reg.GAL_CH_JMAX c) 0).setReg (Reg.GAL_CH_ECC c) 0) s
  else s

/-- GAL_CLR_STATS. -/
def execGalClrStats (v : Word) (s : State) : Host.Outcome State Fault Refusal := done (s.galCtrlWrite v)

/-- CHAMBER_DOZE_WAKE (R171): a chamber that stays gated does not wake. -/
def execChamberDozeWake (c : Fin 16) (s : State) : Host.Outcome State Fault Refusal :=
  if s.staysGated c.val then done s else done (s.putBit (Fld.GAL_CH_STAT_DOZE c.val) false)

/-- DEFERRED_BLOCK_RESET (R182): once the chamber is idle. -/
def execDeferredBlockReset (c : Fin 16) (s : State) : Host.Outcome State Fault Refusal :=
  let c := c.val
  if (s.gate c).deferred && !(decide (2 ≤ s.chState c) && decide (s.chState c ≤ 4)) then done (s.gateRequest c) else done s

/-- MISMATCH_LEAK (R189). -/
def State.mismatchLeak (s : State) (c : Nat) : State :=
  if s.ls.leaking.contains c then
    let v := s.get (Fld.LS_CH_RATE_LEVEL c) - 1
    let s := s.put (Fld.LS_CH_RATE_LEVEL c) v
    if v = 0 then { s with ls := { s.ls with leaking := s.ls.leaking.filter fun d => d != c } } else s
  else s

def execMismatchLeak (c : Fin 16) (s : State) : Host.Outcome State Fault Refusal := done (s.mismatchLeak c.val)

end Sys2Proof.Machine
end

