-- ==== Sys2Proof/Machine/Debug.lean ====
section
/-! DEFINITION. Debugging a lockstepped chamber and injection (R194 to R197): halts, steps, main-lane access, the replay buffer. -/
namespace Sys2Proof.Machine

/-- Halt both lanes (R196). -/
def State.halt (s : State) (c : Nat) (bp : Option Nat) : State :=
  let s := s.setChamber c { s.chamber c with haltCount := (s.chamber c).haltCount + 1 }
  s.putAll [(Fld.LS_DBG_CTRL_HALTED c, 1), (Fld.LS_DBG_CTRL_BP_HIT c, bp.isSome.toNat), (Fld.LS_DBG_CTRL_BP_INDEX c, bp.getD 0)]

/-- A halt is refused on LEAD and below CONTROL (R196, R428). (DEDUCED, log entry 32.) -/
def State.haltAllowed (s : State) : Bool := s.role != .lead && decide (2 ≤ s.get Fld.SEC_STATUS_DBG_LEVEL)

/-- Apply one debugger write to both lanes (R195). -/
def LaneState.poke (l : LaneState) (w : ReplayWrite) : LaneState :=
  let a := w.addr.toNat
  match w.space with
  | 0 => if a = 0 then l else { l with g := sparseSet (fun _ => 0) l.g (a % 32) w.data }
  | 1 => l.setTag (BitVec.ofNat 5 a) (w.data.truncate 4)
  | 2 => { l with pc := w.data.toNat }
  | 3 => l.setWork a w.data
  | _ => l

/-- The replay buffer's next write, and the write that waited for its place (R195). (DEDUCED, log entry 32.) -/
def State.replayOne (s : State) (c : Nat) : State :=
  let ch := s.chamber c
  match ch.replay with
  | [] => s
  | w :: ws =>
    let s := s.setChamber c { ch with main := ch.main.poke w, checker := ch.checker.poke w, replay := ws }
    match s.ls.waiting with
    | some (d, v) =>
      if d = c then
        let s := s.setChamber c { s.chamber c with replay := ws ++ [v] }
        let s := { s with ls := { s.ls with waiting := none } }
        let s := (s.put Fld.LS_DBG_RESULT_DONE 1).bump (Fld.LS_DBG_CTRL_WRITES c)
        let s := s.put (Fld.LS_DBG_CTRL_REPLAY_PEND c) (s.chamber c).replay.length
        s.record 0x35 (c * 65536 + ch.haltCount % 65536) [(1, v.space), (4, v.addr.toNat)]
      else s.put (Fld.LS_DBG_CTRL_REPLAY_PEND c) ws.length
    | none => s.put (Fld.LS_DBG_CTRL_REPLAY_PEND c) ws.length

/-- REPLAY_APPLY (R195). -/
def execReplayApply (c : Fin 16) (s : State) : Host.Outcome State Fault Refusal := done (s.replayOne c.val)

/-- Every buffered write is applied before the next instruction issues (R195). -/
def State.replayAll (s : State) (c : Nat) : State := (List.range 17).foldl (fun s _ => s.replayOne c) s

/-- Resume (R196): the buffered writes are applied; a deferred gate stop is carried out. -/
def State.resumeChamber (s : State) (c : Nat) : State :=
  if s.bit (Fld.LS_DBG_CTRL_HALTED c) then
    let s := (s.replayAll c).putBit (Fld.LS_DBG_CTRL_HALTED c) false
    if (s.chamber c).stopDeferred then
      let s := (s.dropExecution c).gateInternal c
      s.setChamber c { s.chamber c with stopDeferred := false }
    else s
  else s

/-- Every halted chamber resumes: a debug session has ended (R432). -/
def State.resumeAll (s : State) : State := (List.range 16).foldl (fun s c => s.resumeChamber c) s

/-- The word of code SRAM at a byte offset. -/
def Chamber.codeWord (ch : Chamber) (pc : Nat) : BitVec 32 := sparseGet (fun _ => 0) ch.code (pc / 4)

/-- A lane executes the word at its PC. -/
def State.laneFetch (s : State) (c : Nat) (w : Lane) : State :=
  let ch := s.chamber c
  if ch.exec.isSome ∧ (ch.lane w).fin = .running then
    match decodeBlock (ch.codeWord (ch.lane w).pc) with
    | some op => s.laneIssue c w op
    | none => s.laneDone c w
        ((ch.lane w).trapped ((ch.exec.bind fun x => fetchTrap ch x (ch.lane w).pc).getD 1) (ch.lane w).pc 1)
  else s

/-- STEP (R196): both lanes execute one instruction and stay halted. (DEDUCED, log entry 31.) -/
def State.stepChamber (s : State) (c : Nat) : State :=
  if s.bit (Fld.LS_DBG_CTRL_HALTED c) then
    let s := s.replayAll c
    let s := (s.laneFetch c .main).laneFetch c .checker
    s.halt c none
  else s

/-- A write to LS_DBG_CTRL[c] (R196, R428, R469). -/
def State.dbgCtrlWrite (s : State) (c : Nat) (v : Word) : State :=
  s.actions [Fld.LS_DBG_CTRL_HALT_REQ c, Fld.LS_DBG_CTRL_RESUME c, Fld.LS_DBG_CTRL_STEP c] (some (Fld.LS_DBG_CTRL_REFUSED c)) v fun s =>
    let s := s.regStore (Reg.LS_DBG_CTRL c) v
    if (Fld.LS_DBG_CTRL_HALT_REQ c).on v then
      if !s.haltAllowed then s.putBit (Fld.LS_DBG_CTRL_REFUSED c) true
      else if s.bit (Fld.LS_DBG_CTRL_HALTED c) then s
      else s.halt c none
    else if s.get Fld.SEC_STATUS_DBG_LEVEL < 2 then s
    else if (Fld.LS_DBG_CTRL_RESUME c).on v then s.resumeChamber c
    else if (Fld.LS_DBG_CTRL_STEP c).on v then s.stepChamber c
    else s

/-- DBG_HALT_REQ (R196). -/
def execDbgHaltReq (c : Fin 16) (v : Word) (s : State) : Host.Outcome State Fault Refusal := done (s.dbgCtrlWrite c.val v)

/-- DBG_RESUME (R196). -/
def execDbgResume (c : Fin 16) (v : Word) (s : State) : Host.Outcome State Fault Refusal := done (s.dbgCtrlWrite c.val v)

/-- DBG_STEP (R196). -/
def execDbgStep (c : Fin 16) (v : Word) (s : State) : Host.Outcome State Fault Refusal := done (s.dbgCtrlWrite c.val v)

/-- BREAKPOINT_HALT (R196): the lowest enabled breakpoint that matches the PC. (DEDUCED, log entry 32.) -/
def State.breakpointHalt (s : State) (c : Nat) : State :=
  let pc := (s.chamber c).main.pc / 4
  if s.chState c = Ch.EXECUTING ∧ s.bit (Fld.LS_DBG_CTRL_HALTED c) = false then
    match (List.range 4).find? fun x => s.bit (Fld.LS_DBG_BP_ENABLE c x) && s.get (Fld.LS_DBG_BP_PC_WORD c x) == pc with
    | none => s
    | some x => if s.haltAllowed then s.halt c (some x) else s.putBit (Fld.LS_DBG_CTRL_REFUSED c) true
  else s

def execBreakpointHalt (c : Fin 16) (s : State) : Host.Outcome State Fault Refusal := done (s.breakpointHalt c.val)

/-! ### Main-lane access (R194, R195) -/

def State.dbgError (s : State) : State := s.putAll [(Fld.LS_DBG_RESULT_DONE, 1), (Fld.LS_DBG_RESULT_ERROR, 1)]

/-- The areas of ring slots in working SRAM, in SLOT order, MAX descriptors each (R144). -/
def State.ringArea (s : State) (c : Nat) (send : Bool) : List Descriptor :=
  let ch := s.chamber c
  let zero : Descriptor := ⟨0, 0, 0, 0⟩
  match s.activeSurvey with
  | none => []
  | some g => (sortBy (fun e => e.slot) (g.ringSlots.filter fun e => e.chamber == c && e.send == send)).flatMap fun e =>
      let ds := if send then ch.main.puts e.slot else sparseGet (fun _ => []) ch.rx e.slot
      (ds ++ List.replicate (e.max - ds.length) zero).take e.max

/-- A word of the main lane's working SRAM as the debugger reads it: staging shows the current layer. (DEDUCED, log entry 32.) -/
def State.dbgWork (s : State) (c a : Nat) : DWord :=
  let ch := s.chamber c
  let inArea (base : Nat) (send : Bool) : DWord :=
    match (s.ringArea c send)[(a - base) / 32]? with
    | none => 0
    | some d => match (a - base) / 8 % 4 with
      | 0 => d.w0
      | 1 => d.w1
      | 2 => d.w2
      | _ => d.w3
  if 0x1F0000 ≤ a then (match ch.current.find? fun p => p.1 == a with
    | some p => p.2.1
    | none => 0)
  else if 0x1E8000 ≤ a then inArea 0x1E8000 true
  else if 0x1E0000 ≤ a then inArea 0x1E0000 false
  else workWord ch.main a

/-- A word of the main lane's journal SRAM: entries of 16 bytes in order of creation (R128). -/
def dbgJournal (l : LaneState) (a : Nat) : DWord :=
  match l.journal[a / 16]? with
  | none => 0
  | some e => if a % 16 = 0 then BitVec.ofNat 64 e.1 else e.2

/-- What a read of SPACE at ADDR returns; none is an error (R194). Registers are read only while halted. -/
def State.dbgValue (s : State) (c space a : Nat) : Option DWord :=
  let ch := s.chamber c
  let halted := s.bit (Fld.LS_DBG_CTRL_HALTED c)
  match space with
  | 0 => if halted && decide (a < 32) then some (ch.main.reg (BitVec.ofNat 5 a)) else none
  | 1 => if halted && decide (a < 32) then some ((ch.main.tag (BitVec.ofNat 5 a)).zeroExtend 64) else none
  | 2 => if halted then some (BitVec.ofNat 64 ch.main.pc) else none
  | 3 => if a % 8 == 0 && decide (a < 0x200000) then some (s.dbgWork c a) else none
  | 4 => if a % 8 == 0 && decide (a < 0x40000) then some (dbgJournal ch.main a) else none
  | 5 => if a % 8 == 0 && decide (a < 0x100000) then some (ch.codeWord (a + 4) ++ ch.codeWord a) else none
  | _ => none

/-- LS_DBG_GO with WRITE 0 (R194, R428). -/
def State.dbgReadGo (s : State) : State :=
  let c := s.get Fld.LS_DBG_SEL_CHAMBER
  if s.get Fld.SEC_STATUS_DBG_LEVEL < 1 then s.dbgError
  else
    match s.dbgValue c (s.get Fld.LS_DBG_SEL_SPACE) (s.getReg Reg.LS_DBG_ADDR).toNat with
    | none => s.dbgError
    | some v =>
      let s := (s.setReg Reg.LS_DBG_DATA_LO (v.truncate 32)).setReg Reg.LS_DBG_DATA_HI ((v >>> 32).truncate 32)
      s.putAll [(Fld.LS_DBG_RESULT_DONE, 1), (Fld.LS_DBG_RESULT_ERROR, 0)]

/-- Whether a debugger write is accepted (R195): halted, at CONTROL, a G register, a tag but 0x7, the PC, SCRATCH or INPUT. -/
def State.dbgWriteOk (s : State) (c : Nat) (w : ReplayWrite) : Bool :=
  let a := w.addr.toNat
  s.bit (Fld.LS_DBG_CTRL_HALTED c) && decide (2 ≤ s.get Fld.SEC_STATUS_DBG_LEVEL) &&
    match w.space with
    | 0 => decide (a < 32)
    | 1 => decide (a < 32) && w.data.truncate 4 != (7 : Nibble)
    | 2 => true
    | 3 => a % 8 == 0 && decide (a < 0x1E0000)
    | _ => false

/-- LS_DBG_GO with WRITE 1 (R195): into the replay buffer; while it is full the write waits. A further write while one waits replaces it: the
manual does not say which of the two is kept. (DEDUCED, log entry 32; DESIGN CHOICE, log entry 89.) -/
def State.dbgWriteGo (s : State) : State :=
  let c := s.get Fld.LS_DBG_SEL_CHAMBER
  let w : ReplayWrite := ⟨s.get Fld.LS_DBG_SEL_SPACE, s.getReg Reg.LS_DBG_ADDR,
    s.getReg Reg.LS_DBG_DATA_HI ++ s.getReg Reg.LS_DBG_DATA_LO⟩
  if !s.dbgWriteOk c w then s.dbgError
  else
    let ch := s.chamber c
    if 16 ≤ ch.replay.length then
      let s := s.putAll [(Fld.LS_DBG_RESULT_DONE, 0), (Fld.LS_DBG_RESULT_ERROR, 0)]
      { s with ls := { s.ls with waiting := some (c, w) } }
    else
      let s := s.setChamber c { ch with replay := ch.replay ++ [w] }
      let s := s.bump (Fld.LS_DBG_CTRL_WRITES c)
      let s := s.putAll [(Fld.LS_DBG_RESULT_DONE, 1), (Fld.LS_DBG_RESULT_ERROR, 0),
        (Fld.LS_DBG_CTRL_REPLAY_PEND c, ch.replay.length + 1)]
      s.record 0x35 (c * 65536 + ch.haltCount % 65536) [(1, w.space), (4, w.addr.toNat)]

/-- LS_DBG_GO (R194, R195). -/
def State.dbgGo (s : State) : State := if s.bit Fld.LS_DBG_SEL_WRITE then s.dbgWriteGo else s.dbgReadGo

/-- DBG_READ (R194). -/
def execDbgRead (s : State) : Host.Outcome State Fault Refusal :=
  if s.bit Fld.LS_DBG_SEL_WRITE then done s else done s.dbgReadGo

/-- DBG_WRITE (R195). -/
def execDbgWrite (s : State) : Host.Outcome State Fault Refusal :=
  if s.bit Fld.LS_DBG_SEL_WRITE then done s.dbgWriteGo else done s

/-! ### Injection (R197) -/

/-- A write to LS_INJECT (R197): an arming is refused where perturbation is not allowed, with a reserved KIND, or while flips are pending. -/
def State.lsInjectWrite (s : State) (v : Word) : State :=
  let s := s.regStore Reg.LS_INJECT v
  if Fld.LS_INJECT_ARM.on v then
    let kind := s.get Fld.LS_INJECT_KIND
    let c := s.get Fld.LS_INJECT_CHAMBER
    if !s.tpAllowed || s.bit Fld.LS_INJECT_PENDING || decide (2 ≤ kind) then s.putBit Fld.LS_INJECT_REFUSED true
    else
      let s := { s with ls := { s.ls with injectLeft := kind + 1, injectChamber := c } }
      (s.putBit Fld.LS_INJECT_PENDING true).record 0x36 c [(1, kind)]
  else s

/-- LS_INJECT_ARM (R197). -/
def execLsInjectArm (v : Word) (s : State) : Host.Outcome State Fault Refusal := done (s.lsInjectWrite v)

end Sys2Proof.Machine
end

