-- ==== Sys2Proof/Machine/Store.lean ====
section
/-! DEFINITION. The blocks of the configuration store as bytes, with their check sums (R82, R216, R286). -/
namespace Sys2Proof.Machine

/-- Bytes 0 to 59 of a header copy (R82). -/
def storeHeaderBytes (h : StoreHeader) : List Byte :=
  leBytes 4 h.magic ++ leBytes 4 h.writeCount ++ leBytes 1 h.startPolicy ++ leBytes 3 h.reserved9.toNat ++ leBytes 2 h.linkWait
    ++ leBytes 2 h.revertHold ++ leBytes 44 h.reserved16.toNat

/-- The CRC of a header copy is right (R82). -/
def storeHeaderCrcOk (h : StoreHeader) : Bool := crc32 (storeHeaderBytes h) == h.crc

/-- The CRC of a generation header: over its bytes 0 to 7 and 12 to 63 (R82). -/
def areaCrc (g : GenArea) : BitVec 32 :=
  crc32 (leBytes 4 g.magic ++ leBytes 4 g.generation ++ leBytes 4 g.surveyLength ++ leBytes 48 g.digest)

/-- A generation area with its header as a module writes it (R82). -/
def areaOf (gen : Nat) (state : Byte) (g : Survey) : GenArea :=
  let a : GenArea := ⟨0x4E454753, gen, state, g.header.length, g.digest, 0, g.trailer.signatureOk, some g⟩
  { a with crc := areaCrc a }

/-- MAGIC of a user block (R286). -/
def blockMagic : BitVec 32 := 0x4D495254

/-- Bytes 0 to 59 of a user block (R286). -/
def blockBytes (b : UserBlock) : List Byte :=
  leBytes 4 b.magic.toNat ++ leBytes 4 b.chCfg.toNat ++ leBytes 4 b.anCfg.toNat ++ leBytes 4 b.zero.toNat ++ leBytes 4 b.span.toNat
    ++ leBytes 4 b.lowRef.toNat ++ leBytes 8 b.calTime ++ leBytes 4 b.calSerial ++ leBytes 4 b.calCount ++ leBytes 20 b.reserved40.toNat

/-- MAGIC and CRC of a user block are right (R286). -/
def blockCrcOk (b : UserBlock) : Bool := b.magic == blockMagic && crc32 (blockBytes b) == b.crc

/-- A user block as it is written: with MAGIC, the reserved bytes 0x00 and its CRC (R286). -/
def blockSealed (b : UserBlock) : UserBlock :=
  let b := { b with magic := blockMagic, reserved40 := 0 }
  { b with crc := crc32 (blockBytes b) }

/-- An entry of the force table in the store (R216). -/
def forceEntryBytes (e : ForceEntry) : List Byte :=
  leBytes 4 e.id ++ leBytes 4 e.value.toNat ++ leBytes 1 e.point ++ leBytes 1 e.type ++ leBytes 1 e.bits ++ leBytes 1 e.suspended.toNat
    ++ leBytes 4 0

/-- The CRC of a copy of the force table, over its entries (R216). -/
def forcesCrc (l : List ForceEntry) : BitVec 32 := crc32 (l.flatMap forceEntryBytes)

/-- MAGIC of a copy of the force table (R216). -/
def forcesMagic : BitVec 32 := 0x43524F46

/-- A copy of the force table is intact: MAGIC and CRC are right (R216). -/
def forceCopyOk (c : ForceCopy) : Bool := c.magic == forcesMagic && forcesCrc c.entries == c.crc

/-- How far a rewrite of both copies of a block has come: copy 1 is programmed first, then copy 2 (R216, R286). -/
def writesCopy (done : Fin 3) (copy : Nat) : Bool := decide (copy < done.val)

end Sys2Proof.Machine
end

