-- ==== Sys2Proof/Machine/Forces.lean ====
section
/-! DEFINITION. The signal table (R17, R107, R203) and the force table (R212 to R217): entries, changes and their effect, application. -/
namespace Sys2Proof.Machine

/-! ### Signal table -/

/-- An undescribed slot (R107). (DESIGN CHOICE, log entry 2.) -/
def slotEmpty : DWord := 0x0000000060000000

/-- A slot of a page of the signal table. -/
def State.sigPage (s : State) (page slot : Nat) : DWord :=
  sparseGet (fun _ => slotEmpty) (if page = 0 then s.sig.page0 else s.sig.page1) slot

def State.setSigPage (s : State) (page slot : Nat) (w : DWord) : State :=
  if page = 0 then { s with sig := { s.sig with page0 := sparseSet (fun _ => slotEmpty) s.sig.page0 slot w } }
  else { s with sig := { s.sig with page1 := sparseSet (fun _ => slotEmpty) s.sig.page1 slot w } }

/-- A slot of the active page. -/
def State.sigSlot (s : State) (slot : Nat) : DWord := s.sigPage s.sig.active slot

/-- The signal descriptor of a slot in a survey. -/
def signalAt (g : Survey) (slot : Nat) : Option SignalDesc := g.signals.find? fun d => d.slot == slot

def signalById (g : Survey) (id : Nat) : Option SignalDesc := g.signals.find? fun d => d.id == id

/-- The slot of the new survey's page that a slot of the old one's is mirrored to: same ID, TYPE and BITS (R203). -/
def translated (old new : Option Survey) (slot : Nat) : Option Nat :=
  match old, new with
  | some g, some h =>
    (signalAt g slot).bind fun d => (signalById h d.id).bind fun e =>
      if e.type = d.type ∧ e.bits = d.bits then some e.slot else none
  | _, _ => none

/-- A write into the signal table: into the active page; during migration it is mirrored (R203). A tail cycle writes the old page, which
is mirrored into the new one (R208). -/
def State.sigWriteIn (s : State) (tail : Bool) (slot : Nat) (w : DWord) : State :=
  let page := if tail then 1 - s.sig.active else s.sig.active
  let s := s.setSigPage page slot w
  let s := if s.pair.joinOut then
      { s with pair := { s.pair with sigDelta := s.pair.sigDelta.filter (fun x => x != slot) ++ [slot] } }
    else s
  if s.olc.mirror && (tail || s.get Fld.OLC_STAT_STATE != 7) then
    match translated (if tail then s.otherSurvey else s.activeSurvey) s.olc.survey slot with
    | some x => s.setSigPage (1 - page) x w
    | none => s
  else s

/-- A write into the active page. -/
def State.sigWrite (s : State) (slot : Nat) (w : DWord) : State := s.sigWriteIn false slot w

/-- A value of a signal's type (R18): for packed bits, bits above n are 0. -/
def typedValue (d : SignalDesc) (v : BitVec 32) : BitVec 32 := if d.type = 3 then v &&& BitVec.ofNat 32 (2 ^ d.bits - 1) else v

/-- A slot as the signal table holds it for a described signal (R18): packed bits above n are 0, a signalling NaN of a binary32 is quiet and
BAD_CHANNEL_FAULT. -/
def typedSlot (d : SignalDesc) (w : DWord) : DWord :=
  let v := typedValue d (slotValue w)
  let (v, st) := if d.type = 2 then storeFloat v (slotStatus w) else (v, slotStatus w)
  mkSlot v st (slotOrigin w) (slotAge w) (slotSeq w)

/-- A slot that takes a bad status while no value arrives: VALUE stays, and is the safe default `safe` of the channel where no value exists
(R24); the code takes its place in the order of R25. (DEDUCED, log entry 102.) -/
def slotBad (safe : BitVec 32) (w : DWord) (st : Nibble) : DWord :=
  slotWithStatus (if slotStatus w = Tag.INIT then slotWithValue w safe else w) (tagFirst (slotStatus w) st)

/-- The slot a described signal holds at load (R107), in the form of R18; `b` is the slot of ORIGIN bit 27. -/
def initSlot (b : Nat) (d : SignalDesc) : DWord := typedSlot d (mkSlot d.initValue Tag.INIT (BitVec.ofNat 4 (b % 2 * 8 + d.cls)) 0 0)

/-- Fill a page with a survey's initial slots (R107): ORIGIN bit 27 is this module's slot; in a pair LEAD's, so that the two modules hold
bit-identical slots (R19). (DEDUCED, log entry 101.) -/
def State.loadPage (s : State) (page : Nat) (g : Survey) : State :=
  let s := if page = 0 then { s with sig := { s.sig with page0 := [] } } else { s with sig := { s.sig with page1 := [] } }
  g.signals.foldl (fun s d => s.setSigPage page d.slot (initSlot (s.leadSlot s.nowNs) d)) s

/-- One cycle of a producing task passes: the slots of its signals that nothing wrote in it age, and become STALE above STALE_AGE (R20,
R25); a slot that a transfer wrote carries the AGE of its source. (DEDUCED, log entry 33.) -/
def State.ageSignals (s : State) (t : Nat) : State :=
  match s.activeSurvey with
  | none => s
  | some g =>
    g.signals.foldl (fun s d =>
      if d.producer = t ∧ (s.task t).wrote.contains d.slot = false then
        let w := slotAged (s.sigSlot d.slot)
        let w := if d.staleAge ≠ 0 ∧ d.staleAge < slotAge w then slotWithStatus w (tagFirst (slotStatus w) Tag.STALE) else w
        s.sigWrite d.slot w
      else s) s

/-! ### The force table -/

/-- Insert or replace an entry, in SIGNAL_ID order (R212). -/
def forcePut (l : List ForceEntry) (e : ForceEntry) : List ForceEntry :=
  (l.filter fun x => decide (x.id < e.id)) ++ [e] ++ l.filter fun x => decide (e.id < x.id)

/-- The table after a change (R212, R215). A write replaces the entry of its ID but for SUSPENDED, which a clear alone takes away (R217). -/
def forceApply (l : List ForceEntry) : ForceChange → List ForceEntry
  | .write e => forcePut l { e with suspended := e.suspended || l.any fun x => x.id == e.id && x.suspended }
  | .clear id => l.filter fun x => x.id != id
  | .clearAll => []

/-- The table once every waiting change has taken effect. -/
def State.forcesAhead (s : State) : List ForceEntry := s.frc.waiting.foldl (fun l c => forceApply l c.2) s.frc.entries

/-- FRC_STAT and the level of FORCE_SUSPENDED follow the table (R217). (DEDUCED, log entry 69.) -/
def State.showForces (s : State) : State :=
  let n := (s.frc.entries.filter fun e => e.suspended).length
  let s := s.putAll [(Fld.FRC_STAT_USED, s.frc.entries.length), (Fld.FRC_STAT_SUSPENDED, n)]
  if n = 0 then s.fall Src.FORCE_SUSPENDED 0 0 else s.rise Src.FORCE_SUSPENDED 0 0

/-- Replace the table. -/
def State.setForces (s : State) (l : List ForceEntry) : State :=
  ({ s with frc := { s.frc with entries := l } } : State).showForces

/-- The points allowed for a signal (R213). -/
def pointAllowed (d : SignalDesc) (point : Nat) : Bool :=
  match point with
  | 0 => d.input
  | 1 => d.output
  | 2 => d.cls == 4
  | _ => false

/-- VALUE as an entry holds it: for packed bits, bits above n are 0 (R18, R212). (DEDUCED, log entry 69.) -/
def forceValue (d : SignalDesc) (v : BitVec 32) : BitVec 32 := typedValue d v

/-- Whether force commands are refused: between the agreement of an on-line change and its end (R217), or without a session (R435). -/
def State.forcesClosed (s : State) : Bool :=
  s.get Fld.OLC_STAT_STATE == 6 || s.get Fld.OLC_STAT_STATE == 7 || !s.session

def State.frcRefuse (s : State) : State := s.putAll [(Fld.FRC_CMD_DONE, 0), (Fld.FRC_CMD_REFUSED, 1)]

/-- The record of a change (R215): command code, VALUE, POINT, E. The manual gives the command no code. (DESIGN CHOICE, log entry 29.) -/
def State.forceRecord (s : State) (c : ForceChange) (cleared : Nat) (e : BitVec 32) : State :=
  let (code, s) := s.freeByte
  match c with
  | .write f => s.record 0x29 f.id [(1, code), (4, f.value.toNat), (1, f.point), (4, e.toNat)]
  | .clear id =>
    let (v, p) := match s.frc.entries.find? fun x => x.id == id with
      | some x => (x.value.toNat, x.point)
      | none => (0, 0)
    s.record 0x29 id [(1, code), (4, v), (1, p), (4, e.toNat)]
  | .clearAll => s.record 0x29 0 [(1, code), (4, cleared), (4, e.toNat)]

/-- A change is accepted with its effective cycle (R215). -/
def State.forceSchedule (s : State) (c : ForceChange) (e : BitVec 32) : State :=
  let n := s.forcesAhead.length
  let s := { s with frc := { s.frc with waiting := s.frc.waiting ++ [(e, c)] } }
  let s := s.forceRecord c n e
  s.put Fld.FRC_EFFECT_CYC e.toNat

/-- A change that passed its checks (R215): LEAD relays it with E; SHADOW passes it to LEAD; else the module acts alone. -/
def State.forceAccept (s : State) (c : ForceChange) : State :=
  if s.ll = .synced ∧ s.role = .shadow then
    (s.putAll [(Fld.FRC_CMD_DONE, 0), (Fld.FRC_CMD_REFUSED, 0)]).emit (.lifeline (.command (.force c none)))
  else
    let e := s.effective
    let s := (s.forceSchedule c e).putAll [(Fld.FRC_CMD_DONE, 1), (Fld.FRC_CMD_REFUSED, 0)]
    if s.ll = .synced ∧ s.role = .lead then s.emit (.lifeline (.command (.force c (some e)))) else s

/-- The entry that a write makes, if R212 allows it: the ID described, the point allowed, no signalling NaN, no entry 4,097. -/
def State.forceEntry (s : State) (id : Nat) (v : BitVec 32) (point : Nat) : Option ForceEntry :=
  match s.activeSurvey.bind fun g => signalById g id with
  | none => none
  | some d =>
    let l := s.forcesAhead
    if !pointAllowed d point || (d.type == 2 && isSnan v) || (decide (4096 ≤ l.length) && !(l.any fun x => x.id == id)) then none
    else some ⟨id, forceValue d v, point, d.type, d.bits, false, 0⟩

/-- The entry that FRC_ID, FRC_VALUE and FRC_MODE describe. -/
def State.forceCandidate (s : State) : Option ForceEntry :=
  s.forceEntry (s.getReg Reg.FRC_ID).toNat (s.getReg Reg.FRC_VALUE) (s.get Fld.FRC_MODE_POINT)

/-- A change as the table would take it, if R212 allows it. -/
def State.forceChecked (s : State) : ForceChange → Option ForceChange
  | .write e => (s.forceEntry e.id e.value e.point).map .write
  | .clear id => if s.forcesAhead.any fun x => x.id == id then some (.clear id) else none
  | .clearAll => some .clearAll

/-- READ (R212). (DEDUCED, log entry 69.) -/
def State.forceReadCmd (s : State) : State :=
  match s.frc.entries[s.get Fld.FRC_SEL_INDEX]? with
  | none => s.frcRefuse
  | some e =>
    let s := (s.setReg Reg.FRC_ID (BitVec.ofNat 32 e.id)).setReg Reg.FRC_VALUE e.value
    s.putAll [(Fld.FRC_MODE_POINT, e.point), (Fld.FRC_MODE_SUSPENDED, e.suspended.toNat), (Fld.FRC_MODE_UNDER_STATUS, e.underStatus.toNat),
      (Fld.FRC_CMD_DONE, 1), (Fld.FRC_CMD_REFUSED, 0)]

/-- A write to FRC_CMD (R212, R215, R217, R469). (DEDUCED, log entry 58.) -/
def State.frcCmdWrite (s : State) (v : Word) : State :=
  s.actions [Fld.FRC_CMD_WRITE, Fld.FRC_CMD_CLEAR, Fld.FRC_CMD_READ, Fld.FRC_CMD_CLEAR_ALL] (some Fld.FRC_CMD_REFUSED) v fun s =>
    if Fld.FRC_CMD_READ.on v then s.forceReadCmd
    else if Fld.FRC_CMD_WRITE.on v then
      if s.forcesClosed then s.frcRefuse
      else
        match s.forceCandidate with
        | none => s.frcRefuse
        | some e => s.forceAccept (.write e)
    else if Fld.FRC_CMD_CLEAR.on v then
      let id := (s.getReg Reg.FRC_ID).toNat
      if s.forcesClosed || !(s.forcesAhead.any fun x => x.id == id) then s.frcRefuse else s.forceAccept (.clear id)
    else if Fld.FRC_CMD_CLEAR_ALL.on v then
      if s.forcesClosed then s.frcRefuse else s.forceAccept .clearAll
    else s

/-- FORCE_WRITE (R212). -/
def execForceWrite (v : Word) (s : State) : Host.Outcome State Fault Refusal := done (s.frcCmdWrite v)

/-- FORCE_CLEAR (R212). -/
def execForceClear (v : Word) (s : State) : Host.Outcome State Fault Refusal := done (s.frcCmdWrite v)

/-- FORCE_READ (R212). -/
def execForceRead (v : Word) (s : State) : Host.Outcome State Fault Refusal := done (s.frcCmdWrite v)

/-- FORCE_CLEAR_ALL (R215). -/
def execForceClearAll (v : Word) (s : State) : Host.Outcome State Fault Refusal := done (s.frcCmdWrite v)

/-- Whether the fastest task's count has reached an effective cycle. -/
def State.reached (s : State) (e : BitVec 32) : Bool := decide ((s.fastCount - e).toNat < 2 ^ 31)

/-- FORCE_EFFECT (R215): the changes whose cycle E has come. -/
def State.forceEffect (s : State) : State :=
  let due := s.frc.waiting.filter fun c => s.reached c.1
  if due.isEmpty then s
  else
    let l := due.foldl (fun l c => forceApply l c.2) s.frc.entries
    let s := { s with frc := { s.frc with waiting := s.frc.waiting.filter fun c => !s.reached c.1 } }
    (s.setForces l).putBit Fld.FRC_STAT_STORE_PENDING true

def execForceEffect (s : State) : Host.Outcome State Fault Refusal := done s.forceEffect

/-- The copy of the table that is written next (R216). -/
def forceCopy (old : ForceCopy) (l : List ForceEntry) : ForceCopy :=
  let l := l.map fun e => { e with underStatus := 0 }
  ⟨forcesMagic, if forceCopyOk old then old.writeCount + 1 else 1, forcesCrc l, l⟩

/-- FORCE_STORE_WRITE (R216): copy 1 and then copy 2, as many as `copies` tells; a store that fails raises CFG_STORE_FAIL and the rewrite
stays outstanding. (DEDUCED, log entry 41.) -/
def State.forceStoreWrite (s : State) (copies : Fin 3) : State :=
  if s.bit Fld.FRC_STAT_STORE_PENDING then
    let l := s.frc.entries
    let st := s.store
    let st := if writesCopy copies 0 then { st with forces0 := forceCopy st.forces0 l } else st
    let st := if writesCopy copies 1 then { st with forces1 := forceCopy st.forces1 l } else st
    let s := { s with store := st }
    if copies = 2 then s.putBit Fld.FRC_STAT_STORE_PENDING false else s.raise Src.CFG_STORE_FAIL 0 0
  else s

def execForceStoreWrite (copies : Fin 3) (s : State) : Host.Outcome State Fault Refusal := done (s.forceStoreWrite copies)

/-- The table LOAD takes from the store (R216). -/
def State.loadForces (s : State) : State :=
  let a := s.store.forces0
  let b := s.store.forces1
  let okA := forceCopyOk a
  let okB := forceCopyOk b
  if okA && okB then
    if a.writeCount = b.writeCount ∧ a.entries ≠ b.entries then (s.setForces a.entries).raise Src.FORCE_STORE 0 0
    else s.setForces (if a.writeCount < b.writeCount then b.entries else a.entries)
  else if okA then s.setForces a.entries
  else if okB then s.setForces b.entries
  else (s.setForces []).raise Src.FORCE_STORE 0 0

/-- The force that applies to a signal at a point. -/
def State.forceFor (s : State) (id point : Nat) : Option ForceEntry :=
  s.frc.entries.find? fun e => e.id == id && e.point == point && !e.suspended

/-- UNDER_STATUS of an entry at its application (R212). -/
def State.noteUnder (s : State) (id : Nat) (st : Nibble) : State :=
  { s with frc := { s.frc with entries := s.frc.entries.map fun e => if e.id = id then { e with underStatus := st } else e } }

/-- FREEZE: the slot that enters the signal table (R213). (DEDUCED, log entry 69.) -/
def State.forceFreeze (s : State) (d : SignalDesc) (w : DWord) : State × DWord :=
  match s.forceFor d.id 0 with
  | none => (s, w)
  | some e => (s.noteUnder d.id (slotStatus w), mkSlot e.value Tag.FORCED (s.origin (s.task d.producer).t0 5) 0 ((s.cyc d.producer).truncate 16))

/-- EMIT: the copy that leaves (R213). -/
def State.forceEmit (s : State) (d : SignalDesc) (w : DWord) : State × DWord :=
  match s.forceFor d.id 1 with
  | none => (s, w)
  | some e => (s.noteUnder d.id (slotStatus w), slotWithValue (slotWithStatus w Tag.FORCED) e.value)

/-- The staging slot of a class 0b100 signal in the table in effect: byte address in the OUTPUT staging of chamber `c`, which runs the work of
the signal's SOURCE (R184, R213). -/
def stagingSlotIn (table : List FabricEntry) (c : Nat) (d : SignalDesc) : Option Nat :=
  table.findSome? fun e =>
    if e.anchor = 2 ∧ e.srcPort = c + 1 ∧ e.dstPort = 0 ∧ e.dstIndex * 4 ≤ d.slot ∧ d.slot < (e.dstIndex + e.beats) * 4 then
      some ((e.srcIndex * 4 + (d.slot - e.dstIndex * 4)) * 8)
    else none

/-- One SOURCE force on the staging that becomes current: on the slot that the execution has written (R135, R213). -/
def State.forceOne (s : State) (old layer : List (Nat × DWord × BitVec 32)) (id a : Nat) (v : BitVec 32) :
    State × List (Nat × DWord × BitVec 32) :=
  match layer.find? fun q => q.1 == a && !old.contains q with
  | none => (s, layer)
  | some (_, w, n) =>
    (s.noteUnder id (slotStatus w), (layer.filter fun q => q.1 != a) ++ [(a, slotWithValue (slotWithStatus w Tag.FORCED) v, n)])

/-- SOURCE: the slots that compared staging makes current (R213). `p` is the primary chamber of the execution, `c` the one that ran it, `g`
and `table` the survey and the fabric table of its task's cycle, `old` the layer before. -/
def State.forceSource (s : State) (g : Survey) (table : List FabricEntry) (p c : Nat) (old layer : List (Nat × DWord × BitVec 32)) :
    State × List (Nat × DWord × BitVec 32) :=
  s.frc.entries.foldl (fun (acc : State × List (Nat × DWord × BitVec 32)) e =>
    if e.point = 2 ∧ e.suspended = false then
      match ((signalById g e.id).filter fun d => d.cls == 4 && d.source == p).bind fun d => stagingSlotIn table c d with
      | some a => acc.1.forceOne old acc.2 e.id a e.value
      | none => acc
    else acc) (s, layer)

end Sys2Proof.Machine
end

