-- ==== Sys2Proof/Machine/Channels.lean ====
section
/-! DEFINITION. Channels of the islands (10, 11): modes, what a DO and an AO drive, statuses, configuration words. -/
namespace Sys2Proof.Machine

def IslChan.reset : IslChan :=
  ⟨0, false, false, 0, false, false, none, 0, false, false, false, false, false, false, 0, false, none, 0, 0, 0x40800000, none, false, none, 0⟩

def latchNone : LatchImage := ⟨0, 0, [], 0⟩

def Island.reset : Island where
  supply := 0
  resuming := false
  silent := false
  goodRun := 0
  restarting := false
  restarted := false
  latch := latchNone
  prevLatch := latchNone
  awaited := 0
  awaitedAt := 0
  lost := false
  upGood := 0
  frame := none
  frameAt := 0
  spoiled := false
  run := false
  duplexOff := false
  dnBad := 0
  trigs := []
  chans := []

def State.island (s : State) (i : Nat) : Island := sparseGet (fun _ => Island.reset) s.isl i

def State.setIsland (s : State) (i : Nat) (x : Island) : State :=
  { s with isl := sparseSet (fun _ => Island.reset) s.isl i x }

/-- Global channel n = 8i + j. -/
def State.chan (s : State) (n : Nat) : IslChan := sparseGet (fun _ => IslChan.reset) (s.island (n / 8)).chans (n % 8)

def Island.setChan (x : Island) (j : Nat) (c : IslChan) : Island :=
  { x with chans := sparseSet (fun _ => IslChan.reset) x.chans j c }

def State.setChan (s : State) (n : Nat) (c : IslChan) : State := s.setIsland (n / 8) ((s.island (n / 8)).setChan (n % 8) c)

/-! ### Modes (R258) -/

/-- Channel modes in the encoding of ISL_CH_CFG.MODE. -/
def chOFF : Nat := 0
def chDI : Nat := 1
def chDO : Nat := 2
def chAI : Nat := 3
def chAO : Nat := 4

/-- The descriptors of channel n. -/
def channelSignals (g : Survey) (n : Nat) : List SignalDesc := g.signals.filter fun d => d.cls == 0 && d.source == n

/-- The mode that the descriptors of channel n give it; none for a combination the table does not list. -/
def channelMode (g : Survey) (n : Nat) : Option Nat :=
  let ins := (channelSignals g n).filter fun d => d.input
  let outs := (channelSignals g n).filter fun d => d.output
  if (channelSignals g n).any fun d => d.input == d.output then none
  else
    match ins, outs with
    | [], [] => some chOFF
    | [d], [] =>
      if d.type = 3 ∧ (d.bits = 1 ∨ d.bits = 24) then some chDI else if d.type = 2 then some chAI else none
    | ins, [o] =>
      if 2 ≤ ins.length then none
      else if o.type = 3 ∧ o.bits = 1 then (if ins.all fun d => d.type == 3 && d.bits == 2 then some chDO else none)
      else if o.type = 2 then (if ins.all fun d => d.type == 2 then some chAO else none)
      else none
    | _, _ => none

/-- The mode of channel n in force; OFF without a verified survey (R266). -/
def State.modeFromSurvey (s : State) (n : Nat) : Nat :=
  match s.activeSurvey with
  | none => chOFF
  | some g => (channelMode g n).getD chOFF

def State.chMode (s : State) (n : Nat) : Nat := s.get (Fld.ISL_CH_CFG_MODE n)

def State.isOutput (s : State) (n : Nat) : Bool := s.chMode n == chDO || s.chMode n == chAO

/-- The output signal of channel n. -/
def State.outputSignal (s : State) (n : Nat) : Option SignalDesc :=
  s.activeSurvey.bind fun g => (channelSignals g n).find? fun d => d.output

/-- The input or readback signal of channel n. -/
def State.inputSignal (s : State) (n : Nat) : Option SignalDesc :=
  s.activeSurvey.bind fun g => (channelSignals g n).find? fun d => d.input

def State.duplex (s : State) (n : Nat) : Bool := s.bit (Fld.ISL_CH_CFG_WIRING n)

/-! ### Analogue values -/

/-- Whether x ≤ y. -/
def f32Le (x y : BitVec 32) : Bool := f32Lt x y || f32Eq x y

/-- A value held to a range. -/
def f32Clamp (lo hi x : BitVec 32) : BitVec 32 := if f32Lt x lo then lo else if f32Lt hi x then hi else x

/-- SPAN × x + ZERO of channel n (R279, R281), each operation rounded to binary32. (DESIGN CHOICE, log entry 37.) -/
def State.trimmed (s : State) (n : Nat) (x : BitVec 32) : BitVec 32 :=
  (f32Add (f32Mul (s.getReg (Reg.ISL_AN_SPAN n)) x).1 (s.getReg (Reg.ISL_AN_ZERO n))).1

/-- The reading I (R279): saturated at −1.0 mA and at 33.0 mA, in duplex 30.0 mA, never a NaN: a result `r` that is no number reads −1.0 mA.
(DESIGN CHOICE, log entry 37.) -/
def State.aiReading (s : State) (n : Nat) (r : BitVec 32) : BitVec 32 :=
  let i := s.trimmed n r
  if f32IsNan i then 0xBF800000 else f32Clamp 0xBF800000 (if s.duplex n then 0x41F00000 else 0x42040000) i

/-- The command c of an AO (R281): 0 mA to 24 mA. -/
def aoCommand (x : BitVec 32) : BitVec 32 := f32Clamp 0 0x41C00000 x

/-- SAFE_MA in mA (R282). -/
def State.safeMa (s : State) (n : Nat) : BitVec 32 :=
  (f32Div (f32OfInt (min 240 (s.get (Fld.ISL_AN_CFG_SAFE_MA n)))) 0x41200000).1

/-- The share of a current that this module sources (R284): half in SHARING on a duplex channel. (DEDUCED, log entry 38.) -/
def State.aoShare (s : State) (n : Nat) (d : BitVec 32) : BitVec 32 :=
  if s.duplex n ∧ s.bit (Fld.ISL_AN_STAT_STEP_UP n) = false then (f32Mul d 0x3F000000).1 else d

/-! ### What a channel drives (R266, R282) -/

/-- What the ranks of R266 give an output. -/
inductive Drive where
  | off | safeState | command
  deriving DecidableEq, Repr

/-- The rank of R266 that applies to output channel n; after a recovery the drivers wait for the frame boundary (R273); an AO passes rank 4 by, and a NaN command counts as BAD (R281). -/
def State.driveOf (s : State) (n : Nat) : Drive :=
  let x := s.island (n / 8)
  let c := s.chan n
  if x.run = false then .off
  else if 2 ≤ x.supply ∨ x.resuming ∨ (s.duplex n = true ∧ x.duplexOff = true) then .off
  else if s.bit (Fld.ISL_CH_STAT_AWAIT_ACK n) then .off
  else if s.chMode n = chDO ∧ c.off ≠ 0 then .off
  else if x.silent ∨ c.safe ∨ c.bad ∨ (s.chMode n = chAO ∧ f32IsNan c.out = true) then .safeState
  else .command

/-- The driver of a DO (R260, R266). -/
def State.doDrives (s : State) (n : Nat) : Bool :=
  let c := s.chan n
  match s.driveOf n with
  | .off => false
  | .command => c.out.getLsbD 0
  | .safeState =>
    match s.get (Fld.ISL_CH_CFG_SAFE n) with
    | 1 => true
    | 2 => match c.lastCmd with
      | some v => v.getLsbD 0
      | none => false
    | _ => false

/-- Drive a DO: the driver, its limit, and the external-drive status that an on driver clears (R270). -/
def State.driveDo (s : State) (n : Nat) : State :=
  let on := s.doDrives n
  let safe := s.driveOf n == .safeState
  let c := s.chan n
  let c := if s.driveOf n = .command then { c with lastCmd := some c.out } else c
  let s := s.setChan n { c with extDrive := c.extDrive && !on }
  let s := s.putAll [(Fld.ISL_CH_STAT_DRIVER n, on.toNat), (Fld.ISL_CH_STAT_SAFE_ACTIVE n, safe.toNat)]
  if on then s else s.putBit (Fld.ISL_CH_STAT_LIMIT n) false

/-- The current a safe state gives an AO (R282): SAFE_MA itself, untrimmed. -/
def State.aoSafe (s : State) (n : Nat) : BitVec 32 :=
  match s.get (Fld.ISL_CH_CFG_SAFE n) with
  | 1 => s.safeMa n
  | 2 => (s.chan n).lastCmd.getD 0
  | _ => 0

/-- The current that the ranks give an AO, before it is shared (R281, R282): rank 8 gives d within the driver's range of 0 mA to 24 mA. -/
def State.aoCurrent (s : State) (n : Nat) : BitVec 32 :=
  match s.driveOf n with
  | .off => 0
  | .safeState => s.aoSafe n
  | .command => aoCommand (s.trimmed n (aoCommand (s.chan n).out))

/-- An AO that is driven OFF or with 0 mA shares again (R284). -/
def State.aoSharing (s : State) (n : Nat) : State :=
  (s.put (Fld.ISL_AN_STAT_STEP_UP n) 0).fall Src.ISL_AO_STEP_UP (n / 8) (n % 8)

/-- The current of a calibration drive (R288): it stands in place of the command of rank 8, its BAD and its SAFE, so the ranks that drive OFF
and a silent link go before it. (DEDUCED, log entry 38.) -/
def State.calCurrent (s : State) (n : Nat) : Option (BitVec 32) :=
  if s.driveOf n = .off ∨ (s.island (n / 8)).silent = true then none else (s.chan n).calRef

/-- Drive an AO: calibration drive (R288), else the ranks (R282). -/
def State.driveAo (s : State) (n : Nat) : State :=
  let c := s.chan n
  match s.calCurrent n with
  | some r => (s.setChan n { c with drive := r }).putBit (Fld.ISL_CH_STAT_SAFE_ACTIVE n) false
  | none =>
    let r := s.driveOf n
    let d := s.aoCurrent n
    let s := s.setChan n { c with drive := s.aoShare n d, lastCmd := if r = .command then some d else c.lastCmd }
    let s := s.putBit (Fld.ISL_CH_STAT_SAFE_ACTIVE n) (r == .safeState)
    if f32Eq d 0 then s.aoSharing n else s

/-! ### Statuses (R264, R271, R280, R283) -/

/-- The status of an AI reading alone (R280). -/
def State.aiStatus (s : State) (n : Nat) : Nibble :=
  let i := s.getReg (Reg.ISL_AN_VALUE n)
  if s.bit (Fld.ISL_AN_CFG_WIRE_DET n) && f32Lt i 0x3F000000 then Tag.BAD_WIRE
  else if f32Le 0x41A80000 i then Tag.BAD_HIGH_ALARM
  else if f32Le i 0x40666666 then Tag.BAD_LOW_ALARM
  else if f32Le i 0x40733333 || f32Lt 0x41A40000 i then Tag.UNCERTAIN_RANGE
  else Tag.GOOD

/-- What the supervision of an AO with command c reports (R283); a short cannot be told from a load. (DESIGN CHOICE, log entry 37.) -/
def aoStatus (c : BitVec 32) (o : AoObservation) : Nibble :=
  if o.atLimit = false then Tag.GOOD
  else if o.terminalHigh then Tag.BAD_EXTERNAL_DRIVE
  else if f32Le 0x3F800000 c && f32Lt o.measured 0x3DCCCCCD then Tag.BAD_WIRE
  else if f32Lt 0x3DCCCCCD (f32Add c (f32Neg o.measured)).1 then Tag.BAD_COMPLIANCE
  else Tag.GOOD

/-- The faults common to the modes: supply, acknowledgement, trims and front end, link loss, shed. A short on a shed channel is
reported as the short (R268). (DEDUCED, log entry 40.) -/
def State.commonStatus (s : State) (n : Nat) : Nibble :=
  let x := s.island (n / 8)
  let c := s.chan n
  if 2 ≤ x.supply ∨ s.bit (Fld.ISL_CH_STAT_AWAIT_ACK n) then Tag.BAD_SUPPLY
  else if c.fault || c.hwFault || x.lost || (c.shed && !c.short) then Tag.BAD_CHANNEL_FAULT
  else Tag.GOOD

/-- The status of channel n by the precedence of R25. -/
def State.chanStatus (s : State) (n : Nat) : Nibble :=
  let c := s.chan n
  let own := match s.chMode n with
    | 2 => tagFirst (if c.short || c.openLoad then Tag.BAD_WIRE else Tag.GOOD)
        (if c.extDrive then Tag.BAD_EXTERNAL_DRIVE else Tag.GOOD)
    | 3 => if s.get (Fld.ISL_AN_STAT_LIMITER n) = 2 then Tag.BAD_CHANNEL_FAULT else s.aiStatus n
    | 4 => if s.bit (Fld.ISL_AN_STAT_CAL_DRIVE n) then Tag.SIMULATED else c.ao
    | _ => Tag.GOOD
  tagFirst (s.commonStatus n) own

/-- Whether detection of external drive is masked by the partner's current DUPLEX frame (R270). (DEDUCED, log entry 68.) -/
def State.driveMasked (s : State) (n : Nat) : Bool :=
  s.chMode n == chDO && s.duplex n && match s.pair.duplexIn with
    | some b => b.commanded.getLsbD n
    | none => false

/-- The status of a channel without a mode: INIT, and BAD_SUPPLY in a lockout of its island (R272). -/
def State.offStatus (s : State) (n : Nat) : Nibble := if 2 ≤ (s.island (n / 8)).supply then Tag.BAD_SUPPLY else Tag.INIT

/-- Bring a channel's driver, status and mask up to date. -/
def State.refreshChan (s : State) (n : Nat) : State :=
  let s := if s.chMode n = chDO then s.driveDo n
    else if s.chMode n = chAO then s.driveAo n
    else s.put (Fld.ISL_CH_STAT_DRIVER n) 0
  if s.chMode n = chOFF then s.put (Fld.ISL_CH_STAT_STATUS n) (s.offStatus n).toNat
  else s.putAll [(Fld.ISL_CH_STAT_STATUS n, (s.chanStatus n).toNat), (Fld.ISL_CH_STAT_MASKED n, (s.driveMasked n).toNat)]

/-- Bring every channel of an island up to date. -/
def State.refreshIsland (s : State) (i : Nat) : State := (List.range 8).foldl (fun s j => s.refreshChan (8 * i + j)) s

/-- A change of the mode of channel n refuses a calibration that averages its readings (R287). -/
def State.calModeChanged (s : State) (n : Nat) : State :=
  match s.cal.averaging with
  | none => s
  | some a => if a.channel = n then { s with cal := { s.cal with averaging := some { a with bad := true } } } else s

/-- A channel takes mode OFF: the driver off, and of its state only the trims stay. -/
def State.chanOff (s : State) (n : Nat) : State :=
  let s := s.calModeChanged n
  let s := s.setChan n { IslChan.reset with lowRef := (s.chan n).lowRef, fault := (s.chan n).fault, hwFault := (s.chan n).hwFault }
  let s := s.setReg (Reg.ISL_CH_STAT n) ((Fld.ISL_CH_STAT_STATUS n).ins 0 (s.offStatus n).toNat)
  let s := s.putAll [(Fld.ISL_CH_CFG_MODE n, chOFF), (Fld.ISL_AN_STAT_CONV_BUSY n, 0), (Fld.ISL_AN_STAT_STEP_UP n, 0),
    (Fld.ISL_AN_STAT_LIMITER n, 0), (Fld.ISL_AN_STAT_AT_LIMIT n, 0), (Fld.ISL_AN_STAT_CAL_DRIVE n, 0)]
  (s.fall Src.ISL_AO_STEP_UP (n / 8) (n % 8)).fall Src.ISL_AI_FOLDBACK (n / 8) (n % 8)

/-- A channel takes the mode the running survey gives it. -/
def State.takeMode (s : State) (n : Nat) : State :=
  let m := s.modeFromSurvey n
  if s.chMode n = m then s else (s.chanOff n).put (Fld.ISL_CH_CFG_MODE n) m

/-- Every channel takes its mode, as at the end of LOAD. -/
def State.takeModes (s : State) : State := (List.range 128).foldl (fun s n => s.takeMode n) s

/-- At a swap a channel whose mode changes is OFF until the next frame boundary (R258). -/
def State.modesToSwap (s : State) : State :=
  (List.range 128).foldl (fun s n => if s.chMode n = s.modeFromSurvey n then s else s.chanOff n) s

/-! ### User blocks (R286) -/

/-- A copy never written. (DESIGN CHOICE, log entry 2.) -/
def blockErased : UserBlock := ⟨0xFFFFFFFF, 0, 0, 0, 0x3F800000, 0x40800000, 0, 0, 0, 0, 0xFFFFFFFF⟩

def State.userBlock (s : State) (n copy : Nat) : UserBlock := sparseGet (fun _ => blockErased) s.store.blocks (2 * n + copy)

/-- ZERO and SPAN lie in range (R286). -/
def trimsInRange (zero span : BitVec 32) : Bool :=
  f32Le 0xBF000000 zero && f32Le zero 0x3F000000 && f32Le 0x3F7AE148 span && f32Le span 0x3F828F5C

def blockIntact (b : UserBlock) : Bool := blockCrcOk b && trimsInRange b.zero b.span

/-- Rewrite both copies of a block, copy 1 first; `copies` tells how many are programmed (R286). (DEDUCED, log entry 41.) -/
def State.writeBlock (s : State) (n : Nat) (b : UserBlock) (copies : Fin 3) : State :=
  let b := blockSealed b
  let put (bs : List (Nat × UserBlock)) (copy : Nat) : List (Nat × UserBlock) :=
    if writesCopy copies copy then sparseSet (fun _ => blockErased) bs (2 * n + copy) b else bs
  { s with store := { s.store with blocks := put (put s.store.blocks 0) 1 } }

/-- The block of channel n as the store has it: copy 1 where intact, else copy 2, else the values of R286 for want of both. -/
def State.blockNow (s : State) (n : Nat) : UserBlock :=
  if blockIntact (s.userBlock n 0) then s.userBlock n 0
  else if blockIntact (s.userBlock n 1) then s.userBlock n 1
  else blockErased

/-! ### Configuration words (R259) -/

def cfgReg (n : Nat) (analogue : Bool) : Nat := if analogue then Reg.ISL_AN_CFG n else Reg.ISL_CH_CFG n

/-- An accepted word waits for its cycle E and its store write; until E the register shows the word in force (R7, R259).
(DESIGN CHOICE, log entry 84.) -/
def State.cfgSchedule (s : State) (n : Nat) (analogue : Bool) (v : Word) (e : BitVec 32) : State :=
  let s := { s with cal := { s.cal with cfg := s.cal.cfg ++ [(e, n, analogue, v)],
                                        cfgStore := s.cal.cfgStore.filter (fun k => k != n) ++ [n] } }
  (s.setReg Reg.ISL_CFG_EFFECT e).putBit Fld.ISL_CFG_STAT_STORE_PENDING true

/-- A write to ISL_CH_CFG[n] or ISL_AN_CFG[n] (R259): LEAD fixes E and relays; SHADOW passes the write to LEAD. -/
def State.islCfgWrite (s : State) (n : Nat) (analogue : Bool) (v : Word) : State :=
  if s.mode = .load ∨ s.mode = .hold ∨ s.mode = .service then
    if s.ll = .synced ∧ s.role = .shadow then s.emit (.lifeline (.command (.chConfig n analogue v none)))
    else
      let e := s.effective
      let s := s.cfgSchedule n analogue v e
      if s.ll = .synced ∧ s.role = .lead then s.emit (.lifeline (.command (.chConfig n analogue v (some e)))) else s
  else s.putBit Fld.ISL_CFG_STAT_REFUSED true

/-- ISL_CH_CFG_WRITE (R259). -/
def execIslChCfgWrite (n : Fin 128) (analogue : Bool) (v : Word) (s : State) : Host.Outcome State Fault Refusal :=
  done (s.islCfgWrite n.val analogue v)

/-- ISL_CFG_EFFECT (R259): the words whose cycle E has come. -/
def State.cfgEffect (s : State) : State :=
  let due := s.cal.cfg.filter fun c => s.reached c.1
  let s := { s with cal := { s.cal with cfg := s.cal.cfg.filter fun c => !s.reached c.1 } }
  due.foldl (fun s c => (s.regStore (cfgReg c.2.1 c.2.2.1) c.2.2.2).refreshChan c.2.1) s

def execIslCfgEffect (s : State) : Host.Outcome State Fault Refusal := done s.cfgEffect

/-- The configuration word as it will stand once every waiting write has taken effect. -/
def State.cfgAhead (s : State) (n : Nat) (analogue : Bool) : BitVec 32 :=
  s.cal.cfg.foldl (fun w c => if c.2.1 = n ∧ c.2.2.1 = analogue then c.2.2.2 else w) (s.getReg (cfgReg n analogue))

/-- ISL_CFG_STORE_WRITE (R259): the words go to both copies of the user block; a write that does not end stays outstanding.
(DEDUCED, log entry 41.) -/
def State.cfgStoreWrite (s : State) (n : Nat) (copies : Fin 3) : State :=
  if s.cal.cfgStore.contains n then
    let b := s.blockNow n
    let s := s.writeBlock n { b with chCfg := s.cfgAhead n false, anCfg := s.cfgAhead n true } copies
    if copies = 2 then
      let s := { s with cal := { s.cal with cfgStore := s.cal.cfgStore.filter fun k => k != n } }
      s.putBit Fld.ISL_CFG_STAT_STORE_PENDING (!s.cal.cfgStore.isEmpty)
    else s
  else s

def execIslCfgStoreWrite (n : Fin 128) (copies : Fin 3) (s : State) : Host.Outcome State Fault Refusal := done (s.cfgStoreWrite n.val copies)

end Sys2Proof.Machine
end

