-- ==== Sys2Proof/Machine/Islands.lean ====
section
/-! DEFINITION. The isolation links and the islands behind them (R247 to R257), digital inputs and outputs (R261 to R271), the field
supply (R272, R273). -/
namespace Sys2Proof.Machine

/-! ### Port 18 (R99): key 8i + j for input channel 8i + j, 128 + 8i + j for its output -/

def State.port18 (s : State) (k : Nat) : DWord := sparseGet (fun _ => slotEmpty) s.sig.port18 k

def State.setPort18 (s : State) (k : Nat) (w : DWord) : State :=
  { s with sig := { s.sig with port18 := sparseSet (fun _ => slotEmpty) s.sig.port18 k w } }

/-- The gate of island link i is open (R255). -/
def State.linkOpen (s : State) (i : Nat) : Bool := s.get (Fld.GATE_CTRL_STATE (16 + i)) == 0

/-! ### Frames as bytes (R249 to R251) -/

/-- The bytes 0 to 87 of the downstream frame (R250). -/
def downBody (f : DownFrame) : List Byte :=
  leBytes 1 (f.slotB.toNat + 2 * f.run.toNat + 4 * f.duplexOff.toNat) ++ leBytes 1 f.safe.toNat ++ leBytes 2 f.frameNo.toNat
    ++ leBytes 4 (f.triggers.getD 0 0).toNat ++ leBytes 4 (f.triggers.getD 1 0).toNat
    ++ ((List.range 8).flatMap fun j => leBytes 4 (f.out.getD j 0).toNat) ++ leBytes 1 f.bad.toNat ++ leBytes 3 0 ++ f.svc

def downBytes (f : DownFrame) : List Byte := crcSealed (downBody f)

/-- The bytes 0 to 87 of the upstream frame (R251). -/
def upBody (f : UpFrame) : List Byte :=
  leBytes 1 (f.supplyState.toNat + 4 * f.ctrlRestart.toNat + 8 * f.trimsApplied.toNat) ++ leBytes 1 f.latchMask.toNat
    ++ leBytes 2 f.frameNo.toNat ++ leBytes 1 f.latchSeq.toNat ++ leBytes 2 f.dnBad.toNat ++ leBytes 1 0
    ++ ((List.range 8).flatMap fun j => leBytes 4 (f.values.getD j 0).toNat) ++ leBytes 4 f.statuses.toNat ++ leBytes 2 f.supply.toNat
    ++ leBytes 2 0 ++ f.svc

def upBytes (f : UpFrame) : List Byte := crcSealed (upBody f)

/-- The service stream of a frame (R250, R251): 40 bytes whose coding the manual does not give. (DESIGN CHOICE, log entry 104.) -/
def State.serviceStream (s : State) : List Byte × State :=
  ((List.range 5).flatMap fun j => leBytes 8 (Config.freeBits (s.freeCtr + j)).toNat, { s with freeCtr := s.freeCtr + 5 })

/-! ### The downstream frame (R250, R252, R254) -/

/-- FLAGS.RUN (R250); the data save withdraws it (R46). -/
def State.islRun (s : State) : Bool :=
  (s.mode == .run || s.mode == .service || s.mode == .hold) && s.surveyVerified && !s.core.outputsOff

/-- The SAFE bit of channel n (R250): module HOLD, or its task held without an EMIT force on the output (R214). -/
def State.safeBit (s : State) (n : Nat) : Bool :=
  match s.outputSignal n with
  | none => false
  | some d => s.mode == .hold || (s.taskHeld d.producer && (s.forceFor d.id 1).isNone)

/-- The eight bits of a predicate on the channels of an island. -/
def chanBits (f : Nat → Bool) : BitVec 8 := BitVec.ofNat 8 (((List.range 8).map fun j => (f j).toNat * 2 ^ j).sum)

/-- The trigger word of an entry whose drip falls in the frame period after the one that starts at LIN `start` (R250, R252). -/
def State.triggerWord (s : State) (start : Nat) (e : TriggerEntry) : Option (BitVec 32) :=
  let d := ((s.drip e.drip).target - BitVec.ofNat 40 (start + 10000)).toNat
  if s.bit (Fld.DRIP_CTRL_ARMED e.drip) ∧ d < 10000 then
    some (BitVec.ofNat 32 (e.channels.toNat + 256 * e.kind + 1024 + 65536 * (d / 10)))
  else none

/-- LIN at which the present frame period starts: a multiple of 10 µs (R249). -/
def State.periodStart (s : State) : Nat := s.time.lin.toNat / 10000 * 10000

/-- The trigger words of island i in the frame that starts now; at most two (R252). -/
def State.triggers (s : State) (i : Nat) : List (BitVec 32) :=
  match s.activeSurvey with
  | none => []
  | some g => ((g.triggers.filter fun e => e.island == i).filterMap (s.triggerWord s.periodStart)).take 2

/-- OUT and BAD as the output image of island i stands (R250). -/
def State.outImage (s : State) (i : Nat) : List (BitVec 32) × BitVec 8 :=
  ((List.range 8).map fun j => slotValue (s.port18 (128 + 8 * i + j)), chanBits fun j => tagBad (slotStatus (s.port18 (128 + 8 * i + j))))

/-- The frame that the module sends to island i. -/
def State.downFrame (s : State) (i : Nat) (svc : List Byte) : DownFrame where
  slotB := s.slot == 1
  run := s.islRun
  duplexOff := s.bit Fld.PAIR_STAT_YIELDED
  safe := chanBits fun j => s.safeBit (8 * i + j)
  frameNo := BitVec.ofNat 16 (s.time.lin.toNat / 10000)
  triggers := s.triggers i
  out := (s.outImage i).1
  bad := (s.outImage i).2
  svc := svc

/-- ISL_DOWNSTREAM_FRAME (R250): the frame of this period starts, unless the link is in block reset; perturbation may spoil it. It stands on
the wire whole once it has ended. -/
def State.downstream (s : State) (i : Nat) : State :=
  if s.linkOpen i then
    let (svc, s) := s.serviceStream
    let f := s.downFrame i svc
    let (bad, s) := s.tpSpoil 2 i 0
    s.setIsland i { s.island i with frame := some f, frameAt := s.periodStart, spoiled := bad }
  else s.setIsland i { s.island i with frame := none }

def execIslDownstreamFrame (i : Fin 16) (s : State) : Host.Outcome State Fault Refusal := done (s.downstream i.val)

/-- A slot of an output image of port 18 (R254): OUT and BAD of the frame under way take it until 1.0 µs after the frame's start. -/
def State.setOutSlot (s : State) (k : Nat) (w : DWord) : State :=
  let s := s.setPort18 k w
  let i := (k - 128) / 8
  let x := s.island i
  match x.frame with
  | none => s
  | some f =>
    if s.time.lin.toNat ≤ x.frameAt + 1000 then
      s.setIsland i { x with frame := some { f with out := (s.outImage i).1, bad := (s.outImage i).2 } }
    else s

/-! ### The island applies a frame (R252, R254, R257, R262, R263) -/

/-- The channels of island i that a KIND 2 entry of the running survey names. -/
def State.kind2 (s : State) (i : Nat) : BitVec 8 :=
  match s.activeSurvey with
  | none => 0
  | some g => (g.triggers.filter fun e => e.island == i && e.kind == 2).foldl (fun m e => m ||| e.channels) 0

/-- Whether a command word commands a channel off: bit 0 of a DO, 0 mA of an AO. -/
def State.commandsOff (s : State) (n : Nat) (v : BitVec 32) : Bool :=
  if s.chMode n = chDO then !v.getLsbD 0 else f32Eq (aoCommand v) 0

/-- An image is applied to channel n: it acknowledges a restart (R273) and, with RETRY at 0, a command of 0 and then 1 ends a switch-off
(R267). (DEDUCED, log entry 40.) -/
def State.applyImage (s : State) (n : Nat) (v : BitVec 32) (bad safe : Bool) : State :=
  let c := { s.chan n with out := v, bad := bad, safe := safe }
  let c := if c.off ≠ 0 ∧ s.get (Fld.ISL_CH_CFG_RETRY n) = 0 ∧ s.chMode n = chDO then
      (if v.getLsbD 0 = false then { c with cmdLow := true } else if c.cmdLow = true then { c with off := 0, cmdLow := false } else c)
    else c
  let s := s.setChan n c
  if s.isOutput n ∧ s.commandsOff n v = true then s.putBit (Fld.ISL_CH_STAT_AWAIT_ACK n) false else s

/-- The image of a valid frame reaches channel n: applied now, or held for its KIND 2 instant. -/
def State.frameToChan (s : State) (i j : Nat) (f : DownFrame) (hold : Bool) : State :=
  let n := 8 * i + j
  let v := f.out.getD j 0
  if hold then s.setChan n { s.chan n with heldOut := v, heldBad := f.bad.getLsbD j, heldSafe := f.safe.getLsbD j }
  else s.applyImage n v (f.bad.getLsbD j) (f.safe.getLsbD j)

/-- A valid frame (R252, R254): its triggers act in the period that follows. Under silence ten consecutive valid frames come first, counted
after the restart where the controller restarts (R248, R257). -/
def State.validFrame (s : State) (i : Nat) (f : DownFrame) : State :=
  let x := s.island i
  let s := s.setIsland i { x with run := f.run, duplexOff := f.duplexOff, trigs := f.triggers }
  if x.restarting then s
  else if x.silent ∧ x.goodRun < 10 then s.setIsland i { s.island i with goodRun := x.goodRun + 1 }
  else
    let s := s.setIsland i { s.island i with silent := false, goodRun := 0 }
    let k2 := s.kind2 i
    (List.range 8).foldl (fun s j => s.frameToChan i j f (k2.getLsbD j)) s

/-- L of a DI (R262). -/
def State.filterLen (s : State) (n : Nat) : Nat := max 1 (s.get (Fld.ISL_CH_CFG_FILTER_LEN n))

/-- A filtered change with its edge stamp in µs (R263, R264). -/
def State.filteredChange (s : State) (n : Nat) (level : Bool) (stamp : Nat) : State :=
  let c := s.chan n
  let s := s.setChan n { c with changes := min 7 (c.changes + 1), stamp := stamp, edge := none }
  ((s.putBit (Fld.ISL_CH_STAT_FILTERED n) level).setReg (Reg.ISL_CH_EDGE n) (BitVec.ofNat 32 stamp)).bumpWrap (Fld.ISL_CH_COUNT_CHANGES n)

/-- One 10 µs sample of a DI (R262, R263): once C stands at the end of the filtered state, a new stamp is sought. `us` is its instant, and
`seen` the first 1 µs sample of the other state so far. -/
def State.sampleDi (s : State) (n : Nat) (raw : Bool) (us : Nat) (seen : Option Nat) : State :=
  let l := s.filterLen n
  let c := s.get (Fld.ISL_CH_STAT_COUNT n)
  let c := if raw then min (c + 1) l else c - 1
  let s := s.putAll [(Fld.ISL_CH_STAT_RAW n, raw.toNat), (Fld.ISL_CH_STAT_COUNT n, c)]
  let was := s.bit (Fld.ISL_CH_STAT_FILTERED n)
  if c = l ∧ was = false then s.filteredChange n true (seen.getD us)
  else if c = 0 ∧ was = true then s.filteredChange n false (seen.getD us)
  else s.setChan n { s.chan n with edge := if c = (if was then l else 0) then none else seen }

/-- The first of the ten 1 µs samples of a frame period that ends at `us` in which channel j of an island is not at level `was` (R263); sample
k, of the instant us − 9 + k, is bit 8k + j. -/
def firstEdge (samples : BitVec 80) (j us : Nat) (was : Bool) : Option Nat :=
  ((List.range 10).find? fun k => samples.getLsbD (8 * k + j) != was).map fun k => us - 9 + k

/-- The samples of a frame period (R262, R263): DI comparators, readbacks of DO. -/
def State.sampleChan (s : State) (n : Nat) (samples : BitVec 80) (readbacks : BitVec 8) (us : Nat) : State :=
  if s.chMode n = chDI then
    s.sampleDi n (samples.getLsbD (72 + n % 8)) us
      ((s.chan n).edge.or (firstEdge samples (n % 8) us (s.bit (Fld.ISL_CH_STAT_FILTERED n))))
  else if s.chMode n = chDO then s.putBit (Fld.ISL_CH_STAT_RAW n) (readbacks.getLsbD (n % 8))
  else s

/-- The frame that has ended leaves its mark on the wire; perturbation drops it or inverts its CRC (R457). -/
def State.frameSent (s : State) (i : Nat) (f : DownFrame) (spoiled : Bool) : State :=
  if !spoiled then s.emit (.island i (downBytes f))
  else if s.bit Fld.TP_ISL_ACTION then s.emit (.islandBad i (crcInverted (downBytes f)))
  else s

/-- The frame of the period reaches the island (R249, R254). -/
def State.frameReceived (s : State) (i : Nat) (noise : List Byte) : State :=
  let x := s.island i
  let s := s.setIsland i { x with frame := none, spoiled := false, trigs := [] }
  match x.frame with
  | none => s.setIsland i { s.island i with goodRun := 0 }
  | some f =>
    let s := s.frameSent i f x.spoiled
    if !x.spoiled && frameArrives noise (downBytes f) then s.validFrame i f
    else s.setIsland i { s.island i with goodRun := 0, dnBad := x.dnBad + 1 }

/-- At a frame boundary a channel whose calibration drive has ended follows the ranks again (R288). -/
def State.calDriveOver (s : State) (n : Nat) : State :=
  if s.bit (Fld.ISL_AN_STAT_CAL_DRIVE n) then s else s.setChan n { s.chan n with calRef := none }

/-- ISL_FRAME_END (R252, R254): outputs first, then samples; a changed channel takes its new mode at the boundary (R258), and the drivers of
a recovered island drive again (R273). -/
def State.frameEnd (s : State) (i : Nat) (noise : List Byte) (samples : BitVec 80) (readbacks : BitVec 8) : State :=
  let s := (List.range 8).foldl (fun s j => s.takeMode (8 * i + j)) s
  let s := s.frameReceived i noise
  let s := s.setIsland i { s.island i with resuming := false }
  let us := s.nowNs / 10000 * 10
  let s := (List.range 8).foldl (fun s j => (s.sampleChan (8 * i + j) samples readbacks us).calDriveOver (8 * i + j)) s
  s.refreshIsland i

def execIslFrameEnd (i : Fin 16) (noise : List Byte) (samples : BitVec 80) (readbacks : BitVec 8) (s : State) :
    Host.Outcome State Fault Refusal := done (s.frameEnd i.val noise samples readbacks)

/-! ### Island actions (R252) -/

/-- The trigger word of an action among those that island i has received (R252). -/
def State.heldTrigger (s : State) (i kind : Nat) (channels : BitVec 8) : Option (BitVec 32) :=
  (s.island i).trigs.find? fun w => w.toNat % 256 == channels.toNat && w.toNat / 256 % 4 == kind

/-- An island acts on a trigger word once (R252); a word that has not reached it brings nothing about. -/
def State.onTrigger (s : State) (i kind : Nat) (channels : BitVec 8) (f : State → State) : State :=
  match s.heldTrigger i kind channels with
  | none => s
  | some w => f (s.setIsland i { s.island i with trigs := (s.island i).trigs.erase w })

/-- ISL_OUTPUT_APPLY (R252, R254): a KIND 2 instant applies the held image. -/
def State.outputApply (s : State) (i : Nat) (channels : BitVec 8) : State :=
  if (s.island i).silent then s
  else
    let s := (List.range 8).foldl (fun s j =>
      let c := s.chan (8 * i + j)
      if channels.getLsbD j then s.applyImage (8 * i + j) c.heldOut c.heldBad c.heldSafe else s) s
    s.refreshIsland i

def execIslOutputApply (i : Fin 16) (channels : BitVec 8) (s : State) : Host.Outcome State Fault Refusal :=
  done (s.onTrigger i.val 2 channels fun s => s.outputApply i.val channels)

/-! ### Latches and the upstream frame (R251, R253, R256, R264, R271, R278) -/

/-- VALUE of a DI signal at a latch (R264). -/
def State.diValue (s : State) (n bits : Nat) : BitVec 32 :=
  let f := (s.bit (Fld.ISL_CH_STAT_FILTERED n)).toNat
  if bits = 24 then BitVec.ofNat 32 (f + 2 * (s.chan n).changes + 16 * min 1048575 (s.nowNs / 1000 - (s.chan n).stamp))
  else BitVec.ofNat 32 f

/-- VALUE that channel n latches; `current` is the loop current that the island measures on an AO (R281). -/
def State.latchValue (s : State) (n : Nat) (current : BitVec 32) : BitVec 32 :=
  match s.chMode n with
  | 1 => s.diValue n (match s.inputSignal n with
    | some d => d.bits
    | none => 1)
  | 2 => BitVec.ofNat 32 ((s.bit (Fld.ISL_CH_STAT_RAW n)).toNat + 2 * (s.bit (Fld.ISL_CH_STAT_DRIVER n)).toNat)
  | 4 => current
  | _ => s.getReg (Reg.ISL_AN_VALUE n)

/-- Whether the island includes channel n in LATCH_MASK: it has an input signal, and an AI a result since its last latch (R278). -/
def State.latches (s : State) (n : Nat) : Bool := (s.inputSignal n).isSome && (s.chMode n != chAI || (s.chan n).fresh)

/-- After a latch the counts of R264 and R278 begin again. -/
def State.latched (s : State) (n : Nat) : State := s.setChan n { s.chan n with changes := 0, fresh := false }

/-- The slot of a channel whose image is missing: AGE increments, and under link loss STATUS is BAD_CHANNEL_FAULT (R24, R253, R256). -/
def State.missLatch (s : State) (i n : Nat) : State :=
  let w := slotAged (s.port18 n)
  let safe := ((s.inputSignal n).map fun d => d.safeValue).getD 0
  s.setPort18 n (if (s.island i).lost then slotBad safe w Tag.BAD_CHANNEL_FAULT else w)

/-- The channels of a mask that satisfy a predicate. -/
def maskWhere (m : BitVec 8) (f : Nat → Bool) : BitVec 8 := m &&& chanBits f

/-- The island finds the front ends and drivers of `faults` at fault, and only those (R264, R271, R280). -/
def State.foundFaults (s : State) (i : Nat) (faults : BitVec 8) : State :=
  (List.range 8).foldl (fun s j => s.setChan (8 * i + j) { s.chan (8 * i + j) with hwFault := faults.getLsbD j }) s

/-- The island latches the channels of a trigger word (R253, R278). -/
def State.takeLatch (s : State) (i : Nat) (channels faults : BitVec 8) (currents : List (BitVec 32)) : State :=
  let s := (s.foundFaults i faults).refreshIsland i
  let mask := maskWhere channels fun j => s.latches (8 * i + j)
  let slots := ((List.range 8).filter fun j => mask.getLsbD j).map fun j =>
    (j, s.latchValue (8 * i + j) (currents.getD j 0), BitVec.ofNat 4 (s.get (Fld.ISL_CH_STAT_STATUS (8 * i + j))))
  let x := s.island i
  let s := s.setIsland i { x with prevLatch := x.latch, latch := ⟨x.latch.seq + 1, mask, slots, s.nowNs⟩ }
  (List.range 8).foldl (fun s j => if mask.getLsbD j then s.latched (8 * i + j) else s) s

/-- The input image slot of channel n (R18, R19, R253): ORIGIN has LEAD's slot, and class 0b110 for a simulated value. -/
def State.inputSlot (s : State) (n : Nat) (v : BitVec 32) (st : Nibble) : DWord :=
  let cls := if st = Tag.SIMULATED then 6 else 0
  match s.inputSignal n with
  | some d => typedSlot d (mkSlot v st (s.origin (s.task d.producer).t0 cls) 0 ((s.cyc d.producer).truncate 16))
  | none => mkSlot v st (s.origin s.nowNs cls) 0 0

/-- LEAD's beat with channel n has been received for the present cycle: SHADOW uses it and not its own (R227). -/
def State.leadHas (s : State) (n : Nat) : Bool := s.pair.imageBeats.any fun p => p.2 == 65536 * 18 + n / 4

/-- The awaited channels of island i: a fresh slot for those the frame carries, AGE for the rest. -/
def State.takeImage (s : State) (i : Nat) (f : Option UpFrame) : State :=
  let m := (s.island i).awaited
  let s := s.setIsland i { s.island i with awaited := 0 }
  (List.range 8).foldl (fun s j =>
    let n := 8 * i + j
    if m.getLsbD j then
      match f with
      | some f =>
        if f.latchMask.getLsbD j then
          let v := f.values.getD j 0
          let st : Nibble := f.statuses.extractLsb' (4 * j) 4
          let s := if s.chMode n = chAO then s.setReg (Reg.ISL_AN_VALUE n) v else s
          if s.leadHas n then s else s.setPort18 n (s.inputSlot n v st)
        else if s.leadHas n then s else s.missLatch i n
      | none => if s.leadHas n then s else s.missLatch i n
    else s) s

/-- Whether the running survey latches these channels of island i together (R102). -/
def State.surveyLatches (s : State) (i : Nat) (channels : BitVec 8) : Bool :=
  match s.activeSurvey with
  | none => false
  | some g => g.triggers.any fun e => e.island == i && e.kind == 0 && e.channels == channels

/-- The period after the one whose frame carries a latch at `ns` starts (R253): that frame has come, or never will. -/
def frameOver (ns now : Nat) : Bool := decide ((ns + 9999) / 10000 < now / 10000)

/-- The module awaits the image of a latch instant; under link loss the channels have it missing at once (R253, R256). -/
def State.awaitImage (s : State) (i : Nat) (channels : BitVec 8) : State :=
  let s := if frameOver (s.island i).awaitedAt s.nowNs then s.takeImage i none else s
  let inputs := maskWhere channels fun j => (s.inputSignal (8 * i + j)).isSome
  let x := s.island i
  if x.lost then (List.range 8).foldl (fun s j => if inputs.getLsbD j && !s.leadHas (8 * i + j) then s.missLatch i (8 * i + j) else s) s
  else s.setIsland i { x with awaited := x.awaited ||| inputs, awaitedAt := s.nowNs }

/-- ISL_INPUT_LATCH (R252, R253): the island latches at the trigger word it holds, unless its controller restarts; the module awaits the
image of every latch of the survey. -/
def State.inputLatch (s : State) (i : Nat) (channels faults : BitVec 8) (currents : List (BitVec 32)) : State :=
  if s.surveyLatches i channels then
    (s.onTrigger i 0 channels fun s =>
      if (s.island i).restarting then s else s.takeLatch i channels faults currents).awaitImage i channels
  else s

/-- The image that a frame of the present period carries: the latest latch at or before the period's boundary (R253). -/
def State.latchSent (s : State) (i : Nat) : LatchImage :=
  let x := s.island i
  if x.latch.takenAt ≤ s.nowNs / 10000 * 10000 then x.latch else x.prevLatch

/-- The frame that island i sends (R251); `volts` is the field supply voltage that it measures, in units of 10 mV. -/
def State.upFrame (s : State) (i : Nat) (volts : BitVec 16) (svc : List Byte) : UpFrame :=
  let x := s.island i
  let l := s.latchSent i
  let slot (j : Nat) : BitVec 32 × Nibble := ((l.slots.find? fun p => p.1 == j).map fun p => p.2).getD (0, 0)
  { supplyState := BitVec.ofNat 2 x.supply
    ctrlRestart := x.restarted
    trimsApplied := s.bit (Fld.ISL_STAT_TRIMS_OK i)
    latchMask := l.mask
    frameNo := BitVec.ofNat 16 (s.time.lin.toNat / 10000)
    latchSeq := l.seq
    dnBad := x.dnBad
    values := (List.range 8).map fun j => (slot j).1
    statuses := BitVec.ofNat 32 (((List.range 8).map fun j => (slot j).2.toNat * 16 ^ j).sum)
    supply := volts
    svc := svc }

/-- Island i is in the restart of an update, which raises neither ISL_CTRL_FAIL nor ISL_LINK_LOST (R451). -/
def State.plannedRestart (s : State) (i : Nat) : Bool :=
  s.get Fld.UPD_ISL_STAT_PHASE == 3 && match s.upd.island with
    | some (k, _) => k == i
    | none => false

/-- The controller has restarted and reports it in its first frame (R248): the outputs return as after silence (R257). -/
def State.ctrlRestart (s : State) (i : Nat) : State :=
  if (s.island i).restarting then
    let planned := s.plannedRestart i
    let s := s.setIsland i { s.island i with restarting := false, restarted := true, silent := true, goodRun := 0 }
    let s := s.putAll [(Fld.ISL_STAT_CTRL_OK i, 1), (Fld.ISL_EVENT_CTRL_RESTART i, 1)]
    if planned then s else s.raise Src.ISL_CTRL_FAIL i 0
  else s

/-- ISL_CTRL_RESTART (R248). -/
def execIslCtrlRestart (i : Fin 16) (s : State) : Host.Outcome State Fault Refusal := done (s.ctrlRestart i.val)

/-- A valid frame counts towards link up (R256). -/
def State.linkGood (s : State) (i : Nat) : State :=
  if s.bit (Fld.ISL_STAT_LINK_UP i) then s
  else
    let n := (s.island i).upGood + 1
    if n < 10 then s.setIsland i { s.island i with upGood := n }
    else
      let s := s.setIsland i { s.island i with upGood := 0, lost := false }
      (s.putBit (Fld.ISL_STAT_LINK_UP i) true).fall Src.ISL_LINK_LOST i 0

/-- What a valid upstream frame reports of the island (R251). -/
def State.islReport (s : State) (i : Nat) (f : UpFrame) : State :=
  let s := s.putAll [(Fld.ISL_STAT_SUPPLY i, f.supplyState.toNat), (Fld.ISL_STAT_SUPPLY_V i, f.supply.toNat),
    (Fld.ISL_STAT_TRIMS_OK i, f.trimsApplied.toNat), (Fld.ISL_STAT_CTRL_OK i, 1), (Fld.ISL_LINK_ERR_DN_BAD i, f.dnBad.toNat)]
  s.setIsland i { s.island i with restarted := false }

/-- A discarded upstream frame (R249, R253, R256). -/
def State.upBad (s : State) (i : Nat) : State :=
  let s := s.bumpWrap (Fld.ISL_LINK_ERR_UP_BAD i)
  (s.setIsland i { s.island i with upGood := 0 }).takeImage i none

/-! ### Updates of island firmware (R450, R451) -/

/-- An outcome: phase 4 or 5 and the ISLAND_UPDATE record. The manual gives the result no codes. (DESIGN CHOICE, log entry 29.) -/
def State.islUpdateEnd (s : State) (i phase : Nat) (old new : BitVec 32) : State :=
  let (result, s) := s.freeByte
  let s := s.putAll [(Fld.UPD_ISL_STAT_PHASE, phase), (Fld.UPD_STAT_ISL_BUSY, 0)]
  let s := { s with upd := { s.upd with island := none } }
  s.record 0x94 i [(1, result), (4, old.toNat), (4, new.toNat)]

/-- VERSION of the staged capsule. -/
def State.stagedVersion (s : State) : BitVec 32 :=
  match s.upd.staged with
  | some c => BitVec.ofNat 32 (capsuleVersion c)
  | none => 0

/-- SECVER of the staged capsule's island image. -/
def State.stagedSecver (s : State) : Nat :=
  match s.upd.staged.bind fun c => c.images.find? fun i => i.component == 3 with
  | some i => i.secver
  | none => 0

/-- KiB of the staged island image, as DONE_KB counts them (R451). -/
def State.stagedKb (s : State) : Nat :=
  match s.upd.staged.bind fun c => c.images.find? fun i => i.component == 3 with
  | some i => i.length / 1024
  | none => 0

/-- Once all sixteen islands report the new version, the security counter advances and staging becomes EMPTY. (DEDUCED, log entry 42.) -/
def State.islandsAllDone (s : State) : State :=
  if (List.range 16).all fun i => s.upd.islandsDone.contains i then
    let s := (s.advanceCounter 3 s.stagedSecver).stagingEmpty
    { s with upd := { s.upd with islandsDone := [] } }
  else s

/-- UPD_COMP_VER of island firmware: the lowest version an island has reported (R437, UPD_COMP_VER). (DEDUCED, log entry 42.) -/
def State.showIslandVer (s : State) : State :=
  let vs := ((List.range 16).map fun i => s.get (Fld.UPD_ISL_VER_VERSION i)).filter fun v => v != 0
  s.put (Fld.UPD_COMP_VER_VERSION 2) (vs.min?.getD 0)

/-- An island reports VERSION and bank (R451). (DEDUCED, log entry 42.) -/
def State.islVersion (s : State) (i : Nat) (r : Option (Nat × Bool)) : State :=
  match r with
  | none => s
  | some (ver, bank) =>
    let planned := s.plannedRestart i
    let new := s.stagedVersion
    let old := match s.upd.island with
      | some (_, v) => v
      | none => 0
    let s := (s.setReg (Reg.UPD_ISL_VER i) (BitVec.ofNat 32 ver)).putBit ⟨Reg.UPD_ISL_BANK, i, 1⟩ bank
    let s := s.showIslandVer
    if planned ∧ BitVec.ofNat 32 ver = new then
      let s := s.islUpdateEnd i 4 old new
      ({ s with upd := { s.upd with islandsDone := s.upd.islandsDone.filter (fun k => k != i) ++ [i] } } : State).islandsAllDone
    else s

/-- ISL_UPSTREAM_FRAME (R251, R253): none comes while the controller restarts (R248). -/
def State.upstream (s : State) (i : Nat) (noise : List Byte) (volts : BitVec 16) (report : Option (Nat × Bool)) : State :=
  if s.linkOpen i && !(s.island i).restarting then
    let (svc, s) := s.serviceStream
    let (bad, s) := s.tpSpoil 2 i 1
    let f := s.upFrame i volts svc
    if !bad && frameArrives noise (upBytes f) then (((s.islReport i f).takeImage i (some f)).linkGood i).islVersion i report
    else s.upBad i
  else s

/-! ### Link loss, silence, watchdog (R248, R256, R257) -/

/-- ISL_LINK_LOST (R256). -/
def State.linkLost (s : State) (i : Nat) : State :=
  if (s.island i).lost then s
  else
    let s := s.takeImage i none
    let s := s.setIsland i { s.island i with lost := true, upGood := 0 }
    let planned := s.plannedRestart i
    let s := s.putAll [(Fld.ISL_STAT_LINK_UP i, 0), (Fld.ISL_EVENT_LINK_LOST i, 1)]
    let s := if planned then s else (s.rise Src.ISL_LINK_LOST i 0).record 0x50 i []
    s.refreshIsland i

def execIslLinkLost (i : Fin 16) (s : State) : Host.Outcome State Fault Refusal := done (s.linkLost i.val)

/-- Safe states until ten valid frames have come (R257). -/
def State.islSilent (s : State) (i : Nat) : State := (s.setIsland i { s.island i with silent := true, goodRun := 0 }).refreshIsland i

/-- ISL_LINK_SILENCE (R257). -/
def execIslLinkSilence (i : Fin 16) (s : State) : Host.Outcome State Fault Refusal :=
  done ((s.islSilent i.val).putBit (Fld.ISL_EVENT_SILENCE i.val) true)

/-- ISL_WATCHDOG_EXPIRY (R248). -/
def execIslWatchdogExpiry (i : Fin 16) (s : State) : Host.Outcome State Fault Refusal :=
  let s := s.setIsland i.val { s.island i.val with restarting := true }
  done ((s.islSilent i.val).putBit (Fld.ISL_STAT_CTRL_OK i.val) false)

/-- Whether a request for island i is accepted (R450). -/
def State.islUpdateOk (s : State) (i : Nat) : Bool :=
  s.get Fld.UPD_STAT_STAGE == 3 && s.get Fld.UPD_STAT_STAGED_COMP == 3 && !s.bit Fld.UPD_STAT_ISL_BUSY
    && s.bit (Fld.ISL_STAT_LINK_UP i) && decide ((s.island i).supply < 2)
    && (s.mode == .hold || ((s.mode == .run || s.mode == .service) && s.role == .shadow))

/-- A write to UPD_ISL_CMD (R450). -/
def State.updIslCmdWrite (s : State) (v : Word) : State :=
  let s := s.regStore Reg.UPD_ISL_CMD v
  if Fld.UPD_ISL_CMD_GO.on v ∧ Fld.UPD_ISL_CMD_KEY.ext v = 0x4953 then
    let i := Fld.UPD_ISL_CMD_ISLAND.ext v
    if s.islUpdateOk i then
      let s := s.putAll [(Fld.UPD_ISL_STAT_ISLAND, i), (Fld.UPD_ISL_STAT_PHASE, 1), (Fld.UPD_ISL_STAT_DONE_KB, 0), (Fld.UPD_STAT_ISL_BUSY, 1)]
      { s with upd := { s.upd with island := some (i, s.getReg (Reg.UPD_ISL_VER i)) } }
    else (s.putBit Fld.UPD_ISL_CMD_REFUSED true).raise Src.UPD_REFUSED i 0
  else s

/-- ISLAND_UPDATE_GO (R450). -/
def execIslandUpdateGo (v : Word) (s : State) : Host.Outcome State Fault Refusal := done (s.gated 48 fun s => s.updIslCmdWrite v)

/-- The island restarts into its new bank (R451): safe states until ten valid frames have come. -/
def State.islandRestart (s : State) : State :=
  match s.upd.island with
  | some (i, _) =>
    if s.get Fld.UPD_ISL_STAT_PHASE = 2 then
      let s := s.put Fld.UPD_ISL_STAT_PHASE 3
      (s.setIsland i { s.island i with restarting := true }).islSilent i
    else s
  | none => s

/-- ISLAND_IMAGE_TRANSFERRED (R451): the restart waits for the fastest task's next EMIT while the sequencer runs.
(DEDUCED, log entry 42.) -/
def State.islandTransferred (s : State) (ok : Bool) : State :=
  match s.upd.island with
  | some (i, old) =>
    if s.get Fld.UPD_ISL_STAT_PHASE ≠ 1 then s
    else if ok then
      let s := s.putAll [(Fld.UPD_ISL_STAT_PHASE, 2), (Fld.UPD_ISL_STAT_DONE_KB, s.stagedKb)]
      if s.bit Fld.SEQ_STAT_RUNNING then s else s.islandRestart
    else s.islUpdateEnd i 5 old s.stagedVersion
  | none => s

def execIslandImageTransferred (ok : Bool) (s : State) : Host.Outcome State Fault Refusal := done (s.islandTransferred ok)

/-- ISLAND_UPDATE_TIMEOUT (R451): the island is back on its old bank. -/
def State.islandTimeout (s : State) : State :=
  match s.upd.island with
  | some (i, old) =>
    if s.get Fld.UPD_ISL_STAT_PHASE = 3 then (s.islUpdateEnd i 5 old s.stagedVersion).raise Src.UPD_ISLAND_FAIL i 0 else s
  | none => s

def execIslandUpdateTimeout (s : State) : Host.Outcome State Fault Refusal := done s.islandTimeout

/-! ### Digital outputs (R267 to R270) -/

/-- A driver switches off for a short (1) or a shed (2). (DEDUCED, log entry 40.) -/
def State.doSwitchOff (s : State) (n why : Nat) : State :=
  let c := s.chan n
  let s := s.setChan n { c with off := why, cmdLow := false, short := c.short || why == 1, shed := c.shed || why == 2 }
  (s.bump (Fld.ISL_CH_COUNT_TRIPS n)).refreshChan n

/-- DO_CURRENT_LIMIT (R267): the driver limits; a retry that does so within its first 1 ms switches off again at once. -/
def execDoCurrentLimit (n : Fin 128) (s : State) : Host.Outcome State Fault Refusal :=
  let c := s.chan n.val
  if s.chMode n.val = chDO ∧ s.bit (Fld.ISL_CH_STAT_DRIVER n.val) = true then
    if c.short ∨ c.shed then done (s.doSwitchOff n.val 1) else done (s.putBit (Fld.ISL_CH_STAT_LIMIT n.val) true)
  else done s

/-- DO_SHORT_TRIP (R267). -/
def execDoShortTrip (n : Fin 128) (s : State) : Host.Outcome State Fault Refusal :=
  if s.chMode n.val = chDO ∧ s.bit (Fld.ISL_CH_STAT_DRIVER n.val) = true ∧ s.bit (Fld.ISL_CH_STAT_LIMIT n.val) = true then
    done (s.doSwitchOff n.val 1) else done s

/-- DO_RETRY (R267, R268). -/
def execDoRetry (n : Fin 128) (s : State) : Host.Outcome State Fault Refusal :=
  if (s.chan n.val).off ≠ 0 ∧ s.get (Fld.ISL_CH_CFG_RETRY n.val) ≠ 0 then
    done ((s.setChan n.val { s.chan n.val with off := 0 }).refreshChan n.val) else done s

/-- ISL_STAT.GROUP_SHED follows the channels (R268). -/
def State.showShed (s : State) (i : Nat) : State :=
  s.putBit (Fld.ISL_STAT_GROUP_SHED i) ((List.range 8).any fun j => (s.chan (8 * i + j)).shed)

/-- DO_RETRY_GOOD (R267): a retry has run for 1 ms without reaching the limit. -/
def execDoRetryGood (n : Fin 128) (s : State) : Host.Outcome State Fault Refusal :=
  let n := n.val
  if (s.chan n).off = 0 ∧ s.bit (Fld.ISL_CH_STAT_DRIVER n) = true then
    done (((s.setChan n { s.chan n with short := false, shed := false }).showShed (n / 8)).refreshChan n) else done s

/-- GROUP_SHED (R268): the highest-numbered channel that is on. -/
def State.groupShed (s : State) (i : Nat) : State :=
  match (List.range 8).reverse.find? fun j => s.chMode (8 * i + j) == chDO && s.bit (Fld.ISL_CH_STAT_DRIVER (8 * i + j)) with
  | none => s
  | some j =>
    let s := ((s.doSwitchOff (8 * i + j) 2).showShed i).putBit (Fld.ISL_EVENT_GROUP_SHED i) true
    s.raise Src.ISL_GROUP_SHED i j

def execGroupShed (i : Fin 16) (s : State) : Host.Outcome State Fault Refusal := done (s.groupShed i.val)

/-- OPEN_LOAD_DETECT (R269): with OPEN_DET on a simplex DO. -/
def execOpenLoadDetect (n : Fin 128) (s : State) : Host.Outcome State Fault Refusal :=
  let n := n.val
  if s.chMode n = chDO ∧ s.bit (Fld.ISL_CH_CFG_OPEN_DET n) = true ∧ s.duplex n = false then
    done ((s.setChan n { s.chan n with openLoad := true }).refreshChan n) else done s

/-- OPEN_LOAD_CLEAR (R269). -/
def execOpenLoadClear (n : Fin 128) (s : State) : Host.Outcome State Fault Refusal :=
  done ((s.setChan n.val { s.chan n.val with openLoad := false }).refreshChan n.val)

/-- EXTERNAL_DRIVE_DETECT (R270): the driver off; masked while the partner commands a duplex channel on. -/
def execExternalDriveDetect (n : Fin 128) (s : State) : Host.Outcome State Fault Refusal :=
  let n := n.val
  if s.chMode n = chDO ∧ s.bit (Fld.ISL_CH_STAT_DRIVER n) = false ∧ (s.chan n).extDrive = false then
    if s.driveMasked n then done (s.putBit (Fld.ISL_CH_STAT_MASKED n) true)
    else done (((s.setChan n { s.chan n with extDrive := true }).bump (Fld.ISL_CH_COUNT_EXT_DRIVE n)).refreshChan n)
  else done s

/-- EXTERNAL_DRIVE_CLEAR (R270): the readback low for 1 ms with the driver off. -/
def execExternalDriveClear (n : Fin 128) (s : State) : Host.Outcome State Fault Refusal :=
  done ((s.setChan n.val { s.chan n.val with extDrive := false }).refreshChan n.val)

/-! ### Field supply (R272, R273). Voltages in units of 10 mV. -/

/-- The island finds a supply state and voltage. (DEDUCED, log entry 39.) -/
def State.setSupply (s : State) (i st volts : Nat) : State :=
  (s.setIsland i { s.island i with supply := st }).putAll [(Fld.ISL_STAT_SUPPLY i, st), (Fld.ISL_STAT_SUPPLY_V i, volts)]

/-- The supply enters WARN. (DEDUCED, log entry 39.) -/
def State.supplyWarns (s : State) (i : Nat) : State := (s.putBit (Fld.ISL_EVENT_WARN i) true).rise Src.ISL_SUPPLY_WARN i 0

/-- SUPPLY_WARN. -/
def execSupplyWarn (i : Fin 16) (volts : Nat) (s : State) : Host.Outcome State Fault Refusal :=
  if (s.island i.val).supply = 0 then done ((s.setSupply i.val 1 volts).supplyWarns i.val) else done s

/-- SUPPLY_WARN_END. -/
def execSupplyWarnEnd (i : Fin 16) (volts : Nat) (s : State) : Host.Outcome State Fault Refusal :=
  if (s.island i.val).supply = 1 then done ((s.setSupply i.val 0 volts).fall Src.ISL_SUPPLY_WARN i.val 0) else done s

/-- A lockout ends every switch-off and its retry (R267). -/
def State.clearTrips (s : State) (i : Nat) : State :=
  (List.range 8).foldl (fun s j =>
    s.setChan (8 * i + j) { s.chan (8 * i + j) with off := 0, cmdLow := false, short := false, shed := false }) s

/-- The supply enters LOCKOUT. (DEDUCED, log entry 39.) -/
def State.lockout (s : State) (i volts : Nat) : State :=
  let s := s.setSupply i 2 volts
  let s := s.setIsland i { s.island i with resuming := false }
  let s := (s.putBit (Fld.ISL_EVENT_LOCKOUT i) true).bump (Fld.ISL_EVENT_LOCKOUTS i)
  ((s.clearTrips i).showShed i).refreshIsland i

/-- SUPPLY_LOCKOUT. -/
def execSupplyLockout (i : Fin 16) (volts : Nat) (s : State) : Host.Outcome State Fault Refusal :=
  if (s.island i.val).supply < 2 then
    let s := (s.lockout i.val volts).fall Src.ISL_SUPPLY_WARN i.val 0
    done ((s.rise Src.ISL_SUPPLY_LOCKOUT i.val 0).record 0x51 i.val [(2, volts)])
  else done s

/-- SUPPLY_RECOVERING. (DEDUCED, log entry 39.) -/
def execSupplyRecovering (i : Fin 16) (volts : Nat) (s : State) : Host.Outcome State Fault Refusal :=
  if (s.island i.val).supply = 2 then done (s.setSupply i.val 3 volts) else done s

/-- SUPPLY_RECOVER_FALL. -/
def execSupplyRecoverFall (i : Fin 16) (volts : Nat) (s : State) : Host.Outcome State Fault Refusal :=
  if (s.island i.val).supply = 3 then done (s.lockout i.val volts) else done s

/-- Outputs with RESTART ACK await acknowledgement (R273). -/
def State.awaitAck (s : State) (i : Nat) : State :=
  (List.range 8).foldl (fun s j =>
    if s.isOutput (8 * i + j) ∧ s.bit (Fld.ISL_CH_CFG_RESTART (8 * i + j)) then s.putBit (Fld.ISL_CH_STAT_AWAIT_ACK (8 * i + j)) true
    else s) s

/-- SUPPLY_RECOVERED: inputs report at once, outputs follow their ranks from the next frame boundary (R273). (DEDUCED, log entry 39.) -/
def execSupplyRecovered (i : Fin 16) (volts : Nat) (s : State) : Host.Outcome State Fault Refusal :=
  if (s.island i.val).supply = 3 then
    let s := (s.setSupply i.val (if volts < 1920 then 1 else 0) volts).fall Src.ISL_SUPPLY_LOCKOUT i.val 0
    let s := s.setIsland i.val { s.island i.val with resuming := true }
    let s := if volts < 1920 then s.supplyWarns i.val else s
    done ((s.awaitAck i.val).refreshIsland i.val)
  else done s

/-- What a block reset of island link i leaves of the module's end (R255). -/
def State.islandLinkReset (s : State) (i : Nat) : State :=
  s.setIsland i { s.island i with frame := none, upGood := 0, awaited := 0 }

end Sys2Proof.Machine
end

