-- ==== Sys2Proof/Machine/Analog.lean ====
section
/-! DEFINITION. Analogue channels (11): the limiter, conversions, output supervision and sharing, calibration. -/
namespace Sys2Proof.Machine

/-! ### Inputs (R275 to R279) -/

/-- LIMITER_LIMIT (R275): the limiter of a simplex AI. -/
def execLimiterLimit (n : Fin 128) (s : State) : Host.Outcome State Fault Refusal :=
  let n := n.val
  if s.chMode n = chAI ∧ s.duplex n = false ∧ s.get (Fld.ISL_AN_STAT_LIMITER n) = 0 then done (s.put (Fld.ISL_AN_STAT_LIMITER n) 1) else done s

/-- AI_FOLDBACK (R275). -/
def State.foldback (s : State) (n : Nat) : State :=
  if s.get (Fld.ISL_AN_STAT_LIMITER n) = 1 then
    let s := (s.put (Fld.ISL_AN_STAT_LIMITER n) 2).bump (Fld.ISL_AN_STAT_FOLDBACKS n)
    ((s.rise Src.ISL_AI_FOLDBACK (n / 8) (n % 8)).record 0x52 n []).refreshChan n
  else s

def execAiFoldback (n : Fin 128) (s : State) : Host.Outcome State Fault Refusal := done (s.foldback n.val)

/-- LIMITER_RELEASE (R275). -/
def execLimiterRelease (n : Fin 128) (s : State) : Host.Outcome State Fault Refusal :=
  let n := n.val
  if s.get (Fld.ISL_AN_STAT_LIMITER n) = 2 then
    done (((s.put (Fld.ISL_AN_STAT_LIMITER n) 0).fall Src.ISL_AI_FOLDBACK (n / 8) (n % 8)).refreshChan n) else done s

/-- Whether the running survey starts conversions of channel n by KIND 1 entries (R277). -/
def State.triggered (s : State) (n : Nat) : Bool :=
  match s.activeSurvey with
  | none => false
  | some g => g.triggers.any fun e => e.island == n / 8 && e.kind == 1 && e.channels.getLsbD (n % 8)

/-- The window W of a conversion in µs (R276); RATE 0x7 acts as 0x3. -/
def convWindow (rate : Nat) : Nat :=
  match rate with
  | 0 => 120
  | 1 => 245
  | 2 => 495
  | 4 => 4000
  | 5 => 20000
  | 6 => 60000
  | _ => 995

/-- W + `extra` µs have passed since the latest conversion of channel n started; so they have where none has. -/
def State.convPast (s : State) (n extra : Nat) : Bool :=
  match (s.chan n).conv with
  | none => true
  | some (t, w) => decide (t + (w + extra) * 1000 ≤ s.time.lin.toNat)

/-- A conversion of channel n starts, with the window of its RATE (R276, R277). -/
def State.convStart (s : State) (n : Nat) : State :=
  (s.setChan n { s.chan n with conv := some (s.time.lin.toNat, convWindow (s.get (Fld.ISL_AN_CFG_RATE n))) }).putBit
    (Fld.ISL_AN_STAT_CONV_BUSY n) true

/-- A trigger reaches an AI channel (R277): a conversion starts, or the trigger is discarded as an overlap. -/
def State.convTrigger (s : State) (n : Nat) : State :=
  if s.chMode n ≠ chAI then s
  else if s.bit (Fld.ISL_AN_STAT_CONV_BUSY n) then
    (s.bump (Fld.ISL_AN_STAT_OVERLAPS n)).raise Src.ISL_AI_OVERLAP (n / 8) (n % 8)
  else s.convStart n

/-- AI_CONVERSION_START (R252, R277). -/
def execAiConversionStart (i : Fin 16) (channels : BitVec 8) (s : State) : Host.Outcome State Fault Refusal :=
  done (s.onTrigger i.val 1 channels fun s =>
    (List.range 8).foldl (fun s j => if channels.getLsbD j then s.convTrigger (8 * i.val + j) else s) s)

/-- AI_CONTINUOUS_START (R276, R277): a channel without triggers starts a conversion W + 5 µs after the one before. -/
def execAiContinuousStart (n : Fin 128) (s : State) : Host.Outcome State Fault Refusal :=
  if s.chMode n.val = chAI ∧ s.triggered n.val = false ∧ s.convPast n.val 5 = true then done (s.convStart n.val) else done s

/-- A finite binary32 in units of 2^-149, exactly. -/
def f32Units (v : BitVec 32) : Int :=
  match f32Read v with
  | .fin neg m e => (if neg then -1 else 1) * ((m * 2 ^ (e + 149).toNat : Nat) : Int)
  | _ => 0

/-- A reading of an averaging second (R287): r enters the sum, I the spread, and its STATUS is noted. -/
def CalAverage.take (a : CalAverage) (r i : BitVec 32) (st : Nibble) : CalAverage :=
  let v := f32Units i
  { a with
    count := a.count + 1
    sum := a.sum + f32Units r
    low := if a.count = 0 then v else min a.low v
    top := if a.count = 0 then v else max a.top v
    bad := a.bad || tagBad st }

/-- The calibration that averages channel n takes a reading. -/
def State.averageTakes (s : State) (n : Nat) (r : BitVec 32) : State :=
  match s.cal.averaging with
  | none => s
  | some a =>
    if a.channel = n then { s with cal := { s.cal with averaging := some (a.take r (s.getReg (Reg.ISL_AN_VALUE n)) (s.chanStatus n)) } } else s

/-- AI_CONVERSION_DONE (R276, R278, R279), at the earliest W + 1 µs after the start: `r` is the result corrected by the factory trims. Below 30 mA the limiter is transparent
(R275). -/
def State.convDone (s : State) (n : Nat) (r : BitVec 32) : State :=
  if s.chMode n = chAI ∧ s.bit (Fld.ISL_AN_STAT_CONV_BUSY n) = true ∧ s.convPast n 1 = true then
    let i := s.aiReading n r
    let s := (s.setReg (Reg.ISL_AN_VALUE n) i).putBit (Fld.ISL_AN_STAT_CONV_BUSY n) false
    let s := s.setChan n { s.chan n with fresh := true }
    let s := if s.get (Fld.ISL_AN_STAT_LIMITER n) = 1 ∧ f32Lt i 0x41F00000 = true then s.put (Fld.ISL_AN_STAT_LIMITER n) 0 else s
    (s.refreshChan n).averageTakes n r
  else s

def execAiConversionDone (n : Fin 128) (r : BitVec 32) (s : State) : Host.Outcome State Fault Refusal := done (s.convDone n.val r)

/-! ### Outputs (R283, R284) -/

/-- AO_SUPERVISION (R283). -/
def State.aoSupervise (s : State) (n : Nat) (obs : AoObservation) : State :=
  if s.chMode n ≠ chAO then s
  else
    let st := aoStatus (aoCommand (s.chan n).out) obs
    let entry := st == Tag.BAD_EXTERNAL_DRIVE && (s.chan n).ao != Tag.BAD_EXTERNAL_DRIVE
    let s := s.setChan n { s.chan n with ao := st }
    let s := s.putBit (Fld.ISL_AN_STAT_AT_LIMIT n) obs.atLimit
    let s := if entry then s.bump (Fld.ISL_CH_COUNT_EXT_DRIVE n) else s
    s.refreshChan n

def execAoSupervision (n : Fin 128) (obs : AoObservation) (s : State) : Host.Outcome State Fault Refusal :=
  done (s.aoSupervise n.val obs)

/-- AO_STEP_UP (R284): SHARING to FULL, unless the ranks drive the channel OFF or with 0 mA. -/
def State.stepUp (s : State) (n : Nat) : State :=
  if s.chMode n = chAO ∧ s.duplex n = true ∧ s.bit (Fld.ISL_AN_STAT_STEP_UP n) = false ∧ f32Eq (s.aoCurrent n) 0 = false then
    let s := (s.putBit (Fld.ISL_AN_STAT_STEP_UP n) true).bump (Fld.ISL_AN_STAT_STEP_UPS n)
    (s.rise Src.ISL_AO_STEP_UP (n / 8) (n % 8)).refreshChan n
  else s

def execAoStepUp (n : Fin 128) (s : State) : Host.Outcome State Fault Refusal := done (s.stepUp n.val)

/-- AO_STEP_DOWN (R284). -/
def execAoStepDown (n : Fin 128) (s : State) : Host.Outcome State Fault Refusal :=
  let n := n.val
  if s.bit (Fld.ISL_AN_STAT_STEP_UP n) then
    done (((s.putBit (Fld.ISL_AN_STAT_STEP_UP n) false).fall Src.ISL_AO_STEP_UP (n / 8) (n % 8)).refreshChan n) else done s

/-! ### Calibration (R287 to R290) -/

/-- ISL_CAL_STAT.BUSY: averaging, trims waiting for their cycle, or a store write outstanding. (DEDUCED, log entry 38.) -/
def State.showCalBusy (s : State) : State :=
  s.putBit Fld.ISL_CAL_STAT_BUSY (s.cal.averaging.isSome || !s.cal.trims.isEmpty || !s.cal.trimStore.isEmpty)

/-- A calibration command has finished with a RESULT (R287). -/
def State.calResult (s : State) (code : Nat) : State := s.putAll [(Fld.ISL_CAL_STAT_DONE, 1), (Fld.ISL_CAL_STAT_RESULT, code)]

/-- L or H lies in its range (R287). -/
def refInRange (high : Bool) (x : BitVec 32) : Bool :=
  if high then f32Le 0x41800000 x && f32Le x 0x41B00000 else f32Le 0x40000000 x && f32Le x 0x40C00000

/-- A trim load is under way (R85): LOAD has not applied the trims. -/
def State.trimLoading (s : State) : Bool := s.mode == .load && decide (s.load.step < 7)

/-- The trims of one point (R287): ZERO, SPAN and LOW_REF from the reading r. (DESIGN CHOICE, log entry 37.) -/
def calTrims (high : Bool) (ref r zero span lowRef : BitVec 32) : BitVec 32 × BitVec 32 × BitVec 32 :=
  let sub (a b : BitVec 32) : BitVec 32 := (f32Add a (f32Neg b)).1
  if high then
    let rl := (f32Div (sub lowRef zero) span).1
    let sp := (f32Div (sub ref lowRef) (sub r rl)).1
    (sub lowRef (f32Mul sp rl).1, sp, lowRef)
  else (sub ref (f32Mul span r).1, span, ref)

/-- Trims are accepted (R289): cycle E, the record, the store write. (DEDUCED, log entry 38.) -/
def State.calAccept (s : State) (n : Nat) (high : Bool) (ref zero span lowRef : BitVec 32) : State :=
  let e := s.effective
  let oz := s.getReg (Reg.ISL_AN_ZERO n)
  let os := s.getReg (Reg.ISL_AN_SPAN n)
  let s := { s with cal := { s.cal with trims := s.cal.trims ++ [(e, n, zero, span, lowRef)], trimStore := s.cal.trimStore ++ [n] } }
  let s := (s.setReg Reg.ISL_CAL_EFFECT e).record 0x53 n
    [(1, high.toNat), (4, ref.toNat), (4, oz.toNat), (4, zero.toNat), (4, os.toNat), (4, span.toNat)]
  (s.calResult 0).showCalBusy

/-- The point computed from the reading r: accepted, or refused with RANGE (R287). -/
def State.calCompute (s : State) (n : Nat) (high : Bool) (ref r : BitVec 32) : State :=
  let t := calTrims high ref r (s.getReg (Reg.ISL_AN_ZERO n)) (s.getReg (Reg.ISL_AN_SPAN n)) (s.chan n).lowRef
  if trimsInRange t.1 t.2.1 then s.calAccept n high ref t.1 t.2.1 t.2.2 else (s.calResult 5).showCalBusy

/-- Why a point is refused at once, 0 when it is not (R287). -/
def State.calRefusal (s : State) (n : Nat) (high : Bool) (ref : BitVec 32) : Nat :=
  if s.mode ≠ .service ∨ (s.chMode n ≠ chAI ∧ s.chMode n ≠ chAO) then 1
  else if s.trimLoading || s.bit Fld.ISL_CAL_STAT_BUSY then 2
  else if !refInRange high ref then 7
  else 0

/-- Take a point of channel n (R287): an AI averages for 1 s, an AO uses MEAS. -/
def State.calTakeAt (s : State) (n : Nat) (high : Bool) (ref : BitVec 32) : State :=
  let code := s.calRefusal n high ref
  if code ≠ 0 then s.calResult code
  else if s.chMode n = chAI then ({ s with cal := { s.cal with averaging := some ⟨n, high, ref, 0, 0, 0, 0, false⟩ } } : State).showCalBusy
  else s.calCompute n high ref (s.getReg Reg.ISL_CAL_MEAS)

/-- The channel that ISL_CAL_SEL selects. -/
def State.calChannel (s : State) : Nat := s.get Fld.ISL_CAL_SEL_CHANNEL

/-- DRIVE_ON (R287, R288): an AO in SERVICE, at the reference that stands then; on a duplex AO only while the Lifeline is DOWN. (DEDUCED, log entry 38.) -/
def State.calDriveOn (s : State) : State :=
  let n := s.calChannel
  if s.mode ≠ .service ∨ s.chMode n ≠ chAO then s.calResult 1
  else if s.trimLoading || s.bit Fld.ISL_CAL_STAT_BUSY then s.calResult 2
  else if s.duplex n && s.ll != .down then s.calResult 6
  else if !refInRange (s.bit Fld.ISL_CAL_SEL_POINT) (s.getReg Reg.ISL_CAL_REF) then s.calResult 7
  else
    let s := s.setChan n { s.chan n with calRef := some (s.getReg Reg.ISL_CAL_REF) }
    ((s.putBit (Fld.ISL_AN_STAT_CAL_DRIVE n) true).refreshChan n).calResult 0

/-- Calibration drive of channel n ends (R288): the current follows the ranks again from the next frame. -/
def State.calDriveOff (s : State) (n : Nat) : State :=
  if s.bit (Fld.ISL_AN_STAT_CAL_DRIVE n) then (s.putBit (Fld.ISL_AN_STAT_CAL_DRIVE n) false).refreshChan n else s

/-- On leaving SERVICE every calibration drive ends (R288). -/
def State.calDrivesOff (s : State) : State := (List.range 128).foldl (fun s n => s.calDriveOff n) s

/-- DEFAULT (R289): ZERO 0.0, SPAN 1.0, LOW_REF 4.0, in SERVICE only. -/
def State.calDefault (s : State) : State :=
  let n := s.calChannel
  if s.mode ≠ .service then s.calResult 1
  else if s.trimLoading || s.bit Fld.ISL_CAL_STAT_BUSY then s.calResult 2
  else s.calAccept n (s.bit Fld.ISL_CAL_SEL_POINT) (s.getReg Reg.ISL_CAL_REF) 0 0x3F800000 0x40800000

/-- A write to ISL_CAL_CMD (R287 to R289, R469). -/
def State.calCmdWrite (s : State) (v : Word) : State :=
  s.actions [Fld.ISL_CAL_CMD_DRIVE_ON, Fld.ISL_CAL_CMD_DRIVE_OFF, Fld.ISL_CAL_CMD_TAKE, Fld.ISL_CAL_CMD_DEFAULT] none v fun s =>
    if Fld.ISL_CAL_CMD_DRIVE_ON.on v then s.calDriveOn
    else if Fld.ISL_CAL_CMD_DRIVE_OFF.on v then (s.calDriveOff s.calChannel).calResult 0
    else if Fld.ISL_CAL_CMD_TAKE.on v then s.calTakeAt s.calChannel (s.bit Fld.ISL_CAL_SEL_POINT) (s.getReg Reg.ISL_CAL_REF)
    else if Fld.ISL_CAL_CMD_DEFAULT.on v then s.calDefault
    else s

/-- DRIVE_ON (R288). -/
def execDriveOn (v : Word) (s : State) : Host.Outcome State Fault Refusal := done (s.calCmdWrite v)

/-- DRIVE_OFF (R288). -/
def execDriveOff (v : Word) (s : State) : Host.Outcome State Fault Refusal := done (s.calCmdWrite v)

/-- CAL_TAKE (R287). -/
def execCalTake (v : Word) (s : State) : Host.Outcome State Fault Refusal := done (s.calCmdWrite v)

/-- CAL_DEFAULT (R289). -/
def execCalDefault (v : Word) (s : State) : Host.Outcome State Fault Refusal := done (s.calCmdWrite v)

/-- The readings span more than 0.05 mA peak to peak (R287). -/
def CalAverage.unsteady (a : CalAverage) : Bool := decide (2 ^ 149 < 20 * (a.top - a.low))

/-- The average of the readings in binary32; the manual does not round it: `up` tells which of its two neighbours the island takes where it
lies between them. (DESIGN CHOICE, log entry 37.) -/
def CalAverage.mean (a : CalAverage) (up : Bool) : BitVec 32 :=
  let neg := decide (a.sum < 0)
  let m := a.sum.natAbs * 2 ^ 32
  let q := m / a.count
  let sh := Nat.log2 q - 23
  let exact := q % 2 ^ sh == 0 && m % a.count == 0
  f32Round neg (q / 2 ^ sh + (!exact && (up != neg)).toNat) ((sh : Int) - 181)

/-- The average that the island takes; the manual gives no average of no reading: a free value. (DESIGN CHOICE, log entry 37.) -/
def State.calMean (s : State) (a : CalAverage) (up : Bool) : BitVec 32 × State :=
  if a.count = 0 then ((Config.freeBits s.freeCtr).truncate 32, { s with freeCtr := s.freeCtr + 1 }) else (a.mean up, s)

/-- CAL_AVERAGE_DONE (R287). -/
def State.calAverageDone (s : State) (up : Bool) : State :=
  match s.cal.averaging with
  | none => s
  | some a =>
    let s := ({ s with cal := { s.cal with averaging := none } } : State).showCalBusy
    if a.bad || s.chMode a.channel != chAI then s.calResult 3
    else if a.unsteady then s.calResult 4
    else
      let (r, s) := s.calMean a up
      s.calCompute a.channel a.high a.ref r

def execCalAverageDone (up : Bool) (s : State) : Host.Outcome State Fault Refusal := done (s.calAverageDone up)

/-- CAL_DRIVE_TIMEOUT (R288): 15 min after the drive started. -/
def execCalDriveTimeout (n : Fin 128) (s : State) : Host.Outcome State Fault Refusal := done (s.calDriveOff n.val)

/-- The trims of a channel take effect. -/
def State.takeTrims (s : State) (n : Nat) (zero span lowRef : BitVec 32) : State :=
  let s := (s.setReg (Reg.ISL_AN_ZERO n) zero).setReg (Reg.ISL_AN_SPAN n) span
  (s.setChan n { s.chan n with lowRef := lowRef }).refreshChan n

/-- CAL_EFFECT (R289): the trims whose cycle E has come. -/
def State.calEffect (s : State) : State :=
  let due := s.cal.trims.filter fun c => s.reached c.1
  let s := { s with cal := { s.cal with trims := s.cal.trims.filter fun c => !s.reached c.1 } }
  (due.foldl (fun s c => s.takeTrims c.2.1 c.2.2.1 c.2.2.2.1 c.2.2.2.2) s).showCalBusy

def execCalEffect (s : State) : Host.Outcome State Fault Refusal := done s.calEffect

/-- ZERO, SPAN and LOW_REF as they will stand once every waiting trim has taken effect. -/
def State.trimsAhead (s : State) (n : Nat) : BitVec 32 × BitVec 32 × BitVec 32 :=
  s.cal.trims.foldl (fun t c => if c.2.1 = n then c.2.2 else t) (s.getReg (Reg.ISL_AN_ZERO n), s.getReg (Reg.ISL_AN_SPAN n), (s.chan n).lowRef)

/-- CAL_STORE_WRITE (R286, R289): both copies of the user block; a write that does not end stays outstanding. (DEDUCED, log entry 41.) -/
def State.calStoreWrite (s : State) (n : Nat) (copies : Fin 3) : State :=
  if s.cal.trimStore.contains n then
    let b := s.blockNow n
    let t := s.trimsAhead n
    let count := (s.cal.trimStore.filter fun k => k == n).length
    let old := if blockIntact (s.userBlock n 1) then s.userBlock n 1 else b
    let s := s.writeBlock n { b with
      zero := t.1
      span := t.2.1
      lowRef := t.2.2
      calTime := s.nowNs
      calSerial := Config.serial.toNat % 2 ^ 32
      calCount := old.calCount + count } copies
    if copies = 2 then
      ({ s with cal := { s.cal with trimStore := s.cal.trimStore.filter fun k => k != n } } : State).showCalBusy
    else s
  else s

def execCalStoreWrite (n : Fin 128) (copies : Fin 3) (s : State) : Host.Outcome State Fault Refusal := done (s.calStoreWrite n.val copies)

end Sys2Proof.Machine
end

