-- ==== Sys2Proof/Machine/Fieldlink.lean ====
section
/-! DEFINITION. The Humar fieldlinks (12): frames sent and replies, images in port 19, station loss and return, breaks, the slow path. -/
namespace Sys2Proof.Machine

/-! ### Port 19 (R302): key 4 · beat + slot -/

def State.port19 (s : State) (k : Nat) : DWord := sparseGet (fun _ => slotEmpty) s.sig.port19 k

/-- A slot of port 19 is written; what an output image held before is kept for as long as a frame may still take it (R300). -/
def State.setPort19 (s : State) (k : Nat) (w : DWord) : State :=
  let now := s.time.cycles
  let writes := if k < 65536 then s.fl.outWrites else (s.fl.outWrites.filter fun x => decide (now < x.1 + 400)) ++ [(now, k, s.port19 k)]
  { s with
    sig := { s.sig with port19 := sparseSet (fun _ => slotEmpty) s.sig.port19 k w }
    fl := { s.fl with outWrites := writes } }

/-- A slot of port 19 as it stood once CLK_TIME cycle `c` had passed. -/
def State.port19At (s : State) (c k : Nat) : DWord :=
  match s.fl.outWrites.find? fun x => x.2.1 == k && decide (c < x.1) with
  | some x => x.2.2
  | none => s.port19 k

def sigPortOf (d : SignalDesc) : Nat := d.source % 8
def sigStation (d : SignalDesc) : Nat := d.source / 8 % 64
def sigByte (d : SignalDesc) : Nat := d.source / 512 % 32768

/-- The signals of a frame slot in one direction, in ascending byte offset (R302). -/
def slotSignals (g : Survey) (e : FrameSlot) (output : Bool) : List SignalDesc :=
  if (output && e.kind == 2) || (!output && e.kind == 3) then []
  else sortBy sigByte (g.signals.filter fun d => d.cls == 1 && sigPortOf d == e.port && sigStation d == e.station
    && sigByte d / 1024 == e.cellBlock && d.producer == e.task && (if output then d.output else d.input))

/-- First key of a slot's image in port 19. -/
def imageKey (e : FrameSlot) (output : Bool) : Nat := 4 * (e.imgBeat + if output then 16384 else 0)

/-- CELL_FIRST and CELLS of a list of signals. -/
def cellSpan (ds : List SignalDesc) : Nat × Nat :=
  match ds, ds.getLast? with
  | d :: _, some l => (sigByte d / 4, sigByte l / 4 - sigByte d / 4 + 1)
  | _, _ => (0, 0)

/-! ### Frames as bytes (R292, R297, R298) -/

/-- The base MAC address. (DESIGN CHOICE, log entry 8.) -/
def State.macBase (s : State) : Nat := s.get Fld.BB_MAC_HI_ADDR_HI * 2 ^ 32 + s.get Fld.BB_MAC_LO_ADDR_LO

/-- The address of fieldlink port p (R292, R315). -/
def State.humarMac (s : State) (p : Nat) : BitVec 48 := BitVec.ofNat 48 (s.macBase + 3 + p)

/-- A MAC address as it stands in a frame: the most significant byte first (IEEE 802.3, as R292 cites it). -/
def macBytes (a : Nat) : List Byte := (leBytes 6 a).reverse

/-- The bytes of a Humar frame from its destination address to its FCS (R292, R297): padded to the minimum length of IEEE 802.3. -/
def humarBytes (h : HumarHead) (station : Nat) (seq : BitVec 32) (slotNo cells first : Nat) (payload : List Byte) : List Byte :=
  let b := macBytes 0xFFFFFFFFFFFF ++ macBytes h.source.toNat ++ [0x88, 0xB6] ++ [h.version, h.kind, h.flags] ++ leBytes 1 station
    ++ leBytes 4 seq.toNat ++ leBytes 1 slotNo ++ [h.reserved9] ++ leBytes 2 cells ++ leBytes 2 first ++ leBytes 2 h.reserved14.toNat ++ payload
  crcSealed (b ++ List.replicate (60 - b.length) 0)

/-- Two status nibbles to a byte, the even cell's in the low one (R298). -/
def nibbleBytes : List Nibble → List Byte
  | [] => []
  | [a] => [a.zeroExtend 8]
  | a :: b :: l => (b ++ a) :: nibbleBytes l

/-- A cyclic payload (R298). -/
def cellPayload (cells : List (BitVec 32)) (nibbles : List Nibble) : List Byte :=
  (cells.flatMap fun c => leBytes 4 c.toNat) ++ nibbleBytes nibbles

/-- The bytes of a frame that the module sends on port p. -/
def State.flBytes (s : State) (p : Nat) (f : FlFrame) : List Byte :=
  let flags := f.slotB.toNat + 2 * f.role + 8 * f.safe.toNat
  humarBytes ⟨s.humarMac p, 1, BitVec.ofNat 8 f.kind, BitVec.ofNat 8 flags, 0, 0, []⟩ f.station f.frameSeq f.slotNo f.cells.length f.cellFirst
    (if f.kind = 0x20 then f.payload else cellPayload f.cells f.nibbles)

/-- The bytes of a REPLY as the station sends it. -/
def replyBytes (f : ReplyFrame) : List Byte :=
  humarBytes f.head f.station f.frameSeq f.slotNo f.cells.length f.cellFirst (cellPayload f.cells f.nibbles)

/-- The bytes of a SLOW_REPLY as the station sends it. -/
def slowBytes (station : Nat) (f : SlowArrival) : List Byte := humarBytes f.head station f.frameSeq 0xFF 0 0 f.payload

/-- A frame from a station is not discarded (R298): its KIND, its reserved fields, its FCS, and VERSION. (DEDUCED, log entry 43.) -/
def humarValid (h : HumarHead) (kind : Byte) (bytes : List Byte) : Bool :=
  h.kind == kind && h.version == 1 && decide (h.flags.toNat < 64) && h.reserved9 == 0 && h.reserved14 == 0 && frameArrives h.noise bytes

def replyValid (f : ReplyFrame) : Bool := humarValid f.head 0x10 (replyBytes f)

/-! ### Sending (R300, R301, R311) -/

/-- Whether the module sends Humar frames at all (R311). -/
def State.humarSends (s : State) : Bool :=
  (s.mode == .run || s.mode == .service || s.mode == .hold) && s.role != .joining && !s.bit Fld.PAIR_STAT_YIELDED && !s.core.humarOff

def flOpen (s : State) (p : Nat) : Bool := s.get (Fld.GATE_CTRL_STATE (32 + p)) == 0

/-- Role in FLAGS (R297). -/
def humarRole (r : Role) : Nat :=
  match r with
  | .lead => 1
  | .shadow => 2
  | _ => 0

/-- A frame slot carries an output with an EMIT force (R311, R214). -/
def State.slotForced (s : State) (ds : List SignalDesc) : Bool := ds.any fun d => (s.forceFor d.id 1).isSome

/-- The cell of an output signal from its image slot; in a held task's forced frame an unforced cell is BAD_CHANNEL_FAULT (R311). -/
def State.outCell (s : State) (w : DWord) (d : SignalDesc) (partForced : Bool) : BitVec 32 × Nibble :=
  if partForced && (s.forceFor d.id 1).isNone then (slotValue w, Tag.BAD_CHANNEL_FAULT) else (slotValue w, slotStatus w)

/-- The transmit instant of an entry in its task's present cycle, as a CLK_TIME cycle (R300). -/
def State.txCycle (s : State) (e : FrameSlot) : Nat := (s.task e.task).t0Cyc + e.txOffset

/-- The cyclic frame of an entry: its output image as it stands 160 CLK_TIME cycles before the transmit instant (R300). -/
def State.humarFrame (s : State) (g : Survey) (e : FrameSlot) : FlFrame :=
  let ds := slotSignals g e true
  let (first, n) := cellSpan ds
  let held := s.mode == .hold || s.taskHeld e.task
  let part := s.taskHeld e.task && (s.mode == .run || s.mode == .service) && s.slotForced ds
  let cell (j : Nat) : BitVec 32 × Nibble :=
    match ds.zipIdx.find? fun p => sigByte p.1 / 4 == first + j with
    | some (d, k) => s.outCell (s.port19At (s.txCycle e - 160) (imageKey e true + k)) d part
    | none => (0, Tag.INIT)
  { kind := e.kind
    slotB := s.slot == 1
    role := humarRole s.role
    safe := held && !part && e.kind != 2
    station := e.station
    frameSeq := s.fastCount
    slotNo := e.slotNo
    cellFirst := first
    cells := (List.range n).map fun j => (cell j).1
    nibbles := (List.range n).map fun j => (cell j).2
    payload := [] }

/-- A frame leaves a port unless perturbation spoils it (R457). -/
def State.flEmit (s : State) (p : Nat) (f : FlFrame) : State :=
  let (bad, s) := s.tpSpoil 3 p 0
  if !bad then s.emit (.fieldlink p (s.flBytes p f))
  else if s.bit Fld.TP_FL_ACTION then s.emit (.fieldlinkBad p (crcInverted (s.flBytes p f)))
  else s

/-- An entry of kind `kind` may go out: in the tables of its task's cycle (R207), at its transmit instant or up to 20 ns before it (R300), from a
module that sends (R311). -/
def State.flMay (s : State) (g : Survey) (e : FrameSlot) (kind : Nat) : Bool :=
  g.frameSlots.contains e && e.kind == kind && s.humarSends && flOpen s e.port && !(s.task e.task).quiet
    && decide (s.txCycle e ≤ s.time.cycles + 8)

/-- The transmit instant of an entry of kind `kind` (R300): the frame is sent, and an EXCHANGE or POLL awaits its REPLY. -/
def State.flSend (s : State) (e : FrameSlot) (kind : Nat) : State :=
  match s.surveyFor e.task with
  | none => s
  | some g =>
    if s.flMay g e kind then
      let f := s.humarFrame g e
      let s := s.flEmit e.port f
      if kind = 3 then s
      else { s with fl := { s.fl with waits := s.fl.waits ++ [⟨e, f.frameSeq, none, false⟩] } }
    else s

/-- FL_EXCHANGE_SEND (R300). -/
def execFlExchangeSend (e : FrameSlot) (s : State) : Host.Outcome State Fault Refusal := done (s.flSend e 1)

/-- FL_POLL_SEND (R300). -/
def execFlPollSend (e : FrameSlot) (s : State) : Host.Outcome State Fault Refusal := done (s.flSend e 2)

/-- FL_SET_SEND (R300). -/
def execFlSetSend (e : FrameSlot) (s : State) : Host.Outcome State Fault Refusal := done (s.flSend e 3)

/-! ### Stations and topology (R307 to R310) -/

/-- FL_EVENT of a station. -/
def State.flEvent (s : State) (f : RegField) (p st : Nat) : State :=
  s.putAll [(f, 1), (Fld.FL_EVENT_PORT, p), (Fld.FL_EVENT_STATION, st)]

/-- The stations of port p in the running survey. -/
def State.stationsOf (s : State) (p : Nat) : List Nat :=
  match s.activeSurvey with
  | none => []
  | some g => (List.range 64).filter fun st => g.frameSlots.any fun e => e.port == p && e.station == st

/-- A ring of port p is broken (R310). -/
def State.ringBroken (s : State) (p : Nat) : Bool :=
  s.bit (Fld.FL_PORT_CFG_RING p)
    && (!s.bit (Fld.FL_PORT_STAT_LINK p)
      || (s.ll == .synced && s.fl.partnerLost.contains p)
      || (s.stationsOf p).any fun st => s.fl.heard.contains (64 * p + st) && s.get (Fld.FL_STN_STAT_STATE p st) == 1
          && (!s.bit (Fld.FL_STN_STAT_LINK_X p st) || !s.bit (Fld.FL_STN_STAT_LINK_Y p st)))

/-- TOPO, ANSWERING and the level of FL_RING_BREAK follow (R310). -/
def State.showTopo (s : State) (p : Nat) : State :=
  let st := s.stationsOf p
  let broken := !st.isEmpty && s.ringBroken p
  let was := s.get (Fld.FL_PORT_STAT_TOPO p)
  let topo := if st.isEmpty then 0 else if s.bit (Fld.FL_PORT_CFG_RING p) = false then 1 else if broken then 3 else 2
  let s := s.putAll [(Fld.FL_PORT_STAT_TOPO p, topo),
    (Fld.FL_PORT_STAT_ANSWERING p, (st.filter fun x => s.get (Fld.FL_STN_STAT_STATE p x) != 3).length)]
  if broken then
    let s := if was = 3 then s else s.putAll [(Fld.FL_EVENT_RING_BREAK, 1), (Fld.FL_EVENT_PORT, p)]
    s.rise Src.FL_RING_BREAK p 0
  else s.fall Src.FL_RING_BREAK p 0

/-- Every port's topology is shown anew, as when the Lifeline enters or leaves SYNCED (R310). -/
def State.showTopos (s : State) : State := (List.range 8).foldl (fun s p => s.showTopo p) s

/-- The stations of a new running survey: those it names answer, the others are none of its own. -/
def State.stationsLoad (s : State) : State :=
  (List.range 8).foldl (fun s p =>
    let st := s.stationsOf p
    let s := (List.range 64).foldl (fun s x =>
      if st.contains x then (if s.get (Fld.FL_STN_STAT_STATE p x) = 0 then s.put (Fld.FL_STN_STAT_STATE p x) 1 else s)
      else
        let s := if s.get (Fld.FL_STN_STAT_STATE p x) = 3 then s.fall Src.FL_STATION_LOST p x else s
        s.setReg (Reg.FL_STN_STAT p x) 0) s
    s.showTopo p) s

/-- The module's own link of port p goes down (R310). -/
def State.flDown (s : State) (p : Nat) : State :=
  if s.bit (Fld.FL_PORT_STAT_LINK p) then
    let s := s.putAll [(Fld.FL_PORT_STAT_LINK p, 0), (Fld.FL_EVENT_LINK_DOWN, 1), (Fld.FL_EVENT_PORT, p)]
    (s.rise Src.FL_LINK_DOWN p 0).showTopo p
  else s

/-- FL_LINK_DOWN (R310). -/
def execFlLinkDown (p : Fin 8) (s : State) : Host.Outcome State Fault Refusal := done (s.flDown p.val)

/-- FL_LINK_UP (R292): a link at 1000 Mbit/s, full duplex, is up; one that reports anything else is treated as down. -/
def State.flLinkReport (s : State) (r : SgmiiReport) : State :=
  let p := r.port.val
  if r.speed = 1000 ∧ r.fullDuplex = true then ((s.putBit (Fld.FL_PORT_STAT_LINK p) true).fall Src.FL_LINK_DOWN p 0).showTopo p
  else s.flDown p

def execFlLinkUp (report : SgmiiReport) (s : State) : Host.Outcome State Fault Refusal := done (s.flLinkReport report)

/-- A frame of the partner's at the end of a ring (R293): discarded, its arrival shown. -/
def State.flPartner (s : State) (p : Nat) : State :=
  if flOpen s p then
    let s := { s with fl := { s.fl with partnerLost := s.fl.partnerLost.filter fun k => k != p } }
    (s.putBit (Fld.FL_PORT_STAT_PARTNER_SEEN p) true).showTopo p
  else s

/-- FL_PARTNER_FRAME (R293). -/
def execFlPartnerFrame (p : Fin 8) (s : State) : Host.Outcome State Fault Refusal := done (s.flPartner p.val)

/-- RING_PARTNER_TIMEOUT (R310): no partner frame for 1 ms. -/
def execRingPartnerTimeout (p : Fin 8) (s : State) : Host.Outcome State Fault Refusal :=
  let s := { s with fl := { s.fl with partnerLost := s.fl.partnerLost.filter (fun k => k != p.val) ++ [p.val] } }
  done ((s.putBit (Fld.FL_PORT_STAT_PARTNER_SEEN p.val) false).showTopo p.val)

/-! ### Replies (R298, R306) -/

/-- A late reply (R306). -/
def State.flLate (s : State) (p st : Nat) : State :=
  ((s.bump (Fld.FL_STN_CNT_LATE p st)).flEvent Fld.FL_EVENT_LATE p st).raise Src.FL_REPLY_LATE p st

/-- The wait that a reply matches. -/
def FlWait.answers (w : FlWait) (p : Nat) (f : ReplyFrame) : Bool :=
  w.slot.port == p && w.slot.station == f.station && w.slot.slotNo == f.slotNo && w.seq == f.frameSeq

/-- A valid reply: the first that matches is kept with the cycle of its end, one that comes after the consuming t0 is late, another is counted
as unmatched. (DEDUCED, log entry 43.) -/
def State.replyKept (s : State) (p : Nat) (f : ReplyFrame) : State :=
  match s.fl.waits.find? fun w => w.answers p f with
  | none => s.bumpWrap (Fld.FL_PORT_ERR_UNMATCHED p)
  | some w =>
    if w.past then s.flLate p f.station
    else if w.reply.isSome then s
    else
      let r := (f, s.time.cycles)
      { s with fl := { s.fl with waits := s.fl.waits.map fun x => if x.answers p f then { x with reply := some r } else x } }

/-- REPLY (R298, R306). A frame that perturbation spoils counts as one with a bad FCS (R457). -/
def State.replyIn (s : State) (p : Nat) (f : ReplyFrame) : State :=
  if flOpen s p then
    let (bad, s) := s.tpSpoil 3 p 1
    if replyValid f && !bad then s.replyKept p f else s.bumpWrap (Fld.FL_PORT_ERR_DISCARDED p)
  else s

def execReply (p : Fin 8) (f : ReplyFrame) (s : State) : Host.Outcome State Fault Refusal := done (s.replyIn p.val f)

/-! ### The latch at FREEZE (R302, R305 to R309) -/

/-- A missed latch of a slot: AGE increments, and for a lost station STATUS is BAD_STATION_LOST (R24, R307). -/
def State.slotMissed (s : State) (g : Survey) (e : FrameSlot) (lost : Bool) : State :=
  (slotSignals g e false).zipIdx.foldl (fun s p =>
    let k := imageKey e false + p.2
    let w := slotAged (s.port19 k)
    s.setPort19 k (if lost then slotBad p.1.safeValue w Tag.BAD_STATION_LOST else w)) s

/-- A missing reply (R306, R307): the third in a row loses the station. -/
def State.stationMiss (s : State) (w : FlWait) : State :=
  let p := w.slot.port
  let st := w.slot.station
  let n := min 3 (s.get (Fld.FL_STN_STAT_MISSES p st) + 1)
  let was := s.get (Fld.FL_STN_STAT_STATE p st)
  let s := s.putAll [(Fld.FL_STN_STAT_MISSES p st, n), (Fld.FL_STN_STAT_STATE p st, if n = 3 then 3 else 2)]
  if n = 3 ∧ was ≠ 3 then
    let s := (s.bump (Fld.FL_STN_CNT_LOSSES p st)).flEvent Fld.FL_EVENT_STATION_LOST p st
    ((s.rise Src.FL_STATION_LOST p st).record 0x58 (256 * p + st) [(4, w.seq.toNat)]).showTopo p
  else s

/-- STATUS of a received nibble: 0x7 is stored as 0xF (R24). -/
def State.nibbleIn (s : State) (p st : Nat) (x : Nibble) : Nibble × State :=
  if x = 7 then (0xF, s.raise Src.FL_STATUS_RESERVED p st) else (x, s)

/-- The input image of a latched reply (R18, R19, R302); a signal whose cell the reply does not carry gets no fresh value.
(DESIGN CHOICE, log entry 43.) -/
def State.slotLatched (s : State) (g : Survey) (e : FrameSlot) (f : ReplyFrame) : State :=
  (slotSignals g e false).zipIdx.foldl (fun s p =>
    let k := imageKey e false + p.2
    let c := sigByte p.1 / 4
    if f.cellFirst ≤ c ∧ c < f.cellFirst + f.cells.length then
      let (st, s) := s.nibbleIn e.port e.station (f.nibbles.getD (c - f.cellFirst) Tag.INIT)
      let cls := if st = Tag.SIMULATED then 6 else 1
      let w := mkSlot (f.cells.getD (c - f.cellFirst) 0) st (s.origin (s.task e.task).t0 cls) 0 ((s.cyc e.task).truncate 16)
      s.setPort19 k (typedSlot p.1 w)
    else s.setPort19 k (slotAged (s.port19 k))) s

/-- A valid reply latched (R305, R307, R309). -/
def State.stationReply (s : State) (e : FrameSlot) (f : ReplyFrame) : State :=
  let p := e.port
  let st := e.station
  let lost := s.get (Fld.FL_STN_STAT_STATE p st) == 3
  let s := s.putAll [(Fld.FL_STN_STAT_STATE p st, 1), (Fld.FL_STN_STAT_MISSES p st, 0), (Fld.FL_STN_STAT_SEEN_A p st, f.seenA.toNat),
    (Fld.FL_STN_STAT_SEEN_B p st, f.seenB.toNat), (Fld.FL_STN_STAT_LINK_X p st, f.linkX.toNat), (Fld.FL_STN_STAT_LINK_Y p st, f.linkY.toNat),
    (Fld.FL_STN_STAT_RESTARTED p st, f.restarted.toNat), (Fld.FL_STN_STAT_SAFE_ACTIVE p st, f.safeActive.toNat)]
  let s := if f.seenA then s.putBit (Fld.FL_PORT_SEEN_SEEN_A p) true else s
  let s := if f.seenB then s.putBit (Fld.FL_PORT_SEEN_SEEN_B p) true else s
  let s := { s with fl := { s.fl with heard := s.fl.heard.filter (fun k => k != 64 * p + st) ++ [64 * p + st] } }
  let s := if lost then
      let s := ((s.fall Src.FL_STATION_LOST p st).flEvent Fld.FL_EVENT_STATION_BACK p st).raise Src.FL_STATION_BACK p st
      let s := s.record 0x59 (256 * p + st) [(1, f.restarted.toNat)]
      if f.restarted then (s.bump (Fld.FL_STN_CNT_RESTARTS p st)).raise Src.FL_STATION_RESTART p st else s
    else s
  s.showTopo p

/-- The waits that task `t`'s FREEZE settles. -/
def State.dueWaits (s : State) (t : Nat) : List FlWait := s.fl.waits.filter fun w => w.slot.task == t && !w.past

/-- The reply that stands for a wait at its consuming t0: the one kept, if it ended by t0 + DEADLINE (R306). -/
def State.replyOf (s : State) (w : FlWait) : Option ReplyFrame :=
  w.reply.bind fun r => if (r.2 : Int) ≤ (s.task w.slot.task).t0Cyc + w.slot.deadline then some r.1 else none

/-- A reply that was kept has ended after its deadline: it is late (R306). -/
def State.lateOf (s : State) (w : FlWait) : State :=
  if w.reply.isSome && (s.replyOf w).isNone then s.flLate w.slot.port w.slot.station else s

/-- What a wait says of its station. -/
def State.settleStation (s : State) (w : FlWait) : State :=
  match s.replyOf w with
  | some f => s.stationReply w.slot f
  | none => s.stationMiss w

/-- What a wait leaves in its slot's input image; a station lost at this latch is lost for all its slots (R307). -/
def State.settleImage (s : State) (g : Survey) (w : FlWait) : State :=
  match s.replyOf w with
  | some f => s.slotLatched g w.slot f
  | none => s.slotMissed g w.slot (s.get (Fld.FL_STN_STAT_STATE w.slot.port w.slot.station) == 3)

/-- FL_PORT_SEEN starts anew at a FREEZE; tasks with the same t0 share it (R305). (DEDUCED, log entry 43.) -/
def State.clearSeen (s : State) (p : Nat) : State :=
  if s.fl.seenAt.contains (p, s.time.cycles) then s
  else { (s.setReg (Reg.FL_PORT_SEEN p) 0) with fl := { s.fl with seenAt := s.fl.seenAt.filter (fun x => x.1 != p) ++ [(p, s.time.cycles)] } }

/-- FREEZE of task `t` latches its replies (R306), in transmit order; a wait of a slot that a swap has taken from the tables leaves nothing. The
waits stay known for late replies until the next FREEZE. Topologies are shown anew, for a pair that has left SYNCED since. (DEDUCED, log entry 43.) -/
def State.flLatch (s : State) (t : Nat) : State :=
  match s.activeSurvey with
  | none => s
  | some g =>
    let due := s.dueWaits t
    let s : State := { s with fl := { s.fl with
      waits := (s.fl.waits.filter fun w => w.slot.task != t || !w.past).map fun w => if w.slot.task = t then { w with past := true } else w } }
    let s := due.foldl (fun s w => s.clearSeen w.slot.port) s
    let due := due.filter fun w => g.frameSlots.contains w.slot
    let s := due.foldl (fun s w => s.lateOf w) s
    let s := due.foldl (fun s w => s.settleStation w) s
    (due.foldl (fun s w => s.settleImage g w) s).showTopos

/-! ### Slow path (R312) -/

def periodOf (g : Survey) (t : Nat) : Nat := ((g.tasks.find? fun e => e.task == t).map fun e => e.periodTicks).getD 1

/-- Wire time of a SLOW frame of `n` payload bytes in half nanoseconds (R303). -/
def slowHalfNs (n : Nat) : Nat := 16 * (26 + max 46 (16 + n))

/-- GUARD_US in effect (R312); 0 and 1 act as 2. -/
def State.guardUs (s : State) (p : Nat) : Nat := max 2 (s.get (Fld.FL_PORT_CFG_GUARD_US p))

/-- The next transmit instant of an entry, as a CLK_TIME cycle: in its task's present cycle, or in the one after. -/
def State.nextTx (s : State) (g : Survey) (e : FrameSlot) : Nat :=
  if s.time.cycles ≤ s.txCycle e then s.txCycle e else s.txCycle e + periodOf g e.task * 100000

/-- No scheduled transmission on port p begins within the wire time of `n` payload bytes plus 96 ns plus GUARD_US (R312). -/
def State.slowFits (s : State) (p n : Nat) : Bool :=
  (List.range 16).all fun t =>
    match s.surveyFor t with
    | none => true
    | some g => (g.frameSlots.filter fun e => e.port == p && e.task == t).all fun e =>
        decide (5 * s.time.cycles + slowHalfNs n + 192 + 2000 * s.guardUs p < 5 * s.nextTx g e)

/-- The SLOW frame of a descriptor (R301, R312). -/
def State.slowFrame (s : State) (tag : Nat) (bytes : List Byte) : FlFrame :=
  ⟨0x20, s.slot == 1, humarRole s.role, false, tag % 64, s.fastCount, 0xFF, 0, [], [], bytes⟩

/-- FL_SLOW_SEND (R312): the head of the port's ring is sent when the gap takes it, else deferred; a SHADOW drops it. `free` tells whether the
port's transmitter has nothing on the line; while it has, nothing happens. (DEDUCED, log entry 43.) -/
def State.flSlow (s : State) (p : Nat) (free : Bool) : State :=
  match s.ringWith fun q => s.ringConsIs q 3 p with
  | none => s
  | some q =>
    match s.ringChain q with
    | .nothing => s
    | .broken n => (s.ringConsume q false n).ringProtocol q
    | .refused n x => s.ringRefuse q n x
    | .payload n d bytes =>
      if s.role = .shadow ∨ s.role = .joining then s.ringConsume q false n
      else if !s.humarSends || !flOpen s p || !free then s
      else if 1024 < bytes.length then (s.ringConsume q true n).ringProtocol q
      else if s.slowFits p bytes.length then
        let ends := s.time.cycles + (slowHalfNs bytes.length + 4) / 5
        let s := ((s.flEmit p (s.slowFrame (descTag d) bytes)).ringConsume q false n).bumpWrap (Fld.FL_PORT_SLOW_SENT p)
        { s with fl := { s.fl with slowEnd := s.fl.slowEnd.filter (fun x => x.1 != p) ++ [(p, ends)] } }
      else s.bumpWrap (Fld.FL_PORT_SLOW_DEFERRED p)

def execFlSlowSend (p : Fin 8) (free : Bool) (s : State) : Host.Outcome State Fault Refusal := done (s.flSlow p.val free)

/-- FL_PORT_STAT.SLOW_BUSY: a slow-path frame is in transmission. -/
def State.slowBusy (s : State) (p : Nat) : Bool := s.fl.slowEnd.any fun x => x.1 == p && decide (s.time.cycles < x.2)

/-- SLOW_REPLY (R312, R329): produced onto the port's ring, or dropped when that is full. (DEDUCED, log entry 43.) -/
def State.slowReply (s : State) (p station : Nat) (payload : List Byte) : State :=
  match s.ringWith fun q => s.ringProdIs q 3 p with
  | none => s
  | some q =>
    match s.ringPushBuf q 0 station payload (BitVec.ofNat 64 s.nowNs) with
    | some s => s
    | none => s.ringDrop q

/-- A slow-path answer is received unless R298 discards it or perturbation spoils it (R457). -/
def State.slowIn (s : State) (p station : Nat) (f : SlowArrival) : State :=
  if flOpen s p then
    let (bad, s) := s.tpSpoil 3 p 1
    if humarValid f.head 0x21 (slowBytes station f) && !bad then s.slowReply p station f.payload
    else s.bumpWrap (Fld.FL_PORT_ERR_DISCARDED p)
  else s

def execSlowReply (p : Fin 8) (station : Fin 64) (f : SlowArrival) (s : State) : Host.Outcome State Fault Refusal :=
  done (s.slowIn p.val station.val f)

end Sys2Proof.Machine
end

