-- ==== Sys2Proof/Machine/Frames.lean ====
section
/-! DEFINITION. Backbone frames as bytes (R316 to R324): header, C-tag, FCS, redundancy control trailer, PTP messages, wake frames. What the
manual takes from a standard that it names (IEEE 802.3, 802.1Q, 1588, IEC 62439-3) is read from that standard.
(PRESUMED, log entry 112.) -/
namespace Sys2Proof
open Sys2Proof.Machine

/-! ### Header and FCS -/

/-- `n` bytes of a number, most significant first. -/
def beBytes (n v : Nat) : List Byte := (leBytes n v).reverse

/-- A number from bytes, most significant first. -/
def ofBeBytes (bs : List Byte) : Nat := ofLeBytes bs.reverse

/-- The `n` bytes from place `i` as a number, most significant first. -/
def beAt (bs : List Byte) (i n : Nat) : Nat := ofBeBytes ((bs.drop i).take n)

/-- Bytes replaced from place `i` on. -/
def splice (bs : List Byte) (i : Nat) (new : List Byte) : List Byte := bs.take i ++ new ++ bs.drop (i + new.length)

/-- Length in bytes, FCS included (R318). -/
def BbFrame.length (f : BbFrame) : Nat := f.wire.length

/-- The FCS is right. -/
def BbFrame.fcsOk (f : BbFrame) : Bool := crcRight f.wire

/-- The frame without its FCS. -/
def BbFrame.body (f : BbFrame) : List Byte := f.wire.take (f.wire.length - 4)

/-- Destination and source address. -/
def BbFrame.dst (f : BbFrame) : Nat := beAt f.body 0 6

def BbFrame.src (f : BbFrame) : Nat := beAt f.body 6 6

/-- The C-tag: TPID 0x8100 (R317). -/
def BbFrame.tci (f : BbFrame) : Option (BitVec 16) :=
  if beAt f.body 12 2 = 0x8100 then some (BitVec.ofNat 16 (beAt f.body 14 2)) else none

/-- Bytes up to and with the EtherType. -/
def BbFrame.head (f : BbFrame) : Nat := if f.tci.isSome then 18 else 14

/-- The EtherType, taken after any tag (R320). -/
def BbFrame.etherType (f : BbFrame) : Nat := beAt f.body (f.head - 2) 2

/-- What follows the EtherType, up to the FCS. -/
def BbFrame.payload (f : BbFrame) : List Byte := f.body.drop f.head

/-- The frame of a body. -/
def sealFrame (body : List Byte) : BbFrame := ⟨crcSealed body⟩

/-- A frame that ends with an inverted FCS (R319). -/
def stompFrame (body : List Byte) : BbFrame := ⟨crcInverted (crcSealed body)⟩

/-- A frame with another body: the FCS recomputed, and inverted where it was bad. -/
def BbFrame.rebody (f : BbFrame) (body : List Byte) : BbFrame := if f.fcsOk then sealFrame body else stompFrame body

/-- A frame without its C-tag, and with a C-tag given. -/
def BbFrame.untagged (f : BbFrame) : BbFrame := f.rebody (f.body.take 12 ++ f.body.drop (f.head - 2))

def BbFrame.tagged (f : BbFrame) (tci : Nat) : BbFrame :=
  f.rebody (f.body.take 12 ++ beBytes 2 0x8100 ++ beBytes 2 tci ++ f.body.drop (f.head - 2))

/-- A PAUSE frame (R314): MAC control, opcode 1. -/
def BbFrame.pause (f : BbFrame) : Bool := f.etherType == 0x8808 && beAt f.payload 0 2 == 1

/-! ### The redundancy control trailer (R321) -/

/-- The trailer: sequence number, LanId and LSDU size, which counts the payload with the trailer, and the suffix. -/
def prpTrailer (seq : BitVec 16) (lan size : Nat) : List Byte := beBytes 2 seq.toNat ++ beBytes 2 (lan * 4096 + size % 4096) ++ beBytes 2 0x88FB

/-- A valid trailer at the end of a frame, as sequence number and LanId. -/
def BbFrame.prp (f : BbFrame) : Option (BitVec 16 × Nat) :=
  let p := f.payload
  let t := p.drop (p.length - 6)
  let lan := beAt t 2 2 / 4096
  if 6 ≤ p.length ∧ beAt t 4 2 = 0x88FB ∧ beAt t 2 2 % 4096 = p.length ∧ (lan = 0xA ∨ lan = 0xB) then some (BitVec.ofNat 16 (beAt t 0 2), lan)
  else none

/-- A frame with the trailer appended. -/
def BbFrame.withTrailer (f : BbFrame) (seq : BitVec 16) (lan : Nat) : BbFrame :=
  f.rebody (f.body ++ prpTrailer seq lan (f.payload.length + 6))

/-! ### PTP messages (R323) -/

/-- Where a PTP message starts in the payload: over IEEE 802.3, UDP over IPv4 and UDP over IPv6, in this order. -/
def BbFrame.ptpStart (f : BbFrame) : Option (Fin 3 × Nat) :=
  let p := f.payload
  let ihl := beAt p 0 1 % 16 * 4
  if f.etherType = 0x88F7 then some (0, 0)
  else if f.etherType = 0x0800 ∧ beAt p 0 1 / 16 = 4 ∧ beAt p 9 1 = 17 ∧ (beAt p (ihl + 2) 2 = 319 ∨ beAt p (ihl + 2) 2 = 320) then some (1, ihl + 8)
  else if f.etherType = 0x86DD ∧ beAt p 6 1 = 17 ∧ (beAt p 42 2 = 319 ∨ beAt p 42 2 = 320) then some (2, 48)
  else none

/-- What the message is: messageType, twoStepFlag, and sourcePortIdentity with sequenceId as the key of R323. -/
def BbFrame.ptp (f : BbFrame) : PtpKind :=
  match f.ptpStart with
  | none => .none
  | some (via, i) =>
    let m := f.payload.drop i
    let type := beAt m 0 1 % 16
    let key := beAt m 20 12
    if via = 2 then if type < 8 then .ipv6Event else .general
    else if type = 0 then if beAt m 6 1 / 2 % 2 = 1 then .twoStepSync key else .oneStepSync
    else if type = 1 then .delayReq
    else if type = 2 then .pdelayReq
    else if type = 3 ∨ type = 10 then .pdelayReply
    else if type = 8 then .followUp key
    else .general

/-- A peer-delay message, which P2P mode ends at the port. -/
def BbFrame.isPdelay (f : BbFrame) : Bool := f.ptp == .pdelayReq || f.ptp == .pdelayReply

/-- correctionField, in units of 2⁻¹⁶ ns. -/
def BbFrame.correction (f : BbFrame) : Nat :=
  match f.ptpStart with
  | none => 0
  | some (_, i) => beAt f.payload (i + 8) 8

/-- `d` added to correctionField, modulo 2⁶⁴; the FCS is recomputed and the checksum of UDP over IPv4 set to 0. -/
def addCorrection (f : BbFrame) (d : Int) : BbFrame :=
  match f.ptpStart with
  | none => f
  | some (via, i) =>
    let p := splice f.payload (i + 8) (beBytes 8 (((Int.ofNat f.correction + d) % 2 ^ 64).toNat))
    f.rebody (f.body.take f.head ++ (if via = 1 then splice p (i - 2) [0, 0] else p))

/-! ### Wake frames (R324) -/

/-- A Plivitex wake frame for the station with address 0 `mac`, SITE and serial number given. -/
def BbFrame.wakes (f : BbFrame) (mac : Nat) (site : BitVec 32) (serial : Nat) : Bool :=
  let le (i n : Nat) := ofLeBytes ((f.payload.drop i).take n)
  f.fcsOk && decide (34 ≤ f.length) && (f.dst == 0xFFFFFFFFFFFF || f.dst == mac) && f.etherType == 0x88B7 && le 0 4 == 0x454B4157
    && le 4 4 == site.toNat && (le 8 8 == 0 || le 8 8 == serial)

end Sys2Proof
end

