-- ==== Sys2Proof/Machine/Backbone.lean ====
section
/-! DEFINITION. The backbone bridge (13): ports, VLANs, egress queues, the local port and its rings, PRP, the transparent clock. -/
namespace Sys2Proof.Machine

/-! ### Addresses, modes, VLANs (R315 to R317) -/

/-- One of the module's own addresses. -/
def State.macOwn (s : State) (a : Nat) : Bool := decide (s.macBase ≤ a) && decide (a < s.macBase + 16)

/-- A group address: the first bit on the wire. -/
def macGroup (a : Nat) : Bool := a / 2 ^ 40 % 2 == 1

/-- BB_CTRL.MODE: 0 BRIDGE, 1 PRP, else OFF. -/
def State.bbMode (s : State) : Nat := min 2 (s.get Fld.BB_CTRL_MODE)

/-- Port x carries frames: enabled, up, the bridge's gate open, not in HIBERNATE (R324). -/
def State.bbUp (s : State) (x : Nat) : Bool :=
  s.get Fld.BB_CTRL_PORT_EN / 2 ^ x % 2 == 1 && s.bit (Fld.BB_PORT_STAT_UP x) && s.get (Fld.GATE_CTRL_STATE 44) == 0
    && s.mode != .hibernate

/-- PCP of a frame. -/
def bbPcp (f : BbFrame) : Nat :=
  match f.tci with
  | some t => t.toNat / 8192
  | none => 0

/-- VID of a frame from ingress port x: its tag's, or the PVID. -/
def State.bbVid (s : State) (x : Nat) (f : BbFrame) : Nat :=
  match f.tci with
  | some t => if t.toNat % 4096 = 0 then s.get (Fld.BB_PVID_PVID x) else t.toNat % 4096
  | none => s.get (Fld.BB_PVID_PVID x)

/-- The BB_VLAN entry of a VID. -/
def State.vlanEntry (s : State) (vid : Nat) : Option Nat :=
  (List.range 64).find? fun v => s.bit (Fld.BB_VLAN_VALID v) && s.get (Fld.BB_VLAN_VID v) == vid

/-- A frame from port `x` as it leaves port `y`, if both are members of its VLAN; the flag says that the tag was removed. -/
def State.vlanOut (s : State) (x y : Nat) (f : BbFrame) : Option (BbFrame × Bool) :=
  let vid := s.bbVid x f
  (s.vlanEntry vid).bind fun v =>
    let m := s.get (Fld.BB_VLAN_MEMBER v)
    if m / 2 ^ x % 2 = 1 ∧ m / 2 ^ y % 2 = 1 then
      if s.get (Fld.BB_VLAN_UNTAG v) / 2 ^ y % 2 = 1 then some (if f.tci.isSome then f.untagged else f, f.tci.isSome)
      else some (f.tagged ((f.tci.map fun t => t.toNat / 4096 * 4096).getD 0 + vid), false)
    else none

/-! ### The transparent clock (R323) -/

/-- A signed tenth of a nanosecond of BB_TS_ADJ in units of 2⁻¹⁶ ns. (DEDUCED, log entry 48.) -/
def tsAdj (v : Nat) : Int := (BitVec.ofNat 16 v).toInt * 65536 / 10

/-- A timestamp of a port corrected by BB_TS_ADJ (R354): the ingress delay back, the egress delay on, down to a whole ns.
(DEDUCED, log entry 48.) -/
def State.stampIn (s : State) (x : Nat) (lin : BitVec 64) : BitVec 64 :=
  BitVec.ofInt 64 ((Int.ofNat lin.toNat * 10 - (BitVec.ofNat 16 (s.get (Fld.BB_TS_ADJ_INGRESS x))).toInt) / 10)

def State.stampOut (s : State) (x : Nat) (lin : BitVec 64) : BitVec 64 :=
  BitVec.ofInt 64 ((Int.ofNat lin.toNat * 10 + (BitVec.ofNat 16 (s.get (Fld.BB_TS_ADJ_EGRESS x))).toInt) / 10)

/-- The residence of a frame in units of 2⁻¹⁶ ns: CLK_TIME cycles of 2.5 ns since ingress, or the latency of R319 where it is cut
through. -/
def State.residence (s : State) (x y : Nat) (cyc : Nat) (cut : Bool) : Int :=
  let r : Nat := if cut then (960 + 240 * 2 ^ s.get Fld.CLK_STAT_SQZ_RATIO) * 65536 else (s.time.cycles - cyc) * 163840
  Int.ofNat r + tsAdj (s.get (Fld.BB_TS_ADJ_INGRESS x)) + tsAdj (s.get (Fld.BB_TS_ADJ_EGRESS y))

/-- The ingress port's measured peer delay: no register holds it, so it is a free value; used in P2P mode only. (DEDUCED, log entry 48.) -/
def State.peerDelay (s : State) : Int × State :=
  if s.get Fld.BB_TC_CFG_MODE = 2 then
    let (v, s) := s.draw
    (v.toInt, s)
  else (0, s)

/-- What a transparent clock does to a frame that passes from port to port. (DEDUCED, log entry 48.) -/
def State.tcPass (s : State) (f : BbFrame) (res : Int) : BbFrame × State :=
  match f.ptp with
  | .oneStepSync =>
    let (pd, s) := s.peerDelay
    (addCorrection f (res + pd), s.bump Fld.BB_TC_STAT_CORRECTED)
  | .delayReq => (addCorrection f res, s.bump Fld.BB_TC_STAT_CORRECTED)
  | .pdelayReq => (addCorrection f res, s.bump Fld.BB_TC_STAT_CORRECTED)
  | .twoStepSync key =>
    let (pd, s) := s.peerDelay
    let held := s.bb.twoStep.filter fun p => p.1 != key
    (f, if held.length < 16 then { s with bb := { s.bb with twoStep := held ++ [(key, res + pd, s.time.cycles)] } } else s)
  | .followUp key =>
    match s.bb.twoStep.find? fun p => p.1 == key with
    | some (_, r, cyc) =>
      let t : State := { s with bb := { s.bb with twoStep := s.bb.twoStep.filter fun p => p.1 != key } }
      if s.time.cycles ≤ cyc + 400000 then (addCorrection f r, t.bump Fld.BB_TC_STAT_CORRECTED) else (f, t.bump Fld.BB_TC_STAT_UNMATCHED)
    | none => (f, s.bump Fld.BB_TC_STAT_UNMATCHED)
  | .ipv6Event => (f, s.bump Fld.BB_TC_STAT_UNCORRECTED)
  | .none => (f, s)
  | .pdelayReply => (f, s)
  | .general => (f, s)

/-- Whether the transparent clock acts. -/
def State.tcOn (s : State) : Bool := s.bbMode == 0 && (s.get Fld.BB_TC_CFG_MODE == 1 || s.get Fld.BB_TC_CFG_MODE == 2)

/-! ### Egress (R317 to R319) -/

/-- The transmitter of a port sends. -/
def State.bbBusy (s : State) (p : Nat) : Bool := s.bb.busy.any fun b => b.1 == p

/-- The transmitter of a port takes a frame. One that turns out bad while it is cut through ends with an inverted FCS.
(DEDUCED, log entry 48.) -/
def State.bbTransmit (s : State) (q : BbQueued) (cut : Bool) : State :=
  let (f, s) := match q.ingress with
    | some (cyc, x) => if s.tcOn then s.tcPass q.frame (s.residence x q.port cyc cut) else (q.frame, s)
    | none => (q.frame, s)
  let (f, s) := if f.fcsOk then (f, s) else (stompFrame f.body, s.bump (Fld.BB_PORT_ERR_STOMPED q.port))
  let s := (s.emit (.backbone q.port f)).bumpWrap (Fld.BB_PORT_CNT_TX q.port)
  { s with bb := { s.bb with busy := s.bb.busy.filter (fun b => b.1 != q.port) ++ [(q.port, cut && q.ingress.isSome)] } }

/-- Bytes stored for a port. -/
def State.bbStored (s : State) (p : Nat) : Nat := ((s.bb.queue.filter fun q => q.port == p).map fun q => q.frame.length).sum

/-- A frame reaches egress port `q.port`: dropped beyond 2,000 bytes (R318), cut through an idle egress, else stored if it is good and the
256 KiB buffer takes it. (DEDUCED, log entry 48.) -/
def State.bbEgress (s : State) (q : BbQueued) : State :=
  if s.bbUp q.port = false then s
  else if 2000 < q.frame.length then s.bump (Fld.BB_PORT_ERR_LENGTH q.port)
  else if s.bbBusy q.port || s.bb.queue.any fun r => r.port == q.port then
    if !q.frame.fcsOk then s
    else if s.bbStored q.port + q.frame.length ≤ 262144 then { s with bb := { s.bb with queue := s.bb.queue ++ [q] } }
    else s.bump (Fld.BB_PORT_ERR_DROPPED q.port)
  else s.bbTransmit q true

/-- The stored frame a port sends next: the high queue first, each in order. -/
def State.bbNext (s : State) (p : Nat) : Option BbQueued :=
  (s.bb.queue.find? fun q => q.port == p && q.high).orElse fun _ => s.bb.queue.find? fun q => q.port == p

/-- BB_EGRESS_TRANSMIT (R318): the egress is free again and sends what it has stored. -/
def State.bbFree (s : State) (p : Nat) : State :=
  let s := { s with bb := { s.bb with busy := s.bb.busy.filter fun b => b.1 != p } }
  match s.bbNext p with
  | none => s
  | some q =>
    let s := { s with bb := { s.bb with queue := s.bb.queue.erase q } }
    if s.bbUp p then s.bbTransmit q false else s

def execBbEgressTransmit (port : Fin 3) (s : State) : Host.Outcome State Fault Refusal := done (s.bbFree port.val)

/-! ### The local port receives (R316, R320, R327, R329) -/

/-- The receive ring of a frame (R320). -/
def State.bbRing (s : State) (f : BbFrame) : Option Nat :=
  if f.ptp ≠ .none then some (s.get Fld.BB_TC_CFG_PTP_RING)
  else
    match (List.range 16).find? fun e => s.bit (Fld.BB_CLASS_VALID e) && s.get (Fld.BB_CLASS_ETHERTYPE e) == f.etherType with
    | some e => some (s.get (Fld.BB_CLASS_RING e))
    | none => if s.bit Fld.BB_CLASS_DEFAULT_VALID then some (s.get Fld.BB_CLASS_DEFAULT_RING) else none

/-- Whether the bridge produces ring `q`. -/
def State.bbProduces (s : State) (q : Nat) : Bool := s.ringEnabled q && s.ringProdIs q 2 0

/-- A frame put onto ring `q`, if it has a place, without its FCS and with its redundancy control trailer: ingress port, PRP trailer and
stripped tag in CODE. (DEDUCED, log entry 48.) -/
def State.bbDeliver (s : State) (q x : Nat) (lin : BitVec 64) (f : BbFrame) (tag : Option (BitVec 16)) : Option State :=
  let code := (x + 1) + (if f.prp.isSome then 4 else 0) + (if tag.isSome then 8 else 0)
  let tci := match tag, f.tci with
    | some t, _ => t.toNat
    | none, some t => t.toNat
    | none, none => 0
  s.ringPushBuf q code tci f.body (s.stampIn x lin)

/-- A frame for the local port that no ring takes now is held in 128 KiB, or dropped (R329). -/
def State.bbHold (s : State) (q x : Nat) (f : BbFrame) : State :=
  if (s.bb.held.map fun h => h.2.2.2.length).sum + f.length ≤ 131072 then
    { s with bb := { s.bb with held := s.bb.held ++ [(q, x, s.time.lin, f)] } }
  else s.ringDrop q

/-- The frame that the local port gets of a received one, with the tag stripped from it. -/
def State.bbLocalFrame (s : State) (x : Nat) (f : BbFrame) : Option (BbFrame × Option (BitVec 16)) :=
  (s.vlanOut x 2 f).map fun p => (p.1, if p.2 then f.tci else none)

/-- A frame reaches the local port (R316, R320). -/
def State.bbLocal (s : State) (x : Nat) (f : BbFrame) : State :=
  if f.dst = s.macBase ∨ macGroup f.dst = true then
    match s.bbRing f, s.bbLocalFrame x f with
    | some q, some (g, tag) =>
      if s.bbProduces q then
        if s.bb.held.any fun h => h.1 == q then s.bbHold q x f
        else
          match s.bbDeliver q x s.time.lin g tag with
          | some s => s
          | none => s.bbHold q x f
      else s
    | _, _ => s
  else s

/-- BB_RX_HELD_DELIVER (R329): the first held frame whose ring has a place. -/
def State.bbHeldDeliver (s : State) : State :=
  match s.bb.held.find? fun h => s.bbProduces h.1 && decide (0 < s.ringFree h.1) with
  | none => s
  | some h =>
    let s := { s with bb := { s.bb with held := s.bb.held.erase h } }
    match s.bbLocalFrame h.2.1 h.2.2.2 with
    | some (g, tag) => (s.bbDeliver h.1 h.2.1 h.2.2.1 g tag).getD s
    | none => s

def execBbRxHeldDeliver (s : State) : Host.Outcome State Fault Refusal := done s.bbHeldDeliver

/-! ### PRP (R321, R322) -/

/-- Whether a sequence number has been seen from a source, and the source's entry after it. The window holds the highest sequence number
and the 63 behind it; a number further behind counts as not seen. (DEDUCED, log entry 48.) -/
def prpSee (e : BitVec 16 × BitVec 64) (seq : BitVec 16) : Bool × BitVec 16 × BitVec 64 :=
  let ahead := (seq - e.1).toNat
  let behind := (e.1 - seq).toNat
  if 0 < ahead ∧ ahead < 32768 then (false, seq, (e.2 <<< ahead) ||| 1)
  else if behind < 64 then (e.2.getLsbD behind, e.1, e.2 ||| BitVec.twoPow 64 behind)
  else (false, e)

/-- A frame with a valid trailer: whether it is a duplicate. The least recently used of 1,024 entries is replaced. -/
def State.prpCheck (s : State) (src : Nat) (seq : BitVec 16) : Bool × State :=
  let old := s.bb.prp.find? fun p => p.1 == src
  let rest := s.bb.prp.filter fun p => p.1 != src
  let (dup, e) := match old with
    | some (_, e) => prpSee e seq
    | none => (false, seq, 1)
  let rest := if 1024 ≤ rest.length then rest.drop 1 else rest
  (dup, { s with bb := { s.bb with prp := rest ++ [(src, e)] } })

/-- A frame received in PRP mode on port x. -/
def State.prpReceive (s : State) (x : Nat) (f : BbFrame) : State :=
  match f.prp with
  | none => s.bbLocal x f
  | some (seq, lan) =>
    let s := if lan = 0xA + x then s else (s.bump Fld.BB_PRP_CNT_WRONG_LAN).raise Src.BB_PRP_WRONG_LAN x 0
    let (dup, s) := s.prpCheck f.src seq
    if dup then s.bump Fld.BB_PRP_CNT_DUPLICATE
    else (s.bump (if x = 0 then Fld.BB_PRP_CNT_UNIQUE_A else Fld.BB_PRP_CNT_UNIQUE_B)).bbLocal x f

/-- PRP_ENTRY_FORGET (R322). -/
def execPrpEntryForget (src : Nat) (s : State) : Host.Outcome State Fault Refusal :=
  done { s with bb := { s.bb with prp := s.bb.prp.filter fun p => p.1 != src } }

/-- A supervision frame of address `src`, 64 bytes long. The manual gives no payload: 46 free bytes. (DEDUCED, log entry 48.) -/
def State.supervisionFrame (s : State) (src : Nat) : BbFrame × State :=
  let (bs, s) := State.freeBytes 46 s
  (sealFrame (beBytes 6 0x01154E000100 ++ beBytes 6 src ++ beBytes 2 0x88FB ++ bs), s)

/-- PRP_SUPERVISION_SEND (R321): from address 1 on port 0 and address 2 on port 1. -/
def State.prpSupervise (s : State) : State :=
  if s.bbMode = 1 then
    [0, 1].foldl (fun s x =>
      let (f, s) := s.supervisionFrame (s.macBase + 1 + x)
      s.bbEgress ⟨x, false, f, none⟩) s
  else s

def execPrpSupervisionSend (s : State) : Host.Outcome State Fault Refusal := done s.prpSupervise

/-! ### Reception (R316, R318, R324) -/

/-- Forwarding in BRIDGE mode. -/
def State.bbForward (s : State) (x : Nat) (f : BbFrame) : State :=
  let y := 1 - x
  if f.dst = s.macBase || s.macOwn f.src || (s.tcOn && s.get Fld.BB_TC_CFG_MODE == 2 && f.isPdelay) then s
  else
    match s.vlanOut x y f with
    | none => s.bump (Fld.BB_PORT_ERR_DROPPED y)
    | some (g, _) => s.bbEgress ⟨y, decide (6 ≤ bbPcp f), g, some (s.time.cycles, x)⟩

/-- A Plivitex wake frame for this module (R324). -/
def State.wakeFrame (s : State) (f : BbFrame) : Bool := f.wakes s.macBase (s.getReg Reg.BB_WAKE_SITE) Config.serial.toNat

/-- BB_FRAME_RX (R316 to R324). -/
def State.bbReceive (s : State) (x : Nat) (f : BbFrame) : State :=
  if s.bbUp x = false then s
  else
    let s := s.bumpWrap (Fld.BB_PORT_CNT_RX x)
    if f.pause || decide (2000 < f.length) then s.bump (Fld.BB_PORT_ERR_LENGTH x)
    else if f.length < 64 then s
    else if !f.fcsOk then
      let s := s.bump (Fld.BB_PORT_ERR_FCS x)
      if s.bbMode = 0 then s.bbForward x f else s
    else if s.wakeFrame f then s.bump Fld.BB_WAKE_STAT_SEEN
    else if s.bbMode = 0 then (s.bbForward x f).bbLocal x f
    else if s.bbMode = 1 then s.prpReceive x f
    else s

def execBbFrameRx (port : Fin 2) (f : BbFrame) (s : State) : Host.Outcome State Fault Refusal := done (s.bbReceive port.val f)

/-! ### The local port transmits (R316, R327) -/

/-- The frame of a buffer, padded with zeros to the least length. (PRESUMED, log entry 112.) -/
def parseFrame (bs : List Byte) : BbFrame := sealFrame (bs ++ List.replicate (60 - bs.length) 0)

/-- The ports a transmit descriptor names: both in PRP mode. -/
def State.sendPorts (s : State) (code : Nat) : List Nat := [0, 1].filter fun y => s.bbMode == 1 || (code % 4 == 0 || code.testBit y)

/-- The local port's frame leaves port `y`, if its VLAN allows. -/
def State.bbLocalOut (s : State) (y : Nat) (f : BbFrame) (high : Bool) : State :=
  match s.vlanOut 2 y f with
  | none => s.bump (Fld.BB_PORT_ERR_DROPPED y)
  | some (g, _) => s.bbEgress ⟨y, high || decide (6 ≤ bbPcp f), g, none⟩

/-- A frame of the local port: in PRP mode on both ports with trailers, PTP without; in BRIDGE mode on the ports the descriptor names.
(DEDUCED, log entry 48.) -/
def State.bbSend (s : State) (f : BbFrame) (code : Nat) : State :=
  let high := code / 4 % 2 == 1
  if s.bbMode = 1 then
    if f.ptp ≠ .none then (s.bbLocalOut 0 f high).bbLocalOut 1 f high
    else
      let n := s.bb.prpSeq
      let s := { s with bb := { s.bb with prpSeq := n + 1 } }
      (s.bbLocalOut 0 (f.withTrailer n 0xA) high).bbLocalOut 1 (f.withTrailer n 0xB) high
  else
    (s.sendPorts code).foldl (fun s y => s.bbLocalOut y f high) s

/-- Whether a transmit descriptor requests a timestamp (R327). -/
def stampAsked (d : Descriptor) : Bool := decide (descCode d / 8 % 2 = 1) && !descInline d

/-- The transmit timestamp written back where it was asked for: of the first port named that is up (R354). (DEDUCED, log entry 48.) -/
def State.bbStampBack (s : State) (q : Nat) (d : Descriptor) : State :=
  match stampAsked d, (s.sendPorts (descCode d)).find? fun y => s.bbUp y with
  | true, some y =>
    let a := s.ringAddr q (s.ringCons q)
    match s.ringRefusedAt .write a 32 with
    | some x => s.ringDiscard q x
    | none => s.setDesc a { d with w0 := d.w0 ||| 0x100000, w2 := s.stampOut y s.time.lin }
  | _, _ => s

/-- A descriptor that requests a timestamp waits until the ports it names can send its frame at once, since TIME is written before CONS
advances (R327). (DEDUCED, log entry 48.) -/
def State.bbTxWaits (s : State) (d : Descriptor) : Bool :=
  stampAsked d && (s.sendPorts (descCode d)).any fun y => s.bbUp y && (s.bbBusy y || s.bb.queue.any fun r => r.port == y)

/-- BB_LOCAL_TX (R316, R327): one descriptor, or one chain, of a ring that the bridge consumes. -/
def State.bbLocalTx (s : State) (q : Nat) : State :=
  if s.ringEnabled q && s.ringConsIs q 2 0 && s.get (Fld.GATE_CTRL_STATE 44) == 0 then
    match s.ringChain q with
    | .nothing => s
    | .broken n => (s.ringConsume q false n).ringProtocol q
    | .refused n x => s.ringRefuse q n x
    | .payload n d bytes =>
      if s.bbMode = 2 then s.ringConsume q true n
      else if s.bbTxWaits d then s
      else ((s.bbSend (parseFrame bytes) (descCode d)).bbStampBack q d).ringConsume q false n
  else s

def execBbLocalTx (q : Fin 64) (s : State) : Host.Outcome State Fault Refusal := done (s.bbLocalTx q.val)

/-! ### Ports, timeouts, gate reset -/

/-- BB_PORT_UP (R314). -/
def execBbPortUp (x : Fin 2) (s : State) : Host.Outcome State Fault Refusal :=
  if s.get Fld.BB_CTRL_PORT_EN / 2 ^ x.val % 2 = 1 then
    done ((s.putAll [(Fld.BB_PORT_STAT_UP x.val, 1), (Fld.BB_PORT_STAT_SIGNAL x.val, 1)]).fall Src.BB_LINK_DOWN x.val 0)
  else done s

/-- BB_PORT_DOWN (R314). -/
def execBbPortDown (x : Fin 2) (s : State) : Host.Outcome State Fault Refusal :=
  if s.bit (Fld.BB_PORT_STAT_UP x.val) then
    done ((s.putAll [(Fld.BB_PORT_STAT_UP x.val, 0), (Fld.BB_PORT_STAT_DOWN_EVENT x.val, 1)]).rise Src.BB_LINK_DOWN x.val 0)
  else done s

/-- TC_FOLLOW_UP_TIMEOUT (R323): the residence held longest is dropped. -/
def execTcFollowUpTimeout (s : State) : Host.Outcome State Fault Refusal :=
  done { s with bb := { s.bb with twoStep := s.bb.twoStep.drop 1 } }

/-- A gate reset of the bridge (R319): transmissions in progress are cut short, a frame cut through ends with an inverted FCS and counts; both
buffers empty. (DEDUCED, log entry 48.) -/
def State.bbReset (s : State) : State :=
  let s := s.bb.busy.foldl (fun s b =>
    let s := s.emit (.backboneCut b.1 b.2)
    if b.2 then s.bump (Fld.BB_PORT_ERR_STOMPED b.1) else s) s
  { s with bb := { s.bb with queue := [], busy := [], held := [], twoStep := [] } }

end Sys2Proof.Machine
end

