-- ==== Sys2Proof/Machine/Can.lean ====
section
/-! DEFINITION. The CAN FD controllers (14): message objects, transmission and its cancels, errors, survey objects in port 20, rings. -/
namespace Sys2Proof.Machine

def CanState.reset : CanState := ⟨none, false, [], [], [], []⟩

def State.canSt (s : State) (k : Nat) : CanState := sparseGet (fun _ => CanState.reset) s.can k

def State.setCan (s : State) (k : Nat) (c : CanState) : State := { s with can := sparseSet (fun _ => CanState.reset) s.can k c }

/-- TX_STATE values of CAN_OBJ_CTRL. -/
def Tx.IDLE : Nat := 0
def Tx.PENDING : Nat := 1
def Tx.ATTEMPT : Nat := 2
def Tx.SENT : Nat := 3
def Tx.CANCELLED : Nat := 4

def State.txState (s : State) (k m : Nat) : Nat := s.get (Fld.CAN_OBJ_CTRL_TX_STATE k m)

def State.setTx (s : State) (k m st : Nat) : State := s.put (Fld.CAN_OBJ_CTRL_TX_STATE k m) st

/-- MODE is NORMAL or LISTEN; 0b11 acts as OFF (R343). -/
def State.canOn (s : State) (k : Nat) : Bool := s.get (Fld.CAN_CTRL_MODE k) == 1 || s.get (Fld.CAN_CTRL_MODE k) == 2

/-- Bus-off or recovering from it. -/
def State.canBusOff (s : State) (k : Nat) : Bool := decide (2 ≤ s.get (Fld.CAN_STAT_STATE k))

def State.canOpen (s : State) (k : Nat) : Bool := s.get (Fld.GATE_CTRL_STATE (40 + k)) == 0

/-- The controller takes part in the bus (R343, R345). -/
def State.canTakesPart (s : State) (k : Nat) : Bool := s.canOn k && s.canOpen k && !s.canBusOff k

/-- The controller drives the bus: NORMAL, and not silent for the pair role (R343, R346). -/
def State.canDrives (s : State) (k : Nat) : Bool :=
  s.canTakesPart k && s.get (Fld.CAN_CTRL_MODE k) == 1 && !s.bit (Fld.CAN_STAT_PAIR_SILENT k)

/-- The data length is one of R335's for the frame format. -/
def canLengthOk (id : BitVec 32) (n : Nat) : Bool :=
  decide (n ≤ 8) || (id.getLsbD 30 && [12, 16, 20, 24, 32, 48, 64].contains n)

/-- BRS stands in an FD frame only (R335). (DEDUCED, log entry 47.) -/
def canFormatOk (id : BitVec 32) : Bool := !id.getLsbD 31 || id.getLsbD 30

/-! ### Payloads -/

/-- The 64 payload bytes of an object. -/
def State.canBytes (s : State) (k m : Nat) : List Byte :=
  (List.range 16).flatMap fun w => leBytes 4 (s.getReg (Reg.CAN_OBJ_DATA k m w)).toNat

/-- Write payload bytes from byte 0; later bytes stay. (DEDUCED, log entry 47.) -/
def State.setCanBytes (s : State) (k m : Nat) (bs : List Byte) : State :=
  let all := bs ++ (s.canBytes k m).drop bs.length
  (List.range 16).foldl (fun s w => s.setReg (Reg.CAN_OBJ_DATA k m w) (BitVec.ofNat 32 (ofLeBytes ((all.drop (4 * w)).take 4)))) s

/-! ### Fault confinement (R344) -/

/-- STATE, the levels and CAN_EVENT follow new error counts. -/
def State.canCounts (s : State) (k tec rxe : Nat) : State :=
  let warnWas := decide (96 ≤ max (s.get (Fld.CAN_STAT_TEC k)) (s.get (Fld.CAN_STAT_REC k)))
  let passiveWas := s.get (Fld.CAN_STAT_STATE k) == 1
  let warn := decide (96 ≤ max tec rxe)
  let passive := decide (127 < max tec rxe)
  let s := s.putAll [(Fld.CAN_STAT_TEC k, min 255 tec), (Fld.CAN_STAT_REC k, min 255 rxe)]
  let s := if warn then (if warnWas then s else (s.putBit (Fld.CAN_EVENT_WARN k) true).rise Src.CAN_ERR_WARN k 0)
    else s.fall Src.CAN_ERR_WARN k 0
  if s.canBusOff k then s
  else if passive then
    let s := s.put (Fld.CAN_STAT_STATE k) 1
    if passiveWas then s else (s.putBit (Fld.CAN_EVENT_PASSIVE k) true).rise Src.CAN_ERR_PASSIVE k 0
  else (s.put (Fld.CAN_STAT_STATE k) 0).fall Src.CAN_ERR_PASSIVE k 0

/-- Bus-off: requests stay PENDING; recovery starts by itself with AUTO_RECOVER. -/
def State.canGoesBusOff (s : State) (k : Nat) : State :=
  let s := s.put (Fld.CAN_STAT_STATE k) (if s.bit (Fld.CAN_CTRL_AUTO_RECOVER k) then 3 else 2)
  let s := (s.putBit (Fld.CAN_EVENT_BUS_OFF k) true).fall Src.CAN_ERR_PASSIVE k 0
  let s := s.rise Src.CAN_BUS_OFF k 0
  s.record 0x5C k [(1, s.get (Fld.CAN_STAT_TEC k)), (1, s.get (Fld.CAN_EVENT_LEC k))]

/-- LEC code of an error kind. -/
def lecCode : CanErrorKind → Nat
  | .stuff => 1
  | .form => 2
  | .ack => 3
  | .bit1 => 4
  | .bit0 => 5
  | .crc => 6

/-- The CAN_ERRCNT field that counts an error kind. -/
def errField (k : Nat) : CanErrorKind → RegField
  | .stuff => Fld.CAN_ERRCNT_STUFF_FORM k
  | .form => Fld.CAN_ERRCNT_STUFF_FORM k
  | .ack => Fld.CAN_ERRCNT_ACK k
  | .bit1 => Fld.CAN_ERRCNT_BIT k
  | .bit0 => Fld.CAN_ERRCNT_BIT k
  | .crc => Fld.CAN_ERRCNT_CRC k

/-- The counts after an error (ISO 11898-1:2015): a transmitter adds 8, but for an acknowledgement error while error-passive with no
dominant bit seen (`primary` false); a receiver adds 1, and 8 where it is the first to see the error (`primary`).
(PRESUMED, log entry 46.) -/
def canErrorCounts (tec rxe : Nat) (passive : Bool) (kind : CanErrorKind) (transmitting primary : Bool) : Nat × Nat :=
  if transmitting then (if kind = .ack ∧ passive = true ∧ primary = false then (tec, rxe) else (tec + 8, rxe))
  else (tec, rxe + if primary then 8 else 1)

/-! ### Ends of attempts (R337) -/

/-- A payload held for the end of an attempt is requested (R341). -/
def State.canHeld (s : State) (k m : Nat) : State :=
  let c := s.canSt k
  match c.held.find? fun p => p.1 == m with
  | none => s
  | some (_, bs) => (((s.setCan k { c with held := c.held.filter fun p => p.1 != m }).setCanBytes k m bs).setTx k m Tx.PENDING)

/-- The attempt is over: TX_STATE `st`, then a held payload. -/
def State.endAttempt (s : State) (k m st : Nat) (late : Bool) : State :=
  let s := s.setCan k { s.canSt k with attempt := none, cancelled := false }
  let s := s.setTx k m st
  let s := if late || st == Tx.CANCELLED then s.putBit (Fld.CAN_OBJ_CTRL_CANCEL_LATE k m) late else s
  s.canHeld k m

/-- A lost or failed attempt is retried unless a cancel has reached the engine. -/
def State.retryAttempt (s : State) (k m : Nat) : State :=
  if (s.canSt k).cancelled then s.endAttempt k m Tx.CANCELLED false else s.endAttempt k m Tx.PENDING false

/-! ### Reception (R335, R342) -/

/-- A frame matches an enabled receive object (R335). -/
def State.canMatches (s : State) (k m : Nat) (id : BitVec 32) : Bool :=
  let oid := s.getReg (Reg.CAN_OBJ_ID k m)
  s.bit (Fld.CAN_OBJ_CTRL_ENABLE k m) && !s.bit (Fld.CAN_OBJ_CTRL_DIR k m) && oid.getLsbD 29 == id.getLsbD 29
    && ((id ^^^ oid) &&& s.getReg (Reg.CAN_OBJ_MASK k m) &&& 0x1FFFFFFF) == 0

/-- The receive ring of a controller (R342). -/
def State.canRxRing (s : State) (k : Nat) : Option Nat :=
  let q := s.get (Fld.CAN_RING_RX_RING k)
  if s.bit (Fld.CAN_RING_RX_VALID k) && s.ringEnabled q && s.ringProdIs q 4 k then some q else none

/-- The object is served through the rings. -/
def State.canRinged (s : State) (k m : Nat) : Bool :=
  s.bit (Fld.CAN_OBJ_CTRL_RING k m) && !s.bit (Fld.CAN_OBJ_CTRL_SURVEY k m)

/-- Deliver the frame an object holds to the receive ring where it finds room (R342). -/
def State.canDeliverOne (s : State) (k m : Nat) : State :=
  if s.canRinged k m && s.bit (Fld.CAN_OBJ_CTRL_NEW k m) && !s.bit (Fld.CAN_OBJ_CTRL_DIR k m) then
    match s.canRxRing k with
    | none => s
    | some q =>
      let id := sparseGet (fun _ => 0) (s.canSt k).rxId m
      let bs := (s.canBytes k m).take (s.get (Fld.CAN_OBJ_STAT_RX_LEN k m))
      match s.ringPushAll q (inlineChain m id.toNat bs) with
      | some s => s.putBit (Fld.CAN_OBJ_CTRL_NEW k m) false
      | none => s
  else s

/-- Frames that wait in their objects are delivered once the ring has room. -/
def State.canDeliver (s : State) (k : Nat) : State :=
  if (s.canRxRing k).isSome then (List.range 128).foldl (fun s m => s.canDeliverOne k m) s else s

/-- The frames of all controllers whose receive ring is `q`. -/
def State.canDeliverRing (s : State) (q : Nat) : State :=
  (List.range 4).foldl (fun s k => if s.canRxRing k = some q then s.canDeliver k else s) s

/-- A valid frame replaces what its object holds (R335); where that waited for a full ring, the ring drops it (R342). -/
def State.canStore (s : State) (k m : Nat) (f : CanFrame) : State :=
  let s := if s.bit (Fld.CAN_OBJ_CTRL_NEW k m) then
      let s := s.bump (Fld.CAN_OBJ_STAT_REPLACED k m)
      if s.canRinged k m then
        match s.canRxRing k with
        | some q => s.ringDrop q
        | none => s
      else s
    else s
  let c := s.canSt k
  let s := s.setCan k { c with rxId := sparseSet (fun _ => 0) c.rxId m f.id, rxAt := c.rxAt.filter (fun p => p.1 != m) ++ [(m, s.time.cycles)] }
  let s := (s.setCanBytes k m f.data).put (Fld.CAN_OBJ_STAT_RX_LEN k m) f.data.length
  let s := s.putBit (Fld.CAN_OBJ_CTRL_NEW k m) true
  (s.bumpWrap (Fld.CAN_CNT_RX k)).canDeliverOne k m

/-- The receive count after a good frame (ISO 11898-1:2015): one less, and from above 127 a value from 119 to 127, which is a free value.
(PRESUMED, log entry 46.) -/
def State.canGoodRx (s : State) (k : Nat) : State :=
  if s.get (Fld.CAN_CTRL_MODE k) = 1 ∧ s.bit (Fld.CAN_STAT_PAIR_SILENT k) = false then
    let rxe := s.get (Fld.CAN_STAT_REC k)
    if 127 < rxe then
      let (v, s) := s.draw
      s.canCounts k (s.get (Fld.CAN_STAT_TEC k)) (119 + v.toNat % 9)
    else if 0 < rxe then s.canCounts k (s.get (Fld.CAN_STAT_TEC k)) (rxe - 1)
    else s
  else s

/-- CAN_FRAME_RX (R335): FD frames need FD_EN. -/
def State.canFrameRx (s : State) (k : Nat) (f : CanFrame) : State :=
  if s.canTakesPart k && (!f.id.getLsbD 30 || s.bit (Fld.CAN_CTRL_FD_EN k)) then
    let s := s.canGoodRx k
    match (List.range 128).find? fun m => s.canMatches k m f.id with
    | none => s
    | some m => s.canStore k m f
  else s

def execCanFrameRx (k : Fin 4) (f : CanFrame) (s : State) : Host.Outcome State Fault Refusal := done (s.canFrameRx k.val f)

/-- CAN_REMOTE_FRAME (R332). -/
def execCanRemoteFrame (k : Fin 4) (_f : CanFrame) (s : State) : Host.Outcome State Fault Refusal :=
  if s.canTakesPart k.val then done (s.putBit (Fld.CAN_EVENT_RTR_SEEN k.val) true) else done s

/-! ### Transmission (R336, R337) -/

/-- The place of an identifier in bus arbitration: the lower wins. The 11 base bits, IDE recessive for the extended format, the rest.
(DEDUCED, log entry 47.) -/
def arbKey (id : BitVec 32) : Nat :=
  let base := id.toNat / 2 ^ 18 % 2 ^ 11
  if id.getLsbD 29 then base * 2 ^ 19 + 2 ^ 18 + id.toNat % 2 ^ 18 else base * 2 ^ 19

/-- Whether object m is ready for an attempt. (DEDUCED, log entry 47.) -/
def State.canReady (s : State) (k m : Nat) : Bool :=
  s.txState k m == Tx.PENDING && (!(s.getReg (Reg.CAN_OBJ_ID k m)).getLsbD 30 || s.bit (Fld.CAN_CTRL_FD_EN k))

/-- The pending object that wins arbitration, the lower-numbered of equals (R336). -/
def State.canWinner (s : State) (k : Nat) : Option Nat :=
  (List.range 128).foldl (fun (best : Option Nat) m =>
    if s.canReady k m then
      match best with
      | none => some m
      | some b => if arbKey (s.getReg (Reg.CAN_OBJ_ID k m)) < arbKey (s.getReg (Reg.CAN_OBJ_ID k b)) then some m else best
    else best) none

/-- CAN_TX_ATTEMPT (R337): the attempt commits at the start of SOF. -/
def State.canAttempt (s : State) (k : Nat) : State :=
  if s.canDrives k && (s.canSt k).attempt.isNone then
    match s.canWinner k with
    | none => s
    | some m => (s.setCan k { s.canSt k with attempt := some m, cancelled := false }).setTx k m Tx.ATTEMPT
  else s

def execCanTxAttempt (k : Fin 4) (s : State) : Host.Outcome State Fault Refusal := done (s.canAttempt k.val)

/-- CAN_TX_COMPLETE (R337). -/
def State.canComplete (s : State) (k : Nat) : State :=
  match (s.canSt k).attempt with
  | none => s
  | some m =>
    let f : CanFrame := ⟨s.getReg (Reg.CAN_OBJ_ID k m), (s.canBytes k m).take (s.get (Fld.CAN_OBJ_CTRL_LENGTH k m))⟩
    let s := (s.emit (.can k f (s.get (Fld.CAN_STAT_STATE k) == 1))).bumpWrap (Fld.CAN_CNT_TX k)
    let s := s.canCounts k (s.get (Fld.CAN_STAT_TEC k) - 1) (s.get (Fld.CAN_STAT_REC k))
    s.endAttempt k m Tx.SENT (s.canSt k).cancelled

def execCanTxComplete (k : Fin 4) (s : State) : Host.Outcome State Fault Refusal := done (s.canComplete k.val)

/-- CAN_ARB_LOST (R337). -/
def State.canArbLost (s : State) (k : Nat) : State :=
  match (s.canSt k).attempt with
  | none => s
  | some m => (s.bump (Fld.CAN_OBJ_STAT_LOST_ARB k m)).retryAttempt k m

def execCanArbLost (k : Fin 4) (s : State) : Host.Outcome State Fault Refusal := done (s.canArbLost k.val)

/-- The attempt under way ends without completion. -/
def State.stopAttempt (s : State) (k : Nat) : State :=
  match (s.canSt k).attempt with
  | none => s
  | some m => s.retryAttempt k m

/-- CAN_ERROR (R344): counted in CAN_ERRCNT and LEC; the error counters do not change for a listener (R343, R346).
(PRESUMED, log entry 46.) -/
def State.canError (s : State) (k : Nat) (kind : CanErrorKind) (transmitting primary : Bool) : State :=
  if s.canTakesPart k then
    let s := (s.put (Fld.CAN_EVENT_LEC k) (lecCode kind)).bump (errField k kind)
    if s.canDrives k || (s.canSt k).attempt.isSome then
      let passive := s.get (Fld.CAN_STAT_STATE k) == 1
      let (tec, rxe) := canErrorCounts (s.get (Fld.CAN_STAT_TEC k)) (s.get (Fld.CAN_STAT_REC k)) passive kind transmitting primary
      let s := s.canCounts k tec rxe
      let s := if transmitting then s.stopAttempt k else s
      if 255 < tec then s.canGoesBusOff k else s
    else s
  else s

def execCanError (k : Fin 4) (kind : CanErrorKind) (transmitting primary : Bool) (s : State) : Host.Outcome State Fault Refusal :=
  done (s.canError k.val kind transmitting primary)

/-- CAN_RECOVERY_DONE (R344). -/
def State.canRecovered (s : State) (k : Nat) : State :=
  if s.get (Fld.CAN_STAT_STATE k) = 3 then
    let s := ((s.put (Fld.CAN_STAT_STATE k) 0).canCounts k 0 0).putBit (Fld.CAN_EVENT_RECOVERED k) true
    s.fall Src.CAN_BUS_OFF k 0
  else s

def execCanRecoveryDone (k : Fin 4) (s : State) : Host.Outcome State Fault Refusal := done (s.canRecovered k.val)

/-! ### Register writes (R334, R337, R342, R344) -/

/-- A write to CAN_CTRL[k]: OFF ends an attempt under way; RECOVER or AUTO_RECOVER starts a recovery that is due. -/
def State.canCtrlWrite (s : State) (k : Nat) (v : Word) : State :=
  let s := s.regStore (Reg.CAN_CTRL k) v
  let s := if s.get (Fld.CAN_CTRL_MODE k) = 1 then s else s.stopAttempt k
  if s.get (Fld.CAN_STAT_STATE k) = 2 ∧ ((Fld.CAN_CTRL_RECOVER k).on v = true ∨ s.bit (Fld.CAN_CTRL_AUTO_RECOVER k) = true) then
    s.put (Fld.CAN_STAT_STATE k) 3
  else s

/-- CAN_RECOVER (R344). -/
def execCanRecover (k : Fin 4) (v : Word) (s : State) : Host.Outcome State Fault Refusal := done (s.gated (40 + k.val) fun s => s.canCtrlWrite k.val v)

/-- A refused write (R334, R342). -/
def State.canRefuse (s : State) (k : Nat) : State := s.putBit (Fld.CAN_EVENT_CFG_REFUSED k) true

/-- Controller `k` is OFF: MODE 0b00, and 0b11, which acts as OFF (R343, R468). -/
def State.canOff (s : State) (k : Nat) : Bool := s.get (Fld.CAN_CTRL_MODE k) == 0 || s.get (Fld.CAN_CTRL_MODE k) == 3

/-- A write to CAN_NBT or CAN_DBT: only while MODE is OFF (R334). -/
def State.canBitTiming (s : State) (k a : Nat) (v : Word) : State :=
  if s.canOff k then s.regStore a v else s.canRefuse k

def State.canTimingWrite (s : State) (k : Nat) (reg : CanTimingReg) (v : Word) : State :=
  match reg with
  | .nbt => s.canBitTiming k (Reg.CAN_NBT k) v
  | .dbt => s.canBitTiming k (Reg.CAN_DBT k) v
  | .tdc => s.regStore (Reg.CAN_TDC k) v
  | .ctrl => s.canCtrlWrite k v

/-- CAN_TIMING_WRITE (R334). -/
def execCanTimingWrite (k : Fin 4) (reg : CanTimingReg) (v : Word) (s : State) : Host.Outcome State Fault Refusal :=
  done (s.gated (40 + k.val) fun s => s.canTimingWrite k.val reg v)

/-- Request transmission of an object: a payload replaces one still PENDING and is held during an ATTEMPT (R341). -/
def State.canRequest (s : State) (k m : Nat) (bs : List Byte) : State :=
  if s.txState k m = Tx.ATTEMPT then
    let c := s.canSt k
    s.setCan k { c with held := c.held.filter (fun p => p.1 != m) ++ [(m, bs)] }
  else
    let s := if s.txState k m = Tx.PENDING then s.bump (Fld.CAN_OBJ_STAT_REPLACED k m) else s
    (s.setCanBytes k m bs).setTx k m Tx.PENDING

/-- TXREQ of a host send object with RING 0 (R342): one already PENDING or in ATTEMPT stays so. (DEDUCED, log entry 47.) -/
def State.canTxreq (s : State) (k m : Nat) : State :=
  if s.bit (Fld.CAN_OBJ_CTRL_ENABLE k m) && s.bit (Fld.CAN_OBJ_CTRL_DIR k m) && !s.bit (Fld.CAN_OBJ_CTRL_RING k m)
      && canLengthOk (s.getReg (Reg.CAN_OBJ_ID k m)) (s.get (Fld.CAN_OBJ_CTRL_LENGTH k m)) && canFormatOk (s.getReg (Reg.CAN_OBJ_ID k m))
      && s.txState k m != Tx.PENDING && s.txState k m != Tx.ATTEMPT then s.setTx k m Tx.PENDING
  else s

/-- CANCEL is on its way to the engine (R337). -/
def State.canCancel (s : State) (k m : Nat) : State :=
  let c := s.canSt k
  s.setCan k { c with cancels := c.cancels.filter (fun j => j != m) ++ [m] }

/-- A write to CAN_OBJ_CTRL[k][m] (R342, R469). -/
def State.canObjCtrl (s : State) (k m : Nat) (v : Word) : State :=
  if s.bit (Fld.CAN_OBJ_CTRL_SURVEY k m) then s.canRefuse k
  else
    s.actions [Fld.CAN_OBJ_CTRL_TXREQ k m, Fld.CAN_OBJ_CTRL_CANCEL k m] none v fun s =>
      let s := s.regStore (Reg.CAN_OBJ_CTRL k m) v
      if (Fld.CAN_OBJ_CTRL_TXREQ k m).on v then s.canTxreq k m
      else if (Fld.CAN_OBJ_CTRL_CANCEL k m).on v then s.canCancel k m
      else s.canDeliverOne k m

/-- DATA of a host send object that is IDLE, SENT or CANCELLED; otherwise read-only. -/
def State.canDataWritable (s : State) (k m : Nat) : Bool :=
  s.bit (Fld.CAN_OBJ_CTRL_DIR k m) && s.txState k m != Tx.PENDING && s.txState k m != Tx.ATTEMPT

/-- A write to a message object's registers (R342). -/
def State.canObjWrite (s : State) (k m : Nat) (reg : CanObjReg) (v : Word) : State :=
  if s.bit (Fld.CAN_OBJ_CTRL_SURVEY k m) then s.canRefuse k
  else
    match reg with
    | .ctrl => s.canObjCtrl k m v
    | .id => s.regStore (Reg.CAN_OBJ_ID k m) v
    | .mask => s.regStore (Reg.CAN_OBJ_MASK k m) v
    | .data w => if s.canDataWritable k m then s.regStore (Reg.CAN_OBJ_DATA k m w.val) v else s

/-- CAN_OBJ_WRITE (R342). -/
def execCanObjWrite (k : Fin 4) (m : Fin 128) (reg : CanObjReg) (v : Word) (s : State) : Host.Outcome State Fault Refusal :=
  done (s.gated (40 + k.val) fun s => s.canObjWrite k.val m.val reg v)

/-- TXREQ (R342). -/
def execTxreq (k : Fin 4) (m : Fin 128) (v : Word) (s : State) : Host.Outcome State Fault Refusal := done (s.gated (40 + k.val) fun s => s.canObjCtrl k.val m.val v)

/-- CANCEL (R337). -/
def execCancel (k : Fin 4) (m : Fin 128) (v : Word) (s : State) : Host.Outcome State Fault Refusal := done (s.gated (40 + k.val) fun s => s.canObjCtrl k.val m.val v)

/-- CANCEL_REACHES_ENGINE (R337). (DEDUCED, log entry 47.) -/
def State.cancelReaches (s : State) (k m : Nat) : State :=
  let c := s.canSt k
  if c.cancels.contains m then
    let c := { c with cancels := c.cancels.filter fun j => j != m }
    let s := s.setCan k c
    if c.attempt = some m then s.setCan k { c with cancelled := true }
    else if s.txState k m = Tx.PENDING then (s.setTx k m Tx.CANCELLED).putBit (Fld.CAN_OBJ_CTRL_CANCEL_LATE k m) false
    else s
  else s

def execCancelReachesEngine (k : Fin 4) (m : Fin 128) (s : State) : Host.Outcome State Fault Refusal := done (s.cancelReaches k.val m.val)

/-! ### Rings -/

/-- The transmit ring of a controller. -/
def State.canTxRing (s : State) (k : Nat) : Option Nat :=
  let q := s.get (Fld.CAN_RING_TX_RING k)
  if s.bit (Fld.CAN_RING_TX_VALID k) && s.ringEnabled q && s.ringConsIs q 4 k then some q else none

/-- A host send object with RING 1. -/
def State.canRingObject (s : State) (k m : Nat) : Bool :=
  decide (m < 128) && s.canRinged k m && s.bit (Fld.CAN_OBJ_CTRL_DIR k m) && s.bit (Fld.CAN_OBJ_CTRL_ENABLE k m)

/-- CAN_RING_TX (R342, R346): the chain at the head of the transmit ring. -/
def State.canRingTx (s : State) (k : Nat) : State :=
  match s.canTxRing k with
  | none => s
  | some q =>
    match s.ringChain q with
    | .nothing => s
    | .broken n => (s.ringConsume q true n).ringProtocol q
    | .refused n x => s.ringRefuse q n x
    | .payload n d bytes =>
      let m := descCode d
      let id := BitVec.ofNat 32 (descTag d)
      if s.bit (Fld.CAN_STAT_PAIR_SILENT k) then s.ringConsume q true n
      else if !descInline d || !s.canRingObject k m || !canLengthOk id bytes.length || !canFormatOk id then (s.ringConsume q true n).ringProtocol q
      else if s.txState k m = Tx.PENDING ∨ s.txState k m = Tx.ATTEMPT then s
      else
        let s := (s.setReg (Reg.CAN_OBJ_ID k m) id).put (Fld.CAN_OBJ_CTRL_LENGTH k m) bytes.length
        ((s.setCanBytes k m bytes).setTx k m Tx.PENDING).ringConsume q false n

def execCanRingTx (k : Fin 4) (s : State) : Host.Outcome State Fault Refusal := done (s.canRingTx k.val)

/-- RING_CONS_WRITE (R328): frames waiting for room in a CAN ring follow (R342). -/
def execRingConsWrite (q : Fin 64) (v : Word) (s : State) : Host.Outcome State Fault Refusal :=
  done (s.gated 46 fun s => (s.ringConsWrite q.val v).canDeliverRing q.val)

/-! ### Survey objects (R338 to R341) -/

/-- The objects of the running survey's object map; all others become host objects (R338). -/
def State.canSurvey (s : State) (g : Survey) : State :=
  let s := (List.range 512).foldl (fun s n =>
    if s.bit (Fld.CAN_OBJ_CTRL_SURVEY (n / 128) (n % 128)) then
      s.putAll [(Fld.CAN_OBJ_CTRL_SURVEY (n / 128) (n % 128), 0), (Fld.CAN_OBJ_CTRL_ENABLE (n / 128) (n % 128), 0)]
    else s) s
  g.canMap.foldl (fun s e =>
    let s := s.putAll [(Fld.CAN_OBJ_CTRL_SURVEY e.ctrl e.object, 1), (Fld.CAN_OBJ_CTRL_ENABLE e.ctrl e.object, 1),
      (Fld.CAN_OBJ_CTRL_DIR e.ctrl e.object, e.send.toNat), (Fld.CAN_OBJ_CTRL_RING e.ctrl e.object, 0),
      (Fld.CAN_OBJ_CTRL_LENGTH e.ctrl e.object, e.length)]
    (s.setReg (Reg.CAN_OBJ_ID e.ctrl e.object) e.id).setReg (Reg.CAN_OBJ_MASK e.ctrl e.object) (e.mask &&& 0x1FFFFFFF)) s

/-- Bit offset of a CAN signal. -/
def canBit (d : SignalDesc) : Nat := d.source / 512 % 512

/-- Width of a signal's value. -/
def sigWidth (d : SignalDesc) : Nat := if d.type = 3 then d.bits else 32

/-- The signals of an object, in ascending bit offset (R338, R339). -/
def canSignals (g : Survey) (e : CanMapEntry) : List SignalDesc :=
  sortBy canBit (g.signals.filter fun d => d.cls == 2 && d.source % 4 == e.ctrl && d.source / 4 % 128 == e.object)

def State.port20 (s : State) (k : Nat) : DWord := sparseGet (fun _ => slotEmpty) s.sig.port20 k

def State.setPort20 (s : State) (k : Nat) (w : DWord) : State :=
  { s with sig := { s.sig with port20 := sparseSet (fun _ => slotEmpty) s.sig.port20 k w } }

/-- First key of an object's image in port 20 (R339). -/
def canImageKey (e : CanMapEntry) : Nat := 4 * (e.imgBeat + if e.send then 8192 else 0)

/-- A slot that took no fresh value at the latch ages, and becomes STALE above STALE_AGE (R20, R105). -/
def slotMissedFresh (d : SignalDesc) (w : DWord) : DWord :=
  let w := slotAged w
  if d.staleAge ≠ 0 ∧ d.staleAge < slotAge w then slotWithStatus w (tagFirst (slotStatus w) Tag.STALE) else w

/-- The slot of a fresh value (R18, R19, R340). -/
def State.canFresh (s : State) (e : CanMapEntry) (d : SignalDesc) (payload : Nat) : DWord :=
  let v := BitVec.ofNat 32 (payload / 2 ^ canBit d % 2 ^ sigWidth d)
  typedSlot d (mkSlot v Tag.GOOD (s.origin (s.task e.task).t0 2) 0 ((s.cyc e.task).truncate 16))

/-- The slot of a frame shorter than its object (R340): VALUE stays, and is the safe default where no value exists (R24). -/
def State.canShort (s : State) (e : CanMapEntry) (d : SignalDesc) (w : DWord) : DWord :=
  let v := if slotStatus w = Tag.INIT then d.safeValue else slotValue w
  mkSlot v Tag.BAD_CHANNEL_FAULT (s.origin (s.task e.task).t0 2) 0 ((s.cyc e.task).truncate 16)

/-- The object has received a frame since its latest latch; one that became valid in the CLK_TIME cycle of t0 waits for the next (R340). -/
def State.canNew (s : State) (e : CanMapEntry) : Bool :=
  s.bit (Fld.CAN_OBJ_CTRL_NEW e.ctrl e.object) && !(s.canSt e.ctrl).rxAt.contains (e.object, (s.task e.task).t0Cyc)

/-- One receive object is latched (R340). -/
def State.canLatchOne (s : State) (g : Survey) (e : CanMapEntry) : State :=
  let k := e.ctrl
  let m := e.object
  let ds := (canSignals g e).zipIdx
  let each (s : State) (f : SignalDesc → DWord → DWord) : State :=
    ds.foldl (fun s p => s.setPort20 (canImageKey e + p.2) (f p.1 (s.port20 (canImageKey e + p.2)))) s
  if !s.canTakesPart k then each s fun d w => slotBad d.safeValue (slotAged w) Tag.BAD_CHANNEL_FAULT
  else if !s.canNew e then each s slotMissedFresh
  else
    let s := s.putBit (Fld.CAN_OBJ_CTRL_NEW k m) false
    if s.get (Fld.CAN_OBJ_STAT_RX_LEN k m) < e.length then
      each (s.bump (Fld.CAN_OBJ_STAT_SHORT k m)) fun d w => s.canShort e d w
    else
      let payload := ofLeBytes (s.canBytes k m)
      each s fun d _ => s.canFresh e d payload

/-- FREEZE of task `t` latches its receive objects (R340). -/
def State.canLatch (s : State) (t : Nat) : State :=
  match s.activeSurvey with
  | none => s
  | some g => (g.canMap.filter fun e => !e.send && e.task == t).foldl (fun s e => s.canLatchOne g e) s

/-- The payload bytes of a send object from its image in port 20 (R341). -/
def State.canPayload (s : State) (g : Survey) (e : CanMapEntry) : List Byte :=
  leBytes e.length (((canSignals g e).zipIdx.map fun p =>
    (slotValue (s.port20 (canImageKey e + p.2))).toNat % 2 ^ sigWidth p.1 * 2 ^ canBit p.1).sum)

/-- Whether a held task's object is packed for an EMIT force on one of its signals (R214, R341). -/
def State.canForced (s : State) (g : Survey) (e : CanMapEntry) : Bool :=
  (canSignals g e).any fun d => (s.forceFor d.id 1).isSome

/-- The EMIT-anchored transfers into a send object have ended: it is packed and requested (R341, R346). (DEDUCED, log entry 47.) -/
def State.canPack (s : State) (g : Survey) (e : CanMapEntry) (held : Bool) : State :=
  let bad := e.withholdBad && (canSignals g e).zipIdx.any fun p => tagBad (slotStatus (s.port20 (canImageKey e + p.2)))
  if s.mode = .hold ∨ bad = true ∨ (held = true ∧ s.canForced g e = false) ∨ s.canOpen e.ctrl = false then s
  else if s.bit (Fld.CAN_STAT_PAIR_SILENT e.ctrl) then
    if s.txState e.ctrl e.object = Tx.ATTEMPT then s else s.setCanBytes e.ctrl e.object (s.canPayload g e)
  else s.canRequest e.ctrl e.object (s.canPayload g e)

/-! ### Role and gate (R345, R346) -/

/-- Whether the module's role silences its controllers. -/
def State.canSilent (s : State) : Bool := s.role == .shadow || s.role == .joining || s.bit Fld.PAIR_STAT_YIELDED

/-- Every request of a controller that is not in ATTEMPT is cancelled. -/
def State.canCancelAll (s : State) (k : Nat) : State :=
  let s := s.setCan k { s.canSt k with held := [] }
  (List.range 128).foldl (fun s m => if s.txState k m = Tx.PENDING then s.setTx k m Tx.CANCELLED else s) s

/-- The right to transmit at an EMIT after a role change (R346). (DEDUCED, log entry 47.) -/
def State.canRoles (s : State) : State :=
  (List.range 4).foldl (fun s k =>
    if s.canSilent = s.bit (Fld.CAN_STAT_PAIR_SILENT k) then s
    else
      let s' := s.putBit (Fld.CAN_STAT_PAIR_SILENT k) s.canSilent
      if s.canSilent then s'.canCancelAll k else s') s

/-- A gate reset of controller `k` (R345). -/
def State.canReset (s : State) (k : Nat) : State :=
  let s := (List.range 128).foldl (fun s m =>
    let s := if s.txState k m = Tx.PENDING ∨ s.txState k m = Tx.ATTEMPT then s.setTx k m Tx.IDLE else s
    if s.bit (Fld.CAN_OBJ_CTRL_NEW k m) then s.putBit (Fld.CAN_OBJ_CTRL_NEW k m) false else s) s
  let s := s.setCan k CanState.reset
  let s := s.put (Fld.CAN_STAT_STATE k) 0
  (s.canCounts k 0 0).fall Src.CAN_BUS_OFF k 0

end Sys2Proof.Machine
end

