-- ==== Sys2Proof/Machine/Survey.lean ====
section
/-! DEFINITION. The checks of R117 on a parsed survey, in their order; each answers the directory index and the entry of the first failure
(R117, SVY_LOAD_ERR). What no section entry causes is reported with 0 (log entry 70). -/
namespace Sys2Proof.Machine

/-- Where a check fails: directory index, entry. (DEDUCED, log entry 70.) -/
abbrev CheckFail := Option (Nat × Nat)

/-- Index of the first element for which `bad` holds. (DEDUCED, log entry 70.) -/
def firstBad {α : Type} (l : List α) (bad : α → Bool) : Option Nat := l.findIdx? bad

/-- The first failure of two checks in order. -/
def CheckFail.orElse (a b : CheckFail) : CheckFail :=
  match a with
  | some x => some x
  | none => b

def firstFail (l : List CheckFail) : CheckFail := l.foldl CheckFail.orElse none

/-- Fail against a section when a condition does not hold. -/
def need (sec entry : Nat) (ok : Bool) : CheckFail := if ok then none else some (sec, entry)

/-- Fail against the first bad entry of a table. -/
def needAll {α : Type} (sec : Nat) (l : List α) (ok : α → Bool) : CheckFail := (firstBad l fun x => !ok x).map fun i => (sec, i)

/-- Directory index of a section type (0 when absent). (DEDUCED, log entry 70.) -/
def secOf (g : Survey) (type : Nat) : Nat := (firstBad g.dir fun d => d.type == type).getD 0

/-- The directory entries of the relocation variants, with their indexes; the k-th is that of the k-th variant. -/
def variantDirs (g : Survey) : List (DirEntry × Nat) := g.dir.zipIdx.filter fun p => p.1.type == 0x0A

/-- Directory index of the k-th relocation variant. -/
def secVariantAt (g : Survey) (k : Nat) : Nat := (((variantDirs g)[k]?).map fun p => p.2).getD 0

/-- Directory index of relocation variant v. -/
def secVariantOf (g : Survey) (v : Nat) : Nat := secVariantAt g ((firstBad g.variants fun r => r.variant == v).getD 0)

/-- Whether an element repeats an earlier one by key. -/
def repeatsEarlier {α : Type} (key : α → Nat) (l : List α) : Option Nat :=
  (l.zipIdx.find? fun (p : α × Nat) => (l.take p.2).any fun q => key q == key p.1).map fun p => p.2

/-- Intervals [a, b) that meet: the index of the first that meets an earlier one. -/
def meetsEarlier {α : Type} (lo hi : α → Nat) (l : List α) : Option Nat :=
  (l.zipIdx.find? fun (p : α × Nat) => (l.take p.2).any fun q => decide (lo q < hi p.1) && decide (lo p.1 < hi q)).map fun p => p.2

/-! ### Periodic occupation -/

/-- An interval that recurs: start, length and period, in one unit of time. -/
structure Recur where
  start : Nat
  len : Nat
  period : Nat
  deriving DecidableEq, Repr

/-- Two recurring intervals that meet somewhere: with g the greatest common divisor of the periods and d the distance of the starts modulo
g, they keep apart exactly when the one of length `a.len` ends by d and the other by g. -/
def Recur.meets (a b : Recur) : Bool :=
  if a.len = 0 ∨ b.len = 0 then false
  else
    let g := Nat.gcd a.period b.period
    let d := ((b.start : Int) - (a.start : Int)) % (g : Int)
    decide (d < (a.len : Int)) || decide ((g : Int) - d < (b.len : Int))

/-- The first of a list of marked recurring intervals that meets an earlier one. -/
def recurClash (l : List (Recur × Nat)) : Option Nat :=
  (l.zipIdx.find? fun (p : (Recur × Nat) × Nat) => (l.take p.2).any fun q => p.1.1.meets q.1).map fun p => p.1.2

/-- Firings of an action with offset `o` and period `p`, recurring without end, in [a, a + n). -/
def firingsIn (o p : Nat) (a n : Nat) : Nat :=
  let up (x : Int) : Int := -((-x) / (p : Int))
  (up ((a : Int) + n - o) - up ((a : Int) - o)).toNat

/-! ### 0x01 to 0x06: header, trailer, signature, interface version -/

/-- Bytes 0 to 251 of the header (R90). -/
def headerBytes (h : SurveyHeader) : List Byte :=
  leBytes 4 h.magic ++ leBytes 2 h.formatMajor ++ leBytes 2 h.formatMinor ++ leBytes 4 h.length ++ leBytes 2 h.member ++ leBytes 2 h.flags.toNat
    ++ leBytes 8 h.buildId ++ leBytes 8 h.parentBuildId ++ leBytes 4 h.hyperTicks ++ leBytes 1 h.taskCount ++ leBytes 1 h.discrepancyLimit
    ++ leBytes 2 h.chamberMask.toNat ++ leBytes 2 h.spareMask.toNat ++ leBytes 2 h.sectionCount ++ leBytes 4 h.signalCount
    ++ leBytes 4 h.areaBytes ++ leBytes 4 h.fwIfaceMin ++ leBytes 48 h.sourceDigest ++ (h.name ++ List.replicate 32 0).take 32
    ++ List.replicate 116 0

/-- Check 0x01. -/
def headerOk (h : SurveyHeader) : Bool :=
  h.magic == 0x56525553 && crc32 (headerBytes h) == h.crc && h.formatMajor == 1 && h.member == 0x7400

/-- Check 0x02, against SURVEY_LENGTH of the generation header. -/
def lengthOk (h : SurveyHeader) (stored : Nat) : Bool :=
  decide (h.length ≤ 50331648) && h.length % 64 == 0 && h.length == stored

/-- Check 0x05 (R93, R422, R424): digest, signature, and a slot that is present, sound and not revoked; an encrypted survey needs the slot's
AES key. -/
def State.signatureOk (s : State) (g : Survey) : Bool :=
  let x := g.trailer.keyIndex
  g.trailer.digestOk && g.trailer.signatureOk && decide (x < 8) && s.bit (Fld.SEC_SVY_KEY_PRESENT x) && !s.bit (Fld.SEC_SVY_KEY_REVOKED x)
    && !s.bit (Fld.SEC_SVY_KEY_FAULT x)

/-- Check 0x04 (R94): the GCM tag under the AES key of the slot. -/
def State.tagOk (s : State) (g : Survey) : Bool :=
  !g.header.flags.getLsbD 0
    || (g.trailer.tagOk && decide (g.trailer.keyIndex < 8) && s.bit (Fld.SEC_SVY_KEY_AES_PRESENT g.trailer.keyIndex))

/-! ### 0x07: directory (R89, R91, R92) -/

/-- Entry size of a section type with entries of one size and no head. -/
def entrySizeOf (type : Nat) : Nat :=
  match type with
  | 0x01 => 32
  | 0x02 => 24
  | 0x04 => 16
  | 0x05 => 8
  | 0x06 => 16
  | 0x07 => 24
  | 0x08 => 32
  | 0x09 => 16
  | 0x0B => 16
  | 0x0C => 16
  | 0x0D => 8
  | _ => 1

/-- What makes a directory entry the same section as another (R92). -/
def dirKey (d : DirEntry) : Nat :=
  if d.type = 3 then d.type * 65536 + d.index * 256 + d.variant else if d.type = 0x0A then d.type * 65536 + d.variant else d.type * 65536

def dirOk (g : Survey) (i : Nat) (d : DirEntry) : Bool :=
  let before := match i with
    | 0 => 0x100 + 16 * g.dir.length
    | j + 1 => match g.dir[j]? with
      | some e => e.offset + e.length
      | none => 0
  decide (1 ≤ d.type ∧ d.type ≤ 0x0E) && d.offset % 64 == 0 && decide (before ≤ d.offset)
    && decide (d.offset + d.length + 256 ≤ g.header.length) && d.length % entrySizeOf d.type == 0 && d.crcOk && d.padOk
    && (if d.type = 3 then decide (d.index < 16) else d.index == 0) && decide (d.variant < 16)
    && (d.type != 0x0A || decide (1 ≤ d.variant ∧ d.variant ≤ 15))

def checkDirectory (g : Survey) : CheckFail :=
  firstFail [
    need 0 0 (decide (1 ≤ g.header.sectionCount ∧ g.header.sectionCount ≤ 64) && g.dir.length == g.header.sectionCount),
    (g.dir.zipIdx.find? fun (p : DirEntry × Nat) => !dirOk g p.2 p.1).map fun p => (p.2, 0),
    (repeatsEarlier dirKey g.dir).map fun i => (i, 0),
    need 0 0 ([1, 2, 3, 4, 7, 8, 9].all fun t => g.dir.any fun d => d.type == t)]

/-! ### 0x08 and 0x09: tasks and drip units (R95, R96, R103, R104) -/

def lcmAll (l : List Nat) : Nat := l.foldl Nat.lcm 1

def checkTasks (g : Survey) : CheckFail :=
  let sec := secOf g 1
  firstFail [
    need sec 0 (decide (1 ≤ g.tasks.length ∧ g.tasks.length ≤ 16) && g.header.taskCount == g.tasks.length),
    (g.tasks.zipIdx.find? fun (p : TaskEntry × Nat) => !(p.1.task == p.2 && decide (1 ≤ p.1.periodTicks ∧ p.1.periodTicks ≤ 40000)
      && decide (p.1.phaseTicks < p.1.periodTicks) && decide (p.1.overrunHold ≤ 255))).map fun p => (sec, p.2),
    need sec 0 (g.header.hyperTicks == lcmAll (g.tasks.map fun e => e.periodTicks) && decide (g.header.hyperTicks ≤ 40000))]

def checkDrips (g : Survey) : CheckFail :=
  let sec := secOf g 7
  firstFail [
    needAll sec g.drips fun d => decide (d.drip < 64) && decide (d.purpose ≤ 2) && decide (d.task < g.tasks.length)
      && decide (0 < d.periodNs) && decide (d.offsetNs < d.periodNs) && g.header.hyperTicks * 250000 % d.periodNs == 0
      && (d.purpose != 0 || g.tasks.any fun e => e.task == d.task && d.offsetNs == e.phaseTicks * 250000
        && d.periodNs == e.periodTicks * 250000),
    (repeatsEarlier (fun d : DripEntry => d.drip) g.drips).map fun i => (sec, i),
    needAll (secOf g 1) g.tasks fun e => g.drips.any fun d => d.drip == e.drip && d.purpose == 0 && d.task == e.task,
    needAll sec g.drips fun d => d.purpose != 0 || g.tasks.any fun e => e.task == d.task && e.drip == d.drip]

/-! ### 0x0A: chamber slots (R97, R98, R116) -/

def phaseOf (g : Survey) (t : Nat) : Nat := ((g.tasks.find? fun e => e.task == t).map fun e => e.phaseTicks).getD 0

/-- OCC in CLK_TIME cycles of 2.5 ns (R98). -/
def occ (e : SlotEntry) : Nat := e.wcet + 624 + (e.segBytes + 31) / 32

/-- Execution cap in CLK_CH cycles (R116): 0.45 × 0.74T in whole microseconds. -/
def wcetCap (periodTicks : Nat) : Nat := 333 * periodTicks / 4 * 800

/-- The occupied interval of an execution, in CLK_TIME cycles. -/
def occupied (g : Survey) (e : SlotEntry) : Recur :=
  ⟨phaseOf g e.task * 100000 + e.start, occ e, periodOf g e.task * 100000⟩

def maskOf (l : List Nat) : BitVec 16 := l.foldl (fun m c => m ||| BitVec.ofNat 16 (2 ^ c)) 0

/-- Cap, reserve and existence of one entry. (DEDUCED, log entry 70.) -/
def slotOk (g : Survey) (e : SlotEntry) : Bool :=
  decide (e.chamber < 16) && decide (e.task < g.tasks.length) && decide (e.wcet ≤ wcetCap (periodOf g e.task))
    && decide (6000 * periodOf g e.task ≤ e.start) && decide (e.start + occ e ≤ 80000 * periodOf g e.task)

/-- The first entry that shares its chamber with an earlier one at some instant. (DEDUCED, log entry 70.) -/
def sharedClash (g : Survey) (es : List SlotEntry) : Option Nat :=
  (es.zipIdx.find? fun (p : SlotEntry × Nat) => (es.take p.2).any fun q => q.chamber == p.1.chamber && (occupied g p.1).meets (occupied g q)).map
    fun p => p.2

def checkSlots (g : Survey) : CheckFail :=
  let sec := secOf g 2
  firstFail [
    needAll sec g.slots fun e => slotOk g e && e.variant == 0 && !g.header.spareMask.getLsbD e.chamber,
    need sec 0 (maskOf (g.slots.map fun e => e.chamber) == g.header.chamberMask),
    needAll (secOf g 1) g.tasks fun t => maskOf ((g.slots.filter fun e => e.task == t.task).map fun e => e.chamber) == t.chambers,
    need sec 0 (decide (((List.range 16).filter fun c => g.header.spareMask.getLsbD c).length ≤ 2)
      && g.header.spareMask &&& g.header.chamberMask == 0),
    (sharedClash g g.slots).map fun i => (sec, i)]

/-! ### 0x0B: the fabric (R99 to R101, R123, R191, R213, R254) -/

/-- A source or destination range that a port admits. -/
def fabricRange (port first beats anchor : Nat) (src : Bool) : Bool :=
  let last := first + beats
  if port = 0 then decide (last ≤ 16384)
  else if port ≤ 16 then
    if src then decide (0xF800 ≤ first ∧ last ≤ 0x10000) && (anchor == 2 || anchor == 3) else decide (last ≤ 0x7FF8)
  else
    let half := match port with
      | 18 => 32
      | 19 => 16384
      | 20 => 8192
      | _ => 0
    if src then decide (last ≤ half) else decide (half ≤ first ∧ last ≤ 2 * half) && half != 0

/-- The execution that a COMPARED entry names. -/
def comparedSlot (slots : List SlotEntry) (e : FabricEntry) : Option SlotEntry :=
  slots.find? fun x => x.chamber == e.chamber && x.task == e.task

def fabricOk (g : Survey) (slots : List SlotEntry) (e : FabricEntry) : Bool :=
  decide (e.anchor ≤ 3) && decide (e.task < g.tasks.length) && decide (1 ≤ e.beats ∧ e.beats ≤ 4096)
    && (if e.anchor = 2 then (comparedSlot slots e).isSome else e.chamber == 0xFF)
    && fabricRange e.srcPort e.srcIndex e.beats e.anchor true && fabricRange e.dstPort e.dstIndex e.beats e.anchor false
    && (e.anchor != 3 || e.dstPort != 18 || decide (e.delay + e.beats ≤ 400))

/-- The anchor after t0 in CLK_FAB cycles at nominal clock (R100). -/
def anchorOf (g : Survey) (slots : List SlotEntry) (e : FabricEntry) : Nat :=
  match e.anchor with
  | 0 => 0
  | 1 => 6000 * periodOf g e.task
  | 2 => ((comparedSlot slots e).map fun x => x.start).getD 0
  | _ => 96000 * periodOf g e.task

/-- What a transfer occupies its two ports for (R101). (DEDUCED, log entry 70.) -/
def transferWindow (g : Survey) (slots : List SlotEntry) (e : FabricEntry) : Recur :=
  let t0 := phaseOf g e.task * 100000
  let p := periodOf g e.task * 100000
  if e.anchor = 2 then
    match comparedSlot slots e with
    | some x => ⟨t0 + x.start, occ x + e.delay + e.beats, p⟩
    | none => ⟨t0, 0, p⟩
  else ⟨t0 + anchorOf g slots e + e.delay, e.beats, p⟩

def sharePort (a b : FabricEntry) : Bool :=
  a.srcPort == b.srcPort || a.srcPort == b.dstPort || a.dstPort == b.srcPort || a.dstPort == b.dstPort

/-- The first transfer that meets an earlier one on a port. (DEDUCED, log entry 70.) -/
def portClash (g : Survey) (slots : List SlotEntry) (es : List FabricEntry) : Option Nat :=
  (es.zipIdx.find? fun (p : FabricEntry × Nat) => (es.take p.2).any fun q =>
    sharePort p.1 q && (transferWindow g slots p.1).meets (transferWindow g slots q)).map fun p => p.2

/-- The COMPARED entries that carry signal d from its chamber's staging to its slot (R213). -/
def carriers (es : List FabricEntry) (d : SignalDesc) : List FabricEntry :=
  es.filter fun e => e.anchor == 2 && e.srcPort == d.source + 1 && e.dstPort == 0 && decide (e.dstIndex ≤ d.slot / 4)
    && decide (d.slot / 4 < e.dstIndex + e.beats)

/-- Sorted by nominal offset (R100): the first entry out of order. -/
def unsortedAt (keys : List Nat) : Option Nat :=
  ((List.range (keys.length - 1)).find? fun i => decide (keys.getD (i + 1) 0 < keys.getD i 0)).map fun i => i + 1

def checkFabric (g : Survey) : CheckFail :=
  let sec := secOf g 4
  firstFail [
    needAll sec g.fabric (fabricOk g g.slots),
    (unsortedAt (g.fabric.map fun e => anchorOf g g.slots e + e.delay)).map fun i => (sec, i),
    (portClash g g.slots g.fabric).map fun i => (sec, i),
    needAll (secOf g 8) g.signals fun d => d.cls != 4 || (carriers g.fabric d).length == 1]

/-! ### 0x0C: island and fieldlink tables (R102, R252, R299 to R303) -/

/-- Actions on an island in the frame period of 10 µs from `a` (R252). -/
def islandActions (g : Survey) (i a : Nat) : Nat :=
  ((g.triggers.filter fun e => e.island == i).map fun e =>
    match g.drips.find? fun d => d.drip == e.drip with
    | some d => firingsIn d.offsetNs d.periodNs a 10000
    | none => 0).sum

/-- No frame period in which the entry's drip unit fires holds more than two actions of its island. -/
def triggerRate (g : Survey) (e : TriggerEntry) : Bool :=
  match g.drips.find? fun d => d.drip == e.drip with
  | none => false
  | some d => (List.range (g.header.hyperTicks * 250000 / d.periodNs)).all fun k =>
      decide (islandActions g e.island ((d.offsetNs + k * d.periodNs) / 10000 * 10000) ≤ 2)

def triggerOk (g : Survey) (e : TriggerEntry) : Bool :=
  decide (e.island < 16) && decide (e.kind ≤ 2) && decide (e.task < g.tasks.length) && (g.drips.any fun d => d.drip == e.drip)

/-- R299 and R300 for one frame slot. -/
def frameSlotOk (g : Survey) (e : FrameSlot) : Bool :=
  let span : Int := (periodOf g e.task * 100000 : Nat)
  decide (e.port < 8) && decide (e.station < 64) && decide (1 ≤ e.kind ∧ e.kind ≤ 3) && decide (e.task < g.tasks.length)
    && decide ((e.txOffset : Int) < span)
    && (if e.kind = 3 then decide (e.deadline = 0) else decide (-span ≤ e.deadline) && decide (e.deadline ≤ -400))
    && decide (e.slotNo < 8) && decide (e.cellBlock < 32)
    && (g.drips.filter fun d => d.purpose == 2 && d.task == e.task).length == 1
    && (g.drips.filter fun d => d.purpose == 2 && d.task == e.task).all fun d => g.drips.any fun z => z.purpose == 0 && z.task == e.task
      && z.offsetNs == d.offsetNs && z.periodNs == d.periodNs

/-- Beats of a frame slot's image. -/
def slotBeats (g : Survey) (output : Bool) (e : FrameSlot) : Nat := ((slotSignals g e output).length + 3) / 4

/-- Wire time plus the gap of 96 ns, in half nanoseconds (R303). -/
def wireHalfNs (g : Survey) (e : FrameSlot) : Nat :=
  let n := if e.kind = 2 then 0 else (cellSpan (slotSignals g e true)).2
  2 * (8 * (26 + max 46 (16 + 4 * n + (n + 1) / 2)) + 96)

def transmission (g : Survey) (e : FrameSlot) : Recur :=
  ⟨5 * (phaseOf g e.task * 100000 + e.txOffset), wireHalfNs g e, 5 * (periodOf g e.task * 100000)⟩

/-- The first frame slot whose transmission meets an earlier one on its port. -/
def wireClash (g : Survey) : Option Nat :=
  (g.frameSlots.zipIdx.find? fun (p : FrameSlot × Nat) => (g.frameSlots.take p.2).any fun q =>
    q.port == p.1.port && (transmission g p.1).meets (transmission g q)).map fun p => p.2

def checkLinks (g : Survey) : CheckFail :=
  let isl := secOf g 5
  let fl := secOf g 6
  firstFail [
    needAll isl g.triggers fun e => triggerOk g e && triggerRate g e,
    needAll fl g.frameSlots (frameSlotOk g),
    (repeatsEarlier (fun e : FrameSlot => (e.port * 64 + e.station) * 8 + e.slotNo) g.frameSlots).map fun i => (fl, i),
    needAll (secOf g 8) g.signals fun d => d.cls != 1 || (sigByte d % 4 == 0
      && (g.frameSlots.filter fun e => (slotSignals g e d.output).contains d).length == 1),
    needAll fl g.frameSlots fun e => decide ((cellSpan (slotSignals g e true)).2 ≤ 256) && decide ((cellSpan (slotSignals g e false)).2 ≤ 256)
      && decide (e.imgBeat + max (slotBeats g true e) (slotBeats g false e) ≤ 16384),
    (meetsEarlier (fun e : FrameSlot => e.imgBeat) (fun e => e.imgBeat + slotBeats g false e) g.frameSlots).map fun i => (fl, i),
    (meetsEarlier (fun e : FrameSlot => e.imgBeat) (fun e => e.imgBeat + slotBeats g true e) g.frameSlots).map fun i => (fl, i),
    (wireClash g).map fun i => (fl, i)]

/-! ### 0x0D: signals (R22, R105, R106, R258) -/

/-- Unused SOURCE bits are 0 (R106). -/
def sourceOk (d : SignalDesc) : Bool :=
  match d.cls with
  | 0 => decide (d.source < 128)
  | 1 => decide (d.source < 16777216)
  | 2 => decide (d.source < 262144)
  | 3 => decide (d.source < 64)
  | _ => decide (d.source < 16)

def signalOk (g : Survey) (d : SignalDesc) : Bool :=
  decide (1 ≤ d.id ∧ d.id ≤ 0xFFFFFFFE) && decide (d.slot < 65536) && decide (d.type ≤ 3)
    && (if d.type = 3 then decide (1 ≤ d.bits ∧ d.bits ≤ 32) else d.bits == 0) && decide (d.producer < g.tasks.length)
    && decide (d.cls ≤ 4) && !(d.input && d.output) && sourceOk d && decide (d.staleAge ≤ 255)

def checkSignals (g : Survey) : CheckFail :=
  let sec := secOf g 8
  firstFail [
    need sec 0 (g.header.signalCount == g.signals.length && decide (1 ≤ g.signals.length ∧ g.signals.length ≤ 65536)),
    needAll sec g.signals (signalOk g),
    (repeatsEarlier (fun d : SignalDesc => d.id) g.signals).map fun i => (sec, i),
    (unsortedAt (g.signals.map fun d => d.id)).map fun i => (sec, i),
    (repeatsEarlier (fun d : SignalDesc => d.slot) g.signals).map fun i => (sec, i),
    needAll sec g.signals fun d => d.cls != 0 || (channelMode g d.source).isSome]

/-! ### 0x0E: instance layout and initial values (R108, R109, R126) -/

/-- The instance window of a task; none without an entry (R126). -/
def taskSpan (g : Survey) (t : Nat) : Option (Nat × Nat) :=
  match g.layout.filter fun e => e.task == t with
  | [] => none
  | e :: es => some (es.foldl (fun a x => min a x.offset) e.offset, es.foldl (fun a x => max a (x.offset + x.length)) (e.offset + e.length))

def spanClash (g : Survey) : Option Nat :=
  let spans := g.tasks.filterMap fun e => (taskSpan g e.task).map fun w => (e.task, w)
  match meetsEarlier (fun p : Nat × Nat × Nat => p.2.1) (fun p => p.2.2) spans with
  | none => none
  | some i => firstBad g.layout fun e => some e.task == (spans[i]?).map fun p => p.1

/-- DEDUCED, log entry 70. -/
def checkLayout (g : Survey) : CheckFail :=
  let sec := secOf g 9
  let ini := secOf g 0x0E
  firstFail [
    need sec 0 (decide (g.header.areaBytes ≤ 33554432)),
    needAll sec g.layout fun e => e.offset % 8 == 0 && e.length % 8 == 0 && decide (e.offset + e.length ≤ g.header.areaBytes)
      && decide (e.task < g.tasks.length) && decide (e.chamber < 16) && decide (e.kind ≤ 1),
    (meetsEarlier (fun e : LayoutEntry => e.offset) (fun e => e.offset + e.length) g.layout).map fun i => (sec, i),
    (spanClash g).map fun i => (sec, i),
    needAll ini g.initValues fun r => decide (r.offset + r.bytes.length ≤ 33554432),
    (unsortedAt (g.initValues.map fun r => r.offset)).map fun i => (ini, i),
    (meetsEarlier (fun r : InitRecord => r.offset) (fun r => r.offset + r.bytes.length) g.initValues).map fun i => (ini, i)]

/-! ### The commit model of R116, in units of 0.625 ns (one byte of a commit) -/

/-- A task cycle's commit in the model: instant it is ready, deadline, task, bytes. -/
structure CommitJob where
  ready : Nat
  deadline : Nat
  task : Nat
  bytes : Nat
  deriving DecidableEq, Repr

/-- Commits of a task over one hyperperiod. -/
def taskJobs (g : Survey) (slots : List SlotEntry) (e : TaskEntry) : List CommitJob :=
  match (slots.filter fun x => x.task == e.task).map fun x => 4 * x.start + 2 * (x.wcet + 64) with
  | [] => []
  | r :: rs =>
    let ready := rs.foldl max r
    (List.range (g.header.hyperTicks / e.periodTicks)).map fun k =>
      let t0 := (e.phaseTicks + k * e.periodTicks) * 400000
      ⟨t0 + ready, t0 + 376000 * e.periodTicks, e.task, e.journalMax⟩

/-- Which of two waiting commits goes first (R158). -/
def CommitJob.before (a b : CommitJob) : Bool :=
  decide (a.deadline < b.deadline) || (a.deadline == b.deadline && decide (a.task < b.task))

/-- The one that goes first of a list. -/
def pickJob : List CommitJob → Option CommitJob
  | [] => none
  | a :: l => match pickJob l with
    | none => some a
    | some b => if b.before a then some b else some a

/-- Serve the commits one by one; the first task that misses its deadline or fills a base tick above 128 KiB. -/
def serveJobs (hyper : Nat) : Nat → Nat → List CommitJob → List (Nat × Nat) → Option Nat
  | 0, _, _, _ => none
  | n + 1, now, jobs, ticks =>
    let now := if jobs.any fun j => decide (j.ready ≤ now) then now
      else match jobs with
        | [] => now
        | j :: l => l.foldl (fun a x => min a x.ready) j.ready
    match pickJob (jobs.filter fun j => decide (j.ready ≤ now)) with
    | none => none
    | some j =>
      let fin := now + j.bytes
      let tick := fin / 400000 % max hyper 1
      let sum := sparseGet (fun _ => 0) ticks tick + j.bytes
      if j.deadline < fin ∨ 131072 < sum then some j.task
      else serveJobs hyper n fin (jobs.erase j) (sparseSet (fun _ => 0) ticks tick sum)

/-- DEDUCED, log entry 70. -/
def commitModel (g : Survey) (slots : List SlotEntry) : Option Nat :=
  let jobs := g.tasks.flatMap (taskJobs g slots)
  serveJobs g.header.hyperTicks jobs.length 0 jobs []

/-! ### 0x0F: relocation variants (R110, R111, R116) -/

/-- The chamber slots while a variant is in effect (R110). -/
def patchedSlots (g : Survey) (r : RelocVariant) : List SlotEntry := (g.slots.filter fun e => e.chamber != r.failed) ++ r.entries

/-- The fabric table while a variant is in effect (R110). -/
def patchedFabric (g : Survey) (r : RelocVariant) : List FabricEntry :=
  g.fabric.zipIdx.map fun p => (patchFor r.patches p.2).getD p.1

/-- The patched table as its ports are occupied (R101): an entry that names the failed chamber's comparison follows the spare's, which
compares in its place (R110). -/
def occupyingFabric (g : Survey) (r : RelocVariant) : List FabricEntry :=
  (patchedFabric g r).map fun e => if e.anchor = 2 ∧ e.chamber = r.failed then { e with chamber := r.spare } else e

/-- Bytes of a code section. -/
def codeBytes (g : Survey) (c variant : Nat) : Nat :=
  4 * ((g.code.find? fun x => x.chamber == c && x.variant == variant).map fun x => x.words.length).getD 0

def checkVariant (g : Survey) (r : RelocVariant) : CheckFail :=
  let sec := secVariantOf g r.variant
  let tasks (l : List SlotEntry) : List Nat := (List.range 16).map fun t => (l.filter fun e => e.task == t).length
  firstFail [
    need sec 0 (decide (1 ≤ r.variant ∧ r.variant ≤ 15) && decide (r.failed < 16) && decide (r.spare < 16) && g.header.spareMask.getLsbD r.spare
      && decide (r.codeBase + codeBytes g r.spare r.variant ≤ 1048576)),
    needAll sec r.entries fun e => e.chamber == r.spare && e.variant == r.variant && decide (e.task < g.tasks.length),
    need sec 0 (tasks r.entries == tasks (g.slots.filter fun e => e.chamber == r.failed)),
    needAll sec r.patches fun p => decide (p.1 < g.fabric.length) && fabricOk g (patchedSlots g r) p.2,
    need sec 0 (portClash g (patchedSlots g r) (occupyingFabric g r)).isNone,
    need sec 0 (commitModel g (patchedSlots g r)).isNone]

def checkVariants (g : Survey) : CheckFail :=
  firstFail ([
    need 0 0 ((variantDirs g).length == g.variants.length),
    (g.variants.zipIdx.find? fun p => ((variantDirs g)[p.2]?.map fun d => d.1.variant) != some p.1.variant).map
      fun p => (secVariantAt g p.2, 0),
    needAll (secOf g 3) g.code (fun c => c.variant != 0 || decide (4 * c.words.length ≤ 1048576)),
    (repeatsEarlier (fun r : RelocVariant => r.failed) g.variants).map fun i => (secVariantOf g (((g.variants[i]?).map fun r => r.variant).getD 0), 0)]
    ++ g.variants.map (checkVariant g)
    ++ (List.range 16).map fun sp =>
      let vs := g.variants.filter fun r => r.spare == sp
      (meetsEarlier (fun r : RelocVariant => r.codeBase) (fun r => r.codeBase + codeBytes g sp r.variant) vs).map fun i =>
        (secVariantOf g (((vs[i]?).map fun r => r.variant).getD 0), 0))

/-! ### 0x10 and 0x11 (R113, R114) -/

def checkCommit (g : Survey) : CheckFail := (commitModel g g.slots).map fun t => (secOf g 1, t)

def widthOk (w : Nat) : Bool := w == 1 || w == 2 || w == 4 || w == 8

/-- Widths and alignment of a migration entry (R113, R114). -/
def migrationOk (e : MigrationEntry) : Bool :=
  widthOk e.oldWidth && widthOk e.newWidth && e.oldOffset % e.oldWidth == 0 && e.newOffset % e.newWidth == 0
    && match e.conv with
      | 0 => e.oldWidth == e.newWidth
      | 1 => decide (e.oldWidth < e.newWidth)
      | 2 => decide (e.oldWidth < e.newWidth)
      | 3 => decide (e.oldWidth ≤ 4) && e.newWidth == 4
      | 4 => e.oldWidth == 4 && e.newWidth == 4
      | 5 => decide (e.newWidth < e.oldWidth)
      | _ => false

def checkMigration (g : Survey) (running : Option Survey) : CheckFail :=
  let sec := secOf g 0x0B
  firstFail [
    need sec 0 ((running.map fun r => r.header.buildId) == some g.header.parentBuildId),
    needAll sec g.migration migrationOk,
    (unsortedAt (g.migration.map fun e => e.oldOffset)).map fun i => (sec, i),
    (meetsEarlier (fun e : MigrationEntry => e.oldOffset) (fun e => e.oldOffset + e.count * e.oldWidth) g.migration).map fun i => (sec, i)]

/-! ### The transition rules of an on-line change (R200) -/

/-- The task that owns byte `o` of a layout. -/
def ownerAt (g : Survey) (o : Nat) : Option TaskEntry :=
  (g.layout.find? fun e => decide (e.offset ≤ o) && decide (o < e.offset + e.length)).bind fun e => g.tasks.find? fun t => t.task == e.task

/-- Every element of a map entry keeps the period and the phase of its task. -/
def ownersKept (old new : Survey) (e : MigrationEntry) : Bool :=
  (List.range e.count).all fun i =>
    match ownerAt old (e.oldOffset + i * e.oldWidth), ownerAt new (e.newOffset + i * e.newWidth) with
    | some a, some b => a.periodTicks == b.periodTicks && a.phaseTicks == b.phaseTicks
    | _, _ => false

/-- The fastest task (R157): least period, then lower number. -/
def fastestEntry (g : Survey) : Option TaskEntry :=
  g.tasks.foldl (fun b e => match b with
    | none => some e
    | some x => if e.periodTicks < x.periodTicks then some e else some x) none

def fastestKept (old new : Survey) : Bool :=
  match fastestEntry old, fastestEntry new with
  | some a, some b => a.task == b.task && a.periodTicks == b.periodTicks && a.phaseTicks == b.phaseTicks
  | _, _ => false

/-- Whether the last occurrence of `a` that begins before the boundary meets an occurrence of `b` at or after it; both are placed against the
same boundary. -/
def tailMeets (a b : Recur) : Bool :=
  let lo : Int := (a.start : Int) - a.period
  let hi : Int := lo + a.len
  (List.range (hi.toNat / max 1 b.period + 1)).any fun k =>
    let x : Int := (b.start + k * b.period : Nat)
    decide (x < hi) && decide (lo < x + b.len)

/-- Shared chambers and fabric ports of the running survey's tail and the new survey's executions and transfers. -/
def checkTail (old new : Survey) : CheckFail :=
  firstFail [
    needAll (secOf new 2) new.slots fun e => old.slots.all fun q => q.chamber != e.chamber || !tailMeets (occupied old q) (occupied new e),
    needAll (secOf new 4) new.fabric fun e => old.fabric.all fun q =>
      !sharePort e q || !tailMeets (transferWindow old old.slots q) (transferWindow new new.slots e)]

/-- The transition rules but the last. A tail commit ends before any execution that could read what it writes: by the first rule the
elements it writes belong to a task of the same period and phase, whose next t0 comes after t0 + 0.94T. (DEDUCED, log entry 58.) -/
def checkTransition (g : Survey) (running : Option Survey) : CheckFail :=
  match running with
  | none => none
  | some r => firstFail [
      needAll (secOf g 0x0B) g.migration (ownersKept r g),
      need (secOf g 1) 0 (fastestKept r g),
      checkTail r g]

/-- The last transition rule: every FAILED chamber is free of primary entries or has a variant (R187). -/
def State.checkFailed (s : State) (g : Survey) : CheckFail :=
  needAll (secOf g 2) g.slots fun e => s.chState e.chamber != Ch.FAILED || g.variants.any fun r => r.failed == e.chamber

/-! ### 0x12: CAN object map and ring slots (R144, R338) -/

def canMapOk (g : Survey) (e : CanMapEntry) : Bool :=
  decide (e.ctrl < 4) && decide (e.object < 128) && decide (e.task < g.tasks.length) && canLengthOk e.id e.length
    && (!e.send || e.mask == 0) && decide (e.mask.toNat < 536870912) && (e.send || !e.withholdBad) && decide (e.imgBeat < 8192)

/-- A signal of class 0b010 with its entry (R338). -/
def canSignalOk (g : Survey) (d : SignalDesc) : Bool :=
  match g.canMap.find? fun e => e.ctrl == d.source % 4 && e.object == d.source / 4 % 128 with
  | none => false
  | some e => decide (canBit d + sigWidth d ≤ 8 * e.length) && (if e.send then d.output else d.input) && d.producer == e.task

def objectKey (e : CanMapEntry) : Nat := e.ctrl * 256 + e.object

def canBeats (g : Survey) (e : CanMapEntry) : Nat := ((canSignals g e).length + 3) / 4

def ringSlotOk (g : Survey) (e : RingSlotEntry) : Bool :=
  decide (e.slot < 256) && decide (e.ring < 64) && decide (e.chamber < 16) && decide (e.task < g.tasks.length) && decide (1 ≤ e.max ∧ e.max ≤ 16)
    && decide (((g.ringSlots.filter fun x => x.chamber == e.chamber && x.send == e.send).map fun x => x.max).sum ≤ 1024)

def checkCanRings (g : Survey) : CheckFail :=
  let can := secOf g 0x0C
  let ring := secOf g 0x0D
  firstFail [
    needAll can g.canMap (canMapOk g),
    (repeatsEarlier objectKey g.canMap).map fun i => (can, i),
    needAll (secOf g 8) g.signals fun d => d.cls != 2 || canSignalOk g d,
    needAll can g.canMap fun e => (meetsEarlier canBit (fun d => canBit d + sigWidth d) (canSignals g e)).isNone,
    (meetsEarlier (fun e : CanMapEntry => e.imgBeat) (fun e => e.imgBeat + canBeats g e) (g.canMap.filter fun e => e.send)).map fun i => (can, i),
    (meetsEarlier (fun e : CanMapEntry => e.imgBeat) (fun e => e.imgBeat + canBeats g e) (g.canMap.filter fun e => !e.send)).map fun i => (can, i),
    needAll ring g.ringSlots (ringSlotOk g),
    (repeatsEarlier (fun e : RingSlotEntry => e.slot) g.ringSlots).map fun i => (ring, i)]

/-! ### The checks in order -/

/-- The first failure of R117: CODE, SECTION, ENTRY. `change` when the survey is loaded for on-line change. -/
def State.surveyFault (s : State) (g : Survey) (stored : Nat) (change : Bool) : Option (Nat × Nat × Nat) :=
  let checks : List (Nat × CheckFail) := [
    (0x01, need 0 0 (headerOk g.header)),
    (0x02, need 0 0 (lengthOk g.header stored)),
    (0x03, need 0 0 (trailerOk g.trailer)),
    (0x04, need 0 0 (s.tagOk g)),
    (0x05, need 0 0 (s.signatureOk g)),
    (0x06, need 0 0 (decide (g.header.fwIfaceMin ≤ s.load.fwIface))),
    (0x07, checkDirectory g), (0x08, checkTasks g), (0x09, checkDrips g), (0x0A, checkSlots g), (0x0B, checkFabric g), (0x0C, checkLinks g),
    (0x0D, checkSignals g), (0x0E, checkLayout g), (0x0F, checkVariants g), (0x10, checkCommit g),
    (0x11, if change then firstFail [checkMigration g s.activeSurvey, checkTransition g s.activeSurvey, s.checkFailed g] else none),
    (0x12, checkCanRings g)]
  checks.findSome? fun (p : Nat × CheckFail) => p.2.map fun f => (p.1, f.1, f.2)

/-- A failed check (R117): SVY_LOAD_ERR, the source, the record; the bank is REJECTED. -/
def State.rejectSurvey (s : State) (bank : Nat) (g : Survey) (f : Nat × Nat × Nat) : State :=
  let s := s.putAll [(Fld.SVY_LOAD_ERR_CODE, f.1), (Fld.SVY_LOAD_ERR_SECTION, f.2.1), (Fld.SVY_LOAD_ERR_BANK, bank),
    (Fld.SVY_LOAD_ERR_ENTRY, f.2.2), (Fld.SVY_BANK_STATE bank, 4)]
  let s : State := { s with banks := sparseSet (fun _ => (⟨none⟩ : Bank)) s.banks bank ⟨none⟩ }
  let s := s.raise Src.SURVEY_REJECT 0 0
  s.record 0x20 bank [(1, f.1), (1, f.2.1), (2, f.2.2), (8, g.header.buildId)]

end Sys2Proof.Machine
end

