-- ==== Sys2Proof/Machine/Security.lean ====
section
/-! DEFINITION. Security and debug (19): what LOAD reads of the key store, lifecycle, provisioning, revocation, the test access port, debug
levels and sessions, the engineering session. Key material and the verdicts of cryptographic checks stay outside (log entry 5). -/
namespace Sys2Proof.Machine

/-! ### What LOAD reads (R417, R421) -/

/-- Items whose secret part the decommissioning erase has destroyed (R419, R420). (DEDUCED, log entry 64.) -/
def erasedItems : List Nat := [0, 3]

/-- One item of the key store as LOAD finds it: PRESENT, FAULT, SEC_KEY_FAULT and its record for an item that fails its check.
(DESIGN CHOICE, log entry 29.) -/
def State.loadKey (s : State) (y : Nat) (fault : Bool) : State :=
  let erased := s.sec.lifecycle == 3
  let present := s.sec.items.contains y && !fault && !(erased && erasedItems.contains y)
  let s :=
    if y < 8 then s.putAll [(⟨Reg.SEC_SYS_KEY, 2 * y, 1⟩, present.toNat), (⟨Reg.SEC_SYS_KEY, 2 * y + 1, 1⟩, fault.toNat)]
    else s.putAll [(Fld.SEC_SVY_KEY_PRESENT (y - 8), present.toNat), (Fld.SEC_SVY_KEY_AES_PRESENT (y - 8), (present && !erased).toNat),
      (Fld.SEC_SVY_KEY_REVOKED (y - 8), (s.sec.revoked.contains (y - 8)).toNat), (Fld.SEC_SVY_KEY_FAULT (y - 8), fault.toNat)]
  if fault then
    let s := s.raise Src.SEC_KEY_FAULT y 0
    let (cause, s) := s.freeByte
    s.record 0x83 y [(1, cause)]
  else s

/-- LOAD step 2 (R83): lifecycle state, key store, security version counters, cover switch. -/
def State.loadSecurity (s : State) (faults : List Nat) : State :=
  let s := s.put Fld.SEC_STATUS_LIFECYCLE s.sec.lifecycle
  let s := (List.range 16).foldl (fun s y => s.loadKey y (faults.contains y && s.sec.items.contains y)) s
  let s := s.putAll [(Fld.SEC_SYS_KEY_ROOT_0_REVOKED, (s.sec.revoked.contains 8).toNat),
    (Fld.SEC_SYS_KEY_ROOT_1_REVOKED, (s.sec.revoked.contains 9).toNat)]
  (List.range 5).foldl (fun s v => s.put (Fld.SEC_SECVER_COUNTER v) (sparseGet (fun _ => 0) s.sec.counters v)) s

/-! ### Debug level and session (R429 to R433) -/

/-- Whether the test access port is enabled (R426). -/
def State.tapEnabled (s : State) : Bool := s.core.cover && s.mode != .hibernate

/-- The debug level changes (R432): the record, SEC_DEBUG_SESSION, and at the end of the session the chambers resume.
(DESIGN CHOICE, log entry 29.) -/
def State.setDebugLevel (s : State) (level : Nat) (auth : Bool) : State :=
  let old := s.get Fld.SEC_STATUS_DBG_LEVEL
  if old = level then s.putBit Fld.SEC_STATUS_DBG_AUTH auth
  else
    let s := s.putAll [(Fld.SEC_STATUS_DBG_LEVEL, level), (Fld.SEC_STATUS_DBG_AUTH, auth.toNat)]
    let (cause, s) := s.freeByte
    let s := s.record 0x80 level [(1, old), (1, cause)]
    if level = 0 then (s.fall Src.SEC_DEBUG_SESSION 0 0).resumeAll
    else s.rise Src.SEC_DEBUG_SESSION 0 0

/-- The debug session ends (R432); a request still being decided falls with it (R433). -/
def State.endDebug (s : State) : State :=
  ({ s with sec := { s.sec with request := none } } : State).setDebugLevel 0 false

/-- How a level is obtained in a lifecycle state (R429). -/
inductive LevelRule where
  | free | devKey | fieldKey | never
  deriving DecidableEq, Repr

/-- The table of R429. -/
def levelRule (lifecycle level : Nat) (blankVerified : Bool) : LevelRule :=
  if level = 0 then .free
  else
    match lifecycle with
    | 0 => .free
    | 1 => if level = 3 then .devKey else .free
    | 2 => if level = 1 then .free else if level = 2 then .fieldKey else .never
    | _ => if blankVerified then .free else .never

/-- A failed verification (R431): the level stays; three failures within 10 min of operating time lock requests out for 10 min. -/
def State.authFailed (s : State) (level : Nat) : State :=
  let s := s.raise Src.SEC_AUTH_FAIL 0 0
  let s := (s.record 0x81 0 [(1, level)]).bump Fld.SEC_AUTH_CNT_FAILS
  let now := s.fls.optime.toNat
  let l := (s.sec.failTimes.filter fun t => decide (now ≤ t + 614400)) ++ [now]
  let s : State := { s with sec := { s.sec with failTimes := l } }
  if 3 ≤ l.length then s.putAll [(Fld.SEC_STATUS_LOCKOUT, 1), (Fld.SEC_AUTH_CNT_LOCKOUT_S, 600)] else s

/-- AUTH_DECISION (R429 to R431). (DESIGN CHOICE, log entry 5.) -/
def State.authDecide (s : State) : State :=
  match s.sec.request with
  | none => s
  | some (level, v) =>
    let s := { s with sec := { s.sec with request := none } }
    if !s.tapEnabled then s
    else
      match levelRule (s.get Fld.SEC_STATUS_LIFECYCLE) level (s.bit Fld.SEC_STATUS_BLANK_VERIFIED) with
      | .free => s.setDebugLevel level false
      | .devKey => if v.signed && v.devKey then s.setDebugLevel level true else s.authFailed level
      | .fieldKey => if v.signed && v.fieldKey then s.setDebugLevel level true else s.authFailed level
      | .never => s

def execAuthDecision (s : State) : Host.Outcome State Fault Refusal := done s.authDecide

/-- AUTH_LOCKOUT_END (R431): once the lockout has run down. (DEDUCED, log entry 65.) -/
def execAuthLockoutEnd (s : State) : Host.Outcome State Fault Refusal :=
  if s.bit Fld.SEC_STATUS_LOCKOUT ∧ s.get Fld.SEC_AUTH_CNT_LOCKOUT_S = 0 then
    done (({ s with sec := { s.sec with failTimes := [] } } : State).putAll [(Fld.SEC_STATUS_LOCKOUT, 0), (Fld.SEC_AUTH_CNT_LOCKOUT_S, 0)])
  else done s

/-! ### The test access port (R426 to R428) -/

/-- An instruction is loaded and a data word shifts out. -/
def State.tapShift (s : State) (ir : Nat) (name : String) (data : Nat) : State :=
  ({ s with sec := { s.sec with tapIr := ir } } : State).emit (.tap name data)

/-- BYPASS (R427): one bit, captured as 0. (PRESUMED, log entry 44.) -/
def State.tapBypass (s : State) (ir : Nat) : State := s.tapShift ir "BYPASS" 0

def execBypass (s : State) : Host.Outcome State Fault Refusal := if s.tapEnabled then done (s.tapBypass 0x3F) else done s

/-- IDCODE (R427): the value of IDENT_IDCODE. -/
def execIdcode (s : State) : Host.Outcome State Fault Refusal :=
  if s.tapEnabled then done (s.tapShift 0x01 "IDCODE" (s.getReg Reg.IDENT_IDCODE).toNat) else done s

/-- SEC_STAT (R427): a copy of SEC_STATUS. -/
def execSecStat (s : State) : Host.Outcome State Fault Refusal :=
  if s.tapEnabled then done (s.tapShift 0x13 "SEC_STAT" (s.getReg Reg.SEC_STATUS).toNat) else done s

/-- Whether EXTEST and SAMPLE/PRELOAD are granted (R428, set F). -/
def State.boundaryGranted (s : State) : Bool :=
  s.get Fld.SEC_STATUS_DBG_LEVEL == 3 && (s.mode == .hold || s.mode == .recovery) && s.role == .solo

/-- The boundary register shifts out (R427); what its cells hold is the pins', outside the module. (DESIGN CHOICE, log entry 45.) -/
def State.boundary (s : State) (ir : Nat) (name : String) : State :=
  if s.boundaryGranted then
    let (v, s) := s.draw
    s.tapShift ir name v.toNat
  else s.tapBypass ir

/-- EXTEST (R427, R428). (DESIGN CHOICE, log entry 45.) -/
def execExtest (s : State) : Host.Outcome State Fault Refusal := if s.tapEnabled then done (s.boundary 0x00 "EXTEST") else done s

/-- SAMPLE/PRELOAD (R427, R428). (DESIGN CHOICE, log entry 45.) -/
def execSamplePreload (s : State) : Host.Outcome State Fault Refusal :=
  if s.tapEnabled then done (s.boundary 0x02 "SAMPLE/PRELOAD") else done s

/-- Whether the current nonce is still valid: 60 s (R431). (DEDUCED, log entry 65.) -/
def State.nonceValid (s : State) : Bool := s.sec.nonce.isSome && decide (s.fls.optime.toNat ≤ s.sec.nonceAt + 61440)

/-- AUTH_NONCE (R431): the current nonce, or a new one after use or after its 60 s. (DEDUCED, log entry 65.) -/
def State.authNonce (s : State) : State :=
  let s :=
    if s.nonceValid then s
    else
      let (v, s) := s.draw
      { s with sec := { s.sec with nonce := some v, nonceAt := s.fls.optime.toNat } }
  s.tapShift 0x10 "AUTH_NONCE" (match s.sec.nonce with
    | some v => v.toNat
    | none => 0)

def execAuthNonce (s : State) : Host.Outcome State Fault Refusal := if s.tapEnabled then done s.authNonce else done s

/-- AUTH_RESP (R431, R433): a request during lockout or while an earlier one is being decided is refused. The nonce serves one request. -/
def State.authResp (s : State) (level : Nat) (v : AuthVerdict) : State :=
  let s := { s with sec := { s.sec with tapIr := 0x11 } }
  if s.bit Fld.SEC_STATUS_LOCKOUT || s.sec.request.isSome then s
  else
    let v := if s.nonceValid then v else ⟨v.signed, false, false⟩
    { s with sec := { s.sec with request := some (level, v), nonce := none } }

def execAuthResp (level : Fin 4) (v : AuthVerdict) (s : State) : Host.Outcome State Fault Refusal :=
  if s.tapEnabled then done (s.authResp level.val v) else done s

/-- TAP_RESET (R432): TRST_N or Test-Logic-Reset. (PRESUMED, log entry 44.) -/
def execTapReset (s : State) : Host.Outcome State Fault Refusal :=
  done ({ s with sec := { s.sec with tapIr := 0x01 } } : State).endDebug

/-- DEBUG_IDLE_TIMEOUT (R432): 30 min without activity of the test access port. -/
def execDebugIdleTimeout (s : State) : Host.Outcome State Fault Refusal := done s.endDebug

/-! ### The cover switch (R41, R426) -/

/-- COVER_OPEN (R41). -/
def State.coverOpens (s : State) : State :=
  if s.core.cover then s
  else
    let s := { s with core := { s.core with cover := true } }
    let s := (s.putBit Fld.SEC_STATUS_COVER_OPEN true).record 0x13 0 []
    s.rise Src.SEC_COVER_OPEN 0 0

def execCoverOpen (s : State) : Host.Outcome State Fault Refusal := done s.coverOpens

/-- COVER_CLOSE (R426, R433): the debug session ends and the cover wins over a grant. -/
def State.coverCloses (s : State) : State :=
  let s := { s with core := { s.core with cover := false }, sec := { s.sec with tapIr := 0x01 } }
  ((s.putBit Fld.SEC_STATUS_COVER_OPEN false).fall Src.SEC_COVER_OPEN 0 0).endDebug

def execCoverClose (s : State) : Host.Outcome State Fault Refusal := done s.coverCloses

/-! ### Lifecycle, provisioning, revocation (R417 to R422) -/

/-- Whether a key-store item is present and intact, by its code. -/
def State.keyPresent (s : State) (y : Nat) : Bool :=
  if y < 8 then s.bit ⟨Reg.SEC_SYS_KEY, 2 * y, 1⟩ else s.bit (Fld.SEC_SVY_KEY_PRESENT (y - 8))

/-- Firmware keys present (R418). (DEDUCED, log entry 64.) -/
def State.firmwareKeys (s : State) : Bool := s.keyPresent 1 && s.keyPresent 2

/-- The keys that FIELD needs (R418). (DEDUCED, log entry 64.) -/
def State.fieldKeys (s : State) : Bool :=
  s.firmwareKeys && s.keyPresent 5 && (s.keyPresent 6 || s.keyPresent 7) && (List.range 8).any fun x => s.keyPresent (8 + x)

/-- The table of R418. -/
def State.lifecycleAllowed (s : State) (target : Nat) : Bool :=
  match s.get Fld.SEC_STATUS_LIFECYCLE, target with
  | 0, 1 => s.mode == .recovery && s.firmwareKeys
  | 0, 2 => s.mode == .recovery && s.fieldKeys
  | 1, 2 => s.fieldKeys && ((s.session && s.mode == .hold) || s.get Fld.SEC_STATUS_DBG_LEVEL == 3)
  | 1, 3 => s.session && s.mode == .hold && s.role == .solo
  | 2, 3 => s.session && s.mode == .hold && s.role == .solo
  | _, _ => false

/-- A transition (R419): programmed for good, recorded, raised, then the software reset, before which the queued records are written.
(DEDUCED, log entries 64, 65.) -/
def State.lifecycleGo (s : State) (target : Nat) : State :=
  let old := s.get Fld.SEC_STATUS_LIFECYCLE
  let s := (s.putBit Fld.SEC_LC_CMD_REFUSED false).record 0x82 target [(1, old), (4, (s.getReg Reg.SEC_ENG_PEER).toNat)]
  let s := s.raise Src.SEC_LIFECYCLE 0 0
  let s := s.endDebug
  let s := { s with sec := { s.sec with lifecycle := target, erasePending := s.sec.erasePending || target == 3 } }
  s.flsDrain.softReset

/-- A write to SEC_LC_CMD (R418). (DEDUCED, log entry 64.) -/
def State.lcCmdWrite (s : State) (v : Word) : State :=
  let s := s.regStore Reg.SEC_LC_CMD v
  if Fld.SEC_LC_CMD_GO.on v ∧ Fld.SEC_LC_CMD_KEY.ext v = 0x4C43 then
    let t := Fld.SEC_LC_CMD_TARGET.ext v
    if s.lifecycleAllowed t then s.lifecycleGo t else s.putBit Fld.SEC_LC_CMD_REFUSED true
  else s

/-- LIFECYCLE_GO (R418, R419). -/
def execLifecycleGo (v : Word) (s : State) : Host.Outcome State Fault Refusal := done (s.lcCmdWrite v)

/-- Whether an item may be written now (R420, R421). -/
def State.provisionAllowed (s : State) (y : Nat) : Bool :=
  let lc := s.get Fld.SEC_STATUS_LIFECYCLE
  decide (5 ≤ y ∧ y < 16) && !s.sec.items.contains y && decide (lc < 3) && (y != 5 || decide (lc < 2)) && (lc != 2 || s.session)

/-- A write to SEC_PROV (R421). (DESIGN CHOICE, log entry 5; DEDUCED, log entry 64.) -/
def State.provWrite (s : State) (v : Word) : State :=
  let s := s.regStore Reg.SEC_PROV v
  if Fld.SEC_PROV_GO.on v ∧ Fld.SEC_PROV_KEY.ext v = 0x5052 then
    let y := Fld.SEC_PROV_ITEM.ext v
    if s.provisionAllowed y then
      let s := { s with sec := { s.sec with items := s.sec.items ++ [y] } }
      (s.loadKey y false).putAll [(Fld.SEC_PROV_REFUSED, 0), (Fld.SEC_PROV_DONE, 1)]
    else s.putAll [(Fld.SEC_PROV_REFUSED, 1), (Fld.SEC_PROV_DONE, 0)]
  else s

/-- PROVISION_GO (R421). -/
def execProvisionGo (v : Word) (s : State) : Host.Outcome State Fault Refusal := done (s.provWrite v)

/-- A usable survey slot: present and not revoked (R422). -/
def State.slotUsable (s : State) (x : Nat) : Bool := s.keyPresent (8 + x) && !s.sec.revoked.contains x

/-- A usable engineering root. -/
def State.rootUsable (s : State) (r : Nat) : Bool := s.keyPresent (6 + r) && !s.sec.revoked.contains (8 + r)

/-- Whether a usable slot or root is left when the target is revoked (R422). -/
def State.revokeAllowed (s : State) (target : Nat) : Bool :=
  if target < 8 then (List.range 8).any fun x => x != target && s.slotUsable x
  else if target < 10 then (List.range 2).any fun r => 8 + r != target && s.rootUsable r
  else false

/-- A write to SEC_REVOKE (R422). -/
def State.revokeWrite (s : State) (v : Word) : State :=
  let s := s.regStore Reg.SEC_REVOKE v
  if Fld.SEC_REVOKE_GO.on v ∧ Fld.SEC_REVOKE_KEY.ext v = 0x5256 then
    let x := Fld.SEC_REVOKE_TARGET.ext v
    if s.revokeAllowed x then
      let s := { s with sec := { s.sec with revoked := s.sec.revoked ++ [x] } }
      let s := if x < 8 then s.putBit (Fld.SEC_SVY_KEY_REVOKED x) true else s.putBit ⟨Reg.SEC_SYS_KEY, 8 + x, 1⟩ true
      (s.record 0x85 x []).putBit Fld.SEC_REVOKE_REFUSED false
    else s.putBit Fld.SEC_REVOKE_REFUSED true
  else s

/-- REVOKE_GO (R422). -/
def execRevokeGo (v : Word) (s : State) : Host.Outcome State Fault Refusal := done (s.revokeWrite v)

/-- The erase of a decommissioned module (R419): secrets, both firmware slots and staging, instance MRAM, host SRAM, retention memory. A
read-back that fails leaves the erase due at the next LOAD. (DEDUCED, log entry 77.) -/
def State.eraseAll (s : State) (ok : Bool) : State :=
  if s.sec.erasePending && !s.rst.inReset then
    let s := { s with
      mode := .recovery
      inst := ⟨[], []⟩
      sram := []
      pwr := { s.pwr with retention := none }
      upd := { s.upd with slot0 := FwSlot.erased, slot1 := FwSlot.erased, staged := none }
      sec := { s.sec with erasePending := !ok } }
    s.putAll [(Fld.SEC_ERASE_STEP, 0), (Fld.SEC_ERASE_FAILED, (!ok).toNat), (Fld.SEC_STATUS_BLANK_VERIFIED, ok.toNat)]
  else s

/-- DECOMMISSION_ERASE_DONE (R419): the module then stays in RECOVERY. (DEDUCED, log entry 77.) -/
def execDecommissionEraseDone (ok : Bool) (s : State) : Host.Outcome State Fault Refusal := done (s.eraseAll ok)

/-! ### The engineering session (R434, R435) -/

/-- ENG_CONNECTION_ATTEMPT (R435): refused while a session is open. -/
def execEngConnectionAttempt (s : State) : Host.Outcome State Fault Refusal :=
  if s.session then done (s.bump Fld.SEC_ENG_REFUSED) else done s

/-- TLS_HANDSHAKE_FAIL (R434). -/
def execTlsHandshakeFail (alert : Nat) (s : State) : Host.Outcome State Fault Refusal :=
  let s := (s.bump Fld.SEC_ENG_HANDSHAKE_FAILS).raise Src.SEC_AUTH_FAIL 0 0
  done (s.record 0x81 1 [(1, alert)])

/-- The session opens (R435). -/
def State.sessionOpen (s : State) (remote : Bool) (hash : Word) : State :=
  if s.session then s.bump Fld.SEC_ENG_REFUSED
  else
    let s := (s.putBit Fld.SEC_STATUS_ENG_SESSION true).setReg Reg.SEC_ENG_PEER hash
    let s := { s with sec := { s.sec with engPort := remote.toNat } }
    s.record 0x84 hash.toNat [(1, 1), (1, remote.toNat)]

/-- ENG_SESSION_OPEN (R435). -/
def execEngSessionOpen (remote : Bool) (certHash : Word) (s : State) : Host.Outcome State Fault Refusal :=
  done (s.sessionOpen remote certHash)

end Sys2Proof.Machine
end

