-- ==== Sys2Proof/Machine/Migrate.lean ====
section
/-! DEFINITION. The migration map (R113 to R115), the writes of a commit and their mirror (R201, R208), and the journal check word (R228). -/
namespace Sys2Proof.Machine

/-! ### Generation areas of the store (R82) -/

/-- A generation area. -/
def State.area (s : State) (a : Nat) : GenArea := if a = 0 then s.store.area0 else s.store.area1

/-- An area is intact (R82). -/
def areaIntact (g : GenArea) : Bool := areaCrc g == g.crc && g.sigOk && [0xFF, 0x7F, 0x3F, 0x1F, 0x0F].contains g.state.toNat

/-- CFG_GEN and CFG_AREA of an area. -/
def State.showArea (s : State) (a : Nat) : State :=
  let g := s.area a
  s.putAll [(Fld.CFG_GEN_GENERATION a, if areaIntact g then g.generation else 0), (Fld.CFG_AREA_STATE a, g.state.toNat),
    (Fld.CFG_AREA_INTACT a, (areaIntact g).toNat)]

/-- Write an area of the store. -/
def State.setArea (s : State) (a : Nat) (g : GenArea) : State :=
  ({ s with store := if a = 0 then { s.store with area0 := g } else { s.store with area1 := g } } : State).showArea a

/-- Program an area's STATE. -/
def State.programArea (s : State) (a : Nat) (state : Byte) : State := s.setArea a { s.area a with state := state }

/-! ### The migration map -/

/-- An element of `w` bytes as a signed integer. -/
def signedOf (w v : Nat) : Int :=
  let m := 2 ^ (8 * w)
  if 2 * (v % m) < m then (v % m : Nat) else (v % m : Nat) - (m : Int)

/-- The bytes of an integer in `w` bytes. -/
def toElement (w : Nat) (i : Int) : Nat := (i % ((2 ^ (8 * w) : Nat) : Int)).toNat

/-- The conversions of R114 on one element. (DEDUCED, log entry 79.) -/
def migConvert (e : MigrationEntry) (v : Nat) : Nat :=
  match e.conv with
  | 2 => toElement e.newWidth (signedOf e.oldWidth v)
  | 3 => (f32OfInt (signedOf e.oldWidth v)).toNat
  | 4 => if f32IsNan (BitVec.ofNat 32 v) then 0 else (f32ToInt true (BitVec.ofNat 32 v)).toNat
  | 5 =>
    let lim : Int := 2 ^ (8 * e.newWidth - 1)
    toElement e.newWidth (max (-lim) (min (lim - 1) (signedOf e.oldWidth v)))
  | _ => v

/-- Write an element of `w` bytes into an instance area. -/
def State.instElement (s : State) (a off w v : Nat) : State :=
  let o := off / 8 * 8
  s.setInstWord a o (wordMerge (s.instWord a o) (BitVec.ofNat 64 v) (off % 8) w)

/-- The elements of entry `e` that lie in the old word at `o`: new offset and converted value. -/
def migElements (e : MigrationEntry) (o : Nat) (w : DWord) : List (Nat × Nat) :=
  (List.range (8 / max 1 e.oldWidth)).filterMap fun p =>
    let a := o + p * e.oldWidth
    if e.oldOffset ≤ a ∧ a < e.oldOffset + e.count * e.oldWidth then
      some (e.newOffset + (a - e.oldOffset) / e.oldWidth * e.newWidth,
        migConvert e ((wordPart w (p * e.oldWidth) e.oldWidth).toNat))
    else none

/-- Convert the old word at `o` through the map and write its mapped elements into area `a` (R115). -/
def State.migrateWord (s : State) (g : Survey) (a o : Nat) (w : DWord) : State :=
  g.migration.foldl (fun s e => (migElements e o w).foldl (fun s p => s.instElement a p.1 e.newWidth p.2) s) s

/-- Whether commits of a task cycle with instant `t0` are mirrored: during migration all, after S those of the tail (R201, R208). -/
def State.mirrors (s : State) (t0 : Nat) : Bool := s.olc.mirror && (s.tailAt t0 || s.get Fld.OLC_STAT_STATE != 7)

/-- The words of a committed journal reach the area of its task cycle, and through the map the other (R201). -/
def State.commitWords (s : State) (t0 : Nat) (l : List (Nat × DWord)) : State :=
  let a := s.areaAt t0
  let s := l.foldl (fun s p => s.setInstWord a p.1 p.2) s
  match s.olc.survey with
  | none => s
  | some g => if s.mirrors t0 then l.foldl (fun s p => s.migrateWord g (1 - a) p.1 p.2) s else s

/-- The words that a journal puts into the migration queue (R201), at most 4,096 at a time: one for every converted element, since R201 does
not say what one word of the queue holds. (DEDUCED, log entry 59; DESIGN CHOICE, log entry 91.) -/
def State.mirrorQueue (s : State) (t0 : Nat) (l : List (Nat × DWord)) : List (Nat × DWord) :=
  match s.olc.survey with
  | none => []
  | some g => if s.mirrors t0 then
      (l.flatMap fun p => g.migration.flatMap fun e => (migElements e p.1 p.2).map fun q => (q.1, BitVec.ofNat 64 q.2)).take 4096
    else []

/-- The migration queue and the word count that shows it. (DEDUCED, log entry 59.) -/
def State.setQueue (s : State) (q : List (Nat × DWord)) : State :=
  ({ s with olc := { s.olc with queue := q } } : State).put Fld.OLC_SWEEP_QUEUE (min 4095 q.length)

/-! ### CRC-32 of IEEE 802.3 (R228) -/

/-- A journal entry in the format of R128. -/
def entryBytes (p : Nat × DWord) : List Byte := leBytes 4 p.1 ++ leBytes 4 0 ++ leBytes 8 p.2.toNat

/-- JOURNAL_CRC over entries in commit order. -/
def journalCrc (l : List (Nat × DWord)) : BitVec 32 := crc32 (l.flatMap entryBytes)

/-- The entries of a task cycle in commit order: ascending primary chamber (R158, R186). (DEDUCED, log entry 88.) -/
def TaskState.commitOrder (k : TaskState) : List (Nat × DWord) := (sortBy (fun p => p.1) k.journals).flatMap fun p => p.2

end Sys2Proof.Machine
end

