-- ==== Sys2Proof/Machine/Tasks.lean ====
section
/-! DEFINITION. The task cycle (06): FREEZE and AGREE, fabric transfers, comparison and commit, outcomes, EMIT; pair faults (R231). -/
namespace Sys2Proof.Machine

/-! ### Pair faults (R231) -/

/-- A pair fault: the Lifeline leaves SYNCED (R223); LEAD records it and carries on, SHADOW goes on executing and emits nothing (R231).
(DEDUCED, log entry 68.) -/
def State.pairFault (s : State) (kind : Nat) : State :=
  if s.ll = .synced then
    let s := (s.bump Fld.PAIR_CNT_B_FAULTS).putAll [(Fld.PAIR_EVENT_FAULT, 1), (Fld.PAIR_EVENT_FAULT_KIND, kind)]
    let s := (s.record 0x41 kind [(4, s.fastCount.toNat)]).leaveSynced
    if s.role = .shadow then
      ({ s with pair := { s.pair with emitStopped := true, settling := true } } : State).raise Src.PAIR_FAULT 0 0
    else s
  else s

/-! ### Outcomes (R162 to R166, R170) -/

def outcomeBad (o : CycleOutcome) : Bool := o == .skipped || o == .overrun

def outcomeCode : CycleOutcome → Nat
  | .committed => 0
  | .recovered => 1
  | .skipped => 2
  | .overrun => 3

/-- The outcome of the module's own executions at t0 + 0.80T (R162): OVERRUN where an execution has not reached its first comparison.
(DEDUCED, log entry 33.) -/
def State.ownOutcome (s : State) (t : Nat) : CycleOutcome :=
  let k := s.task t
  let es := s.entriesOf t
  if es.any fun e => !k.equal.contains e.chamber && !k.mism.contains e.chamber then .overrun
  else if k.badEnd || !(es.all fun e => k.equal.contains e.chamber) then .skipped
  else if k.mism.isEmpty then .committed
  else .recovered

/-- The results of a cycle that does not stand are discarded (R162): waiting journals, staging back to the layers before the cycle, ring
descriptors. (DEDUCED, log entry 33.) -/
def State.discardCycle (s : State) (t : Nat) : State :=
  let k := s.task t
  let s := k.undo.reverse.foldl (fun s p => s.setChamber p.1 { s.chamber p.1 with current := p.2 }) s
  let s := { s with seq := { s.seq with ready := s.seq.ready.filter fun j => j.task != t || j.t0 != k.t0 } }
  s.setTask t { s.task t with puts := [], undo := [], journals := [] }

/-- A good outcome stands: the held-cycle run ends, the first scan is done, the cycle is committed (R147, R166). -/
def State.cycleGood (s : State) (t : Nat) : State :=
  let s := s.setTask t { s.task t with firstScan := false, committed := s.cyc t }
  s.put (Fld.SEQ_TASK_STAT_HELD_RUN t) 0

/-- A bad outcome stands: the held-cycle run grows, and above OVERRUN_HOLD the task enters HOLD at this EMIT (R166). -/
def State.cycleBad (s : State) (t : Nat) : State :=
  let n := s.get (Fld.SEQ_TASK_STAT_HELD_RUN t) + 1
  let limit := ((s.taskEntry t).map fun e => e.overrunHold).getD 0
  if limit < n then s.holdTask t 1 else s.put (Fld.SEQ_TASK_STAT_HELD_RUN t) n

/-- An outcome stands for the cycle. -/
def State.stand (s : State) (t : Nat) (o : CycleOutcome) : State :=
  let s := s.setTask t { s.task t with standing := some o }
  if outcomeBad o then (s.discardCycle t).cycleBad t else s.cycleGood t

/-- The role of the module in the present cycle of task `t` (R244). -/
def State.taskRole (s : State) (t : Nat) : Role := s.cycleRole (s.task t).t0

/-- SHADOW's own cycle failed while LEAD's stands: LEAD's journal is committed from the stream once it is whole (R170, R228). -/
def State.commitStream (s : State) (t : Nat) : State :=
  let k := s.task t
  match k.partnerJournal with
  | none => s
  | some (bytes, crc) =>
    if k.streamDone = false ∧ bytes ≤ 16 * k.stream.length then
      let s := s.setTask t { k with streamDone := true }
      if 16 * k.stream.length = bytes ∧ journalCrc k.stream = crc then s.commitWords k.t0 k.stream else s.pairFault 3
    else s

/-- LEAD's outcome against SHADOW's own (R170, R228). -/
def State.adopt (s : State) (t : Nat) (own lead : CycleOutcome) : State :=
  let k := s.task t
  if outcomeBad lead then s.stand t lead
  else if outcomeBad own then
    let s := (s.discardCycle t).setTask t { (s.discardCycle t).task t with standing := some lead }
    (s.cycleGood t).commitStream t
  else
    let s := s.stand t lead
    let l := k.commitOrder
    if k.partnerJournal = some (16 * l.length, journalCrc l) then s else s.pairFault 3

/-- Settle the outcome of task `t` once what it takes is known: SHADOW of a SYNCED pair waits for LEAD's. (DEDUCED, log entry 33.) -/
def State.settle (s : State) (t : Nat) : State :=
  let k := s.task t
  match k.own with
  | none => s
  | some own =>
    if s.taskRole t = .shadow ∧ s.ll = .synced then
      match k.partnerOutcome, k.standing with
      | none, _ => s
      | some lead, none => s.adopt t own lead
      | some lead, some _ => if outcomeBad own && !outcomeBad lead then s.commitStream t else s
    else if k.standing.isNone then s.stand t own
    else s

/-- A pair fault, after which a cycle that waited for LEAD's outcome takes its own. -/
def State.pairBreak (s : State) (kind : Nat) : State :=
  (List.range 16).foldl (fun s t => s.settle t) (s.pairFault kind)

/-- Whether the stream that SHADOW commits in place of its own journal (R170) is still shorter than LEAD's OUTCOME told. -/
def State.streamShort (s : State) (t : Nat) : Bool :=
  let k := s.task t
  s.taskRole t == .shadow && s.ll == .synced && !k.streamDone && k.partnerJournal.isSome
    && (match k.own, k.standing with
      | some own, some lead => outcomeBad own && !outcomeBad lead
      | _, _ => false)

/-- A stream that is short at the next t0 differs from LEAD's byte count: DIVERGE (R228). (DEDUCED, log entry 68.) -/
def State.streamEnds (s : State) (t : Nat) : State := if s.streamShort t then s.pairBreak 3 else s

/-- Counters and sources of the module's own outcome. -/
def State.countOutcome (s : State) (t : Nat) (o : CycleOutcome) : State :=
  let s := s.put (Fld.SEQ_TASK_STAT_OUTCOME t) (outcomeCode o)
  match o with
  | .committed => s
  | .recovered => s.bump (Fld.SEQ_TASK_RECOVERED_COUNT t)
  | .skipped => (s.bump (Fld.SEQ_TASK_SKIPS_COUNT t)).raise Src.TASK_SKIPPED t 0
  | .overrun => (s.bump (Fld.SEQ_TASK_OVERRUNS_COUNT t)).raise Src.TASK_OVERRUN t 0

/-- The margin of a good cycle (SEQ_TASK_MARGIN), in CLK_TIME cycles (R154). -/
def State.noteMargin (s : State) (t : Nat) : State :=
  let k := s.task t
  let m := k.t0Cyc + s.offsetCyc k.t0 t 80 - k.lastEqualCyc
  if m < s.get (Fld.SEQ_TASK_MARGIN_MIN_MARGIN t) then s.put (Fld.SEQ_TASK_MARGIN_MIN_MARGIN t) m else s

/-- An overrunning execution is stopped through its chamber's gate (R164); one of a halted chamber when the debugger resumes it (R196). -/
def State.stopOverrun (s : State) (t c : Nat) : State :=
  let ch := s.chamber c
  match ch.exec with
  | none => s
  | some x =>
    if x.task = t ∧ ch.mmDone = false then
      if s.bit (Fld.LS_DBG_CTRL_HALTED c) then s.setChamber c { ch with stopDeferred := true } else (s.dropExecution c).gateInternal c
    else s

/-- LEAD sends the outcome with the journal's length and check word (R228). -/
def State.sendOutcome (s : State) (t : Nat) (o : CycleOutcome) (l : List (Nat × DWord)) : State :=
  if s.taskRole t = .lead ∧ s.ll = .synced then
    let l := if outcomeBad o then [] else l
    s.emit (.lifeline (.outcome ⟨t, s.cyc t, o, 16 * l.length, journalCrc l⟩))
  else s

/-- CYCLE_OUTCOME (R162, R164, R170). (DEDUCED, log entry 33.) -/
def State.cycleOutcome (s : State) (t : Nat) : State :=
  if s.bit Fld.SEQ_STAT_RUNNING && (s.mode == .run || s.mode == .service) && s.taskRunning t && !(s.task t).outcomeFixed then
    let o := s.ownOutcome t
    let l := (s.task t).commitOrder
    let s := s.setTask t { s.task t with outcomeFixed := true, own := some o }
    let s := if outcomeBad o then (List.range 16).foldl (fun s c => s.stopOverrun t c) s else s.noteMargin t
    let s := (s.countOutcome t o).sendOutcome t o l
    s.settle t
  else s

def execCycleOutcome (t : Fin 16) (s : State) : Host.Outcome State Fault Refusal := done (s.cycleOutcome t.val)

/-! ### FREEZE (R145, R146, R153, R156, R191 to R193, R227, R234) -/

/-- Chamber that runs the execution of an entry. -/
def State.runsOn (s : State) (e : SlotEntry) : Nat := (s.placed e).1

/-- A new cycle of task `t` at t0 begins: relocations of the task take effect (R184). A commit or a re-execution of the cycle before that is
still under way keeps that cycle's values (R159, R163). (DEDUCED, log entry 35.) -/
def State.newCycle (s : State) (t t0 : Nat) : State :=
  let k := s.task t
  let s := { s with seq := { s.seq with relocPending := s.seq.relocPending.filter fun p => p.2 != t } }
  s.setTask t { k with t0 := t0, t0Cyc := s.time.cycles, wrote := [], outcomeFixed := false, equal := [], mism := [], badEnd := false, own := none, partnerOutcome := none,
                       standing := none, puts := [], undo := [], moved := [], journals := [], stream := [], partnerJournal := none,
                       streamDone := false }

/-- What a lane reads of capture input k when no capture of its own is given: level, or the low half of the stamp (R191).
(DEDUCED, log entry 78.) -/
def State.capSlot (s : State) (k : Nat) : DWord :=
  if k < 16 then mkSlot (BitVec.ofNat 32 (((s.cap k).level.getD false).toNat)) Tag.GOOD 0 0 0
  else mkSlot ((s.cap (k - 16)).stamp.truncate 32) (if (s.cap (k - 16)).stamp = 0 then Tag.INIT else Tag.GOOD) 0 0 0

/-- The slots a lane captured, as a function of k. (DEDUCED, log entry 78.) -/
def State.captured (s : State) (l : List (Nat × DWord)) (k : Nat) : DWord :=
  match l.find? fun p => p.1 == k with
  | some p => p.2
  | none => s.capSlot k

/-- Value and status of two captures agree. -/
def sameCapture (x y : DWord) : Bool := slotValue x == slotValue y && slotStatus x == slotStatus y

/-- One agreement of input k on chamber c (R193). (DEDUCED, log entry 78.) -/
def State.agree (s : State) (c k : Nat) (equal : Bool) : State :=
  let ch := s.chamber c
  let n := if equal then 0 else sparseGet (fun _ => 0) ch.unequal k + 1
  let s := s.setChamber c { ch with unequal := sparseSet (fun _ => 0) ch.unequal k n }
  if equal then s
  else
    let s := s.bump (Fld.LS_ASYNC_UNEQUAL c)
    let limit := (s.activeSurvey.map fun g => g.header.discrepancyLimit).getD 8
    if n = limit then
      let s := s.put (Fld.LS_ASYNC_RAISED c) (s.get (Fld.LS_ASYNC_RAISED c) ||| 2 ^ k)
      (s.raise Src.ASYNC_DISCREPANCY c k).record 0x34 (c * 256 + k) []
    else s

/-- The resolved asynchronous image reaches both lanes (R192); an execution under way keeps the image it has (R178). -/
def State.putAsync (s : State) (c : Nat) (img : List DWord) : State :=
  let ch := img.zipIdx.foldl (fun (ch : Chamber) p => ch.inputWord (0x0FFF00 + 8 * p.2) p.1) (s.chamber c)
  s.setChamber c { ch with asyncImg := img.zipIdx.map fun p => (p.2, p.1) }

/-- AGREE on chamber c for task t (R192): the main lane's captures, tagged per R191. (DEDUCED, log entry 78.) -/
def State.asyncAgree (s : State) (t c : Nat) (caps : List CaptureImage) : State :=
  let img := caps.find? fun i => i.chamber == c
  let m := s.captured ((img.map fun i => i.main).getD [])
  let k := s.captured ((img.map fun i => i.checker).getD [])
  let s := (List.range 16).foldl (fun s j => s.agree c j (sameCapture (m j) (k j) && sameCapture (m (16 + j)) (k (16 + j)))) s
  s.putAsync c ((List.range 32).map fun j => mkSlot (slotValue (m j)) (slotStatus (m j)) (s.origin (s.task t).t0 7) 0 ((s.cyc t).truncate 16))

/-- The ring slot entries of task t in a direction. -/
def State.ringEntries (s : State) (t : Nat) (send : Bool) : List RingSlotEntry :=
  match s.surveyFor t with
  | none => []
  | some g => g.ringSlots.filter fun e => e.task == t && e.send == send

/-- The chamber that runs a ring slot's execution. -/
def State.ringChamber (s : State) (e : RingSlotEntry) : Nat :=
  match (s.entriesOf e.task).find? fun x => x.chamber == e.chamber with
  | none => e.chamber
  | some x => s.runsOn x

/-- A lane's words of RING_RX from byte address `x` on, `n` descriptors, are written anew: their ECC is valid (R121). -/
def LaneState.shareValid (l : LaneState) (x n : Nat) : LaneState :=
  { l with workUe := l.workUe.filter fun k => decide (k < x / 8) || decide (x / 8 + 4 * n ≤ k) }

/-- Give a receive slot's share more descriptors. The unpolled ones stand first in the share, which is written anew. (DESIGN CHOICE, log
entry 100.) -/
def State.ringGive (s : State) (e : RingSlotEntry) (ds : List Descriptor) : State :=
  let c := s.ringChamber e
  let ch := s.chamber c
  let x := s.ringBase (s.task e.task).t0 e.chamber false e.slot
  s.setChamber c { ch with
    rx := sparseSet (fun _ => []) ch.rx e.slot (sparseGet (fun _ => []) ch.rx e.slot ++ ds)
    main := ch.main.shareValid x e.max
    checker := ch.checker.shareValid x e.max }

/-- A payload word of an inline descriptor as a signal slot: code 0x7 is stored as 0xF (R24). -/
def storedWord (w : DWord) : DWord := if slotStatus w = 7 then slotWithStatus w 0xF else w

/-- A descriptor of host firmware as a chamber's share stores it (R24): the whole 8-byte words of its payload count as signal slots. What CAN
delivers carries no status nibble. (DEDUCED, log entry 108.) -/
def descStored (d : Descriptor) : Descriptor :=
  let n := descLength d / 8
  ⟨d.w0, if 1 ≤ n then storedWord d.w1 else d.w1, if 2 ≤ n then storedWord d.w2 else d.w2, if 3 ≤ n then storedWord d.w3 else d.w3⟩

/-- The descriptors that ring `q` gives a chamber, with RING_PROTOCOL for a reserved status among them (R24). -/
def State.storeDescs (s : State) (q : Nat) (ds : List Descriptor) : List Descriptor × State :=
  if s.get (Fld.RING_CFG_PROD_KIND q) ≠ 1 ∨ ds.map descStored = ds then (ds, s) else (ds.map descStored, s.ringProtocol q)

/-- Top up one receive slot (R145); frames that wait for a place in the ring follow. -/
def State.topUp (s : State) (e : RingSlotEntry) : List Descriptor × State :=
  let n := if s.get (Fld.GATE_CTRL_STATE 46) ≠ 0 then 0 else e.max - (sparseGet (fun _ => []) (s.chamber (s.ringChamber e)).rx e.slot).length
  let (ds, s) := State.ringTake n s e.ring
  let (ds, s) := s.storeDescs e.ring ds
  (ds, (s.ringGive e ds).canDeliverRing e.ring)

/-- Latch FREE of a send slot (R146). -/
def State.setFree (s : State) (e : RingSlotEntry) (n : Nat) : State :=
  let c := s.ringChamber e
  let ch := s.chamber c
  s.setChamber c { ch with free := sparseSet (fun _ => 0) ch.free e.slot n }

def State.freeOf (s : State) (e : RingSlotEntry) : Nat := if s.ringEnabled e.ring && s.get (Fld.GATE_CTRL_STATE 46) == 0 then min e.max (s.ringFree e.ring) else 0

/-- All receive slots of a task, with what moved. -/
def State.topUps (s : State) (t : Nat) : List (Nat × List Descriptor) × State :=
  (s.ringEntries t false).foldl (fun (acc : List (Nat × List Descriptor) × State) e =>
    let (ds, s) := acc.2.topUp e
    (acc.1 ++ [(e.slot, ds)], s)) ([], s)

/-- A slot of an input image of ports 18 to 20. -/
def State.imageSlot (s : State) (port key : Nat) : DWord :=
  if port = 18 then s.port18 key else if port = 19 then s.port19 key else s.port20 key

def State.setImageSlot (s : State) (port key : Nat) (w : DWord) : State :=
  if port = 18 then (if 128 ≤ key then s.setOutSlot key w else s.setPort18 key w) else if port = 19 then s.setPort19 key w else s.setPort20 key w

/-- The beats of ports 18 to 20 that T0-anchored entries of task t read, in entry order, where `f` keeps them (R227). -/
def State.imageBeatsOf (s : State) (t : Nat) (f : Nat → Nat → Bool) : List (Nat × Nat × List DWord) :=
  (s.fabricFor t).flatMap fun p =>
    let e := p.2
    if e.anchor = 0 ∧ 18 ≤ e.srcPort then
      (List.range e.beats).filterMap fun b =>
        if f e.srcPort (e.srcIndex + b) then
          some (e.srcPort, e.srcIndex + b, (List.range 4).map fun j => s.imageSlot e.srcPort (4 * (e.srcIndex + b) + j))
        else none
    else []

/-- The running survey latches island i at the t0 of task t (R102). -/
def State.latchedAt (s : State) (t i : Nat) : Bool :=
  match s.activeSurvey with
  | none => false
  | some g => g.triggers.any fun e => e.island == i && e.kind == 0 && e.task == t

/-- The beats that LEAD sends at FREEZE (R227): all but those whose island image of this t0 is still to come. -/
def State.beatsAtFreeze (s : State) (t port beat : Nat) : Bool :=
  port != 18 || !s.latchedAt t (beat / 2) || (s.island (beat / 2)).lost || !s.linkOpen (beat / 2)

/-- IMAGE frames for beats from place `off` of task t's image on, in parts of at most 64 beats, 2,048 bytes (R221); the last one carries the
rest. (DEDUCED, log entry 36.) -/
def State.emitImage (s : State) (t off : Nat) (beats : List (Nat × Nat × List DWord)) (asyncs : List (Nat × List DWord))
    (moved : List (Nat × List Descriptor)) (free : List (Nat × Nat)) : State :=
  let ps := (partsOf 64 beats.length beats).zipIdx
  ps.foldl (fun s p =>
    let place := off + 64 * p.2
    if p.2 + 1 < ps.length then s.emit (.lifeline (.image ⟨t, s.cyc t, place, p.1, [], [], []⟩))
    else s.emit (.lifeline (.image ⟨t, s.cyc t, place, p.1, asyncs, moved, free⟩))) s

/-- LEAD sends its image (R227). -/
def State.sendImage (s : State) (t : Nat) (moved : List (Nat × List Descriptor)) : State :=
  if s.taskRole t = .lead ∧ s.ll = .synced then
    let asyncs := (s.entriesOf t).map fun e => (e.chamber, (s.chamber (s.runsOn e)).asyncImg.map fun p => p.2)
    let free := (s.ringEntries t true).map fun e => (e.slot, sparseGet (fun _ => 0) (s.chamber (s.ringChamber e)).free e.slot)
    s.emitImage t 0 (s.imageBeatsOf t fun p b => s.beatsAtFreeze t p b) asyncs moved free
  else s

/-- An image of island i that came after t0 follows the others (R227). (DEDUCED, log entry 36.) -/
def State.sendIslandImage (s : State) (i : Nat) : State :=
  if s.inPair && s.ll == .synced then
    ((List.range 16).filter fun t => s.taskRole t == .lead && s.latchedAt t i).foldl (fun s t =>
      let l := s.imageBeatsOf t fun p b => p == 18 && b / 2 == i
      if l.isEmpty then s else s.emitImage t (s.imageBeatsOf t fun p b => s.beatsAtFreeze t p b).length l [] [] []) s
  else s

/-- A frame of island i settles the image of a latch that the module awaited (R227, R253). -/
def State.islandImage (s : State) (i : Nat) (noise : List Byte) (volts : BitVec 16) (report : Option (Nat × Bool)) : State :=
  let t := s.upstream i noise volts report
  if (s.island i).awaited ≠ 0 ∧ (t.island i).awaited = 0 then t.sendIslandImage i else t

/-- ISL_UPSTREAM_FRAME (R251, R227). -/
def execIslUpstreamFrame (i : Fin 16) (f : UpArrival) (s : State) : Host.Outcome State Fault Refusal :=
  done (s.islandImage i.val f.noise f.volts f.report)

/-- ISL_INPUT_LATCH (R253). -/
def execIslInputLatch (i : Fin 16) (l : LatchEvent) (s : State) : Host.Outcome State Fault Refusal :=
  done (s.inputLatch i.val l.channels l.faults l.currents)

/-- The end of a yield watch in this module: PAIR_DUAL (R235). (DEDUCED, log entry 62.) -/
def State.watchEnd (s : State) (us : Nat) : State :=
  let s := s.putAll [(Fld.PAIR_STAT_WATCH, 0), (Fld.PAIR_DUAL_LAST_US, min 65535 us)]
  ({ s with pair := { s.pair with watchLeft := 0 } } : State).putMax Fld.PAIR_DUAL_MAX_US us

/-- From the last valid Lifeline frame to this module's last emission, in µs (R235). (DEDUCED, log entry 62.) -/
def State.dualUs (s : State) : Nat := (s.pair.lastEmitNs - s.pair.lastFrameNs) / 1000

/-- The yield watch at a FREEZE of the fastest task (R234): `a`, `b`: a reply latched there shows slot A, slot B. -/
def State.watchFreeze (s : State) (a b : Bool) : State :=
  if s.pair.watchLeft % 2 = 1 then
    let n := s.pair.watchLeft - 1
    let a' := a || s.pair.watchA
    let b' := b || s.pair.watchReplies
    let s := { s with pair := { s.pair with watchLeft := n, watchA := a', watchReplies := b' } }
    if s.slot = 1 ∧ a = true then (s.watchEnd s.dualUs).yieldModule
    else if n = 0 then
      if s.slot = 0 ∧ a' = false ∧ b' = true then (s.watchEnd s.dualUs).yieldModule else s.watchEnd 0
    else s
  else s

/-- The replies that a FREEZE of task t latches. -/
def State.dueReplies (s : State) (t : Nat) : List ReplyFrame :=
  (s.dueWaits t).filterMap fun w => s.replyOf w

/-- Whether this module takes its own asynchronous image and rings: all but SHADOW of a SYNCED pair. -/
def State.ownImage (s : State) (t : Nat) : Bool := !(s.taskRole t == .shadow && s.ll == .synced)

/-- FREEZE of task `t` whose cycle has count `cyc` and instant `t0`. -/
def State.freezeAt (s : State) (t t0 : Nat) (cyc : BitVec 32) (caps : List CaptureImage) : State :=
  let s := s.streamEnds t
  let s := if (s.task t).t0 = 0 then s else s.ageSignals t
  let s := (s.setReg (Reg.SEQ_TASK_CYC t) cyc).newCycle t t0
  let due := s.dueReplies t
  let s := (s.flLatch t).canLatch t
  let s := if s.get Fld.SEQ_STAT_FASTEST = t then s.watchFreeze (due.any fun r => r.seenA) (due.any fun r => r.seenB) else s
  let s := { s with pair := { s.pair with imageBeats := s.pair.imageBeats.filter fun p => p.1 != t } }
  if s.ownImage t then
    let s := (s.entriesOf t).foldl (fun s e => s.asyncAgree t (s.runsOn e) caps) s
    let (moved, s) := s.topUps t
    let s := (s.ringEntries t true).foldl (fun s e => s.setFree e (s.freeOf e)) s
    s.sendImage t moved
  else s

/-- FREEZE (R153, R156): of a task that is present, while the sequencer runs. -/
def State.freeze (s : State) (t : Nat) (caps : List CaptureImage) : State :=
  match s.activeSurvey.bind fun g => g.tasks.find? fun e => e.task == t with
  | none => s
  | some e =>
    let period := e.periodTicks * 250000
    let phase := e.phaseTicks * 250000
    if s.bit Fld.SEQ_STAT_RUNNING = true ∧ s.get (Fld.SEQ_TASK_STAT_STATE t) ≠ 0 ∧ 0 < period ∧ phase ≤ s.nowNs then
      let n := (s.nowNs - phase) / period
      s.freezeAt t (n * period + phase) (BitVec.ofNat 32 n) caps
    else s

def execFreeze (t : Fin 16) (captures : List CaptureImage) (s : State) : Host.Outcome State Fault Refusal :=
  done (s.freeze t.val captures)

/-! ### Fabric transfers (R99 to R101, R134, R165, R190, R213) -/

/-- Whether a lane's copy of the beat at byte address `a` holds an uncorrectable error. -/
def LaneState.beatUe (l : LaneState) (a : Nat) : Bool := l.quadUe (a / 32 * 32)

/-- An OUTPUT staging slot as the fabric reads it: AGE from the write cycle (R134); where the main lane's copy of its beat has an error the
checker's, where both have, all slots of the beat with BAD_CHANNEL_FAULT (R190); each source once a beat, with its first slot. A slot never
written reads as an INIT slot. (DEDUCED, log entry 36.) -/
def State.stagingRead (s : State) (t c a : Nat) : DWord × State :=
  let ch := s.chamber c
  let w := match ch.current.find? fun p => p.1 == a with
    | none => slotEmpty
    | some (_, w, n) => mkSlot (slotValue w) (slotStatus w) (slotOrigin w) (s.cyc t - n).toNat (slotSeq w)
  if ch.main.beatUe a then
    let both := ch.checker.beatUe a
    (if both then slotWithStatus w (tagFirst (slotStatus w) Tag.BAD_CHANNEL_FAULT) else w,
      if a % 32 = 0 then s.raise (if both then Src.JOURNAL_UE else Src.STAGING_UE) c 0 else s)
  else (w, s)

/-- One slot of a source port (R99). -/
def State.portRead (s : State) (t port key : Nat) : DWord × State :=
  if port = 0 then (s.sigPage (if s.inTail t then 1 - s.sig.active else s.sig.active) key, s)
  else if port ≤ 16 then s.stagingRead t (port - 1) (8 * key)
  else (s.imageSlot port key, s)

/-- STATUS becomes STALE above STALE_AGE (R105, R25). -/
def slotStale (d : SignalDesc) (w : DWord) : DWord :=
  if d.staleAge ≠ 0 ∧ d.staleAge < slotAge w then slotWithStatus w (tagFirst (slotStatus w) Tag.STALE) else w

/-- The slot is written in this cycle of the task that produces its signal (R20). -/
def State.noteWrote (s : State) (t slot : Nat) : State := s.setTask t { s.task t with wrote := (s.task t).wrote ++ [slot] }

/-- A slot arrives in the signal table (R17, R18, R107, R213): undescribed slots are never written; a FREEZE force replaces what comes from
the latched images; of packed bits those above n read 0; a signalling NaN becomes quiet with BAD_CHANNEL_FAULT, where R25 ranks it first. -/
def State.tableWrite (s : State) (t slot : Nat) (w : DWord) (latched : Bool) : State :=
  match (s.surveyFor t).bind fun g => signalAt g slot with
  | none => s
  | some d =>
    let (s, w) := if latched && d.input then s.forceFreeze d w else (s, w)
    (s.sigWriteIn (s.inTail t) slot (slotStale d (typedSlot d w))).noteWrote d.producer slot

/-- The output signal whose image in a port stands at `key` (R99, R254, R302, R339). -/
def outputAt (g : Survey) (port key : Nat) : Option SignalDesc :=
  if port = 18 then
    if 128 ≤ key ∧ key < 256 then g.signals.find? fun d => d.cls == 0 && d.output && d.source == key - 128 else none
  else if port = 19 then
    g.frameSlots.findSome? fun e =>
      if imageKey e true ≤ key then (slotSignals g e true)[key - imageKey e true]? else none
  else if port = 20 then
    g.canMap.findSome? fun e =>
      if e.send ∧ canImageKey e ≤ key then (canSignals g e)[key - canImageKey e]? else none
  else none

/-- The copy of a slot that leaves at EMIT: HELD in a SKIPPED or OVERRUN cycle (R165), then a force at EMIT (R213, R214). -/
def State.emitCopy (s : State) (t port key : Nat) (w : DWord) : State × DWord :=
  let bad := match (s.task t).standing with
    | some o => outcomeBad o
    | none => false
  let w := if bad then slotWithStatus w (tagFirst (slotStatus w) Tag.HELD) else w
  match (s.surveyFor t).bind fun g => outputAt g port key with
  | none => (s, w)
  | some d => s.forceEmit d (slotWithValue w (typedValue d (slotValue w)))

/-- Whether a destination is closed by its gate: an island link's output image (R255), a chamber (R77). -/
def State.portClosed (s : State) (port key : Nat) : Bool :=
  if port = 18 then !s.linkOpen ((key - 128) / 8) else 1 ≤ port && port ≤ 16 && s.get (Fld.GATE_CTRL_STATE (port - 1)) != 0

/-- A chamber's first fabric beat wakes it (R171), but not while it stays gated. -/
def State.beatWakes (s : State) (c : Nat) : State :=
  if s.staysGated c then s else s.put (Fld.GAL_CH_STAT_DOZE c) 0

/-- One slot arrives at a destination port. -/
def State.portWrite (s : State) (t : Nat) (e : FabricEntry) (key : Nat) (w : DWord) : State :=
  if e.dstPort = 0 then s.tableWrite t key w (decide (18 ≤ e.srcPort))
  else if s.portClosed e.dstPort key then s
  else if e.dstPort ≤ 16 then
    let c := e.dstPort - 1
    (s.setChamber c ((s.chamber c).inputWord (8 * key) w)).beatWakes c
  else if e.anchor = 3 then
    let (s, w) := s.emitCopy t e.dstPort key w
    s.setImageSlot e.dstPort key w
  else s.setImageSlot e.dstPort key w

/-- Whether a gate keeps a slot from being read: a chamber's, or an island link's for the beats that LEAD has not sent (R77, R255). -/
def State.sourceClosed (s : State) (port key : Nat) : Bool :=
  if port = 18 ∧ key < 128 then !s.linkOpen (key / 8) && !s.leadHas key
  else 1 ≤ port && port ≤ 16 && s.get (Fld.GATE_CTRL_STATE (port - 1)) != 0

/-- The slots of a transfer, in order. -/
def State.moveSlots (s : State) (t : Nat) (e : FabricEntry) : State :=
  (List.range (4 * e.beats)).foldl (fun s j =>
    if s.sourceClosed e.srcPort (4 * e.srcIndex + j) then s
    else
      let (w, s) := s.portRead t e.srcPort (4 * e.srcIndex + j)
      s.portWrite t e (4 * e.dstIndex + j) w) s

/-- The COMPARED anchor of an entry has fallen: the execution has compared equal, and the cycle's outcome is not fixed as bad (R162). -/
def State.comparedAnchor (s : State) (e : FabricEntry) : Bool :=
  let k := s.task e.task
  let bad := match k.standing, k.own with
    | some o, _ => outcomeBad o
    | none, some o => outcomeBad o
    | none, none => false
  !bad && (k.equal.contains e.chamber || (s.entriesOf e.task).any fun p => k.equal.contains p.chamber && s.runsOn p == e.chamber)

/-- Whether an entry moves its beats in this state: T0 anchors also for held tasks and in HOLD (R168), EXEC and COMPARED anchors with the
executions, EMIT anchors where the module emits. -/
def State.anchorHolds (s : State) (e : FabricEntry) : Bool :=
  let runs := s.mode == .run || s.mode == .service
  match e.anchor with
  | 0 => true
  | 1 => runs && s.taskRunning e.task
  | 2 => runs && s.comparedAnchor e
  | 3 => runs && !(s.task e.task).quiet
  | _ => false

/-- An entry of SHADOW that begins before LEAD's beats have arrived (R227). -/
def State.imageLate (s : State) (e : FabricEntry) : Bool :=
  s.taskRole e.task == .shadow && s.ll == .synced && decide (e.anchor = 0) && decide (18 ≤ e.srcPort)
    && (List.range e.beats).any fun b => !s.pair.imageBeats.contains (e.task, 65536 * e.srcPort + e.srcIndex + b)

/-- Whether an EMIT entry writes into a send object's image. -/
def intoObject (o : CanMapEntry) (n : Nat) (e : FabricEntry) : Bool :=
  decide (e.anchor = 3) && decide (e.dstPort = 20) && decide (4 * e.dstIndex < canImageKey o + n) && decide (canImageKey o < 4 * (e.dstIndex + e.beats))

/-- The send objects whose last EMIT transfer this one was are packed (R341). -/
def State.packObjects (s : State) (g : Survey) (t ix : Nat) (e : FabricEntry) : State :=
  (g.canMap.filter fun o => o.send && o.task == t).foldl (fun s o =>
    let n := (canSignals g o).length
    let into := (s.fabricFor t).filter fun p => intoObject o n p.2
    if intoObject o n e && into.any (fun p => p.1 == ix) && into.all fun p => (s.task t).moved.contains p.1 then
      s.canPack g o (s.taskHeld t)
    else s) s

/-- A transfer of the table is performed. -/
def State.transfer (s : State) (t ix : Nat) (e : FabricEntry) : State :=
  let s := if s.imageLate e then s.pairBreak 1 else s
  if s.anchorHolds e then
    let s := s.moveSlots t e
    let s := s.setTask t { s.task t with moved := (s.task t).moved ++ [ix] }
    match s.surveyFor t with
    | none => s
    | some g => if e.anchor = 3 then s.packObjects g t ix e else s
  else s

/-- The nominal start instant of an entry in its task's present cycle, as a CLK_TIME cycle: t0 plus its nominal offset (R100). -/
def State.issueAt (s : State) (t : Nat) (e : FabricEntry) : Nat :=
  (s.task t).t0Cyc + (match s.surveyFor t with
    | none => 0
    | some g => anchorOf g g.slots e) + e.delay

/-- Whether an entry stands before another in the issue order (R100): by nominal start instant, then in table order. -/
def State.issuedBefore (s : State) (p q : Nat × FabricEntry) : Bool :=
  decide (s.issueAt p.2.task p.2 < s.issueAt q.2.task q.2)
    || (s.issueAt p.2.task p.2 == s.issueAt q.2.task q.2 && decide (p.1 < q.1))

/-- Whether a COMPARED anchor has fallen after the end of its transfer's window (R101). (DEDUCED, log entry 36.) -/
def State.comparedLate (s : State) (e : FabricEntry) : Bool :=
  match (s.surveyFor e.task).bind fun g => comparedSlot g.slots e with
  | none => false
  | some x => e.anchor == 2 && decide ((s.task e.task).t0Cyc + x.start + occ x < (s.task e.task).lastEqualCyc)

/-- A transfer that is still to come and holds back one that stands after it in the issue order and uses one of its ports (R101): of a cycle
that has begun, its anchor has fallen or surely falls, and not a COMPARED one that comes after its window. -/
def State.holdsBack (s : State) (p q : Nat × FabricEntry) : Bool :=
  !(s.task p.2.task).moved.contains p.1 && (s.task p.2.task).t0 != 0 && sharePort p.2 q.2 && s.issuedBefore p q && s.anchorHolds p.2
    && !s.comparedLate p.2

/-- The entries of the table that a transfer waits for. -/
def State.waitsFor (s : State) (q : Nat × FabricEntry) : Bool :=
  !s.comparedLate q.2 && (List.range 16).any fun u => s.get (Fld.SEQ_TASK_STAT_STATE u) != 0 && (s.fabricFor u).any fun p => s.holdsBack p q

/-- A task whose transfers move: present in the active survey, or its last cycle belongs to the tail of a swap (R207). -/
def State.taskMoves (s : State) (t : Nat) : Bool :=
  s.get (Fld.SEQ_TASK_STAT_STATE t) != 0 || ((s.task t).t0 != 0 && s.inTail t)

/-- FABRIC_TRANSFER (R101): an entry of the table in effect that has not moved in this cycle, once those before it in the issue order have
left its ports. (DEDUCED, log entry 36.) -/
def State.fabricTransfer (s : State) (e : FabricEntry) : State :=
  if s.bit Fld.SEQ_STAT_RUNNING && s.taskMoves e.task then
    match (s.fabricFor e.task).find? fun p => p.2 == e && !(s.task e.task).moved.contains p.1 with
    | none => s
    | some p => if s.waitsFor p then s else s.transfer e.task p.1 e
  else s

def execFabricTransfer (e : FabricEntry) (s : State) : Host.Outcome State Fault Refusal := done (s.fabricTransfer e)

/-! ### Comparison and commit (R135, R158 to R160, R171, R179, R190, R213) -/

/-- Staging slots that became current, for the deltas of a join (R240). -/
def State.noteStaging (s : State) (c : Nat) (old new : List (Nat × DWord × BitVec 32)) : State :=
  if s.pair.joinOut then
    let l := (new.filter fun p => !old.contains p).map fun p => (c, p.1)
    { s with pair := { s.pair with stageDelta := s.pair.stageDelta.filter (fun q => !l.contains q) ++ l } }
  else s

/-- The layer that an equal comparison made current takes the SOURCE forces (R213). -/
def State.forceLayer (s : State) (c t p : Nat) (old : List (Nat × DWord × BitVec 32)) : State :=
  let (s, l) := match s.surveyFor t with
    | none => (s, (s.chamber c).current)
    | some g => s.forceSource g ((s.fabricFor t).map Prod.snd) p c old (s.chamber c).current
  (s.setChamber c { s.chamber c with current := l }).noteStaging c old l

/-- COMPARISON (R177): afterwards the forces at SOURCE, and the chamber dozes (R171). What then leaves the chamber may meet errors that its
memories hold by now (R190). (DESIGN CHOICE, log entry 81.) -/
def State.compare (s : State) (c : Nat) (errors : List MemError) : State :=
  let ch := s.chamber c
  match ch.exec with
  | none => s
  | some x =>
    let n := (s.task x.task).equal.length
    let s := if s.chState c = Ch.COMPARING ∧ s.bit (Fld.LS_DBG_CTRL_HALTED c) = false then s.memErrors c x.task errors else s
    let s := s.comparison c
    let s := if (s.task x.task).equal.length = n then s else s.forceLayer c x.task x.primary ch.current
    if s.bit Fld.GAL_CTRL_DOZE_AUTO && (s.chamber c).exec.isNone then s.put (Fld.GAL_CH_STAT_DOZE c) 1 else s

def execComparison (c : Fin 16) (errors : List MemError) (s : State) : Host.Outcome State Fault Refusal := done (s.compare c.val errors)

/-- COMMIT_START (R158, R201): the words to mirror enter the migration queue. (DEDUCED, log entry 59.) -/
def State.commitBegin (s : State) (c t : Nat) : State :=
  let s := s.commitStart c t
  match s.seq.commit with
  | none => s
  | some j => if j.task = t ∧ j.chamber = c then s.setQueue (s.mirrorQueue j.t0 (s.chamber c).compared.1) else s

def execCommitStart (c : Fin 16) (t : Fin 16) (s : State) : Host.Outcome State Fault Refusal := done (s.commitBegin c.val t.val)

/-- A task cycle whose journals, those committed before it and this one together, are larger than JOURNAL_MAX (R160).
(DEDUCED, log entry 35.) -/
def State.budget (s : State) (j : ReadyJournal) (bytes : Nat) : State :=
  let limit := ((s.taskEntryAt j.t0 j.task).map fun e => e.journalMax).getD 0
  let k := s.task j.task
  let before := if k.spentCyc = j.cyc then k.spent else 0
  let s := s.setTask j.task { k with spentCyc := j.cyc, spent := before + bytes }
  if limit < before + bytes ∧ before ≤ limit then
    let s := (s.bump (Fld.SEQ_TASK_LATE_BUDGET_EXCEEDED j.task)).raise Src.COMMIT_BUDGET j.task 0
    s.record 0x25 j.task [(4, j.cyc.toNat), (4, before + bytes)]
  else s

/-- Bytes committed within one base tick (SEQ_COMMIT). -/
def State.tickCount (s : State) (bytes : Nat) : State :=
  let n := (if s.seq.tick = s.baseTick then s.seq.tickBytes else 0) + bytes
  let s := { s with seq := { s.seq with tick := s.baseTick, tickBytes := n } }
  s.putMax Fld.SEQ_COMMIT_TICK_MAX n

/-- The deltas of a join since the last JOURNAL (R240). -/
def State.joinDeltas (s : State) : List (Nat × Nat × DWord × BitVec 32) × List (Nat × DWord) :=
  (s.pair.stageDelta.filterMap fun p =>
      (((s.chamber p.1).current.find? fun q => q.1 == p.2).map fun q => (p.1, q.1, q.2.1, q.2.2)),
    s.pair.sigDelta.map fun n => (n, s.sigSlot n))

/-- JOURNAL frames with entries, staging deltas and signal deltas, 160 of each kind in a frame of at most 8,192 bytes (R219, R221).
(DEDUCED, log entry 61.) -/
def State.emitJournal (s : State) (t : Nat) (cyc : BitVec 32) (l : List (Nat × DWord)) (st : List (Nat × Nat × DWord × BitVec 32))
    (sg : List (Nat × DWord)) : State :=
  let ls := partsOf 160 l.length l
  let sts := partsOf 160 st.length st
  let sgs := partsOf 160 sg.length sg
  (List.range (max ls.length (max sts.length sgs.length))).foldl (fun s i =>
    s.emit (.lifeline (.journal ⟨t, cyc, ls.getD i [], sts.getD i [], sgs.getD i []⟩))) s

/-- The commit stream on the Lifeline: LEAD's, and that of a module that serves a join. -/
def State.sendJournal (s : State) (j : ReadyJournal) (l : List (Nat × DWord)) : State :=
  if (s.cycleRole j.t0 = .lead ∧ s.ll = .synced) ∨ s.pair.joinOut = true then
    let (st, sg) := s.joinDeltas
    let s := s.emitJournal j.task j.cyc l st sg
    { s with pair := { s.pair with stageDelta := [], sigDelta := [] } }
  else s

/-- The fallbacks a commit met (R190). (DEDUCED, log entry 35.) -/
def State.commitFaults (s : State) (t c : Nat) (fallback lost : Bool) : State :=
  let s := if fallback then s.raise Src.STAGING_UE c 0 else s
  if lost then
    let solo := !s.inPair
    (s.raise Src.JOURNAL_UE c 0).soloHold solo [t] 4
  else s

/-- A journal has been written (R158 to R160), with the values of its own task cycle, the next one begun or not. -/
def State.committed (s : State) (j : ReadyJournal) : State :=
  let tooLate := decide (s.commitDeadline j < s.time.cycles)
  let bytes := 16 * (s.chamber j.chamber).main.journal.length
  let (l, fallback, lost) := (s.chamber j.chamber).compared
  let s := s.commitWords j.t0 l
  let s := { s with seq := { s.seq with commit := none } }
  let s := (s.setQueue []).put Fld.SEQ_STAT_COMMIT_BUSY 0
  let s := if tooLate then s.bump (Fld.SEQ_TASK_LATE_LATE_COMMITS j.task) else s
  let s := (s.budget j bytes).tickCount bytes
  (s.sendJournal j l).commitFaults j.task j.chamber fallback lost

/-- COMMIT_END (R158). -/
def execCommitEnd (s : State) : Host.Outcome State Fault Refusal :=
  match s.seq.commit with
  | none => done s
  | some j => done (s.committed j)

/-! ### EMIT (R146, R153, R166, R168, R170, R208, R230, R346) -/

/-- The instance window of a task (R126): from the lowest OFFSET to the highest end of its entries; 0, 0 without an entry. -/
def taskWindow (g : Survey) (t : Nat) : Nat × Nat := (taskSpan g t).getD (0, 0)

def State.setWindow (s : State) (g : Survey) (t : Nat) : State :=
  let (lo, hi) := taskWindow g t
  s.putAll [(Fld.GAL_TASK_INST_LO_OFFSET t, lo), (Fld.GAL_TASK_INST_HI_END t, hi)]

/-- A hold that is due enters at this EMIT (R166, R168, R169): a cause of this cycle, else the hold command whose cycle has come. -/
def State.holdDue (s : State) (t : Nat) : State :=
  let k := s.task t
  match k.holdPending, k.holdEffective with
  | some cause, _ => s.enterTaskHold t cause
  | none, some e => if (s.cyc t - e).toNat < 2 ^ 31 then s.enterTaskHold t 5 else s
  | none, none => s

/-- Ring send slots enqueue what compared, in put order (R146): LEAD and SOLO. -/
def State.enqueuePuts (s : State) (t : Nat) : State :=
  let ps := (s.task t).puts
  let s := s.setTask t { s.task t with puts := [] }
  if s.taskRole t = .lead ∨ s.role = .solo then
    ps.foldl (fun s p =>
      match (s.ringEntries t true).find? fun e => e.slot == p.1 with
      | none => s
      | some e => s.ringPutAll e.ring [p.2]) s
  else s

/-- Bits of a predicate on the 128 channels. -/
def mapBits (f : Nat → Bool) : BitVec 128 :=
  (List.range 128).foldl (fun m n => if f n then m ||| BitVec.twoPow 128 n else m) 0

/-- The DUPLEX frame (R230), and the partner's frame that this EMIT uses. (DEDUCED, log entry 68.) -/
def State.duplexExchange (s : State) : State :=
  let s := { s with pair := { s.pair with duplexIn := s.pair.duplexNext, duplexNext := none } }
  if s.ll = .synced then
    s.emit (.lifeline (.duplex ⟨mapBits fun n => s.duplex n && s.chMode n == chDO && (slotValue (s.port18 (128 + n))).getLsbD 0,
      mapBits fun n => s.duplex n && s.chMode n == chAO && !s.bit (Fld.ISL_AN_STAT_STEP_UP n)⟩))
  else s

/-- Whether the module emits nothing for task `t` in this cycle (R170, R231). -/
def State.emitsNothing (s : State) (t : Nat) : Bool :=
  s.pair.emitStopped || (s.taskRole t == .shadow && (match (s.task t).own, (s.task t).standing with
    | some own, some lead => outcomeBad own && !outcomeBad lead
    | _, _ => false))

/-- The tail has ended (R208): the mirror stops, the old area is no longer valid, its store area is RETIRED. -/
def State.tailEnd (s : State) : State :=
  let old := 1 - s.runArea
  let oldBuild := (s.otherSurvey.map fun g => g.header.buildId).getD 0
  let newBuild := (s.activeSurvey.map fun g => g.header.buildId).getD 0
  let gen := s.olc.generation
  let swap := s.olc.swapAt
  let s := s.programArea (1 - s.olc.targetArea) 0x0F
  let s := { s with olc := s.olc.over }
  let s := s.putAll [(⟨Reg.GAL_AREA, 1 + old, 1⟩, 0), (Fld.OLC_STAT_STATE, 0), (Fld.OLC_STAT_PARTNER_READY, 0),
    (Fld.OLC_STAT_AREA_SWEPT, 0), (Fld.OLC_STAT_PAGE_SWEPT, 0)]
  s.record 0x27 gen [(8, oldBuild), (8, newBuild), (8, swap)]

/-- A tail EMIT (R207, R208). -/
def State.tailEmit (s : State) (t : Nat) : State :=
  if s.olc.tail.contains t then
    let s := { s with olc := { s.olc with tail := s.olc.tail.filter fun x => x != t } }
    let s := match s.activeSurvey with
      | none => s
      | some g =>
        let s := s.setWindow g t
        if g.tasks.any fun e => e.task == t then s else s.put (Fld.SEQ_TASK_STAT_STATE t) 0
    if s.olc.tail.isEmpty then s.tailEnd else s
  else s

/-- What follows the fastest task's EMIT: an updated island restarts (R451), the yield watch counts (R234). -/
def State.fastestEmit (s : State) : State :=
  let s := s.islandRestart
  if 0 < s.pair.watchLeft ∧ s.pair.watchLeft % 2 = 0 then { s with pair := { s.pair with watchLeft := s.pair.watchLeft - 1 } } else s

/-- The last tail of a join served has been emitted: its deltas end (R241). -/
def State.joinTail (s : State) (t : Nat) : State :=
  if s.pair.joinTails.contains t then
    let l := s.pair.joinTails.filter fun x => x != t
    { s with pair := { s.pair with joinTails := l, joinOut := s.pair.joinOut && !l.isEmpty } }
  else s

/-- EMIT of task `t`. -/
def State.emitTask (s : State) (t : Nat) : State :=
  let s := s.settle t
  let quiet := s.emitsNothing t
  let s := s.setTask t { s.task t with quiet := quiet }
  let s := s.holdDue t
  let s := if (s.mode == .run || s.mode == .service) && s.taskRunning t && !quiet then s.enqueuePuts t else s
  let s := s.duplexExchange.canRoles
  let s := if quiet || s.core.humarOff then s else { s with pair := { s.pair with lastEmitNs := s.nowNs } }
  let s := (s.tailEmit t).joinTail t
  if s.get Fld.SEQ_STAT_FASTEST = t then s.fastestEmit else s

/-- EMIT (R153). -/
def execEmit (t : Fin 16) (s : State) : Host.Outcome State Fault Refusal :=
  if s.bit Fld.SEQ_STAT_RUNNING && s.get (Fld.SEQ_TASK_STAT_STATE t.val) != 0 then done (s.emitTask t.val) else done s

end Sys2Proof.Machine
end

