-- ==== Sys2Proof/Machine/Modes.lean ====
section
/-! DEFINITION. Modes (R26 to R29), the areas of the instance store at LOAD and at a cold start (R130), the survey taking effect, the start of
the sequencer (R352, R360). -/
namespace Sys2Proof.Machine

/-! ### Instance areas (R109, R130) -/

/-- The initial value of byte `o` of an area (R109). -/
def initByte (g : Survey) (o : Nat) : Byte :=
  match g.initValues.find? fun r => decide (r.offset ≤ o) && decide (o < r.offset + r.bytes.length) with
  | some r => r.bytes.getD (o - r.offset) 0
  | none => 0

/-- The initial value of the word at `o`. -/
def initWord (g : Survey) (o : Nat) : DWord := BitVec.ofNat 64 (ofLeBytes ((List.range 8).map fun j => initByte g (o + j)))

/-- Word offsets that the initial value records touch. -/
def initOffsets (g : Survey) : List Nat :=
  g.initValues.flatMap fun r => (List.range ((r.offset % 8 + r.bytes.length + 7) / 8)).map fun j => r.offset / 8 * 8 + 8 * j

/-- An area takes the initial values of a survey. -/
def State.initArea (s : State) (g : Survey) (a : Nat) : State :=
  let other (k : Nat) : Bool := k / 4194304 != a
  let s := { s with inst := ⟨s.inst.words.filter fun p => other p.1, s.inst.ue.filter other⟩ }
  (initOffsets g).foldl (fun s o => s.setInstWord a o (initWord g o)) s

/-- The REINIT entries of a survey take their initial values (R130). -/
def State.reinitEntries (s : State) (g : Survey) (a : Nat) : State :=
  (g.layout.filter fun e => e.kind == 1).foldl (fun s e =>
    (List.range (e.length / 8)).foldl (fun s j => s.setInstWord a (e.offset + 8 * j) (initWord g (e.offset + 8 * j))) s) s

def State.tagValid (s : State) (a : Nat) : Bool := s.bit ⟨Reg.GAL_AREA, 1 + a, 1⟩

/-- The BUILD_ID in area a's tag. -/
def State.areaTag (s : State) (a : Nat) : Nat := (s.getReg (Reg.GAL_AREA_TAG_HI a)).toNat * 2 ^ 32 + (s.getReg (Reg.GAL_AREA_TAG_LO a)).toNat

/-- Set area a's tag, valid. -/
def State.setAreaTag (s : State) (a build : Nat) : State :=
  ((s.setReg (Reg.GAL_AREA_TAG_LO a) (BitVec.ofNat 32 build)).setReg (Reg.GAL_AREA_TAG_HI a) (BitVec.ofNat 32 (build / 2 ^ 32))).put
    ⟨Reg.GAL_AREA, 1 + a, 1⟩ 1

/-- Whether area a holds the layout of a build. -/
def State.areaMatches (s : State) (a build : Nat) : Bool := s.tagValid a && s.areaTag a == build

/-- A cold start of area 0 (R130). -/
def State.coldStart (s : State) (g : Survey) : State :=
  let s := (s.initArea g 0).setAreaTag 0 g.header.buildId
  let s := s.putAll [(⟨Reg.GAL_AREA, 2, 1⟩, 0), (Fld.GAL_AREA_RUN_AREA, 0), (Fld.GAL_AREA_COLD, 1)]
  s.record 0x22 0 [(8, g.header.buildId)]

/-- The running area of a survey at LOAD (R130). (DEDUCED, log entry 55.) -/
def State.chooseArea (s : State) (g : Survey) : State :=
  match [0, 1].find? fun a => s.areaMatches a g.header.buildId with
  | some a => (s.reinitEntries g a).put Fld.GAL_AREA_RUN_AREA a
  | none => s.coldStart g

/-! ### A survey takes effect -/

/-- The fastest task (R157). -/
def fastestTask (g : Survey) : Nat :=
  (g.tasks.foldl (fun (b : Nat × Nat) e => if b.2 = 0 ∨ e.periodTicks < b.2 then (e.task, e.periodTicks) else b) (0, 0)).1

/-- The tables of the active survey take effect at LOAD (R107, R111, R126, R338): signal page, windows, code, chamber states, stations,
objects, channel modes. -/
def State.surveyTakes (s : State) (g : Survey) : State :=
  let s := s.loadPage s.sig.active g
  let s := (List.range 16).foldl (fun s t => s.setWindow g t) s
  let s := (List.range 16).foldl (fun s c =>
    let s := s.loadCode c (some g)
    if s.chState c = Ch.FAILED then s else s.setChState c (s.restState c)) s
  ((s.canSurvey g).stationsLoad.takeModes).put Fld.SEQ_STAT_FASTEST (fastestTask g)

/-- Arm a unit of the drip table for its first firing at or after instant `b` (R360). (DEDUCED, log entry 25.) -/
def State.armSurvey (s : State) (b : Nat) (e : DripEntry) : State :=
  let s := s.putAll [(Fld.DRIP_CTRL_SURVEY e.drip, 1), (Fld.DRIP_CTRL_ARMED e.drip, 1)]
  s.setDrip e.drip ⟨BitVec.ofNat 40 (b + e.offsetNs), BitVec.ofNat 40 e.periodNs, false⟩

/-- Every unit of the drip table, from instant `b`. -/
def State.armDrips (s : State) (g : Survey) (b : Nat) : State := g.drips.foldl (fun s e => s.armSurvey b e) s

/-- The units of a drip table are disarmed and given back (R360). -/
def State.disarmDrips (s : State) (g : Survey) : State :=
  g.drips.foldl (fun s e => s.putAll [(Fld.DRIP_CTRL_SURVEY e.drip, 0), (Fld.DRIP_CTRL_ARMED e.drip, 0)]) s

/-- The last hyperperiod boundary not after now (R96). -/
def State.lastBoundary (s : State) : Nat := if s.hyperNs = 0 then s.nowNs else s.nowNs / s.hyperNs * s.hyperNs

/-- Chambers FAILED before the sequencer starts: R184 or R185 applies from the first cycle (R188). (DESIGN CHOICE, log entry 28.) -/
def State.startFailures (s : State) : State :=
  (List.range 16).foldl (fun s c =>
    if s.chState c = Ch.FAILED ∧ s.bit (Fld.GAL_CH_STAT_RELOCATED c) = false then s.afterFailure c else s) s

/-- The sequencer starts at instant `b` (R352, R360): every task of the survey runs from its first t0 at or after it. -/
def State.sequencerRuns (s : State) (g : Survey) (b : Nat) (first : Bool) : State :=
  let s := s.putAll [(Fld.SEQ_STAT_RUNNING, 1), (Fld.SEQ_STAT_FASTEST, fastestTask g)]
  let s := { s with time := { s.time with seqRan := true } }
  let s := g.tasks.foldl (fun s e =>
    let s := if s.get (Fld.SEQ_TASK_STAT_STATE e.task) = 0 then s.put (Fld.SEQ_TASK_STAT_STATE e.task) 1 else s
    let k := s.task e.task
    s.setTask e.task { k with firstScan := if first then true else k.firstScan, outcomeFixed := true }) s
  (s.armDrips g b).startFailures

/-! ### Modes (R26 to R28) -/

/-- Module HOLD: chambers stay gated, so an execution under way ends without a comparison and its task goes on from the cairn (R26,
R171). (DEDUCED, log entry 27.) -/
def State.holdChambers (s : State) : State :=
  (List.range 16).foldl (fun s c =>
    let s := if (s.chamber c).exec.isSome && s.chState c != Ch.FAILED then s.dropExecution c else s
    if s.bit Fld.GAL_CTRL_DOZE_AUTO && s.chamberIdle c then s.put (Fld.GAL_CH_STAT_DOZE c) 1 else s) s

/-- The start from HOLD (R26, R147, R169, R242): every task not blocked resumes at the next hyperperiod boundary; without a valid area tag the
start is cold. (DEDUCED, log entry 27.) -/
def State.startTasks (s : State) : State :=
  match s.activeSurvey with
  | none => s
  | some g =>
    let s := if s.tagValid s.runArea then s else s.coldStart g
    g.tasks.foldl (fun s e =>
      let st := s.get (Fld.SEQ_TASK_STAT_STATE e.task)
      if (st = 1 ∨ st = 2) ∧ s.taskBlocked e.task = false then s.taskResumeAt e.task (some (s.nextBoundary 0)) else s) s

/-- The module takes a mode (R26). -/
def State.enterMode (s : State) (m : Mode) : State :=
  let old := s.mode
  let s := { s with mode := m, core := { s.core with modeReq := none } }
  let s := if old = .service ∧ m ≠ .service then s.calDrivesOff else s
  let s := if old = .hold ∧ m = .run then s.startTasks else s
  let s := if m = .hold then s.holdChambers else s
  let s := if m = .run ∨ m = .service then s.healthOpen else s
  let s := if m = .run then { s with pair := { s.pair with joinFailed := false } } else s
  s.tpCheck

/-- Whether a transition's effective count is reached (R27): at once without one. -/
def State.modeDue (s : State) (r : ModeReq) : Bool :=
  match r.effective with
  | none => true
  | some e => decide ((s.fastCount - e).toNat < 2 ^ 31)

/-- The transitions of R26 that a request may still ask for when it takes effect. -/
def modeAllowed (old new : Mode) : Bool :=
  match old, new with
  | .run, .hold => true
  | .run, .service => true
  | .service, .run => true
  | .service, .hold => true
  | .hold, .run => true
  | _, _ => false

/-- A pending transition takes effect; HIBERNATE has an entry of its own (R409). -/
def State.modeEffect (s : State) : State :=
  match s.core.modeReq with
  | none => s
  | some r =>
    if s.modeDue r && r.target != .hibernate then
      if modeAllowed s.mode r.target then s.enterMode r.target
      else { s with core := { s.core with modeReq := none } }
    else s

/-- A mode command (R27): in a SYNCED pair LEAD fixes the count four ahead and relays it, SHADOW passes the command to LEAD.
(DEDUCED, log entry 27.) -/
def State.modeCommand (s : State) (target : Mode) (cmd : Option (BitVec 32) → RelayCommand) : State :=
  if s.ll = .synced ∧ s.role = .shadow then s.emit (.lifeline (.command (cmd none)))
  else if s.ll = .synced ∧ s.role = .lead then
    let e := s.fastCount + 4
    (s.requestMode target 4 (some e)).emit (.lifeline (.command (cmd (some e))))
  else s.requestMode target 4 none

/-- Whether a start command is refused in HOLD (R237, R239): yielded, or LINKED with a partner that runs and is not itself in HOLD.
(DEDUCED, log entry 27.) -/
def State.startRefused (s : State) : Bool :=
  s.bit Fld.PAIR_STAT_YIELDED || (s.ll == .linked && s.bit Fld.PAIR_STAT_PARTNER_RUNNING && s.pair.partnerMode != .hold)

/-- A start command (R26, R239). With both modules in HOLD and LINKED it starts slot A, and B joins once A runs.
(DEDUCED, log entry 27; DESIGN CHOICE, log entry 76.) -/
def State.startCommand (s : State) : State :=
  if s.mode = .hold ∧ s.surveyVerified = true then
    if s.startRefused then s.emit .engRefused
    else if s.ll = .linked ∧ s.pair.partnerMode = .hold then
      let s := s.emit (.lifeline (.command (.start none)))
      if s.slot = 0 then s.requestMode .run 4 none
      else { s with core := { s.core with startPending := true } }
    else s.modeCommand .run .start
  else s

/-- START_COMMAND (R26). -/
def execStartCommand (s : State) : Host.Outcome State Fault Refusal := done s.startCommand

/-- STOP_COMMAND (R26). -/
def execStopCommand (s : State) : Host.Outcome State Fault Refusal :=
  if s.mode = .run ∨ s.mode = .service then done (s.modeCommand .hold (.mode .hold)) else done s

/-- ENTER_SERVICE_COMMAND (R26): in an authenticated session. -/
def execEnterServiceCommand (s : State) : Host.Outcome State Fault Refusal :=
  if s.mode = .run ∧ s.session = true then done (s.modeCommand .service (.mode .service)) else done s

/-- Leave SERVICE (R26). -/
def State.leaveService (s : State) : State := if s.mode = .service then s.modeCommand .run (.mode .run) else s

/-- LEAVE_SERVICE_COMMAND (R26). -/
def execLeaveServiceCommand (s : State) : Host.Outcome State Fault Refusal := done s.leaveService

/-! ### The engineering session ends (R435) -/

/-- The session closes: the record, SERVICE is left, test perturbation that needs the session stops. -/
def State.sessionClose (s : State) : State :=
  if s.session then
    let hash := s.getReg Reg.SEC_ENG_PEER
    let s := (s.putBit Fld.SEC_STATUS_ENG_SESSION false).setReg Reg.SEC_ENG_PEER 0
    let s := s.record 0x84 hash.toNat [(1, 0), (1, s.sec.engPort)]
    s.tpCheck.leaveService
  else s

/-- ENG_SESSION_CLOSE (R435). -/
def execEngSessionClose (s : State) : Host.Outcome State Fault Refusal := done s.sessionClose

/-- ENG_SESSION_TIMEOUT (R435). -/
def execEngSessionTimeout (s : State) : Host.Outcome State Fault Refusal := done s.sessionClose

/-! ### The start of the sequencer (R88, R360) -/

/-- SEQUENCER_START: at a hyperperiod boundary, with a verified active survey, in HOLD, or where LOAD has ended with START_POLICY AUTO; that
one enters RUN (R26, R88). (DESIGN CHOICE, log entry 28.) -/
def State.sequencerStart (s : State) : State :=
  match s.activeSurvey with
  | none => s
  | some g =>
    if s.bit Fld.SEQ_STAT_RUNNING then s
    else if s.mode = .load ∧ s.core.startPending = true then
      let s := { s with core := { s.core with startPending := false } }
      (s.sequencerRuns g s.lastBoundary true).enterMode .run
    else if s.mode = .hold ∨ s.mode = .run ∨ s.mode = .service then s.sequencerRuns g s.lastBoundary true
    else s

/-- DESIGN CHOICE, log entry 7. -/
def execSequencerStart (s : State) : Host.Outcome State Fault Refusal := done s.sequencerStart

end Sys2Proof.Machine
end

