-- ==== Sys2Proof/Machine/Supply.lean ====
section
/-! DEFINITION. The base connector (02): insertion and withdrawal, interruptions and the data save, brown-outs, the front panel. -/
namespace Sys2Proof.Machine

/-! ### Insertion (R32, R54) -/

/-- PRESENT_N_LOW (R32): the debounce starts, or starts again. A module that was withdrawn is then inserted anew, so that a later high level
is an extraction again; one whose withdrawal stopped part way is told by WITHDRAWAL_ABORTED (R57). (DEDUCED, log entry 51.) -/
def execPresentNLow (s : State) : Host.Outcome State Fault Refusal :=
  if s.core.mainPath = .absent ∨ s.core.mainPath = .debouncing then
    done { s with core := { s.core with mainPath := .debouncing, extracted := false } }
  else done s

/-- PRESENT_N_DEBOUNCED (R54). -/
def execPresentNDebounced (s : State) : Host.Outcome State Fault Refusal :=
  if s.core.mainPath = .debouncing then done { s with core := { s.core with mainPath := .ramping } } else done s

/-- MAIN_PATH_ON (R54): the rails sequence, so power-on reset may release (R57). -/
def execMainPathOn (s : State) : Host.Outcome State Fault Refusal :=
  if s.core.mainPath = .ramping then done { s with core := { s.core with mainPath := .on, porHeld := false } } else done s

/-- LOAD ends in the mode that waited for the reserve (R55). -/
def State.leaveNow (s : State) : State :=
  match s.load.leaving with
  | some m => if s.mode = .load then ({ s with load := { s.load with leaving := none } } : State).enterMode m else s
  | none => s

/-- LOAD ends in a mode, unless a strap keeps the module in LOAD (R34, R35); it waits for a full hold-up reserve (R55), and no step of LOAD
follows meanwhile. (DESIGN CHOICE, log entry 28.) -/
def State.leaveLoad (s : State) (m : Mode) : State :=
  if s.load.hold then s
  else if s.bit Fld.PWR_STAT_HOLDUP_FULL then s.enterMode m
  else { s with load := { s.load with step := 14, leaving := some m } }

/-- The bank is recharged (R55, R403). -/
def State.rechargeDone (s : State) : State :=
  if s.bit Fld.PWR_STAT_HOLDUP_FULL then s
  else ({ s with pwr := { s.pwr with fullAt := s.fls.optime.toNat } } : State).putBit Fld.PWR_STAT_HOLDUP_FULL true

/-- HOLDUP_FULL (R55). (DEDUCED, log entry 51.) -/
def execHoldupFull (s : State) : Host.Outcome State Fault Refusal :=
  if s.bit Fld.PWR_STAT_ON_HOLDUP then done s else done s.rechargeDone.leaveNow

/-! ### The data save (R46) and withdrawal (R56, R57) -/

/-- The counts, the reset-cause record and every pending record reach Flowstone MRAM, POWER_FAIL_SAVE behind them (R46 step 3). -/
def State.saveRecords (s : State) : State :=
  let s := { s with core := { s.core with saving := true } }
  let s := s.optimeCopyNow.flsDrain
  let s := s.record 0x10 0 [(4, (s.getReg Reg.RST_CAUSE).toNat), (4, (s.task (s.get Fld.SEQ_STAT_FASTEST)).committed.toNat)]
  s.flsDrain

/-- Outputs off or at 0 mA, no Humar emission (R46 step 2, R56). -/
def State.outputsStop (s : State) : State := { s with core := { s.core with outputsOff := true, humarOff := true } }

/-- A commit already under way completes (R46 step 1). -/
def State.commitCompletes (s : State) : State :=
  match s.seq.commit with
  | none => s
  | some j => s.committed j

/-- The brown-out reset that ends a data save: the bank is drawn down (R46, R55). -/
def State.saveReset (s : State) : State :=
  (s.putBit Fld.PWR_STAT_HOLDUP_FULL false).assertReset .bor [(Fld.RST_DETAIL_BOR_KIND, 0)]

/-- DATA_SAVE (R45 to R47). -/
def State.dataSave (s : State) : State :=
  if s.core.interrupted && !s.rst.inReset then s.commitCompletes.outputsStop.saveRecords.saveReset else s

def execDataSave (s : State) : Host.Outcome State Fault Refusal := done s.dataSave

/-- EXTRACTION (R56, R412): the departure frames, outputs off, the EXTRACTION record ahead of POWER_FAIL_SAVE, brown-out reset. In HIBERNATE
the always-on domain writes the record alone. -/
def State.extract (s : State) : State :=
  if s.core.mainPath != .on || s.core.extracted then s
  else
    let s := { s with core := { s.core with extracted := true, mainPath := .absent } }
    if s.rst.inReset then s
    else
      let s := if s.mode = .hibernate then s else (s.emitBoth .departure).commitCompletes.outputsStop
      let s := ({ s with core := { s.core with saving := true } } : State).flsDrain
      let s := s.record 0x12 0 [(1, modeCode s.mode), (1, roleCode s.role)]
      let s := if s.mode = .hibernate then s.optimeCopyNow.flsDrain else s.saveRecords
      s.saveReset

def execExtraction (s : State) : Host.Outcome State Fault Refusal := done s.extract

/-- WITHDRAWAL_ABORTED (R57): power-on reset is held while the insertion sequence starts again from the debounce. -/
def execWithdrawalAborted (s : State) : Host.Outcome State Fault Refusal :=
  if s.core.extracted then
    done (({ s with core := { s.core with extracted := false, mainPath := .debouncing, porHeld := true } } : State).assertReset .por [])
  else done s

/-! ### Interruptions (R42, R45, R403, R412) -/

/-- SUPPLY_INTERRUPT (R45): the module runs on the reserve; in HIBERNATE it saves at once and resets (R412). -/
def State.interrupt (s : State) (vin : Nat) : State :=
  if s.core.interrupted then s
  else
    let s := { s with core := { s.core with interrupted := true } }
    if s.rst.inReset then s
    else if s.mode = .hibernate then s.saveRecords.saveReset
    else
      let s := s.putAll [(Fld.PWR_STAT_ON_HOLDUP, 1), (Fld.PWR_STAT_HOLDUP_FULL, 0), (Fld.PWR_SUPPLY_VIN, vin)]
      let n := s.flsNextSeq
      let s := s.record 0x11 0 [(4, 0)]
      let s := { s with core := { s.core with interruptSeq := if s.flsNextSeq = n then none else some n.toNat } }
      s.rise Src.PWR_HOLDUP 0 0

def execSupplyInterrupt (vin : Nat) (s : State) : Host.Outcome State Fault Refusal := done (s.interrupt vin)

/-- The queued record with a sequence takes a body. -/
def completeQueued (seq : Nat) (body : List Byte) (q : List FlsEntry) : List FlsEntry :=
  q.map fun e => match e with
    | .record r => if r.seq.toNat = seq then .record { r with body := body } else e
    | .repeatAt off => .repeatAt off

/-- The interruption's SUPPLY_INTERRUPT record takes its length, in the write queue or where Flowstone MRAM holds it (R45). (DEDUCED, log
entry 51.) -/
def State.completeInterrupt (s : State) (len : Nat) : State :=
  match s.core.interruptSeq with
  | none => s
  | some q =>
    let s := { s with core := { s.core with interruptSeq := none }
                      fls := { s.fls with queue := completeQueued q (recordBody [(4, len)]) s.fls.queue } }
    let ahead := (q + 2 ^ 32 - s.tailSeq) % 2 ^ 32
    if ahead < (s.headSeq + 2 ^ 32 - s.tailSeq) % 2 ^ 32 then s.flsWrite (0x10000 + s.recSkip ahead s.tailOff + 24) (leBytes 4 len) else s

/-- The supply warning follows the input (R42). -/
def State.inputLevel (s : State) (vin : Nat) : State :=
  let s := s.put Fld.PWR_SUPPLY_VIN vin
  let low := decide (vin < 1680)
  let s := { s with core := { s.core with inputLow := low } }
  if low then s.rise Src.PWR_INPUT_LOW 0 0 else s.fall Src.PWR_INPUT_LOW 0 0

/-- SUPPLY_RETURN (R45). -/
def State.supplyReturns (s : State) (lenUs vin : Nat) : State :=
  if s.core.interrupted then
    let s := ({ s with core := { s.core with interrupted := false } } : State).completeInterrupt lenUs
    let s := (s.putAll [(Fld.PWR_STAT_ON_HOLDUP, 0), (Fld.PWR_SUPPLY_VIN, vin)]).fall Src.PWR_HOLDUP 0 0
    if 1680 ≤ vin then s.inputLevel vin else s
  else s

def execSupplyReturn (lenUs : Nat) (vin : Nat) (s : State) : Host.Outcome State Fault Refusal := done (s.supplyReturns lenUs vin)

/-- PWR_INPUT_LOW (R42). -/
def execPwrInputLow (vin : Nat) (s : State) : Host.Outcome State Fault Refusal := done (s.inputLevel vin)

/-- CORE_RAIL_BROWN_OUT (R399). -/
def execCoreRailBrownOut (s : State) : Host.Outcome State Fault Refusal := done (s.assertReset .bor [(Fld.RST_DETAIL_BOR_KIND, 1)])

/-- IO_RAIL_BROWN_OUT (R69). -/
def execIoRailBrownOut (s : State) : Host.Outcome State Fault Refusal := done (s.assertReset .bor [(Fld.RST_DETAIL_BOR_KIND, 2)])

/-! ### Front panel (R38, R39, R290) -/

/-- What a status LED shows (R38): off, steady or flashing green, amber and red, all of it lit in the lamp test, the green flash of
HIBERNATE every 4 s, and a state for which R38 names nothing. -/
inductive LedShow where
  | off | green | greenFlash | amber | amberFlash | red | redFlash | lampTest | hibernateFlash | unstated
  deriving DecidableEq, Repr

/-- The lamp test takes all four LEDs; an unpowered module shows nothing (R38). (DEDUCED, log entry 83.) -/
def State.ledOf (s : State) (shown : LedShow) : LedShow :=
  if s.core.mainPath ≠ .on then .off else if s.core.lampTest then .lampTest else shown

/-- The RUN LED (R38). -/
def State.ledRun (s : State) : LedShow :=
  s.ledOf (match s.mode with
    | .run => .green
    | .hold => .greenFlash
    | .service => .amber
    | .load => .amberFlash
    | .recovery => .amberFlash
    | .hibernate => .off)

/-- The PAIR LED (R38). -/
def State.ledPair (s : State) : LedShow :=
  s.ledOf (if s.mode = .hibernate then .off
    else match s.role with
      | .lead => .green
      | .shadow => .greenFlash
      | .solo => .amber
      | .joining => .amberFlash)

/-- The FAULT LED (R38, R379). -/
def State.ledFault (s : State) : LedShow :=
  s.ledOf (if s.errN then .red
    else if (List.range 256).any fun n => s.bit (Fld.SUMP_SRC_FLAG n) && decide (4 ≤ s.get (Fld.SUMP_SRC_SEVERITY n))
        && !s.bit (Fld.SUMP_SRC_ERR_PIN n) then .redFlash
    else .off)

/-- The SUPPLY LED (R38): of states that hold together the more urgent shows. An island's field supply is what its frames report in
ISL_STAT.SUPPLY_V, in 10 mV, while its link is up. (DEDUCED, log entry 83.) -/
def State.ledSupply (s : State) : LedShow :=
  s.ledOf (if s.mode = .hibernate then .hibernateFlash
    else if (List.range 16).any fun i => s.bit (Fld.ISL_STAT_LINK_UP i) && decide (s.get (Fld.ISL_STAT_SUPPLY_V i) < 1920) then .amberFlash
    else if s.bit Fld.PWR_STAT_ON_HOLDUP || s.get Fld.PWR_STAT_RATIO != 0 then .amber
    else if !s.core.inputLow && s.bit Fld.PWR_STAT_HOLDUP_FULL then .green
    else .unstated)

/-- The AI channels, one calibration page each (R290). (DEDUCED, log entry 52.) -/
def State.aiPages (s : State) : List Nat := (List.range 128).filter fun n => s.chMode n == chAI

/-- What the display shows: nothing, a strap fault (R35), one of the four information pages (R39), a calibration page (R290). -/
inductive DisplayShow where
  | blank | strapFault | info (page : Nat) | calibration (channel : Nat)
  deriving DecidableEq, Repr

/-- The display (R35, R39, R290); R39 gives HIBERNATE no page. -/
def State.display (s : State) : DisplayShow :=
  if s.core.mainPath ≠ .on ∨ s.rst.inReset = true ∨ s.mode = .hibernate then .blank
  else if s.mode = .load ∧ s.bit Fld.RST_STRAP_SLOT_AB = s.bit Fld.RST_STRAP_SLOT_AB_N then .strapFault
  else if s.core.page < 4 then .info s.core.page
  else match s.aiPages[s.core.page - 4]? with
    | some n => .calibration n
    | none => .info 0

/-! ### Pin states (R50) -/

/-- The pin groups of R50; `inputs` are the straps, RESET_N and the CAP pins. -/
inductive PinGroup where
  | chDrv | chSns | islFsp | lifelineTx | lifelineRx | backboneTx | backboneRx | fieldlinkTx | canTxd | canRxd | qspiCsN | qspi | errN | inputs
  deriving DecidableEq, Repr

/-- The columns of R50. -/
inductive PinColumn where
  | absent | reset | load | hibernate
  deriving DecidableEq, Repr

/-- The states that R50 names. -/
inductive PinShow where
  | off | above10M | below1mA | below5mA | normal | quiet | training | highZ | terminated | terminatedDetect | perBridge | quietUntilRun
  | recessive | recessiveUntilConfigured | input | inputWake | high | active | released | perR36 | inputLimited
  deriving DecidableEq, Repr

/-- The table of R50. -/
def pinTable : PinGroup → PinColumn → PinShow
  | .chDrv, _ => .off
  | .chSns, _ => .above10M
  | .islFsp, .reset => .below5mA
  | .islFsp, .load => .normal
  | .islFsp, _ => .below1mA
  | .lifelineTx, .load => .training
  | .lifelineTx, _ => .quiet
  | .backboneTx, .load => .perBridge
  | .backboneTx, _ => .quiet
  | .lifelineRx, .absent => .highZ
  | .lifelineRx, .hibernate => .terminatedDetect
  | .lifelineRx, _ => .terminated
  | .backboneRx, .absent => .highZ
  | .backboneRx, .hibernate => .terminatedDetect
  | .backboneRx, _ => .terminated
  | .fieldlinkTx, .load => .quietUntilRun
  | .fieldlinkTx, _ => .quiet
  | .canTxd, .absent => .highZ
  | .canTxd, .load => .recessiveUntilConfigured
  | .canTxd, _ => .recessive
  | .canRxd, .absent => .highZ
  | .canRxd, .hibernate => .inputWake
  | .canRxd, _ => .input
  | .qspiCsN, .reset => .high
  | .qspiCsN, .load => .active
  | .qspiCsN, _ => .highZ
  | .qspi, .load => .active
  | .qspi, _ => .highZ
  | .errN, .load => .perR36
  | .errN, .hibernate => .perR36
  | .errN, _ => .released
  | .inputs, .absent => .inputLimited
  | .inputs, _ => .input

/-- The column of R50 that applies; in the other modes each pin follows its own chapter. -/
def State.pinColumn (s : State) : Option PinColumn :=
  if s.core.mainPath ≠ .on then some .absent
  else if s.rst.inReset then some .reset
  else match s.mode with
    | .load => some .load
    | .hibernate => some .hibernate
    | _ => none

/-- The state of a pin group, where R50 gives it. -/
def State.pinShow (s : State) (p : PinGroup) : Option PinShow := s.pinColumn.map fun c => pinTable p c

/-- LAMP_TEST_END (R38). (DEDUCED, log entry 52.) -/
def execLampTestEnd (s : State) : Host.Outcome State Fault Refusal := done { s with core := { s.core with lampTest := false } }

/-- Pages that SELECT steps through: four of information (R39), in SERVICE the calibration pages after them. (DEDUCED, log entry 52.) -/
def State.pageCount (s : State) : Nat := 4 + if s.mode = .service then s.aiPages.length else 0

/-- SELECT_PRESS (R39). (DEDUCED, log entry 52.) -/
def execSelectPress (s : State) : Host.Outcome State Fault Refusal :=
  if s.mode = .hibernate then done s
  else done { s with core := { s.core with page := if s.core.page + 1 < s.pageCount then s.core.page + 1 else 0 } }

/-- A button held on a calibration page takes a point (R290). -/
def State.buttonPoint (s : State) (high : Bool) (ref : BitVec 32) : State :=
  if s.mode = .service ∧ 4 ≤ s.core.page then
    match s.aiPages[s.core.page - 4]? with
    | some n => s.calTakeAt n high ref
    | none => s
  else s

/-- ZERO_HOLD (R290): the low point at 4.000 mA. -/
def execZeroHold (s : State) : Host.Outcome State Fault Refusal := done (s.buttonPoint false 0x40800000)

/-- SPAN_HOLD (R290): the high point at 20.000 mA. -/
def execSpanHold (s : State) : Host.Outcome State Fault Refusal := done (s.buttonPoint true 0x41A00000)

end Sys2Proof.Machine
end

