-- ==== Sys2Proof/Machine/Power.lean ====
section
/-! DEFINITION. Power states (18): Squeeze, the hold-up test, entry to HIBERNATE with its refusers, the retention image, wake attempts; and
the instant of mode transitions, at which a transition to HIBERNATE is checked again (R27, R406). -/
namespace Sys2Proof.Machine

/-! ### Squeeze (R64, R399 to R402) -/

/-- The cause of an entry: the lowest of the contributors at the ratio (R402). -/
def State.squeezeCause (s : State) (r : Nat) : Nat :=
  if s.get Fld.PWR_STAT_RATIO_DROOP = r then 0 else if s.get Fld.PWR_STAT_RATIO_THERMAL = r then 1 else 2

/-- The lowest sensor reading of an entry's record: that of the droop; the manual gives no reading for the other causes.
(DESIGN CHOICE, log entry 29.) -/
def State.squeezeReading (s : State) (cause : Nat) : Nat × State :=
  if cause = 0 then (s.pwr.lowestMv, s) else let (v, s) := s.draw; (v.toNat % 65536, s)

/-- A rise of the ratio in force is an entry (R402). -/
def State.squeezeEntry (s : State) (r : Nat) : State :=
  let s := s.bump (if r = 2 then Fld.PWR_SQZ_CNT_TO_QUARTER else Fld.PWR_SQZ_CNT_TO_HALF)
  let cause := s.squeezeCause r
  let (mv, s) := s.squeezeReading cause
  s.record 0x70 (cause * 4 + r) [(2, mv)]

/-- The registered ratio takes effect (R64, R66, R402). -/
def State.squeezeApply (s : State) : State :=
  match s.rst.ratioReq with
  | none => s
  | some r =>
    let old := s.get Fld.PWR_STAT_RATIO
    let s := { s with rst := { s.rst with ratioReq := none } }
    if r = old then s
    else
      let s := (s.put Fld.PWR_STAT_RATIO r).put Fld.CLK_STAT_SQZ_RATIO r
      let s := { s with rst := { s.rst with monSkip := BitVec.allOnes 6 } }
      let s := if old < r then s.squeezeEntry r else s
      if r = 0 then s.fall Src.PWR_SQUEEZE 0 0 else s.rise Src.PWR_SQUEEZE 0 0

/-- SQUEEZE_RATIO_CHANGE (R64). -/
def execSqueezeRatioChange (s : State) : Host.Outcome State Fault Refusal := done s.squeezeApply

/-- The droop ratio a reading in mV calls for, against 750 mV nominal (R399). (DEDUCED, log entry 53.) -/
def droopRatio (reading : Nat) : Nat := if reading < 690 then 2 else if reading * 2 < 1425 then 1 else 0

/-- A droop (R399, R400). -/
def State.droop (s : State) (reading : Nat) : State :=
  let old := s.get Fld.PWR_STAT_RATIO_DROOP
  let r := max old (droopRatio reading)
  if droopRatio reading = 0 then s
  else
    let low := if old = 0 then reading else min s.pwr.lowestMv reading
    (({ s with pwr := { s.pwr with lowestMv := low, droopAt := s.time.cycles } } : State).put Fld.PWR_STAT_RATIO_DROOP r).squeezeRequest

/-- DROOP_DETECT (R399). -/
def execDroopDetect (reading : Nat) (s : State) : Host.Outcome State Fault Refusal := done (s.droop reading)

/-- SQUEEZE_STEP_DOWN (R399): one step, once HOLD_US has run since the last droop or step down; it restarts the interval. -/
def State.stepDown (s : State) : State :=
  if s.get Fld.PWR_STAT_RATIO_DROOP = 0 ∨ s.time.cycles < s.pwr.droopAt + 400 * s.get Fld.PWR_SQZ_CFG_HOLD_US then s
  else
    (({ s with pwr := { s.pwr with droopAt := s.time.cycles } } : State).put Fld.PWR_STAT_RATIO_DROOP
      (s.get Fld.PWR_STAT_RATIO_DROOP - 1)).squeezeRequest

def execSqueezeStepDown (s : State) : Host.Outcome State Fault Refusal := done s.stepDown

/-- The thermal ratio becomes `r`; PWR_TEMP_HIGH holds while it is not /1 (R401). -/
def State.setThermal (s : State) (r : Nat) : State :=
  let s := (s.put Fld.PWR_STAT_RATIO_THERMAL r).squeezeRequest
  if r = 0 then s.fall Src.PWR_TEMP_HIGH 0 0 else s.rise Src.PWR_TEMP_HIGH 0 0

/-- The thermal ratio for a temperature in 0.1 °C that has held for its time, from the ratio before (R401). (DEDUCED, log entry 53.) -/
def thermalRatio (enabled : Bool) (old : Nat) (t : Int) : Nat :=
  if !enabled then 0 else if 1250 < t then 2 else if 1100 < t then max old 1 else if t < 1000 then 0 else old

/-- THERMAL_RATIO_CHANGE (R401). -/
def State.thermal (s : State) (temp : BitVec 16) : State :=
  let s := s.put Fld.PWR_TEMP_NOW temp.toNat
  let high := BitVec.ofNat 16 (s.get Fld.PWR_TEMP_MAX)
  let s := if high.toInt < temp.toInt then s.put Fld.PWR_TEMP_MAX temp.toNat else s
  s.setThermal (thermalRatio (s.bit Fld.PWR_SQZ_CFG_THERMAL_EN) (s.get Fld.PWR_STAT_RATIO_THERMAL) temp.toInt)

def execThermalRatioChange (temp : BitVec 16) (s : State) : Host.Outcome State Fault Refusal := done (s.thermal temp)

/-- A write to PWR_SQZ_CFG: clearing THERMAL_EN returns the thermal ratio to /1 at once (R401). -/
def State.sqzCfgWrite (s : State) (v : Word) : State :=
  let s := s.regStore Reg.PWR_SQZ_CFG v
  if s.bit Fld.PWR_SQZ_CFG_THERMAL_EN || s.get Fld.PWR_STAT_RATIO_THERMAL == 0 then s else s.setThermal 0

/-! ### Hold-up supervision (R403) -/

/-- The bank is being recharged, or was within the last 200 ms: 205 units of operating time (R388, R403). (DEDUCED, log entry 53.) -/
def State.recharging (s : State) : Bool := !s.bit Fld.PWR_STAT_HOLDUP_FULL || decide (s.fls.optime.toNat < s.pwr.fullAt + 205)

/-- The test discharges the bank; no test below 16.8 V, on the reserve or within 200 ms of a recharge. (DEDUCED, log entries 51, 53.) -/
def State.holdupTest (s : State) (rideUs : Nat) : State :=
  if s.core.inputLow || s.bit Fld.PWR_STAT_ON_HOLDUP || s.recharging then s
  else
    let low := decide (rideUs < 10500)
    let s := s.putAll [(Fld.PWR_SUPPLY_HOLDUP, min (rideUs / 100) 65535), (Fld.PWR_STAT_HOLDUP_DEGRADED, low.toNat), (Fld.PWR_STAT_HOLDUP_FULL, 0)]
    let s := if low then s.rise Src.PWR_HOLDUP_DEGRADED 0 0 else s.fall Src.PWR_HOLDUP_DEGRADED 0 0
    s.record 0x76 0 [(2, min (rideUs / 100) 65535)]

/-- HOLDUP_TEST (R403). -/
def execHoldupTest (rideUs : Nat) (s : State) : Host.Outcome State Fault Refusal := done (s.holdupTest rideUs)

/-! ### Entering HIBERNATE (R406 to R408) -/

/-- An output channel that refuses HIBERNATE: commanded, driving in its safe state, or on an island whose link is lost. An output that R266
holds OFF drives nothing and does not refuse. (DEDUCED, log entry 54.) -/
def State.outputRefuses (s : State) (n : Nat) : Bool :=
  s.isOutput n && ((s.island (n / 8)).lost || s.driveOf n == .command
    || (s.chMode n == chDO && s.doDrives n) || (s.chMode n == chAO && (s.chan n).drive != 0))

/-- Whether refuser `code` is present (R406). -/
def State.hibRefuser (s : State) (code : Nat) : Bool :=
  match code with
  | 1 => s.ll != .down && s.pair.partnerMode != .hold
  | 2 => (List.range 128).any fun n => s.outputRefuses n
  | 3 => (List.range 64).any fun q => s.ringEnabled q && s.ringOcc q != 0
  | 4 => s.bit Fld.SEC_STATUS_DBG_LEVEL
  | 5 => s.bit Fld.UPD_STAT_BUSY || s.bit Fld.UPD_STAT_ISL_BUSY || s.get Fld.UPD_STAT_STAGE == 2
  | 6 => !s.fls.queue.isEmpty
  | 7 => s.bit Fld.TP_STAT_ACTIVE
  | _ => false

/-- The refusers present, by code (R406). -/
def State.hibRefusers (s : State) : List Nat := [1, 2, 3, 4, 5, 6, 7].filter fun c => s.hibRefuser c

/-- The counter of a refuser. -/
def refuserCount : Nat → RegField
  | 1 => Fld.PWR_REFUSE_CNT_A_PARTNER
  | 2 => Fld.PWR_REFUSE_CNT_A_ISLAND
  | 3 => Fld.PWR_REFUSE_CNT_A_RING
  | 4 => Fld.PWR_REFUSE_CNT_A_DEBUG
  | 5 => Fld.PWR_REFUSE_CNT_B_UPDATE
  | 6 => Fld.PWR_REFUSE_CNT_B_FLOWSTONE
  | _ => Fld.PWR_REFUSE_CNT_B_TESTPERT

/-- A refusal by the given refusers (R407); the mode stays HOLD. Of the transitions of its fastest-task cycle it displaces an engineering
command that waits, and stands before a later one (R29). (DEDUCED, log entry 27.) -/
def State.hibRefuse (s : State) (codes : List Nat) : State :=
  let mask := (codes.map fun c => 2 ^ (c - 1)).sum
  let s := codes.foldl (fun s c => s.bump (refuserCount c)) s
  let s := s.putAll [(Fld.PWR_HIB_STAT_REFUSE_MASK, mask), (Fld.PWR_HIB_STAT_LAST_REFUSER, codes.headD 0)]
  ((s.raise Src.PWR_HIB_REFUSED 0 0).record 0x72 mask []).requestMode .hold 3 none

/-- A pending transition to HIBERNATE falls. -/
def State.dropHibernate (s : State) : State :=
  match s.core.modeReq with
  | some r => if r.target = .hibernate then { s with core := { s.core with modeReq := none } } else s
  | none => s

/-- Tell the partner of a refusal (R408). (DEDUCED, log entry 54.) -/
def State.tellRefusal (s : State) : State :=
  if s.ll = .linked ∨ s.ll = .synced then
    s.emit (.lifeline (.ack ⟨.hibernate none, false, s.fastCount⟩))
  else s

/-- A request to enter HIBERNATE in HOLD, with the count at which both modules of a pair enter (R406, R408). (DEDUCED, log entry 54.) -/
def State.hibRequest (s : State) (e : Option (BitVec 32)) (relayed : Bool) : State :=
  let codes := s.hibRefusers
  if codes.isEmpty then
    let s := s.requestMode .hibernate 4 e
    if s.ll = .linked ∨ s.ll = .synced then
      if relayed then s.emit (.lifeline (.ack ⟨.hibernate e, true, e.getD 0⟩)) else s.emit (.lifeline (.command (.hibernate e)))
    else s
  else (s.hibRefuse codes).tellRefusal

/-- A write to PWR_HIB_CMD: ignored outside HOLD or with another key (R406). -/
def State.hibCmdWrite (s : State) (v : Word) : State :=
  if Fld.PWR_HIB_CMD_ENTER.on v ∧ Fld.PWR_HIB_CMD_KEY.ext v = 0x4842 ∧ s.mode = .hold then
    s.hibRequest (if s.ll = .linked ∨ s.ll = .synced then some (s.fastCount + 4) else none) false
  else s

/-- HIBERNATE_ENTER_CMD (R406). -/
def execHibernateEnterCmd (v : Word) (s : State) : Host.Outcome State Fault Refusal := done (s.hibCmdWrite v)

/-- Whether a transition to HIBERNATE is due. -/
def State.hibDue (s : State) : Bool :=
  match s.core.modeReq with
  | some r => r.target == .hibernate && s.modeDue r && s.mode == .hold
  | none => false

/-- The check at the transition instant (R406): a refuser present then refuses the entry. -/
def State.hibRecheck (s : State) : State :=
  if s.hibDue && !s.hibRefusers.isEmpty then (s.dropHibernate.hibRefuse s.hibRefusers).tellRefusal else s

/-! ### The retention image (R410, R411) -/

/-- The single registers and register files held, in blocks of ascending address (R410). -/
def heldRegs : List Nat :=
  [Reg.WDT_CTRL] ++ (List.range 64).map (fun b => Reg.GATE_CTRL b)
  ++ [Reg.PWR_SQZ_CFG, Reg.PWR_WAKE_CFG]
  ++ (List.range 256).map (fun n => Reg.SUMP_SRC n) ++ [Reg.SUMP_CTRL]
  ++ [Reg.FLS_CTRL]
  ++ (List.range 16).map (fun u => Reg.GUARD_CTRL u)
  ++ (List.range 14).flatMap (fun u => (List.range 16).flatMap fun g => [Reg.GUARD_RGN_BASE u g, Reg.GUARD_RGN_ATTR u g])
  ++ [Reg.TIME_RATE, Reg.TIME_CFG, Reg.TIME_HOLD] ++ (List.range 64).map (fun d => Reg.DRIP_CTRL d)
  ++ (List.range 16).map (fun k => Reg.CAP_CFG k)
  ++ [Reg.GAL_CTRL, Reg.LS_CTRL, Reg.PAIR_CTRL]
  ++ (List.range 16).map (fun i => Reg.ISL_CTRL i) ++ (List.range 8).map (fun p => Reg.FL_PORT_CFG p)
  ++ [Reg.BB_CTRL] ++ (List.range 3).map (fun x => Reg.BB_PVID x) ++ (List.range 64).map (fun v => Reg.BB_VLAN v)
  ++ (List.range 16).map (fun e => Reg.BB_CLASS e) ++ [Reg.BB_CLASS_DEFAULT, Reg.BB_PRP_CFG, Reg.BB_TC_CFG]
  ++ (List.range 2).map (fun x => Reg.BB_TS_ADJ x) ++ [Reg.BB_WAKE_CFG, Reg.BB_WAKE_SITE]
  ++ (List.range 64).map (fun q => Reg.RING_BASE q) ++ (List.range 64).map (fun q => Reg.RING_BUFBASE q)
  ++ (List.range 64).map (fun q => Reg.RING_CFG q) ++ (List.range 64).map (fun q => Reg.RING_IRQ q)
  ++ (List.range 4).flatMap (fun k => [Reg.CAN_CTRL k, Reg.CAN_NBT k, Reg.CAN_DBT k, Reg.CAN_TDC k, Reg.CAN_RING k])
  ++ [Reg.CFG_CLK]

/-- The message-object registers, held for host objects. -/
def heldObjects (s : State) : List Nat :=
  (List.range 4).flatMap fun k => ((List.range 128).filter fun m => !s.bit (Fld.CAN_OBJ_CTRL_SURVEY k m)).flatMap fun m =>
    [Reg.CAN_OBJ_CTRL k m, Reg.CAN_OBJ_ID k m, Reg.CAN_OBJ_MASK k m]

/-- The LOCK register of every block, restored last. -/
def lockRegs : List Nat :=
  [Reg.RST_LOCK, Reg.PWR_LOCK, Reg.SUMP_LOCK, Reg.FLS_LOCK, Reg.GUARD_LOCK, Reg.SEC_LOCK, Reg.TIME_LOCK, Reg.GAL_LOCK, Reg.LS_LOCK,
    Reg.PAIR_LOCK, Reg.ISL_LOCK, Reg.FL_LOCK, Reg.BB_LOCK, Reg.RING_LOCK, Reg.CAN_LOCK, Reg.UPD_LOCK, Reg.TP_LOCK, Reg.CFG_LOCK]

/-- The bits of a register that the image holds: those software writes and reads back, and locks (R410). -/
def heldMask (a : Nat) : BitVec 32 :=
  match regFind a with
  | some r => r.rw ||| r.rwl ||| r.w1s
  | none => 0

/-- The records of the image. (DEDUCED, log entry 54.) -/
def State.retentionRecords (s : State) : List (Nat × BitVec 32) :=
  ((heldRegs ++ heldObjects s ++ lockRegs).map fun a => (a, s.getReg a &&& heldMask a))

/-- Write the records of an image into the registers, in order (R415); the watchdog runs as its restored ENABLE says. -/
def State.restoreRecords (s : State) (l : List (Nat × BitVec 32)) : State :=
  let s := l.foldl (fun s (p : Nat × BitVec 32) => s.setReg p.1 ((s.getReg p.1 &&& ~~~heldMask p.1) ||| (p.2 &&& heldMask p.1))) s
  ({ s with rst := { s.rst with wdtRunning := s.bit Fld.WDT_CTRL_ENABLE } } : State).wdtRestart

/-- What the wake detectors see of a register: the value held in the image (R413). -/
def State.heldReg (s : State) (a : Nat) : BitVec 32 :=
  match s.pwr.retention with
  | none => regReset a
  | some r => match r.records.find? fun (p : Nat × BitVec 32) => p.1 == a with
    | some p => p.2
    | none => regReset a

/-! ### HIBERNATE_ENTRY (R409) -/

/-- The domains switch off: what they held is lost as in a module-level reset, and nothing drives (R404, R405). -/
def State.domainsOff (s : State) (image : Retention) : State :=
  let s' := s.afterReset false
  { s' with
    mode := .hibernate
    core := { s'.core with errHeld := image.errN, outputsOff := true, humarOff := true }
    rst := { s'.rst with inReset := false, wdtRunning := false }
    pwr := { PwrState.reset with retention := some image, fullAt := s.pwr.fullAt } }

/-- The entry (R409): count, record, drain, operating-time copy, image, domains off. -/
def State.hibEnter (s : State) : State :=
  let s := s.dropHibernate.bump Fld.PWR_HIB_STAT_ENTRIES
  let s := (s.record 0x71 0 [(2, s.get Fld.PWR_HIB_STAT_ENTRIES)]).flsDrain.optimeCopyNow
  s.domainsOff ⟨s.retentionRecords, s.load.fwIface, s.fls.optime, s.errN, true⟩

/-- HIBERNATE_ENTRY (R409). -/
def execHibernateEntry (s : State) : Host.Outcome State Fault Refusal :=
  if s.hibDue then done (if s.hibRefusers.isEmpty then s.hibEnter else s.hibRecheck) else done s

/-! ### Mode transitions at their instant (R27, R28) -/

/-- MODE_TRANSITION_EFFECT (R27); a transition to HIBERNATE is checked again here (R406) and entered by its own command (R409). -/
def execModeTransitionEffect (s : State) : Host.Outcome State Fault Refusal := done s.hibRecheck.modeEffect

/-- BASE_TICK (R28): without a running sequencer the base tick stands in for the fastest task. -/
def State.baseTickEffects (s : State) : State :=
  if s.bit Fld.SEQ_STAT_RUNNING then s else s.forceEffect.cfgEffect.calEffect.hibRecheck.modeEffect

def execBaseTick (s : State) : Host.Outcome State Fault Refusal := done s.baseTickEffects

/-! ### Waking (R413, R414) -/

/-- Whether the source is enabled and, for a frame, addressed to this module (R324, R413). -/
def State.wakeEnabled (s : State) : WakeSource → Bool
  | .backbone x none => (Fld.BB_WAKE_CFG_ACTIVITY.ext (s.heldReg Reg.BB_WAKE_CFG)).testBit x.val
  | .backbone x (some f) =>
    (Fld.BB_WAKE_CFG_FRAME.ext (s.heldReg Reg.BB_WAKE_CFG)).testBit x.val
      && f.wakes (Config.macBits Config.serial).toNat (s.heldReg Reg.BB_WAKE_SITE) Config.serial.toNat
  | .lifeline _ => Fld.PWR_WAKE_CFG_LIFELINE.on (s.heldReg Reg.PWR_WAKE_CFG)
  | .can k => (Fld.CAN_CTRL_WAKE_EN k.val).on (s.heldReg (Reg.CAN_CTRL k.val))

/-- WAKE (R413): the first attempt begins; a second event merges into the wake under way (R412). -/
def State.wake (s : State) (src : WakeSource) : State :=
  if s.mode = .hibernate ∧ s.pwr.attempt = 0 ∧ s.wakeEnabled src = true then
    { s with pwr := { s.pwr with attempt := 1, failed := [], source := some src } }
  else s

def execWake (src : WakeSource) (s : State) : Host.Outcome State Fault Refusal := done (s.wake src)

/-- Whether an attempt is under way and not yet failed. -/
def State.attempting (s : State) : Bool := s.mode == .hibernate && decide (s.pwr.failed.length < s.pwr.attempt)

/-- WAKE_ATTEMPT_FAIL (R414): the fourth failure is a power-on-class reset, after which the retention contents are lost. -/
def State.wakeAttemptFail (s : State) (item : Nat) : State :=
  if s.attempting then
    let failed := s.pwr.failed ++ [item]
    if s.pwr.attempt < 4 then { s with pwr := { s.pwr with failed := failed } }
    else
      let s := (s.assertReset .por []).putBit Fld.RST_CAUSE_WAKE_FAIL true
      { s with pwr := { PwrState.reset with failed := failed, wakeFailed := true, fullAt := s.pwr.fullAt } }
  else s

def execWakeAttemptFail (item : Nat) (s : State) : Host.Outcome State Fault Refusal := done (s.wakeAttemptFail item)

/-- WAKE_RETRY (R414). -/
def execWakeRetry (s : State) : Host.Outcome State Fault Refusal :=
  if s.mode = .hibernate ∧ 1 ≤ s.pwr.attempt ∧ s.pwr.failed.length = s.pwr.attempt then
    done { s with pwr := { s.pwr with attempt := s.pwr.attempt + 1 } }
  else done s

/-- WAKE_FAIL_STALL (R414): the power manager stops in LOAD with ERR_N asserted. -/
def execWakeFailStall (s : State) : Host.Outcome State Fault Refusal :=
  if s.pwr.wakeFailed ∧ s.rst.inReset then
    done { s with
      core := { s.core with errForced := true }
      rst := { s.rst with inReset := false, asserted := 0, pwrCounted := false } }
  else done s

end Sys2Proof.Machine
end

