-- ==== Sys2Proof/Machine/Boot.lean ====
section
/-! DEFINITION. From reset release to the exit from LOAD (R72, R83 to R88), the wake's LOAD (R415), the survey banks (R119, R120). -/
namespace Sys2Proof.Machine

/-! ### The layout of the configuration store (R81) -/

/-- A region of the configuration store (R81). -/
inductive StoreRegion where
  | header1 | header2 | trimBlocks | forceTable | reservedLow | firmware | area0 | area1 | reservedHigh
  deriving DecidableEq, Repr

/-- Where a region begins in the store, and its size in bytes (R81). -/
def StoreRegion.span : StoreRegion → Nat × Nat
  | .header1 => (0x00000000, 0x10000)
  | .header2 => (0x00010000, 0x10000)
  | .trimBlocks => (0x00020000, 0x100000)
  | .forceTable => (0x00120000, 0x100000)
  | .reservedLow => (0x00220000, 0xDE0000)
  | .firmware => (0x01000000, 0x6000000)
  | .area0 => (0x07000000, 0x4000000)
  | .area1 => (0x0B000000, 0x4000000)
  | .reservedHigh => (0x0F000000, 0x1000000)

/-- The regions in the order of their offsets (R81). -/
def storeRegions : List StoreRegion :=
  [.header1, .header2, .trimBlocks, .forceTable, .reservedLow, .firmware, .area0, .area1, .reservedHigh]

/-- The region in which an offset of the store lies (R81). -/
def storeRegionAt (off : Nat) : Option StoreRegion :=
  storeRegions.find? fun r => decide (r.span.1 ≤ off ∧ off < r.span.1 + r.span.2)

/-- Where the survey image of a generation area begins: after its header, at area offset 0x0001_0000 (R82). -/
def surveyImageAt (area : Nat) : Nat :=
  (if area = 0 then StoreRegion.area0 else StoreRegion.area1).span.1 + 0x10000

/-! ### Steps 1 to 4: straps, key store, staged capsule, firmware candidates -/

/-- The straps as sampled (R33 to R35). (DESIGN CHOICE, log entry 28.) -/
def State.takeStraps (s : State) (m : ResetSample) : State :=
  let bad := m.slotAb == m.slotAbN || m.boot == 3 || m.clk == 3
  let s := s.putAll [(Fld.RST_STRAP_BOOT, m.boot.toNat), (Fld.RST_STRAP_CLK, m.clk.toNat), (Fld.RST_STRAP_SLOT_AB, m.slotAb.toNat),
    (Fld.RST_STRAP_SLOT_AB_N, m.slotAbN.toNat), (Fld.RST_STRAP_STRAP_FAULT, bad.toNat), (Fld.CLK_STAT_REF_STRAP, m.clk.toNat),
    (Fld.PAIR_STAT_SLOT, m.slotAb.toNat)]
  { s with
    core := { s.core with lampTest := true, errForced := bad }
    load := { s.load with step := 1, hold := bad } }

/-- Flowstone's control words are read; a wrong MAGIC gives an empty ring (R385). -/
def State.openFlowstone (s : State) (magicOk : Bool) : State :=
  let s := s.putBit Fld.FLS_STAT_READY true
  if magicOk then s
  else { s with fls := { s.fls with mram := [], newest := none } }

/-- Conditions that outlast a reset raise their sources again (R71). (DEDUCED, log entry 20.) -/
def State.standingConditions (s : State) : State :=
  let s := if s.core.cover then (s.putBit Fld.SEC_STATUS_COVER_OPEN true).rise Src.SEC_COVER_OPEN 0 0 else s
  let s := if s.core.inputLow then s.rise Src.PWR_INPUT_LOW 0 0 else s
  let s := s.core.standing.foldl (fun s p => s.rise p.1 (p.2 / 256) (p.2 % 256)) s
  let s := { s with core := { s.core with standing := [] } }
  if s.core.interrupted then (s.putBit Fld.PWR_STAT_ON_HOLDUP true).rise Src.PWR_HOLDUP 0 0 else s

/-- The record of a wake that failed, written in the following LOAD (R416). -/
def State.recordWakeFail (s : State) : State :=
  if s.pwr.wakeFailed then
    let l := s.pwr.failed
    let s := { s with pwr := { s.pwr with wakeFailed := false, failed := [] } }
    s.record 0x75 0 (l.map fun i => (1, i))
  else s

/-- Drop later copies of a candidate. -/
def dedup : List FwCandidate → List FwCandidate
  | [] => []
  | c :: cs => c :: (dedup cs).filter fun d => d != c

/-- The candidates in their order (R84, R440). (DESIGN CHOICE, log entry 28.) -/
def State.fwCandidates (s : State) : List FwCandidate :=
  let tentative := [0, 1].filter fun x => (s.fwSlotAt x).eligible
  let slots := match s.fwActive with
    | some x => [x, 1 - x]
    | none => [0, 1]
  let store := if s.get Fld.RST_STRAP_BOOT = 0 then [FwCandidate.store] else []
  dedup (tentative.map FwCandidate.slot ++ store ++ slots.map FwCandidate.slot)

/-- LOAD step 3 and the start of step 4 (R83, R423, R445). -/
def State.beginFirmware (s : State) (m : ResetSample) : State :=
  let lc := s.get Fld.SEC_STATUS_LIFECYCLE
  if lc = 0 ∨ lc = 3 then s.leaveLoad .recovery
  else if m.boot = 3 then s
  else if m.boot = 2 then s.leaveLoad .recovery
  else
    let s := (s.installStaged m).retireSpent
    { s with load := { s.load with step := 4, candidates := s.fwCandidates } }

/-- LOAD begins: steps 1 to 4. A decommissioning erase due comes before all else (R419). (DEDUCED, log entry 77.) -/
def State.loadBegin (s : State) (m : ResetSample) : State :=
  let s := { s with rst := { s.rst with inReset := false, pwrCounted := false } }
  let s := ((s.takeStraps m).openFlowstone m.flowstoneMagicOk).recordWakeFail
  let s := (s.loadSecurity m.keyFaults).standingConditions
  let s := { s with load := { s.load with step := 2 } }
  if s.sec.erasePending then s.put Fld.SEC_ERASE_STEP 1 else s.beginFirmware m

/-- MODULE_RESET_RELEASE (R72): once every source has released. (DESIGN CHOICE, log entry 7.) -/
def execModuleResetRelease (sample : ResetSample) (s : State) : Host.Outcome State Fault Refusal :=
  if s.rst.inReset && s.rst.asserted == 0 then done (s.loadBegin sample) else done s

/-! ### Step 4 ends, step 5: the configuration store (R80 to R84) -/

/-- A header copy is intact (R82). -/
def headerIntact (h : StoreHeader) : Bool :=
  h.magic == 0x43415652 && storeHeaderCrcOk h && decide (h.startPolicy ≤ 1) && decide (500 ≤ h.linkWait ∧ h.linkWait ≤ 10000)
    && decide (10 ≤ h.revertHold ∧ h.revertHold ≤ 3600)

/-- The header copy that applies (R82). -/
def storeHeader (c : StoreContents) : Option StoreHeader :=
  if headerIntact c.header0 && headerIntact c.header1 then some (if c.header0.writeCount < c.header1.writeCount then c.header1 else c.header0)
  else if headerIntact c.header0 then some c.header0
  else if headerIntact c.header1 then some c.header1
  else none

/-- Step 5: the store is checked and its header read; the force table (R216), the protocol version and the MAC addresses are loaded. A store
that fails leaves the module in HOLD. (DEDUCED, log entry 55.) -/
def State.storeCheck (s : State) (proto : Option Nat) : State :=
  let v := proto.getD 0
  let mac := (Config.macBits Config.serial).toNat
  let s := s.putAll [(Fld.PAIR_VERSION_PROTO_MAJOR, v / 256), (Fld.PAIR_VERSION_PROTO_MINOR, v % 256), (Fld.BB_MAC_LO_ADDR_LO, mac % 2 ^ 32),
    (Fld.BB_MAC_HI_ADDR_HI, mac / 2 ^ 32), (Fld.CFG_STAT_SFDP_OK, s.store.sfdpOk.toNat), (Fld.CFG_STAT_HDR_OK, (storeHeader s.store).isSome.toNat)]
  match storeHeader s.store with
  | none => (s.raise Src.CFG_STORE_FAIL 0 0).leaveLoad .hold
  | some h =>
    if s.store.sfdpOk then
      let s := s.put Fld.PAIR_REVERT_HOLD_S h.revertHold
      ({ s with load := { s.load with step := 5, startPolicy := h.startPolicy } } : State).takeRef.loadForces
    else (s.raise Src.CFG_STORE_FAIL 0 0).leaveLoad .hold

/-- The running firmware's images. -/
def State.candidateImages (s : State) : FwCandidate → List ComponentImage
  | .store => s.store.firmware
  | .slot x => (s.fwSlotAt x).images

/-- No image of a candidate is older than its component's security version counter (R423). -/
def State.candidateFresh (s : State) (c : FwCandidate) : Bool := (s.candidateImages c).all fun i => decide (s.secCounter i.component ≤ i.secver)

/-- A passing candidate runs; a TENTATIVE slot first uses one of its attempts (R440). -/
def State.runCandidate (s : State) (c : FwCandidate) (iface : Nat) : State :=
  let s := match c with
    | .store => s
    | .slot x =>
      let f := s.fwSlotAt x
      let tentative := f.state == 0x3F
      let s := if tentative then s.setFwSlot x { f with attempts := nextAttempt f.attempts } else s
      s.putAll [(Fld.UPD_STAT_RUN_SLOT, x), (Fld.UPD_STAT_TENTATIVE, tentative.toNat)]
  let images := s.candidateImages c
  let s := { s with load := { s.load with candidates := [], fwIface := iface } }
  (s.showRunning images).storeCheck ((images.flatMap fun i => i.provides).findSome? fun (p : Nat × Nat) => if p.1 = 2 then some p.2 else none)

/-- FIRMWARE_CANDIDATE_VERIFIED (R84, R423): a failing candidate is reported and the next is tried; when none is left the module enters RECOVERY.
The manual gives neither the candidate in KEY nor the failure a code: the first is a free byte. (DESIGN CHOICE, log entries 29, 86.) -/
def State.firmwareVerified (s : State) (passed : Bool) (failCode iface : Nat) (store : StoreContents) : State :=
  if s.mode = .load ∧ s.load.step = 4 then
    match s.load.candidates with
    | [] => s
    | c :: cs =>
      let found : State := { s with store := store }
      if passed && found.candidateFresh c then found.runCandidate c iface
      else
        let s := s.raise Src.FW_VERIFY 0 0
        let (key, s) := s.freeByte
        let s := s.record 0x15 key [(1, failCode)]
        let s := { s with load := { s.load with candidates := cs } }
        if cs.isEmpty then s.leaveLoad .recovery else s
  else s

/-- DESIGN CHOICE, log entry 7. -/
def execFirmwareCandidateVerified (passed : Bool) (failCode : Nat) (iface : Nat) (store : StoreContents) (s : State) :
    Host.Outcome State Fault Refusal := done (s.firmwareVerified passed failCode iface store)

/-! ### Step 6 (R83, R188) -/

/-- A chamber that fails its comparator test (R188): FAILED, its clock gated (R183). No execution stands behind it, and the record's task and
cycle count are 0. (DESIGN CHOICE, log entry 90.) -/
def State.comparatorFails (s : State) (c : Nat) : State :=
  let s := s.put ⟨Reg.LS_FAILED, c, 1⟩ 1
  let s := s.putAll [(Fld.GAL_CH_STAT_STATE c, Ch.FAILED), (Fld.GAL_CH_STAT_DOZE c, 1)]
  s.record 0x31 c [(1, 0), (4, 0)]

/-- LOAD_SCRUB_DONE (R83). (DESIGN CHOICE, log entry 5.) -/
def State.scrubDone (s : State) (bad : BitVec 16) : State :=
  if s.mode = .load ∧ s.load.step = 5 then
    let s := { s with load := { s.load with step := 6 } }
    (List.range 16).foldl (fun s c => if bad.getLsbD c then s.comparatorFails c else s) s
  else s

def execLoadScrubDone (comparatorFail : BitVec 16) (s : State) : Host.Outcome State Fault Refusal := done (s.scrubDone comparatorFail)

/-! ### Steps 7 and 8: trims and the own generation (R85, R86) -/

/-- A block of which one intact copy, or one of two different ones, is used (R85); the manual gives the two kinds no codes.
(DESIGN CHOICE, log entry 29.) -/
def State.trimCopy (s : State) (n copy : Nat) : State :=
  let s := s.raise Src.TRIM_COPY n 0
  let (kind, s) := s.freeByte
  s.record 0x16 n [(1, kind), (1, copy)]

/-- The user block of channel n is selected and applied (R85, R286). (DEDUCED, log entry 55.) -/
def State.loadUserBlock (s : State) (n : Nat) : State :=
  let a := s.userBlock n 0
  let b := s.userBlock n 1
  let s :=
    if blockIntact a && blockIntact b then (if a = b then s else s.trimCopy n 1)
    else if blockIntact a then s.trimCopy n 1
    else if blockIntact b then s.trimCopy n 2
    else s.setChan n { s.chan n with fault := true }
  let u := s.blockNow n
  let s := if blockIntact u then (s.regStore (cfgReg n false) u.chCfg).regStore (cfgReg n true) u.anCfg else s
  ((s.setReg (Reg.ISL_AN_ZERO n) u.zero).setReg (Reg.ISL_AN_SPAN n) u.span).setChan n { s.chan n with lowRef := u.lowRef }

/-- The factory block of channel n as it was made (R285). (DESIGN CHOICE, log entry 109.) -/
def factoryMade (n : Nat) : FactoryBlock where
  convOffset := Config.factoryTrim n 0
  convGain := Config.factoryTrim n 1
  burden := Config.factoryTrim n 2
  convOffsetTc := Config.factoryTrim n 3
  convGainTc := Config.factoryTrim n 4
  drvOffsetTc := Config.factoryTrim n 5
  drvGainTc := Config.factoryTrim n 6
  drvOffset := Config.factoryTrim n 7
  drvGain := Config.factoryTrim n 8
  readbackGain := Config.factoryTrim n 9
  intact := true

/-- Copy 0 or 1 of the factory block of channel n in its island's memory (R85, R247, R285). -/
def State.factoryBlock (s : State) (n copy : Nat) : FactoryBlock := sparseGet (fun k => factoryMade (k / 2)) s.factory (2 * n + copy)

/-- The load finds a copy of channel n's factory block bad. -/
def State.factoryBad (s : State) (n copy : Nat) : State :=
  { s with factory := sparseSet (fun k => factoryMade (k / 2)) s.factory (2 * n + copy) { s.factoryBlock n copy with intact := false } }

/-- What the load has found in the islands' memories (R85, R247): of a block with one intact copy the other one, of one with none both. -/
def State.factoryFound (s : State) (r : TrimReport) : State :=
  let s := r.oneCopy.foldl (fun s (p : Nat × Nat) => s.factoryBad p.1 (2 - p.2)) s
  r.noCopy.foldl (fun s n => (s.factoryBad n 0).factoryBad n 1) s

/-- Every block of both kinds applies at once (R85). (DEDUCED, log entry 55.) -/
def State.trimsApply (s : State) (r : TrimReport) : State :=
  let s := s.factoryFound r
  let s := r.oneCopy.foldl (fun s (p : Nat × Nat) => s.trimCopy p.1 p.2) s
  let s := (List.range 128).foldl (fun s n => s.loadUserBlock n) s
  (List.range 128).foldl (fun s n =>
    if (s.factoryBlock n 0).intact || (s.factoryBlock n 1).intact then s else s.setChan n { s.chan n with fault := true }) s

/-- The first eight bytes of a digest. -/
def digestHead (d : Nat) : Nat := d % 2 ^ 64

/-- The STORE_CONFLICT record (R86, R87). -/
def State.conflictRecord (s : State) (gen d0 d1 : Nat) : State := s.record 0x18 gen [(8, digestHead d0), (8, digestHead d1)]

/-- Note the area of the running generation. -/
def State.setOwn (s : State) (o : Option Nat) : State :=
  ({ s with load := { s.load with ownGen := o } } : State).put Fld.CFG_STAT_RUN_AREA (o.getD 0)

/-- The module's running generation (R86). -/
def State.ownGeneration (s : State) : State :=
  let s := (s.showArea 0).showArea 1
  let a := s.area 0
  let b := s.area 1
  let runs (g : GenArea) : Bool := areaIntact g && g.state == 0x1F
  if runs a && runs b then
    if a.generation = b.generation then
      if a.digest = b.digest then (s.programArea 1 0x0F).setOwn (some 0)
      else ((s.raise Src.STORE_CONFLICT 0 0).conflictRecord a.generation a.digest b.digest).setOwn none
    else if a.generation < b.generation then (s.programArea 0 0x0F).setOwn (some 1)
    else (s.programArea 1 0x0F).setOwn (some 0)
  else if runs a then s.setOwn (some 0)
  else if runs b then s.setOwn (some 1)
  else s.setOwn none

/-! ### Steps 9 and 10: the generation is resolved (R87) -/

/-- GENERATION and digest of the own running generation; 0 stands for none. -/
def State.ownGen (s : State) : Nat × Nat :=
  match s.load.ownGen with
  | some a => ((s.area a).generation, (s.area a).digest)
  | none => (0, 0)

/-- A partner counts as running (R87). -/
def State.partnerRuns (s : State) : Bool :=
  (s.pair.partnerMode == .run || s.pair.partnerMode == .hold || s.pair.partnerMode == .service) && s.pair.partnerSurveyOk

/-- LINKED or SYNCED. -/
def State.linked (s : State) : Bool := s.ll == .linked || s.ll == .synced

def State.resolve (s : State) (code : Nat) : State :=
  ({ s with load := { s.load with resolved := true, fetching := false } } : State).put Fld.CFG_STAT_RESOLVE code

/-- The own running generation is taken; without one the module enters HOLD. -/
def State.resolveOwn (s : State) : State :=
  match s.load.ownGen with
  | some _ => s.resolve 0
  | none => ((s.resolve 3).raise Src.CFG_NO_SURVEY 0 0).leaveLoad .hold

/-- The partner's copy is awaited (R87). -/
def State.awaitFetch (s : State) : State := { s with load := { s.load with fetching := true } }

/-- The table of R87 for a LINKED partner that has told its generation. -/
def State.resolveWith (s : State) (h : HelloBody) : State :=
  let (own, digest) := s.ownGen
  if s.partnerRuns then
    if own < h.generation ∨ own = 0 then s.awaitFetch
    else if own = h.generation then
      if digest = h.digest then s.resolve 0 else (s.conflictRecord own digest h.digest).awaitFetch
    else ((s.resolve 2).raise Src.STORE_GEN_AHEAD 0 0).leaveLoad .hold
  else if own = 0 ∧ h.generation = 0 then ((s.resolve 3).raise Src.CFG_NO_SURVEY 0 0).leaveLoad .hold
  else if own < h.generation then s.awaitFetch
  else if own = h.generation ∧ digest ≠ h.digest then ((s.resolve 2).raise Src.STORE_CONFLICT 0 0).leaveLoad .hold
  else s.resolve 0

/-- Resolution with the partner, once the own generation is known and the Lifeline is LINKED. -/
def State.resolveLinked (s : State) : State :=
  if s.mode = .load ∧ s.load.step = 8 ∧ s.load.resolved = false ∧ s.load.fetching = false ∧ s.linked = true then
    match s.pair.partnerHello with
    | some h => s.resolveWith h
    | none => s
  else s

/-- The partner's copy has come: it is written to the non-running area and marked ACTIVE, the old area RETIRED (R87). -/
def State.fetched (s : State) (gen : Nat) (g : Survey) : State :=
  if s.mode = .load ∧ s.load.fetching = true then
    let old := s.ownGen.1
    let a := match s.load.ownGen with
      | some x => 1 - x
      | none => 0
    let s := s.setArea a (areaOf gen 0x1F g)
    let s := match s.load.ownGen with
      | some x => s.programArea x 0x0F
      | none => s
    ((s.setOwn (some a)).record 0x17 gen [(4, old), (4, gen)]).resolve 1
  else s

/-- TRIM_LOAD_DONE (R85, R86); a Lifeline already LINKED lets the generation be resolved at once. -/
def State.trimLoaded (s : State) (r : TrimReport) : State :=
  if s.mode = .load ∧ s.load.step = 6 then
    let s := (s.trimsApply r).ownGeneration
    ({ s with load := { s.load with step := 8 } } : State).takeRef.resolveLinked
  else s

def execTrimLoadDone (report : TrimReport) (s : State) : Host.Outcome State Fault Refusal := done (s.trimLoaded report)

/-- LINK_WAIT_EXPIRY (R63, R87): without a link the module goes on alone; a reference strapped to the partner is not to be had. -/
def State.linkWaitExpires (s : State) : State :=
  if s.mode = .load ∧ s.load.step = 8 ∧ s.load.resolved = false ∧ s.linked = false then
    let s := if s.get Fld.CLK_STAT_REF_STRAP = 2 then s.raise Src.CLK_REF_LOST 0 0 else s
    s.resolveOwn
  else s

def execLinkWaitExpiry (s : State) : Host.Outcome State Fault Refusal := done s.linkWaitExpires

/-! ### Step 11: the survey (R117 to R119) -/

/-- A bank takes a survey that has passed. -/
def State.bankTakes (s : State) (x gen : Nat) (g : Survey) (state : Nat) : State :=
  ({ s with banks := sparseSet (fun _ => (⟨none⟩ : Bank)) s.banks x ⟨some g⟩ } : State).putAll
    [(Fld.SVY_BANK_STATE x, state), (Fld.SVY_BANK_GEN_GENERATION x, gen), (Fld.SVY_BANK_BUILD_BUILD_LO x, g.header.buildId % 2 ^ 32)]

/-- An area read as WRITTEN whose survey passed becomes VERIFIED (R118). -/
def State.verifyArea (s : State) (a : Nat) : State := if (s.area a).state = 0x7F then s.programArea a 0x3F else s

/-- The survey of LOAD step 11 in bank A (R117 to R119). -/
def State.surveyLoadedAtLoad (s : State) (gen : Nat) (g : Survey) : State :=
  let a := s.load.ownGen.getD 0
  match s.surveyFault g (s.area a).surveyLength false with
  | some f => (s.rejectSurvey 0 g f).leaveLoad .hold
  | none =>
    let s := ((s.bankTakes 0 gen g 3).put Fld.SEQ_STAT_ACTIVE_BANK 0).verifyArea a
    ({ s with load := { s.load with step := 11 } } : State).surveyTakes g

/-! ### LOAD_EXIT (R88, R239, R415) -/

/-- Why the retention image is not valid, if it is not (R415); the manual gives the checks no codes. (DESIGN CHOICE, log entry 29.) -/
def State.imageValid (s : State) : Bool :=
  match s.pwr.retention with
  | some r => r.intact && r.fwIface == s.load.fwIface
  | none => false

/-- The code of the wake source in PWR_WAKE_STAT and its instance. -/
def wakeCode : Option WakeSource → Nat × Nat
  | none => (0, 0)
  | some (.backbone x _) => (1, x.val)
  | some (.lifeline x) => (2, x.val)
  | some (.can k) => (3, k.val)

/-- The end of a wake's LOAD with a valid image: registers restored, the record, HOLD (R415). -/
def State.wakeRestore (s : State) : State :=
  match s.pwr.retention with
  | none => s
  | some r =>
    let (code, inst) := wakeCode s.pwr.source
    let s := (s.restoreRecords r.records).putBit Fld.PWR_WAKE_STAT_RESTORED true
    s.record 0x73 code [(1, inst), (1, s.get Fld.PWR_WAKE_STAT_RETRIES)]

/-- With an invalid image the reset values stay (R415). (DESIGN CHOICE, log entry 29.) -/
def State.wakeBad (s : State) : State :=
  let s := s.putBit Fld.PWR_WAKE_STAT_RET_BAD true
  let (code, s) := s.freeByte
  s.record 0x77 0 [(1, code)]

/-- The instance store takes up the survey, where the module does not join (R130). (DEDUCED, log entry 55.) -/
def State.takeAreas (s : State) : State :=
  match s.activeSurvey with
  | some g => s.chooseArea g
  | none => s

/-- Leave LOAD alone (R88): AUTO waits for the first hyperperiod boundary, MANUAL enters HOLD. (DESIGN CHOICE, log entry 28.) -/
def State.exitAlone (s : State) : State :=
  let s := { s with load := { s.load with step := 13 } }
  if s.load.startPolicy = 0 then { s.takeAreas with core := { s.core with startPending := true } }
  else s.takeAreas.enterMode .hold

/-- The join begins (R239). -/
def State.joinBegins (s : State) : State :=
  let s := { s with load := { s.load with step := 13 } }
  { s.setRole .joining with pair := { s.pair with joinItems := [], timeTaken := false } }.tpCheck

/-- The exit from LOAD (R88), also when a strap does not keep the module there. With both modules in LOAD and LINKED, slot B waits for A
to run, and leaves alone when A enters HOLD or RECOVERY (R239). -/
def State.loadExit (s : State) : State :=
  if s.mode = .load ∧ s.load.step = 11 ∧ s.load.hold = false ∧ s.bit Fld.PWR_STAT_HOLDUP_FULL = true then
    let s := if s.load.wakeLoad ∧ s.imageValid = false then
        let s := s.wakeBad
        { s with load := { s.load with wakeLoad := false } }
      else s
    if s.load.wakeLoad then (s.wakeRestore.takeAreas).enterMode .hold
    else if s.linked ∧ s.pair.bothLoad = true ∧ s.slot = 1 ∧ (s.pair.partnerMode = .hold ∨ s.pair.partnerMode = .recovery) then s.exitAlone
    else if s.linked ∧ s.partnerRuns = true then s.joinBegins
    else if s.linked ∧ s.slot = 1 ∧ s.pair.partnerMode = .load then s
    else s.exitAlone
  else s

/-- DESIGN CHOICE, log entry 7. -/
def execLoadExit (s : State) : Host.Outcome State Fault Refusal := done s.loadExit

/-! ### WAKE_RESET_RELEASE (R414, R415) -/

/-- What the wake tells: PWR_WAKE_STAT, BB_WAKE_STAT, and for each failed attempt PWR_WAKE_RETRY and its record. (DEDUCED, log entry 54.) -/
def State.wakeTells (s : State) : State :=
  let (code, inst) := wakeCode s.pwr.source
  let s := (s.putAll [(Fld.PWR_WAKE_STAT_SOURCE, code), (Fld.PWR_WAKE_STAT_INSTANCE, inst), (Fld.PWR_WAKE_STAT_RETRIES, s.pwr.failed.length)]).bump
    Fld.PWR_WAKE_STAT_WAKES
  let s := match s.pwr.source with
    | some (.backbone x f) => s.putAll [(Fld.BB_WAKE_STAT_WOKE, 1), (Fld.BB_WAKE_STAT_PORT, x.val), (Fld.BB_WAKE_STAT_BY_FRAME, f.isSome.toNat)]
    | _ => s
  s.pwr.failed.zipIdx.foldl (fun s (p : Nat × Nat) => ((s.sumpForget Src.PWR_WAKE_RETRY).raise Src.PWR_WAKE_RETRY 0 0).record 0x74 p.1 [(1, p.2 + 1)]) s

/-- After a successful attempt the module leaves reset into LOAD; RST_CAUSE and the counts do not change (R413, R415). -/
def State.wakeRelease (s : State) (m : ResetSample) : State :=
  if s.attempting then
    let pwr := s.pwr
    let s := s.afterReset false
    let s := { s with pwr := pwr, load := { s.load with wakeLoad := true } }
    let s := s.loadBegin m
    let s := s.wakeTells
    { s with pwr := { s.pwr with attempt := 0, failed := [], droopAt := 0 } }
  else s

def execWakeResetRelease (sample : ResetSample) (s : State) : Host.Outcome State Fault Refusal := done (s.wakeRelease sample)

/-! ### Survey banks (R119, R120) -/

/-- SURVEY_BANK_WRITE (R119): the active bank cannot be written. The other bank's bytes stand in the parsed survey that SURVEY_LOAD_DONE
brings, so a write to it changes nothing by itself. (DEDUCED, log entry 56.) -/
def execSurveyBankWrite (bank : Fin 2) (_off : Nat) (_data : Word) (s : State) : Host.Outcome State Fault Refusal :=
  if s.get (Fld.SVY_BANK_STATE bank.val) = 3 then
    done ({ s.raise Src.SURVEY_BANK_WRITE bank.val 0 with bus := .error } : State)
  else done { s with bus := .done }

/-- SCRUB_ECC_ERROR (R120). -/
def State.scrubError (s : State) (x : Nat) (ue : Bool) (off : Nat) : State :=
  if ue then
    if s.get (Fld.SVY_BANK_STATE x) = 3 then s.activeBankUe x off
    else
      let s := s.putAll [(Fld.SVY_BANK_STATE x, 4), (Fld.SVY_SCRUB_UE_INACTIVE, 1)]
      ({ s with banks := sparseSet (fun _ => (⟨none⟩ : Bank)) s.banks x ⟨none⟩ } : State).raise Src.SURVEY_ECC_UE_INACTIVE x 0
  else s.bump (Fld.SVY_BANK_CE_COUNT x)

def execScrubEccError (bank : Fin 2) (uncorrectable : Bool) (off : Nat) (s : State) : Host.Outcome State Fault Refusal :=
  done (s.scrubError bank.val uncorrectable off)

end Sys2Proof.Machine
end

