-- ==== Sys2Proof/Machine/OnlineChange.lean ====
section
/-! DEFINITION. On-line change (R198 to R211): admission, the new survey, shadow migration, the swap, its tail, the abort; forces at S (R217). -/
namespace Sys2Proof.Machine

def Olc.IDLE : Nat := 0
def Olc.WRITING : Nat := 1
def Olc.LOADING : Nat := 2
def Olc.VERIFIED : Nat := 3
def Olc.MIGRATING : Nat := 4
def Olc.MIGRATED : Nat := 5
def Olc.ARMED : Nat := 6
def Olc.TAIL : Nat := 7

def State.olcState (s : State) : Nat := s.get Fld.OLC_STAT_STATE

def State.setOlc (s : State) (st : Nat) : State := s.put Fld.OLC_STAT_STATE st

/-! ### Admission (R198) -/

/-- A refusal (OLC_REASON, OLC_COUNT). -/
def State.olcRefuse (s : State) (reason : Nat) : State := (s.put Fld.OLC_REASON_CODE reason).bump Fld.OLC_COUNT_ABORTS

/-- The running BUILD_ID. -/
def State.runningBuild (s : State) : Nat := (s.activeSurvey.map fun g => g.header.buildId).getD 0

/-- The running GENERATION. -/
def State.runningGen (s : State) : Nat := s.get (Fld.SVY_BANK_GEN_GENERATION (s.get Fld.SEQ_STAT_ACTIVE_BANK))

def State.anyTaskHeld (s : State) : Bool := (List.range 16).any fun t => s.taskHeld t

/-- The first condition of R198 that does not hold in this module; PARTNER is decided over the Lifeline. (DEDUCED, log entry 57.) -/
def State.olcRefusal (s : State) (gen : Nat) (hasMap : Bool) (parent : Nat) : Option Nat :=
  if s.olcState ≠ Olc.IDLE ∨ s.olc.asking.isSome = true then some 1
  else if !hasMap || parent != s.runningBuild then some 3
  else if gen ≤ s.runningGen then some 0x0B
  else if !(s.mode == .run || s.mode == .service) || s.anyTaskHeld then some 5
  else if s.inPair && s.ll != .synced then some 6
  else none

/-- FLAGS.HAS_MIGRATION. -/
def hasMigration (g : Survey) : Bool := g.header.flags.getLsbD 2

/-- The store area of the change: the one that does not hold the running generation. -/
def State.spareArea (s : State) : Nat := 1 - s.get Fld.CFG_STAT_RUN_AREA

/-- The inactive bank. -/
def State.spareBank (s : State) : Nat := 1 - s.get Fld.SEQ_STAT_ACTIVE_BANK

/-- The bank goes to LOADING. -/
def State.bankLoading (s : State) (x : Nat) : State :=
  ({ s with banks := sparseSet (fun _ => (⟨none⟩ : Bank)) s.banks x ⟨none⟩ } : State).putAll
    [(Fld.SVY_BANK_STATE x, 1), (Fld.SVY_BANK_GEN_GENERATION x, 0), (Fld.SVY_BANK_BUILD_BUILD_LO x, 0)]

/-- Whether the area already holds the survey VERIFIED, so that it need not be written again (R210). (DEDUCED, log entry 57.) -/
def State.areaServes (s : State) (gen : Nat) (g : Survey) : Bool :=
  let a := s.area s.spareArea
  areaIntact a && a.state == 0x3F && a.generation == gen && a.digest == g.digest

/-- The change is under way: the area's sectors are erased, or it serves as it stands (R199, R210). -/
def State.olcBegin (s : State) (gen : Nat) (g : Option Survey) (reuse : Bool) : State :=
  let serves := match g with
    | some x => reuse && s.areaServes gen x
    | none => false
  let s := { s with olc := { s.olc.over with survey := g, generation := gen, targetArea := s.spareArea, bank := s.spareBank } }
  let s := s.put Fld.OLC_REASON_CODE 0
  if serves then (s.bankLoading s.olc.bank).setOlc Olc.LOADING
  else (s.setArea s.olc.targetArea GenArea.erased).setOlc Olc.WRITING

/-- OLC_REQUEST (R198): refused, or admitted; in a pair the partner is asked first, and nothing changes until it has accepted the same request.
(DEDUCED, log entry 57.) -/
def State.olcRequest (s : State) (gen : Nat) (g : Survey) (reuse : Bool) : State :=
  match s.olcRefusal gen (hasMigration g) g.header.parentBuildId with
  | some r => s.olcRefuse r
  | none =>
    if s.ll = .synced then
      ({ s with olc := { s.olc with asking := some (gen, g, reuse) } } : State).emit
        (.lifeline (.command (.olcRequest gen (hasMigration g) g.header.parentBuildId)))
    else s.olcBegin gen (some g) reuse

def execOlcRequest (generation : Nat) (survey : Survey) (reuse : Bool) (s : State) : Host.Outcome State Fault Refusal :=
  done (s.olcRequest generation survey reuse)

/-- The relayed request in the partner (R198): its own conditions decide. -/
def State.olcRelayed (s : State) (gen : Nat) (hasMap : Bool) (parent : Nat) : State :=
  let c := RelayCommand.olcRequest gen hasMap parent
  match s.olcRefusal gen hasMap parent with
  | some r => (s.olcRefuse r).emit (.lifeline (.ack ⟨c, false, 0⟩))
  | none => (s.olcBegin gen none false).emit (.lifeline (.ack ⟨c, true, 0⟩))

/-- The relayed survey (R199). -/
def State.olcSurvey (s : State) (gen : Nat) (g : Survey) : State :=
  if s.olcState = Olc.WRITING ∧ s.olc.generation = gen then { s with olc := { s.olc with survey := some g } } else s

/-- The change's own data are dropped; the code of a swap before stays. -/
def State.dropChange (s : State) : State :=
  ({ s with olc := s.olc.over } : State).setOlc Olc.IDLE

/-- The partner is told that the change is over (R210). -/
def State.tellAbort (s : State) : State := if s.ll = .synced then s.emit (.lifeline (.command .olcAbort)) else s

/-- The change ends in this module before agreement, and the partner is told (R210). -/
def State.olcAbortBoth (s : State) (reason : Nat) : State :=
  (s.olcAbort reason).tellAbort

/-- The partner refuses the request: refused with PARTNER (R198). -/
def State.olcPartnerRefuses (s : State) : State := s.olcUnanswered

/-- The partner accepts the request: the change begins, and the survey follows (R198, R199). -/
def State.olcPartnerAccepts (s : State) : State :=
  match s.olc.asking with
  | none => s
  | some (gen, g, reuse) =>
    (({ s with olc := { s.olc with asking := none } } : State).olcBegin gen (some g) reuse).emit (.lifeline (.bulk (.surveyRelay gen g)))

/-! ### The new survey (R199, R200) -/

/-- OLC_AREA_WRITTEN (R199): the area is WRITTEN, and the loader fills the inactive bank. -/
def State.olcWritten (s : State) (g : Survey) (intact : Bool) : State :=
  if s.olcState = Olc.WRITING then
    let s := { s with olc := { s.olc with survey := some g } }
    let area := areaOf s.olc.generation 0x7F g
    let area := if intact then area else { area with crc := ~~~area.crc }
    ((s.setArea s.olc.targetArea area).bankLoading s.olc.bank).setOlc Olc.LOADING
  else s

def execOlcAreaWritten (survey : Survey) (intact : Bool) (s : State) : Host.Outcome State Fault Refusal := done (s.olcWritten survey intact)

/-- The reason for which a failed check refuses the change (R200). (DEDUCED, log entry 57.) -/
def State.checkReason (s : State) (g : Survey) (f : Nat × Nat × Nat) : Nat :=
  if f.1 = 0x11 ∧ (checkMigration g s.activeSurvey).isNone ∧ (checkTransition g s.activeSurvey).isNone then 4 else 2

/-- A new survey that fails its check: the bank is REJECTED and the change refused (R200). (DEDUCED, log entry 57.) -/
def State.olcCheckFailed (s : State) (g : Survey) (f : Nat × Nat × Nat) : State :=
  (((s.rejectSurvey s.olc.bank g f).dropChange).olcRefuse (s.checkReason g f)).tellAbort

/-- A new survey that passes its check: the bank is VERIFIED, and so is the change (R200). -/
def State.olcCheckPassed (s : State) (gen : Nat) (g : Survey) : State :=
  let s := (s.bankTakes s.olc.bank gen g 2).verifyArea s.olc.targetArea
  let s := s.setOlc Olc.VERIFIED
  { s with olc := { s.olc with survey := some g } }

/-- The survey loaded for the change has been checked (R200): VERIFIED, or the change is refused; the bank is then REJECTED. -/
def State.olcLoaded (s : State) (gen : Nat) (g : Survey) : State :=
  match s.surveyFault g (s.area s.olc.targetArea).surveyLength true with
  | some f => s.olcCheckFailed g f
  | none => s.olcCheckPassed gen g

/-- SURVEY_LOAD_DONE (R117): bank A in LOAD step 11, the inactive bank in a change. -/
def State.surveyLoaded (s : State) (x gen : Nat) (g : Survey) : State :=
  if s.mode = .load ∧ s.load.step = 8 ∧ s.load.resolved = true ∧ x = 0 then s.surveyLoadedAtLoad gen g
  else if s.olcState = Olc.LOADING ∧ x = s.olc.bank then s.olcLoaded gen g
  else s

/-- DESIGN CHOICE, log entry 7. -/
def execSurveyLoadDone (bank : Fin 2) (generation : Nat) (survey : Survey) (s : State) : Host.Outcome State Fault Refusal :=
  done (s.surveyLoaded bank.val generation survey)

/-! ### Shadow migration (R201 to R204) -/

/-- Whether byte `o` of the new layout is covered by a map entry. -/
def mapCovers (g : Survey) (o : Nat) : Bool := g.migration.any fun e => decide (e.newOffset ≤ o) && decide (o < e.newOffset + e.count * e.newWidth)

/-- A word of the other area with the initial values in every byte no map entry covers (R115, R201). -/
def uncoveredInit (g : Survey) (o : Nat) (old : DWord) : DWord :=
  BitVec.ofNat 64 (ofLeBytes ((List.range 8).map fun j =>
    if mapCovers g (o + j) then BitVec.ofNat 8 (wordPart old j 1).toNat else initByte g (o + j)))

/-- Words of area `a` that hold a value or an uncorrectable error, by offset. -/
def State.heldOffsets (s : State) (a : Nat) : List Nat :=
  ((s.inst.words.map Prod.fst ++ s.inst.ue).filter fun k => k / 4194304 == a).map fun k => k % 4194304 * 8

/-- Whether the map leaves a byte of the word at `o` to the initial values. -/
def wordUncovered (g : Survey) (o : Nat) : Bool := (List.range 8).any fun j => !mapCovers g (o + j)

/-- The other area at the start of migration: every byte that no map entry covers is written, an error in its word with it. -/
def State.initOther (s : State) (g : Survey) (a : Nat) : State :=
  ((initOffsets g ++ s.heldOffsets a).filter fun o => wordUncovered g o).foldl
    (fun s o => s.setInstWord a o (uncoveredInit g o (s.instWord a o))) s

/-- The old words that the map reads, by index. -/
def mappedWords (g : Survey) : List Nat :=
  (g.migration.flatMap fun e =>
    (List.range ((e.oldOffset % 8 + e.count * e.oldWidth + 7) / 8)).map fun j => e.oldOffset / 8 + j).foldl
      (fun l w => if l.contains w then l else l ++ [w]) []

/-- The slots of the active page that the translation carries over. -/
def State.mappedSlots (s : State) : List Nat :=
  match s.activeSurvey with
  | none => []
  | some r => (r.signals.filter fun d => (translated s.activeSurvey s.olc.survey d.slot).isSome).map fun d => d.slot

/-- What the sweeps have left; both complete, the change is MIGRATED and tells the partner (R204). -/
def State.sweepCheck (s : State) (g : Survey) : State :=
  let left := (mappedWords g).filter fun w => !s.olc.areaDone.contains w
  let slots := s.mappedSlots.filter fun x => !s.olc.pageDone.contains x
  let s := s.putAll [(Fld.OLC_SWEEP_REMAIN, (8 * left.length + 1023) / 1024), (Fld.OLC_STAT_AREA_SWEPT, left.isEmpty.toNat),
    (Fld.OLC_STAT_PAGE_SWEPT, slots.isEmpty.toNat)]
  if left.isEmpty && slots.isEmpty then
    let s := (s.setAreaTag (1 - s.runArea) g.header.buildId).setOlc Olc.MIGRATED
    if s.ll = .synced then s.emit (.lifeline (.command (.migrated s.olc.generation g.digest g.header.buildId))) else s
  else s

/-- MIGRATE (R201): the other tag is cleared, initial values, mirror and sweep. -/
def State.olcMigrate (s : State) : State :=
  match s.olc.survey with
  | none => s
  | some g =>
    if s.olcState = Olc.VERIFIED then
      let other := 1 - s.runArea
      let s := (s.put ⟨Reg.GAL_AREA, 1 + other, 1⟩ 0).initOther g other
      let s := (s.loadPage (1 - s.sig.active) g).setOlc Olc.MIGRATING
      let s := { s with olc := { s.olc with mirror := true, areaDone := [], pageDone := [] } }
      (s.setQueue []).sweepCheck g
    else s

/-- One sweep step of the instance area (R202). -/
def State.sweepArea (s : State) (g : Survey) (ix : Nat) (ue : Bool) : State :=
  if ue || s.inst.ue.contains (instKey s.runArea (8 * ix)) then s.olcAbortBoth 0x0A
  else
    let s := s.migrateWord g (1 - s.runArea) (8 * ix) (s.instWord s.runArea (8 * ix))
    ({ s with olc := { s.olc with areaDone := s.olc.areaDone ++ [ix] } } : State).sweepCheck g

/-- One sweep step of the signal page (R203). -/
def State.sweepPage (s : State) (g : Survey) (slot : Nat) : State :=
  let s := match translated s.activeSurvey s.olc.survey slot with
    | some x => s.setSigPage (1 - s.sig.active) x (s.sigSlot slot)
    | none => s
  ({ s with olc := { s.olc with pageDone := s.olc.pageDone ++ [slot] } } : State).sweepCheck g

/-- The lowest of a list. -/
def lowest : List Nat → Option Nat
  | [] => none
  | n :: l => some (l.foldl min n)

/-- The word, or the page slot, that the sweep takes next: each once, in ascending order (R202, R203). -/
def State.sweepNext (s : State) (g : Survey) (page : Bool) : Option Nat :=
  lowest (if page then s.mappedSlots.filter fun x => !s.olc.pageDone.contains x else (mappedWords g).filter fun w => !s.olc.areaDone.contains w)

/-- SWEEP_STEP (R202, R203): the next step in its order, only while the commit unit has no journal to commit and the migration queue is
empty. (DEDUCED, log entry 58.) -/
def State.sweepStep (s : State) (ix : Nat) (page ue : Bool) : State :=
  match s.olc.survey with
  | none => s
  | some g =>
    if s.olcState = Olc.MIGRATING ∧ s.seq.journals = [] ∧ s.olc.queue = [] ∧ s.sweepNext g page = some ix then
      if page then s.sweepPage g ix else s.sweepArea g ix ue
    else s

def execSweepStep (index : Nat) (isPage : Bool) (uncorrectable : Bool) (s : State) : Host.Outcome State Fault Refusal :=
  done (s.sweepStep index isPage uncorrectable)

/-! ### Agreement (R205, R206) -/

/-- S from an agreement now: the first common multiple of both hyperperiods SWAP_LEAD_MS ahead, none within 60 s (R205). -/
def State.swapInstant (s : State) (g : Survey) : Option Nat :=
  let len := Nat.lcm s.hyperNs (g.header.hyperTicks * 250000)
  let lo := s.nowNs + s.get Fld.OLC_CTRL_SWAP_LEAD_MS * 1000000
  if len = 0 then none
  else
    let x := (lo + len - 1) / len * len
    if x ≤ lo + 60000000000 then some x else none

/-- A swap asked for with S, to be agreed. -/
def State.swapWanted (s : State) (x : Nat) : State := { s with olc := { s.olc with agreed := true, swapAt := x } }

/-- LEAD proposes S once both modules are MIGRATED. -/
def State.proposeSwap (s : State) (g : Survey) : State :=
  match s.swapInstant g with
  | none => ({ s with olc := { s.olc with agreed := false } } : State).olcRefuse 7
  | some x => (s.swapWanted x).emit (.lifeline (.command (.swapProposal s.olc.generation g.digest g.header.buildId x)))

/-- ARM (R205): in SOLO the module fixes S; in a SYNCED pair LEAD proposes it, at once or when the partner reports MIGRATED.
(DEDUCED, log entry 58.) -/
def State.olcArm (s : State) : State :=
  match s.olc.survey with
  | none => s
  | some g =>
    if s.olcState ≠ Olc.MIGRATED then s
    else if s.ll = .synced then
      if s.role = .lead then
        if s.bit Fld.OLC_STAT_PARTNER_READY then s.proposeSwap g else { s with olc := { s.olc with agreed := true, swapAt := 0 } }
      else s
    else
      match s.swapInstant g with
      | none => s.olcRefuse 7
      | some x => s.swapWanted x

/-- The partner reports MIGRATED for the same build. -/
def State.partnerMigrated (s : State) (gen digest build : Nat) : State :=
  match s.olc.survey with
  | none => s
  | some g =>
    if s.olc.generation = gen ∧ g.digest = digest ∧ g.header.buildId = build then
      let s := s.putBit Fld.OLC_STAT_PARTNER_READY true
      if s.role = .lead ∧ s.olcState = Olc.MIGRATED ∧ s.olc.agreed = true then s.proposeSwap g else s
    else s

/-- SHADOW's answer to a proposal: accepted when MIGRATED with the same survey; its acceptance is the agreement, from which it fixes S with its
own SWAP_LEAD_MS, and LEAD takes that S (R205). A refusal tells LEAD its reason, 0x06 or 0x07. (DEDUCED, log entry 58; DESIGN CHOICE,
log entry 92.) -/
def State.swapProposed (s : State) (gen digest build x : Nat) : State :=
  let refuse (s : State) (reason : BitVec 32) : State := s.emit (.lifeline (.ack ⟨.swapProposal gen digest build x, false, reason⟩))
  match s.olc.survey with
  | none => refuse s 6
  | some g =>
    if s.olcState = Olc.MIGRATED ∧ s.olc.generation = gen ∧ g.digest = digest ∧ g.header.buildId = build then
      match s.swapInstant g with
      | none => refuse (s.olcRefuse 7) 7
      | some y =>
        let s := s.swapWanted y
        ({ s with olc := { s.olc with partnerAgreed := true } } : State).emit (.lifeline (.ack ⟨.swapProposal gen digest build y, true, 0⟩))
    else refuse s 6

/-- The answer reaches LEAD, a refusal with its reason. -/
def State.swapAnswered (s : State) (x : Nat) (accepted : Bool) (reason : Nat) : State :=
  if s.olcState = Olc.MIGRATED ∧ s.olc.agreed = true then
    if accepted then { s with olc := { s.olc with partnerAgreed := true, swapAt := x } }
    else ({ s with olc := { s.olc with agreed := false } } : State).olcRefuse (if reason = 7 then 7 else 6)
  else s

/-- Whether a FAILED chamber that the new survey uses finds no variant under it, so that the swap is refused (R187). -/
def State.swapBlocked (s : State) (g : Survey) : Bool :=
  (List.range 16).any fun c => s.chState c == Ch.FAILED && (g.slots.any fun e => e.chamber == c)
    && !(g.variants.any fun r => r.failed == c && s.chState r.spare != Ch.FAILED)

/-- The agreement on S: the new store area is programmed ACTIVE (R205, R206). -/
def State.swapArms (s : State) (x : Nat) : State :=
  (({ s with olc := { s.olc with swapAt := x } } : State).programArea s.olc.targetArea 0x1F).putAll
    [(Fld.OLC_STAT_STATE, Olc.ARMED), (Fld.OLC_SWAP_LO_NS_LO, x % 2 ^ 32), (Fld.OLC_SWAP_HI_NS_HI, x / 2 ^ 32)]

/-- The agreement does not come about: the request is refused, the change stays MIGRATED. -/
def State.swapRefused (s : State) (reason : Nat) : State := ({ s with olc := { s.olc with agreed := false } } : State).olcRefuse reason

/-- SWAP_AGREEMENT (R187, R205, R206): in a pair S is what SHADOW's acceptance fixed; in SOLO the module fixes it now. A chamber that has become
FAILED without a variant under the new survey refuses the swap as check 0x11 does. (DEDUCED, log entry 58.) -/
def State.swapAgree (s : State) : State :=
  match s.olc.survey with
  | none => s
  | some g =>
    if s.olcState = Olc.MIGRATED ∧ s.olc.agreed = true ∧ s.olc.swapAt ≠ 0 ∧ (s.ll ≠ .synced ∨ s.olc.partnerAgreed = true) then
      if s.swapBlocked g then s.swapRefused 2
      else if s.ll = .synced then s.swapArms s.olc.swapAt
      else match s.swapInstant g with
        | none => s.swapRefused 7
        | some x => s.swapArms x
    else s

def execSwapAgreement (s : State) : Host.Outcome State Fault Refusal := done s.swapAgree

/-! ### OLC_CTRL -/

/-- ABORT (R210, R211): before agreement alone. -/
def State.olcAbortCmd (s : State) : State := if 1 ≤ s.olcState ∧ s.olcState ≤ 5 then s.olcAbortBoth 8 else s

/-- A write to OLC_CTRL (R201, R205, R210, R469). -/
def State.olcCtrlWrite (s : State) (v : Word) : State :=
  s.actions [Fld.OLC_CTRL_MIGRATE, Fld.OLC_CTRL_ARM, Fld.OLC_CTRL_ABORT] none v fun s =>
    let s := s.regStore Reg.OLC_CTRL v
    if Fld.OLC_CTRL_MIGRATE.on v then s.olcMigrate
    else if Fld.OLC_CTRL_ARM.on v then s.olcArm
    else if Fld.OLC_CTRL_ABORT.on v then s.olcAbortCmd
    else s

/-- OLC_MIGRATE (R201). -/
def execOlcMigrate (v : Word) (s : State) : Host.Outcome State Fault Refusal := done (s.olcCtrlWrite v)

/-- OLC_ARM (R205). -/
def execOlcArm (v : Word) (s : State) : Host.Outcome State Fault Refusal := done (s.olcCtrlWrite v)

/-- OLC_ABORT (R210). -/
def execOlcAbort (v : Word) (s : State) : Host.Outcome State Fault Refusal := done (s.olcCtrlWrite v)

/-! ### The swap (R187, R207, R211, R217) -/

/-- How an entry stands against the new survey (R217): none when it is dropped. R217 settles each entry, so that a suspended one whose ID is
absent is dropped too, although no clear command names it. (DESIGN CHOICE, log entry 95.) -/
def forceSettled (g : Survey) (e : ForceEntry) : Option ForceEntry :=
  match signalById g e.id with
  | none => none
  | some d => if d.type = e.type ∧ d.bits = e.bits ∧ pointAllowed d e.point = true then some e else some { e with suspended := true }

/-- How a change that waits for its cycle stands against the new survey: a write like the entry it makes. (DEDUCED, log entry 111.) -/
def changeSettled (g : Survey) : ForceChange → Option ForceChange
  | .write e => (forceSettled g e).map .write
  | .clear id => some (.clear id)
  | .clearAll => some .clearAll

/-- The entries that the new survey drops, those of waiting writes behind those of the table (R217). -/
def State.forcesDropped (s : State) (g : Survey) : List ForceEntry :=
  (s.frc.entries ++ s.frc.waiting.filterMap fun c => match c.2 with
    | .write e => some e
    | _ => none).filter fun e => (forceSettled g e).isNone

/-- Forces are settled at S (R217); a table that changes is written to the store again (R216). -/
def State.settleForces (s : State) (g : Survey) : State :=
  let s := (s.forcesDropped g).foldl (fun s e => s.record 0x2A e.id [(1, e.point), (4, e.value.toNat)]) s
  let l := s.frc.entries.filterMap (forceSettled g)
  let w := s.frc.waiting.filterMap fun c => (changeSettled g c.2).map fun x => (c.1, x)
  let s := if l = s.frc.entries then s else s.putBit Fld.FRC_STAT_STORE_PENDING true
  ({ s with frc := { s.frc with waiting := w } } : State).setForces l

/-- The tasks whose tail EMIT is still due at S: t0 before S, EMIT at t0 + 0.96T after it (R207). (DEDUCED, log entry 36.) -/
def State.tailTasks (s : State) (g : Survey) (x : Nat) : List Nat :=
  (g.tasks.filter fun e => s.get (Fld.SEQ_TASK_STAT_STATE e.task) != 0 && decide ((s.task e.task).t0 < x)
    && decide (x < (s.task e.task).t0 + e.periodTicks * 240000)).map fun e => e.task

/-- The relocations with which the tails go on (R207): those in effect for each tail task. -/
def State.tailRelocs (s : State) (tail : List Nat) : List (Nat × Nat × Nat × Nat) :=
  tail.flatMap fun t => ((s.relocations t).filter fun r => !s.relocWaits r.1 t).map fun r => (t, r)

/-- Relocation starts afresh under the new survey (R187). -/
def State.relocateAtSwap (s : State) (g : Survey) : State :=
  let s := { s with seq := { s.seq with withdrawn := [], relocPending := [], claims := [] } }
  let s := [0, 1].foldl (fun s x => s.putAll [(Fld.GAL_RELOC_ACTIVE x, 0), (Fld.GAL_RELOC_PRESENT x, 0), (Fld.GAL_RELOC_SPARE x, 0),
    (Fld.GAL_RELOC_FAILED x, 0), (Fld.GAL_RELOC_VARIANT x, 0)]) s
  let s := (List.range 16).foldl (fun s c => s.putAll [(Fld.GAL_CH_STAT_RELOCATED c, 0), (Fld.GAL_CH_STAT_VARIANT c, 0)]) s
  (List.range 16).foldl (fun s c =>
    if s.chState c = Ch.FAILED ∧ g.header.chamberMask.getLsbD c = true then
      match s.variantFor g c with
      | some r =>
        let s := s.relocate g c r
        { s with seq := { s.seq with relocPending := [] } }
      | none => s
    else s) s

/-- Chambers free of a tail execution take their state under the new survey. -/
def State.chambersAtSwap (s : State) : State :=
  (List.range 16).foldl (fun s c =>
    if s.chState c = Ch.FAILED ∨ (s.chamber c).exec.isSome = true then s else s.setChState c (s.restState c)) s

/-- The tasks of the new survey run, those that only the old one has stop once their tail is over. -/
def State.tasksAtSwap (s : State) (old new : Survey) (tail : List Nat) : State :=
  let s := new.tasks.foldl (fun s e =>
    let s := if s.get (Fld.SEQ_TASK_STAT_STATE e.task) = 0 then s.put (Fld.SEQ_TASK_STAT_STATE e.task) 1 else s
    if tail.contains e.task then s else s.setWindow new e.task) s
  old.tasks.foldl (fun s e =>
    if tail.contains e.task || new.tasks.any fun x => x.task == e.task then s
    else (s.put (Fld.SEQ_TASK_STAT_STATE e.task) 0).setWindow new e.task) s

/-- The changeover (R207). -/
def State.changeOver (s : State) (old new : Survey) : State :=
  let x := s.olc.swapAt
  let tail := s.tailTasks old x
  let used := (List.range 16).filter fun c => new.header.chamberMask.getLsbD c || new.header.spareMask.getLsbD c
  let b := s.olc.bank
  let s := s.putAll [(Fld.SVY_BANK_STATE b, 3), (Fld.SVY_BANK_STATE (1 - b), 2), (Fld.SEQ_STAT_ACTIVE_BANK, b),
    (Fld.SEQ_STAT_FASTEST, fastestTask new), (Fld.GAL_AREA_RUN_AREA, 1 - s.runArea), (Fld.CFG_STAT_RUN_AREA, s.olc.targetArea),
    (Fld.OLC_STAT_STATE, Olc.TAIL)]
  let s := { s with
    sig := { s.sig with active := 1 - s.sig.active }
    load := { s.load with ownGen := some s.olc.targetArea }
    olc := { s.olc with tail := tail, tailReloc := s.tailRelocs tail, seeding := used, oldCode := List.range 16, swappedAt := x } }
  let s := (s.disarmDrips old).armDrips new x
  let s := (s.tasksAtSwap old new tail).settleForces new
  let s := ((s.relocateAtSwap new).chambersAtSwap.canSurvey new).stationsLoad.modesToSwap
  let s := s.bump Fld.OLC_COUNT_SWAPS
  if tail.isEmpty then s.tailEnd else s

/-- A module that cannot swap at S (R211): failover in a pair, in SOLO every task enters HOLD. The manual gives this hold no cause code.
(DESIGN CHOICE, log entry 29.) -/
def State.swapFails (s : State) : State :=
  let solo := !s.inPair
  let s := { s with olc := s.olc.over }
  let s := (s.setOlc Olc.IDLE).raise Src.SWAP_FAIL 0 0
  let (cause, s) := s.freeByte
  s.soloHold solo (List.range 16) (cause % 16)

/-- SWAP (R207, R211). -/
def State.swapNow (s : State) : State :=
  if s.olcState = Olc.ARMED then
    match s.activeSurvey, s.otherSurvey with
    | some old, some new =>
      if s.get (Fld.SVY_BANK_STATE s.olc.bank) = 2 ∧ s.swapBlocked new = false then s.changeOver old new else s.swapFails
    | _, _ => s.swapFails
  else s

def execSwap (s : State) : Host.Outcome State Fault Refusal := done s.swapNow

/-- The fabric table of a survey with the patches of its relocations. -/
def State.patchedTable (s : State) (g : Survey) : List FabricEntry :=
  let active := g.variants.filter fun r => [0, 1].any fun x => s.bit (Fld.GAL_RELOC_ACTIVE x) && s.get (Fld.GAL_RELOC_VARIANT x) == r.variant
  let patches := active.flatMap fun r => r.patches
  g.fabric.zipIdx.map fun p => (patchFor patches p.2).getD p.1

/-- Copy the beats of a COMPARED-anchored entry from the page into its source staging (R207). (DEDUCED, log entry 58.) -/
def State.seedEntry (s : State) (c : Nat) (e : FabricEntry) : State :=
  (List.range (4 * e.beats)).foldl (fun s i =>
    let a := (e.srcIndex * 4 + i) * 8
    let w := s.sigSlot (e.dstIndex * 4 + i)
    let n := s.cyc e.task - BitVec.ofNat 32 (slotAge w)
    let ch := s.chamber c
    s.setChamber c { ch with current := (ch.current.filter fun (q : Nat × DWord × BitVec 32) => q.1 != a) ++ [(a, w, n)] }) s

/-- STAGING_SEED_DONE (R207). -/
def State.seedDone (s : State) (c : Nat) : State :=
  if s.olc.seeding.contains c then
    let s := match s.activeSurvey with
      | none => s
      | some g => ((s.patchedTable g).filter fun (e : FabricEntry) => e.anchor == 2 && e.srcPort == c + 1 && e.dstPort == 0).foldl (fun s e => s.seedEntry c e) s
    { s with olc := { s.olc with seeding := s.olc.seeding.filter fun x => x != c } }
  else s

def execStagingSeedDone (c : Fin 16) (s : State) : Host.Outcome State Fault Refusal := done (s.seedDone c.val)

end Sys2Proof.Machine
end

