-- ==== Sys2Proof/Machine/PairLink.lean ====
section
/-! DEFINITION. The Lifeline's states and lanes (R219 to R224), the partner as its frames tell it, losing the partner (R232 to R238), the join
(R239 to R242), handover and revert (R244, R245). -/
namespace Sys2Proof.Machine

/-! ### Pair faults and outcomes -/

/-- Every task settles what it waited for from the partner. -/
def State.settleAll (s : State) : State := (List.range 16).foldl (fun s t => s.settle t) s

/-! ### Lanes (R223, R224) -/

def laneUpField (x : Nat) : RegField := if x = 0 then Fld.PAIR_STAT_LANE_0_UP else Fld.PAIR_STAT_LANE_1_UP

/-- A lane carries traffic: its state is up, and PAIR_LANE_DOWN no longer holds for it. (DEDUCED, log entry 60.) -/
def State.laneComes (s : State) (x : Nat) : State :=
  if s.get (Fld.PAIR_LANE_STATE x) = 2 then s
  else (s.putAll [(Fld.PAIR_LANE_STATE x, 2), (laneUpField x, 1)]).fall Src.PAIR_LANE_DOWN x 0

/-- A lane goes down (R224); `los`: by loss of signal. -/
def State.laneGoes (s : State) (x : Nat) (los : Bool) : State :=
  if s.get (Fld.PAIR_LANE_STATE x) = 0 then s
  else
    let s := s.putAll [(Fld.PAIR_LANE_STATE x, 0), (laneUpField x, 0), (Fld.PAIR_EVENT_LANE_DOWN, 1)]
    let s := if los then s.bump (Fld.PAIR_LANE_LOS_EVENTS x) else s
    s.rise Src.PAIR_LANE_DOWN x 0

/-- LANE_DOWN (R224): the command does not say which of the two causes it was, so whether LOS_EVENTS counts it is a free value.
(DEDUCED, log entry 60.) -/
def execLaneDown (x : Fin 2) (s : State) : Host.Outcome State Fault Refusal :=
  let (v, s) := s.draw
  done (s.laneGoes x.val (v.getLsbD 0))

/-- LANE_UP (R224). -/
def execLaneUp (x : Fin 2) (s : State) : Host.Outcome State Fault Refusal := if s.ll = .down then done s else done (s.laneComes x.val)

/-- A signal on a lane (R223): training begins from LOAD step 5 on, once the gate is released. -/
def State.signalDetect (s : State) (x : Nat) : State :=
  if s.mode = .hibernate ∨ (s.mode = .load ∧ s.load.step < 5) ∨ s.get (Fld.GATE_CTRL_STATE 45) ≠ 0 then s
  else
    let s := if s.get (Fld.PAIR_LANE_STATE x) = 0 then s.put (Fld.PAIR_LANE_STATE x) 1 else s
    if s.ll = .down then (s.setLl .training).fall Src.LIFELINE_DOWN 0 0 else s

/-- LL_SIGNAL_DETECT (R223). -/
def execLlSignalDetect (x : Fin 2) (s : State) : Host.Outcome State Fault Refusal := done (s.signalDetect x.val)

/-- TRAINING_TIMEOUT (R223): training restarts. -/
def execTrainingTimeout (s : State) : Host.Outcome State Fault Refusal := done s

/-! ### Frames sent at their own instants (R221) -/

/-- The module's running generation with digest and BUILD_ID, as HELLO tells them. -/
def State.ownBuild (s : State) : Nat × Nat × Nat :=
  match s.activeSurvey, s.load.ownGen with
  | some g, _ => (s.runningGen, g.digest, g.header.buildId)
  | none, some a => ((s.area a).generation, (s.area a).digest, ((s.area a).survey.map fun g => g.header.buildId).getD 0)
  | none, none => (0, 0, 0)

def State.helloBody (s : State) : HelloBody :=
  let (gen, digest, build) := s.ownBuild
  ⟨s.slot == 1, Config.serial.toNat, s.mode, s.surveyVerified, gen, digest, build⟩

/-- Frames that go out per lane (R221): on every lane in at least a given state, each with its own header. (DEDUCED, log entry 60.) -/
def State.emitLanes (s : State) (least : Nat) (f : LLFrame) : State :=
  ((List.range 2).filter fun x => decide (least ≤ s.get (Fld.PAIR_LANE_STATE x))).foldl (fun s x => s.emitOn x f) s

/-- HELLO_SEND (R221): from TRAINING onward, per lane. -/
def execHelloSend (s : State) : Host.Outcome State Fault Refusal :=
  if s.ll = .down then done s else done (s.emitLanes 1 (.hello s.helloBody))

/-- The minor version whose features apply (R223); the manual names no feature of one. -/
def State.minorInForce (s : State) : Nat := min (s.get Fld.PAIR_VERSION_PROTO_MINOR) (s.get Fld.PAIR_PARTNER_PROTO_MINOR)

/-- The tasks in HOLD. -/
def State.heldTasks (s : State) : BitVec 16 :=
  (List.range 16).foldl (fun m t => if s.taskHeld t then m ||| BitVec.twoPow 16 t else m) 0

/-- STATUS_SEND (R221): a module in TRAINING sends only HELLO. -/
def execStatusSend (s : State) : Host.Outcome State Fault Refusal :=
  if s.linked then done (s.emitLanes 2 (.status ⟨s.mode, s.role, s.heldTasks, s.fastCount, s.surveyVerified⟩)) else done s

/-- TIME_SEND (R221, R225): the sender's time, and what it knows of the receiver's last TIME frame. (DEDUCED, log entry 106.) -/
def execTimeSend (s : State) : Host.Outcome State Fault Refusal :=
  if s.linked then
    let s := { s with pair := { s.pair with timeSent := some s.nowNs } }
    done (s.emitLanes 2 (.time ⟨s.time.seconds, s.time.nanoseconds, s.get Fld.TIME_STAT_STATE, s.pair.timeRx⟩))
  else done s

/-! ### Joining: the joining module's side (R239 to R242) -/

/-- A join is interrupted before S_J (R242): the module stands in HOLD and joins again through R238. -/
def State.joinFail (s : State) : State :=
  if s.role = .joining then
    let s := (s.setRole .solo).putAll [(⟨Reg.GAL_AREA, 1, 1⟩, 0), (⟨Reg.GAL_AREA, 2, 1⟩, 0), (Fld.PAIR_EVENT_JOIN_FAIL, 1),
      (Fld.PAIR_JOIN_STAGE, 6)]
    let s := { s with pair := { s.pair with joinFailed := true } }
    (s.raise Src.PAIR_JOIN_FAIL 0 0).leaveLoad .hold
  else s

/-- Bytes of a part of items 2 to 6: areas 0 and 1, staging 2 to 17, page 18, forces 19, state record 20 (R240). -/
def State.partBytes (s : State) (p : Nat) : Nat :=
  if p < 2 then 33554432 else if p < 18 then 81920 else if p = 18 then 524288 else if p = 19 then 16 * s.frc.entries.length else 4096

/-- A part has been applied: PAIR_JOIN. -/
def State.partDone (s : State) (p stage : Nat) : State :=
  let l := s.pair.joinItems.filter (fun q => q != p) ++ [p]
  let s := { s with pair := { s.pair with joinItems := l } }
  s.putAll [(Fld.PAIR_JOIN_STAGE, stage), (Fld.PAIR_JOIN_DONE, (l.map fun q => s.partBytes q).sum / 65536)]

/-- The store begins to be overwritten, with its tags (R240, R246). (DEDUCED, log entry 61.) -/
def State.takeTags (s : State) (v0 v1 : Bool) (b0 b1 run : Nat) : State :=
  let build := (s.activeSurvey.map fun g => g.header.buildId).getD 0
  let s := if s.areaMatches 0 build || s.areaMatches 1 build then s.record 0x45 0 [(8, build)] else s
  let s := { s with inst := ⟨[], []⟩ }
  let s := ((s.setAreaTag 0 b0).setAreaTag 1 b1).putAll [(⟨Reg.GAL_AREA, 1, 1⟩, v0.toNat), (⟨Reg.GAL_AREA, 2, 1⟩, v1.toNat),
    (Fld.GAL_AREA_RUN_AREA, run)]
  s.put Fld.PAIR_JOIN_STAGE 2

/-- A task of the state record (R240). -/
def State.takeTask (s : State) (r : TaskRecord) : State :=
  let s := s.setTask r.task { s.task r.task with
    firstScan := r.firstScan, holdPending := r.holdPending, holdEffective := r.holdEffective, resumePending := r.resumePending,
    resumeEffective := r.resumeEffective, committed := r.committed }
  s.putAll [(Fld.SEQ_TASK_STAT_STATE r.task, r.state), (Fld.SEQ_TASK_STAT_HOLD_CAUSE r.task, r.cause), (Fld.SEQ_TASK_STAT_HELD_RUN r.task, r.heldRun)]

/-- The state record (R240). -/
def State.takeRecord (s : State) (r : StateRecord) : State :=
  let s := (r.tasks.filter fun k => decide (k.task < 16)).foldl (fun s k => s.takeTask k) s
  r.rings.foldl (fun s p =>
    let ch := s.chamber (p.1 / 256)
    s.setChamber (p.1 / 256) { ch with rx := sparseSet (fun _ => []) ch.rx (p.1 % 256) p.2 }) s

/-- Staging slots that became current on the partner. -/
def State.takeStaging (s : State) (c : Nat) (l : List (Nat × DWord × BitVec 32)) : State :=
  let ch := s.chamber c
  s.setChamber c { ch with current := (ch.current.filter fun (q : Nat × DWord × BitVec 32) => !(l.any fun p => p.1 == q.1)) ++ l }

/-- The first part of an item empties what it overwrites: nothing is merged (R246). -/
def State.clearStaging (s : State) (c part : Nat) : State :=
  if part = 0 then s.setChamber c { s.chamber c with current := [] } else s

def State.clearPage (s : State) (part : Nat) : State :=
  if part = 0 then (if s.sig.active = 0 then { s with sig := { s.sig with page0 := [] } } else { s with sig := { s.sig with page1 := [] } }) else s

/-- The last part of an item ends it. -/
def State.partEnds (s : State) (last : Bool) (p stage : Nat) : State := if last then s.partDone p stage else s.put Fld.PAIR_JOIN_STAGE stage

/-- The force table comes in parts; with the last one the joiner's store is to be written (R216). -/
def State.takeForces (s : State) (part : Nat) (last : Bool) (l : List ForceEntry) : State :=
  let s := s.setForces (if part = 0 then l else s.frc.entries ++ l)
  if last then s.putBit Fld.FRC_STAT_STORE_PENDING true else s

/-- An item of the join transfer in the joining module (R240). (DEDUCED, log entry 61.) -/
def State.joinItem (s : State) (b : BulkBody) : State :=
  match b with
  | .areaTags v0 v1 b0 b1 run => s.takeTags v0 v1 b0 b1 run
  | .areaBlock a _ last words => (words.foldl (fun s p => s.setInstWord a p.1 p.2) s).partEnds last (a % 2) 2
  | .staging c part last slots => ((s.clearStaging (c % 16) part).takeStaging (c % 16) slots).partEnds last (2 + c % 16) 3
  | .page part last slots => (slots.foldl (fun s p => s.setSigPage s.sig.active p.1 p.2) (s.clearPage part)).partEnds last 18 3
  | .forces part last l => (s.takeForces part last l).partEnds last 19 4
  | .stateRecord r => (s.takeRecord r).partDone 20 5
  | _ => s

/-- The commit stream and its deltas in the joining module, and those of tails after S_J (R240, R241). -/
def State.joinStream (s : State) (b : JournalBody) : State :=
  let s := if (s.task b.task).t0 = 0 then s.commitWords 0 b.entries else s
  let s := b.staging.foldl (fun s p => s.takeStaging p.1 [p.2]) s
  b.signals.foldl (fun s p => s.setSigPage s.sig.active p.1 p.2) s

/-! ### Joining: the running partner's side -/

/-- RUN, HOLD or SERVICE with a verified active survey (R87). -/
def State.selfRuns (s : State) : Bool := (s.mode == .run || s.mode == .hold || s.mode == .service) && s.surveyVerified

/-- The words of instance area `a`, by offset. -/
def State.areaWords (s : State) (a : Nat) : List (Nat × DWord) :=
  (s.inst.words.filter fun (p : Nat × DWord) => p.1 / 4194304 == a).map fun (p : Nat × DWord) => (p.1 % 4194304 * 8, p.2)

/-- Task t as the state record tells it (R240). -/
def State.taskRecord (s : State) (t : Nat) : TaskRecord :=
  let k := s.task t
  ⟨t, s.get (Fld.SEQ_TASK_STAT_STATE t), s.get (Fld.SEQ_TASK_STAT_HOLD_CAUSE t), s.get (Fld.SEQ_TASK_STAT_HELD_RUN t), k.firstScan, k.holdPending,
    k.holdEffective, k.resumePending, k.resumeEffective, k.committed⟩

/-- The state record of this module (R240, item 6). -/
def State.stateRecord (s : State) : StateRecord where
  tasks := (List.range 16).map fun t => s.taskRecord t
  rings := (List.range 16).flatMap fun c => (s.chamber c).rx.map fun p => (256 * c + p.1, p.2)

/-- An item in parts of at most 8,192 bytes, 512 elements of at most 16 bytes (R219): part, whether it is the last, content. -/
def itemParts {α : Type} (l : List α) : List (Nat × Bool × List α) :=
  let ps := partsOf 512 l.length l
  ps.zipIdx.map fun p => (p.2, p.2 + 1 == ps.length, p.1)

/-- Items 2 to 6 in their order (R240). (DEDUCED, log entry 61.) -/
def State.joinFrames (s : State) : List BulkBody :=
  [.areaTags (s.tagValid 0) (s.tagValid 1) (s.areaTag 0) (s.areaTag 1) s.runArea]
  ++ ((List.range 2).flatMap fun a => (itemParts (s.areaWords a)).map fun p => BulkBody.areaBlock a p.1 p.2.1 p.2.2)
  ++ ((List.range 16).flatMap fun c => (itemParts (s.chamber c).current).map fun p => BulkBody.staging c p.1 p.2.1 p.2.2)
  ++ ((itemParts (if s.sig.active = 0 then s.sig.page0 else s.sig.page1)).map fun p => BulkBody.page p.1 p.2.1 p.2.2)
  ++ ((itemParts s.frc.entries).map fun p => BulkBody.forces p.1 p.2.1 p.2.2)
  ++ [.stateRecord s.stateRecord]

/-- The transfer to a joining partner (R240), deferred while an on-line change is under way; its blocks are read between commits. (DEDUCED, log
entry 61.) -/
def State.serveJoin (s : State) (r : Role) : State :=
  if r = .joining ∧ s.role = .solo ∧ s.selfRuns = true ∧ s.bit Fld.PAIR_STAT_YIELDED = false ∧ s.pair.joinOut = false ∧ s.olcState = Olc.IDLE
      ∧ s.seq.commit = none then
    let s := s.joinFrames.foldl (fun s b => s.emit (.lifeline (.bulk b))) s
    { s with pair := { s.pair with joinOut := true, joinTails := [], sigDelta := [], stageDelta := [] } }
  else if s.pair.joinOut = true ∧ r ≠ .joining ∧ s.ll = .linked then { s with pair := { s.pair with joinOut := false, sigDelta := [], stageDelta := [] } }
  else s

/-- The survey of the module's running generation. -/
def State.ownSurvey (s : State) : Option Survey :=
  match s.activeSurvey, s.load.ownGen with
  | some g, _ => some g
  | none, some a => (s.area a).survey
  | none, none => none

/-- The store fetch and the survey bank for a partner in LOAD (R87, R240). -/
def State.serveFetch (s : State) (h : HelloBody) : State :=
  match s.ownSurvey with
  | none => s
  | some g =>
    let (gen, digest, _) := s.ownBuild
    if h.mode ≠ .load then s
    else if gen = h.generation ∧ digest = h.digest then
      if s.selfRuns && !s.pair.bankSent then
        let s := { s with pair := { s.pair with bankSent := true } }
        s.emit (.lifeline (.bulk (.surveyBank gen g)))
      else s
    else if (h.generation < gen ∨ (gen = h.generation ∧ s.selfRuns = true)) ∧ s.pair.fetchSent = false then
      let s := { s with pair := { s.pair with fetchSent := true } }
      s.emit (.lifeline (.bulk (.storeFetch gen g)))
    else s

/-! ### The partner as its frames tell it -/

/-- The partner's mode, role and survey (R221, R239, R242). -/
def State.partnerSeen (s : State) (m : Mode) (r : Role) (surveyOk : Bool) : State :=
  let both := s.pair.bothLoad || (s.mode == .load && m == .load)
  let s := { s with pair := { s.pair with partnerMode := m, partnerSurveyOk := surveyOk, bothLoad := both } }
  let s := s.putAll [(Fld.PAIR_PARTNER_MODE, modeCode m), (Fld.PAIR_PARTNER_ROLE, roleCode r), (Fld.PAIR_STAT_PARTNER_RUNNING, s.partnerRuns.toNat)]
  let s := if s.partnerRuns then s else s.joinFail
  let s := s.serveJoin r
  if s.mode = .hold ∧ s.core.startPending = true ∧ s.slot = 1 ∧ m = .run then s.softReset else s

/-- The Lifeline becomes LINKED (R223). Both modules running as SOLO, slot B yields (R236); a yield watch still open ends.
(DEDUCED, log entry 60.) -/
def State.becomeLinked (s : State) (h : LLHeader) (b : HelloBody) : State :=
  let s := (s.setLl .linked).laneComes (h.lane % 2)
  let s := s.putAll [(Fld.PAIR_PARTNER_SLOT, b.slotB.toNat), (Fld.PAIR_PARTNER_PROTO_MINOR, h.protoMinor), (Fld.PAIR_PARTNER_PROTO_MAJOR, h.protoMajor)]
  let s := { s with pair := { s.pair with recvNum := nextFrameNum h.frameNum, waiting := [], relinquishedAt := none } }
  let s := if 0 < s.pair.watchLeft then s.watchEnd 0 else s
  if s.slot = 1 ∧ s.role = .solo ∧ h.role = .solo ∧ (s.mode = .run ∨ s.mode = .service) ∧ (b.mode = .run ∨ b.mode = .service) then s.yieldModule
  else s

/-- What a HELLO tells once LINKED (R87, R239). -/
def State.helloTells (s : State) (h : LLHeader) (b : HelloBody) : State :=
  let s := { s with pair := { s.pair with partnerHello := some b } }
  ((s.partnerSeen b.mode h.role b.surveyOk).resolveLinked).serveFetch b

/-- HELLO (R223). -/
def State.helloIn (s : State) (h : LLHeader) (b : HelloBody) : State :=
  if s.ll = .training then
    if h.protoMajor ≠ s.get Fld.PAIR_VERSION_PROTO_MAJOR then (s.putBit Fld.PAIR_EVENT_VERSION true).raise Src.PAIR_VERSION 0 0
    else if b.slotB = (s.slot == 1) then (s.putBit Fld.PAIR_EVENT_SLOT_CONFLICT true).raise Src.PAIR_SLOT_CONFLICT 0 0
    else (s.becomeLinked h b).helloTells h b
  else if s.linked then s.helloTells h b
  else s

/-! ### Losing the partner (R231 to R238) -/

/-- The yield watch starts (R234): three EMITs and the three FREEZEs that follow them. (DEDUCED, log entry 62.) -/
def State.startWatch (s : State) : State :=
  let s := { s with pair := { s.pair with watchLeft := 6, watchReplies := false, watchA := false } }
  s.put Fld.PAIR_STAT_WATCH 1

/-- Nothing of the partner is known any more. -/
def State.forgetPartner (s : State) : State :=
  let p := s.pair
  let s := { s with
    pair := { p with
      waiting := [], partnerHello := none, partnerMode := .load, partnerSurveyOk := false, bothLoad := false, fetchSent := false,
      bankSent := false, duplexIn := none, duplexNext := none, joinOut := false, joinTails := [], sigDelta := [], stageDelta := [],
      imageBeats := [] }
    load := { s.load with fetching := false }
    core := { s.core with startPending := s.core.startPending && s.mode == Mode.load } }
  s.put Fld.PAIR_STAT_PARTNER_RUNNING 0

/-- The Lifeline leaves LINKED or SYNCED for DOWN, or training ends; the manual gives the record's cause no code.
(DESIGN CHOICE, log entry 29.) -/
def State.linkDrops (s : State) : State :=
  let s := if s.linked then s.bump Fld.PAIR_CNT_C_LL_DOWNS else s
  let s := (s.leaveSynced.setLl .down).putBit Fld.PAIR_EVENT_LL_DOWN true
  let (cause, s) := s.freeByte
  ((s.record 0x40 0 [(1, cause)]).rise Src.LIFELINE_DOWN 0 0).showTopos

/-- The Lifeline goes DOWN (R223, R226, R232, R242). -/
def State.llDown (s : State) (watch : Bool) : State :=
  if s.ll = .down then s
  else
    let pair := s.inPair
    let s := s.linkDrops.joinFail.forgetPartner
    if pair then
      let s := s.becomeSolo.settleAll
      if watch && s.bit Fld.SEQ_STAT_RUNNING then s.startWatch else s
    else s

/-- LL_LOSS_OF_SIGNAL (R223): both lanes are down by loss of signal (R224). -/
def execLlLossOfSignal (s : State) : Host.Outcome State Fault Refusal :=
  if s.ll = .down then done s else done (((s.laneGoes 0 true).laneGoes 1 true).llDown true)

/-- LL_SILENCE (R223): no lane has had a valid frame for longer than R224 allows. -/
def execLlSilence (s : State) : Host.Outcome State Fault Refusal :=
  if s.ll = .down then done s else done (((s.laneGoes 0 false).laneGoes 1 false).llDown true)

/-- Slot A withdraws its RELINQUISH and treats its cause as SOLO would (R233). (DEDUCED, log entry 62.) -/
def State.withdraw (s : State) : State :=
  let s := (s.put Fld.PAIR_STAT_YIELDED 0).fall Src.PAIR_YIELD 0 0
  let p := s.pair
  let s := { s with
    mode := if s.mode = .hold then .run else s.mode
    core := { s.core with humarOff := false, modeReq := none }
    pair := { p with relinquishedAt := none, owed := [], owedHold := false } }
  let s := p.owed.foldl (fun s q => s.holdTask q.1 q.2) s
  if p.owedHold then s.requestHold else s

/-- RELINQUISH received (R226, R232, R233). -/
def State.relinquishIn (s : State) : State :=
  match s.pair.relinquishedAt with
  | some at0 =>
    if s.nowNs - at0 ≤ s.periodNs (s.get Fld.SEQ_STAT_FASTEST) then
      if s.slot = 0 then s.withdraw else s
    else s
  | none => if s.inPair then s.leaveSynced.becomeSolo.settleAll else s

/-- PAIR_FAULT_SETTLE (R231): the Lifeline is still up LL_LOSS_US after the fault. (DEDUCED, log entry 62.) -/
def execPairFaultSettle (s : State) : Host.Outcome State Fault Refusal :=
  if s.pair.settling ∧ s.ll ≠ .down then
    let s := s.becomeSolo
    done (({ s with pair := { s.pair with emitStopped := true } } : State).yieldModule)
  else done s

/-- Automatic rejoins in the last 60 min of operating time (R238). (DEDUCED, log entry 20.) -/
def State.recentRejoins (s : State) : List Nat := s.pair.rejoins.filter fun t => decide (s.fls.optime.toNat < t + 3686400)

/-- Whether the module rejoins by itself (R238, R242): yielded, or in HOLD after a join that failed; not after a refused fourth rejoin. -/
def State.wantsRejoin (s : State) : Bool := (s.bit Fld.PAIR_STAT_YIELDED || (s.mode == .hold && s.pair.joinFailed)) && !s.pair.rejoinLatched

/-- AUTO_REJOIN (R238, R242): a fourth within 60 min is not taken, and the module then needs REJOIN. (DEDUCED, log entry 62.) -/
def State.autoRejoin (s : State) : State :=
  if s.wantsRejoin && s.bit Fld.PAIR_CTRL_AUTO_REJOIN && s.ll == .linked && s.partnerRuns then
    let l := s.recentRejoins
    if 3 ≤ l.length then
      (({ s with pair := { s.pair with rejoinLatched := true } } : State).putBit Fld.PAIR_EVENT_REJOIN_LIMIT true).raise Src.PAIR_REJOIN_LIMIT 0 0
    else ({ s with pair := { s.pair with rejoins := l ++ [s.fls.optime.toNat] } } : State).softReset
  else s

def execAutoRejoin (s : State) : Host.Outcome State Fault Refusal := done s.autoRejoin

/-! ### S_J (R241) -/

/-- Restart the revert interval (R245): it runs on slot A as SHADOW with the Lifeline SYNCED. -/
def State.revertRestart (s : State) : State :=
  s.put Fld.PAIR_REVERT_REMAIN_S (if s.slot = 0 ∧ s.role = .shadow ∧ s.ll = .synced then s.get Fld.PAIR_REVERT_HOLD_S else 0)

/-- The tasks with a cycle whose EMIT comes after S_J (R241). (DEDUCED, log entry 61.) -/
def State.tailsAt (s : State) (b : Nat) : List Nat :=
  (List.range 16).filter fun t =>
    s.get (Fld.SEQ_TASK_STAT_STATE t) != 0 && decide ((s.task t).t0 < b) && decide (b < (s.task t).t0 + s.periodNs t * 96 / 100)

/-- Both modules of a pair take their roles at S_J. -/
def State.synced (s : State) (r : Role) (b : Nat) : State :=
  let s := (s.setLl .synced).setRole r
  let s := { s with pair := { s.pair with badOffsets := 0, swappedNs := none, handover := none, imageBeats := [], syncAt := b } }
  (s.record 0x43 0 [(8, b), (1, roleCode r)]).revertRestart.showTopos

/-- The join completes (R226, R241). (DEDUCED, log entry 61.) -/
def State.joinComplete (s : State) : State :=
  match s.activeSurvey with
  | none => s
  | some g =>
    let b := s.lastBoundary
    if s.ll = .linked ∧ s.role = .joining ∧ s.pair.joinItems.contains 20 = true then
      let s := (s.synced .shadow b).bump Fld.PAIR_CNT_B_JOINS
      ((s.sequencerRuns g b false).put Fld.PAIR_JOIN_STAGE 0).enterMode .run
    else if s.ll = .linked ∧ s.role = .solo ∧ s.pair.joinOut = true then
      let l := s.tailsAt b
      let s := { s with pair := { s.pair with joinTails := l, joinOut := !l.isEmpty } }
      (s.synced .lead b).tpCheck
    else s

/-- JOIN_COMPLETE (R241). -/
def execJoinComplete (s : State) : Host.Outcome State Fault Refusal := done s.joinComplete

/-! ### Handover and revert (R244, R245) -/

/-- A module proposes a handover: only while SYNCED. -/
def State.proposeHandover (s : State) : State :=
  if s.ll = .synced ∧ s.pair.handover = none then s.emit (.lifeline (.command (.handover 0))) else s

/-- E is fixed. -/
def State.fixHandover (s : State) (e : BitVec 32) : State :=
  ({ s with pair := { s.pair with handover := some e } } : State).put Fld.PAIR_STAT_HANDOVER_PENDING 1

/-- A write to PAIR_CTRL (R223, R238, R244, R469). -/
def State.pairCtrlWrite (s : State) (v : Word) : State :=
  s.actions [Fld.PAIR_CTRL_HANDOVER, Fld.PAIR_CTRL_REJOIN] none v fun s =>
    let s := s.regStore Reg.PAIR_CTRL v
    if Fld.PAIR_CTRL_HANDOVER.on v then s.proposeHandover
    else if Fld.PAIR_CTRL_REJOIN.on v then s.softReset
    else s

/-- HANDOVER (R244). -/
def execHandover (v : Word) (s : State) : Host.Outcome State Fault Refusal := done (s.gated 45 fun s => s.pairCtrlWrite v)

/-- REJOIN (R238). -/
def execRejoin (v : Word) (s : State) : Host.Outcome State Fault Refusal := done (s.gated 45 fun s => s.pairCtrlWrite v)

/-- The fastest task's cycle at this instant, with its t0. -/
def State.fastestNow (s : State) : Nat × Nat :=
  match s.taskEntry (s.get Fld.SEQ_STAT_FASTEST) with
  | none => (0, s.nowNs)
  | some e =>
    let period := max 1 (e.periodTicks * 250000)
    let n := (s.nowNs - e.phaseTicks * 250000) / period
    (n, n * period + e.phaseTicks * 250000)

/-- H has come: the roles exchange (R226, R244); PAIR_TIME_OFS reads 0 in LEAD, and SHADOW has not yet measured (R225). -/
def State.handoverH (s : State) : State :=
  match s.pair.handover with
  | none => s
  | some e =>
    let (n, h) := s.fastestNow
    if s.ll = .synced ∧ s.inPair = true ∧ (BitVec.ofNat 32 n - e).toNat < 2 ^ 31 then
      let r := roleExchanged s.role
      let s := (s.setRole r).putAll [(Fld.PAIR_STAT_HANDOVER_PENDING, 0), (Fld.PAIR_TIME_OFS_NS, 0)]
      let s := { s with pair := { s.pair with handover := none, swappedNs := some h } }
      let s := (s.bump Fld.PAIR_CNT_A_HANDOVERS).record 0x44 0 [(8, h), (1, roleCode r)]
      s.revertRestart.tpCheck
    else s

/-- HANDOVER_H (R244). -/
def execHandoverH (s : State) : Host.Outcome State Fault Refusal := done s.handoverH

/-- REVERT_PROPOSAL (R245): once the revert hold time has run. -/
def execRevertProposal (s : State) : Host.Outcome State Fault Refusal :=
  if s.slot = 0 ∧ s.role = .shadow ∧ s.get Fld.PAIR_REVERT_REMAIN_S = 0 then done s.proposeHandover else done s

end Sys2Proof.Machine
end

