-- ==== Sys2Proof/Machine/Pair.lean ====
section
/-! DEFINITION. Lifeline frames received (R220 to R222, R227 to R233, R240, R244), and those that LL_DELAY holds (R457). -/
namespace Sys2Proof.Machine

/-! ### IMAGE, OUTCOME, JOURNAL, DUPLEX (R145, R146, R192, R227, R228, R230, R240) -/

/-- One beat of LEAD's image reaches the latched buffer. -/
def State.takeBeat (s : State) (t : Nat) (b : Nat × Nat × List DWord) : State :=
  let (port, beat, slots) := b
  let s := (slots.zipIdx.take 4).foldl (fun s p => s.setImageSlot port (4 * beat + p.2) p.1) s
  let k := (t, 65536 * port + beat)
  { s with pair := { s.pair with imageBeats := s.pair.imageBeats.filter (fun q => q != k) ++ [k] } }

/-- The descriptors that LEAD moved: as many leave the own ring and are discarded (R145). -/
def State.takeMoved (s : State) (t : Nat) (m : Nat × List Descriptor) : State :=
  match (s.ringEntries t false).find? fun e => e.slot == m.1 with
  | none => s
  | some e =>
    let (_, s) := State.ringTake m.2.length s e.ring
    (s.ringGive e m.2).canDeliverRing e.ring

/-- An IMAGE frame in SHADOW, for the present cycle of its task. -/
def State.imageIn (s : State) (b : ImageBody) : State :=
  if s.taskRole b.task = .shadow ∧ s.cyc b.task = b.cyc then
    let s := b.beats.foldl (fun s x => s.takeBeat b.task x) s
    let s := b.asyncImages.foldl (fun s x =>
      match (s.entriesOf b.task).find? fun e => e.chamber == x.1 with
      | none => s
      | some e => s.putAsync (s.runsOn e) x.2) s
    let s := b.moved.foldl (fun s m => s.takeMoved b.task m) s
    b.free.foldl (fun s p =>
      match (s.ringEntries b.task true).find? fun e => e.slot == p.1 with
      | none => s
      | some e => s.setFree e p.2) s
  else s

/-- Whether SHADOW of a SYNCED pair still awaits LEAD's outcome of the present cycle of task `t`. -/
def State.awaitsOutcome (s : State) (t : Nat) : Bool :=
  s.taskRole t == .shadow && s.ll == .synced && (s.task t).partnerOutcome.isNone

/-- An OUTCOME frame (R228): LEAD's outcome stands. -/
def State.outcomeIn (s : State) (b : OutcomeBody) : State :=
  if s.awaitsOutcome b.task && s.cyc b.task == b.cyc then
    (s.setTask b.task { s.task b.task with partnerOutcome := some b.outcome, partnerJournal := some (b.bytes, b.crc) }).settle b.task
  else s

/-- OUTCOME_DEADLINE (R228): LEAD's outcome has not arrived by t0 + 0.95T. -/
def execOutcomeDeadline (t : Fin 16) (s : State) : Host.Outcome State Fault Refusal :=
  if s.awaitsOutcome t.val && s.taskRunning t.val && decide ((s.task t.val).t0 ≠ 0) then done (s.pairBreak 2) else done s

/-- A JOURNAL frame: the stream of a join and its tails, or LEAD's commits (R170, R228, R240). -/
def State.journalIn (s : State) (b : JournalBody) : State :=
  if s.role = .joining then s.joinStream b
  else if s.role = .shadow ∨ s.taskRole b.task = .shadow then
    let s := s.joinStream b
    let k := s.task b.task
    if s.taskRole b.task = .shadow ∧ k.t0 ≠ 0 ∧ s.cyc b.task = b.cyc then
      (s.setTask b.task { k with stream := k.stream ++ b.entries }).settle b.task
    else s
  else s

/-- A DUPLEX frame serves the EMIT that follows it (R230). -/
def State.duplexIn (s : State) (b : DuplexBody) : State :=
  if s.ll = .synced then { s with pair := { s.pair with duplexNext := some b } } else s

/-! ### COMMAND and ACK (R27, R169, R198 to R205, R215, R244, R259, R353, R408) -/

/-- Answer a COMMAND (R221). -/
def State.answer (s : State) (c : RelayCommand) (ok : Bool) (e : BitVec 32) : State := s.emit (.lifeline (.ack ⟨c, ok, e⟩))

/-- The mode commands that the present mode allows (R26). -/
def State.modeCommandOk (s : State) (target : Mode) : Bool :=
  match target with
  | .hold => s.mode == .run || s.mode == .service
  | .service => s.mode == .run
  | .run => s.mode == .service
  | _ => false

/-- A mode command: passed on to LEAD, or fixed by LEAD (R27). -/
def State.cmdMode (s : State) (target : Mode) (e : Option (BitVec 32)) : State :=
  let c := RelayCommand.mode target e
  match e with
  | none =>
    if s.role = .lead ∧ s.ll = .synced ∧ s.modeCommandOk target = true then
      (s.modeCommand target (.mode target)).answer c true (s.fastCount + 4)
    else s.answer c false 0
  | some x => if s.role = .shadow ∧ s.ll = .synced then (s.requestMode target 4 e).answer c true x else s.answer c false 0

/-- A start command: of a pair in step, or of two modules in HOLD and LINKED, where it starts slot A (R239). -/
def State.cmdStart (s : State) (e : Option (BitVec 32)) : State :=
  let c := RelayCommand.start e
  if s.mode ≠ .hold ∨ s.surveyVerified = false ∨ s.bit Fld.PAIR_STAT_YIELDED = true then s.answer c false 0
  else if s.ll = .linked then
    if s.slot = 0 then (s.requestMode .run 4 none).answer c true 0
    else ({ s with core := { s.core with startPending := true } } : State).answer c true 0
  else
    match e with
    | none => if s.role = .lead then (s.modeCommand .run .start).answer c true (s.fastCount + 4) else s.answer c false 0
    | some x => if s.role = .shadow then (s.requestMode .run 4 e).answer c true x else s.answer c false 0

/-- The partner's request to enter HIBERNATE (R408). -/
def State.cmdHibernate (s : State) (e : Option (BitVec 32)) : State :=
  if s.mode ≠ .hold then s.answer (.hibernate e) false 0
  else
    match e with
    | some x => s.hibRequest (some x) true
    | none =>
      let x := s.fastCount + 4
      if s.hibRefusers.isEmpty then (s.hibRequest (some x) false).answer (.hibernate none) true x else s.hibRequest (some x) true

/-- A hold of a task (R169). -/
def State.cmdHoldTask (s : State) (t : Nat) (e : Option (BitVec 32)) : State :=
  let c := RelayCommand.holdTask t e
  match e with
  | none =>
    if s.role = .lead ∧ s.ll = .synced ∧ s.taskRunning t = true then (s.taskHoldCommand t).answer c true (s.cyc t + 4) else s.answer c false 0
  | some x =>
    if s.role = .shadow ∧ s.ll = .synced then
      (s.setTask t { s.task t with holdEffective := some x }).answer c true x
    else s.answer c false 0

/-- A resumption of a task (R169). -/
def State.cmdResumeTask (s : State) (t : Nat) (b : Option Nat) : State :=
  let c := RelayCommand.resumeTask t b
  match b with
  | none =>
    if s.role = .lead ∧ s.ll = .synced ∧ s.get (Fld.SEQ_TASK_STAT_STATE t) = 2 ∧ s.taskBlocked t = false then
      (s.taskResumeCommand t).answer c true 0
    else s.answer c false 0
  | some _ => if s.role = .shadow ∧ s.ll = .synced then (s.taskResumeAt t b).answer c true 0 else s.answer c false 0

/-- A change of the force table (R212, R215, R217): LEAD accepts what SHADOW passes on by the same checks as its own. -/
def State.cmdForce (s : State) (f : ForceChange) (e : Option (BitVec 32)) : State :=
  let c := RelayCommand.force f e
  match e with
  | none =>
    match s.forceChecked f with
    | some x =>
      if s.role = .lead ∧ s.ll = .synced ∧ s.olcState ≠ Olc.ARMED ∧ s.olcState ≠ Olc.TAIL then (s.forceAccept x).answer c true s.effective
      else s.answer c false 0
    | none => s.answer c false 0
  | some x => if s.role = .shadow ∧ s.ll = .synced then (s.forceSchedule f x).answer c true x else s.answer c false 0

/-- A configuration word (R259). -/
def State.cmdConfig (s : State) (n : Nat) (an : Bool) (v : BitVec 32) (e : Option (BitVec 32)) : State :=
  let c := RelayCommand.chConfig n an v e
  match e with
  | none =>
    if s.role = .lead ∧ s.ll = .synced ∧ (s.mode = .hold ∨ s.mode = .service) then (s.islCfgWrite n an v).answer c true s.effective
    else s.answer c false 0
  | some x => if s.role = .shadow ∧ s.ll = .synced then (s.cfgSchedule n an v x).answer c true x else s.answer c false 0

/-- A proposal of a handover: the accepting module fixes E (R244). -/
def State.cmdHandover (s : State) (h : BitVec 32) : State :=
  let c := RelayCommand.handover h
  if s.ll = .synced ∧ s.pair.handover = none then (s.fixHandover (s.fastCount + 4)).answer c true (s.fastCount + 4)
  else s.answer c false 0

/-- A COMMAND frame (R221). The manual gives a partner's abort no reason code: OLC_REASON shows 0x06 PARTNER (R210). (DESIGN CHOICE, log
entry 93.) -/
def State.commandIn (s : State) (c : RelayCommand) : State :=
  match c with
  | .mode target e => s.cmdMode target e
  | .start e => s.cmdStart e
  | .hibernate e => s.cmdHibernate e
  | .holdTask t e => s.cmdHoldTask (t % 16) e
  | .resumeTask t b => s.cmdResumeTask (t % 16) b
  | .force f e => s.cmdForce f e
  | .olcRequest gen hasMap parent => s.olcRelayed gen hasMap parent
  | .olcAbort => (s.olcAbort 6).answer c true 0
  | .migrated gen digest build => (s.partnerMigrated gen digest build).answer c true 0
  | .swapProposal gen digest build x => s.swapProposed gen digest build x
  | .handover h => s.cmdHandover h
  | .chConfig n an v e => s.cmdConfig (n % 128) an v e
  | .timeStep at0 o => ({ s with time := { s.time with stepAt := some (at0, o) } } : State).answer c true 0

/-- A command of the engineering session that the partner refused; the reason of a refused swap comes with the answer (R205). -/
def State.partnerRefused (s : State) (c : RelayCommand) (reason : Nat) : State :=
  match c with
  | .force _ _ => s.frcRefuse
  | .chConfig _ _ _ _ => s.putBit Fld.ISL_CFG_STAT_REFUSED true
  | .hibernate _ => s.dropHibernate.hibRefuse [1]
  | .olcRequest _ _ _ => s.olcPartnerRefuses
  | .swapProposal _ _ _ x => s.swapAnswered x false reason
  | .mode _ _ => s.emit .engRefused
  | .start _ => s.emit .engRefused
  | .holdTask _ _ => s.emit .engRefused
  | .resumeTask _ _ => s.emit .engRefused
  | _ => s

/-- An ACK frame (R221). -/
def State.ackIn (s : State) (b : AckBody) : State :=
  if b.accepted then
    match b.command with
    | .force _ none => s.putAll [(Fld.FRC_CMD_DONE, 1), (Fld.FRC_CMD_REFUSED, 0)]
    | .swapProposal _ _ _ x => s.swapAnswered x true 0
    | .olcRequest _ _ _ => s.olcPartnerAccepts
    | .handover _ => if s.ll = .synced then s.fixHandover b.effective else s
    | _ => s
  else s.partnerRefused b.command b.effective.toNat

/-! ### TIME and BULK (R225, R87, R199, R240) -/

/-- The offset that a complete TIME exchange gives, own time less the partner's, with the path delay as half the round trip (R225): t1 and t4
are the own TX_TIME and receipt, t2 and t3 the partner's receipt and TX_TIME. (DEDUCED, log entry 106.) -/
def timeOffset (t1 t2 t3 t4 : Int) : Int := t4 - t3 - ((t4 - t1) - (t3 - t2)) / 2

/-- The offset a module has found (R225). SHADOW slews by it; JOINING steps once. (DEDUCED, log entry 61.) -/
def State.timeFound (s : State) (o : Int) : State :=
  if s.role = .joining then
    if s.pair.timeTaken = false then
      let s := { s with pair := { s.pair with timeTaken := true } }
      if o = 0 then s else s.stepTime (-o)
    else { s with time := { s.time with slewRem := -o * 4294967296 } }
  else if s.role = .shadow ∧ s.ll = .synced then
    let s := s.put Fld.PAIR_TIME_OFS_NS (BitVec.ofInt 32 o).toNat
    let n := if 100 < o.natAbs then s.pair.badOffsets + 1 else 0
    let s := { s with time := { s.time with slewRem := -o * 4294967296 }, pair := { s.pair with badOffsets := n } }
    if n = 3 then s.pairBreak 4 else s
  else s

/-- A TIME frame (R225): its receipt is noted for the own next frame; where it answers the own last frame, the exchange is complete.
(DEDUCED, log entry 106.) -/
def State.timeIn (s : State) (h : LLHeader) (b : TimeBody) : State :=
  if s.linked then
    let now := s.nowNs
    let sent := s.pair.timeSent
    let s := { s with pair := { s.pair with timeRx := some (h.txTime, now) } }
    match b.echo with
    | none => s
    | some (t1, t2) => if sent = some t1 then s.timeFound (timeOffset t1 t2 h.txTime now) else s
  else s

/-- The survey bank of the running partner (R240, item 1): its content comes into bank A, which the check of LOAD step 11 follows. -/
def State.bankArrives (s : State) (g : Survey) : State :=
  if s.mode = .load ∧ s.load.step = 8 then
    let s := { s with banks := sparseSet (fun _ => (⟨none⟩ : Bank)) s.banks 0 ⟨some g⟩ }
    s.putAll [(Fld.SVY_BANK_STATE 0, 1), (Fld.PAIR_JOIN_STAGE, 1)]
  else s

/-- A BULK frame. -/
def State.bulkIn (s : State) (b : BulkBody) : State :=
  match b with
  | .surveyRelay gen g => s.olcSurvey gen g
  | .storeFetch gen g => s.fetched gen g
  | .surveyBank _ g => s.bankArrives g
  | b => if s.role = .joining then s.joinItem b else s

/-- A STATUS frame (R221). -/
def State.statusIn (s : State) (b : StatusBody) : State := if s.linked then s.partnerSeen b.mode b.role b.surveyOk else s

/-! ### Reception (R221, R222, R457) -/

/-- The effect of a frame once it is delivered. -/
def State.deliver (s : State) (f : Instr) : State :=
  match f with
  | .hello h b => s.helloIn h b
  | .llStatus _ b => s.statusIn b
  | .image _ b => s.imageIn b
  | .outcome _ b => s.outcomeIn b
  | .journal _ b => s.journalIn b
  | .duplex _ b => s.duplexIn b
  | .command _ c => s.commandIn c
  | .ack _ b => s.ackIn b
  | .llTime h b => s.timeIn h b
  | .bulk _ b => s.bulkIn b
  | .departure _ => s.llDown false
  | .relinquish _ => s.relinquishIn
  | _ => s

/-- The next ordered frame is delivered: the one after it is due. -/
def State.deliverNext (s : State) (n : BitVec 32) (f : Instr) : State :=
  ({ s with pair := { s.pair with recvNum := nextFrameNum n } } : State).deliver f

/-- Deliver the waiting frames whose turn has come (R222). -/
def State.deliverWaiting : Nat → State → State
  | 0, s => s
  | k + 1, s =>
    match s.pair.waiting.find? fun p => p.1 == s.pair.recvNum with
    | none => s
    | some p =>
      let s := { s with pair := { s.pair with waiting := s.pair.waiting.filter fun q => q.1 != p.1 } }
      State.deliverWaiting k (s.deliverNext p.1 p.2)

/-- An ordered frame (R222): delivered in its turn, kept until then, discarded when its turn has passed. -/
def State.orderedIn (s : State) (n : BitVec 32) (f : Instr) : State :=
  let due := s.pair.recvNum
  if n = due then
    let s := s.deliverNext n f
    State.deliverWaiting s.pair.waiting.length s
  else if (n - due).toNat < 2 ^ 31 then
    { s with pair := { s.pair with waiting := s.pair.waiting.filter (fun q => q.1 != n) ++ [(n, f)] } }
  else s

/-- Whether a frame is delivered as it arrives: STATUS and TIME, and HELLO while the Lifeline trains. -/
def State.atOnce (s : State) (f : Instr) : Bool :=
  match f with
  | .llStatus _ _ => true
  | .llTime _ _ => true
  | .hello _ _ => s.ll == .training
  | _ => false

/-- TYPE of the frame that a command brings (R221). -/
def frameType : Instr → Nat
  | .hello _ _ => 0x01
  | .llStatus _ _ => 0x02
  | .image _ _ => 0x03
  | .outcome _ _ => 0x04
  | .journal _ _ => 0x05
  | .duplex _ _ => 0x06
  | .command _ _ => 0x07
  | .ack _ _ => 0x08
  | .llTime _ _ => 0x09
  | .bulk _ _ => 0x0A
  | .departure _ => 0x0B
  | .relinquish _ => 0x0C
  | _ => 0

/-- Whether the receiver takes a frame (R221): its HDR_CRC is right and its TYPE is the one whose payload follows, so no reserved one. -/
def frameGood (h : LLHeader) (f : Instr) : Bool := llHeaderOk h && h.type == frameType f

/-- A frame sent after S_J whose sender does not see SYNCED (R220, FLAGS bit 3): the partner has left SYNCED, and so does this module (R223);
SHADOW goes on as at a pair fault, whose kind it is not told. (DEDUCED, log entry 110.) -/
def State.partnerSync (s : State) (h : LLHeader) : State :=
  if s.ll = .synced ∧ h.sync = false ∧ s.pair.syncAt ≤ h.txTime then
    if s.role = .shadow then
      let (kind, s) := s.freeByte
      s.pairBreak (kind % 8)
    else s.leaveSynced
  else s

/-- A frame leaves the receiver (R221, R222): one with a bad HDR_CRC or a reserved TYPE is discarded; before LINKED only HELLO and DEPARTURE
act. (DEDUCED, log entry 60.) -/
def State.frameIn (s : State) (h : LLHeader) (f : Instr) : State :=
  if !frameGood h f then s.bump Fld.PAIR_GAPS_BAD_FRAMES
  else
    let s := ({ s with pair := { s.pair with lastFrameNs := s.nowNs } } : State).partnerSync h
    if s.atOnce f then s.deliver f
    else if s.linked then s.orderedIn h.frameNum f
    else
      match f with
      | .departure _ => s.deliver f
      | _ => s

/-- The header of a received frame. -/
def frameHeader : Instr → LLHeader
  | .hello h _ => h
  | .llStatus h _ => h
  | .image h _ => h
  | .outcome h _ => h
  | .journal h _ => h
  | .duplex h _ => h
  | .command h _ => h
  | .ack h _ => h
  | .llTime h _ => h
  | .bulk h _ => h
  | .departure h => h
  | .relinquish f => f.hdr
  | _ => LLHeader.blank

/-- Whether LL_DELAY holds a frame (R457): every frame but TIME. -/
def State.delayed (s : State) (f : Instr) : Bool :=
  match f with
  | .llTime _ _ => false
  | _ => s.tpActive 0

/-- A Lifeline frame arrives; a closed gate lets none in (R77). -/
def State.llRx (s : State) (f : Instr) : State :=
  if s.ll = .down ∨ s.get (Fld.GATE_CTRL_STATE 45) ≠ 0 then s
  else if s.delayed f then ({ s with tp := { s.tp with held := s.tp.held ++ [f] } } : State).tpAffect 0
  else s.frameIn (frameHeader f) f

/-- HELLO (R223). -/
def execHello (hdr : LLHeader) (body : HelloBody) (s : State) : Host.Outcome State Fault Refusal := done (s.llRx (.hello hdr body))

/-- LL_STATUS (R221). -/
def execLlStatus (hdr : LLHeader) (body : StatusBody) (s : State) : Host.Outcome State Fault Refusal := done (s.llRx (.llStatus hdr body))

/-- IMAGE (R227). -/
def execImage (hdr : LLHeader) (body : ImageBody) (s : State) : Host.Outcome State Fault Refusal := done (s.llRx (.image hdr body))

/-- OUTCOME (R228). -/
def execOutcome (hdr : LLHeader) (body : OutcomeBody) (s : State) : Host.Outcome State Fault Refusal := done (s.llRx (.outcome hdr body))

/-- JOURNAL (R240). -/
def execJournal (hdr : LLHeader) (body : JournalBody) (s : State) : Host.Outcome State Fault Refusal := done (s.llRx (.journal hdr body))

/-- DUPLEX (R230). -/
def execDuplex (hdr : LLHeader) (body : DuplexBody) (s : State) : Host.Outcome State Fault Refusal := done (s.llRx (.duplex hdr body))

/-- COMMAND (R221). -/
def execCommand (hdr : LLHeader) (body : RelayCommand) (s : State) : Host.Outcome State Fault Refusal := done (s.llRx (.command hdr body))

/-- ACK (R221). -/
def execAck (hdr : LLHeader) (body : AckBody) (s : State) : Host.Outcome State Fault Refusal := done (s.llRx (.ack hdr body))

/-- LL_TIME (R225). -/
def execLlTime (hdr : LLHeader) (body : TimeBody) (s : State) : Host.Outcome State Fault Refusal := done (s.llRx (.llTime hdr body))

/-- BULK (R240). -/
def execBulk (hdr : LLHeader) (body : BulkBody) (s : State) : Host.Outcome State Fault Refusal := done (s.llRx (.bulk hdr body))

/-- DEPARTURE (R223). -/
def execDeparture (hdr : LLHeader) (s : State) : Host.Outcome State Fault Refusal := done (s.llRx (.departure hdr))

/-- RELINQUISH (R233). -/
def execRelinquish (f : RelinquishFrame) (s : State) : Host.Outcome State Fault Refusal := done (s.llRx (.relinquish f))

/-- The earliest frame that waits. -/
def State.firstWaiting (s : State) : Option (BitVec 32) :=
  s.pair.waiting.foldl (fun (m : Option (BitVec 32)) p =>
    match m with
    | none => some p.1
    | some x => if (p.1 - s.pair.recvNum).toNat < (x - s.pair.recvNum).toNat then some p.1 else some x) none

/-- The FRAME_NUMs from `due` to before `n`: 0 is none of them (R220). -/
def missingFrames (due n : BitVec 32) : Nat := (n - due).toNat - (if n.toNat < due.toNat then 1 else 0)

/-- FRAME_GAP (R222, R231, R242): every FRAME_NUM still missing is a gap, and given up. -/
def State.frameGap (s : State) : State :=
  match s.firstWaiting with
  | none => s
  | some n =>
    let s := s.put Fld.PAIR_GAPS_GAPS (min 65535 (s.get Fld.PAIR_GAPS_GAPS + missingFrames s.pair.recvNum n))
    let s := (if s.ll = .synced then s.pairBreak 0 else s).joinFail
    let s := { s with pair := { s.pair with recvNum := n } }
    State.deliverWaiting s.pair.waiting.length s

def execFrameGap (s : State) : Host.Outcome State Fault Refusal := done s.frameGap

/-- TP_HELD_FRAME_DELIVER (R457, R460): the oldest frame held has been held for DELAY_US. -/
def execTpHeldFrameDeliver (s : State) : Host.Outcome State Fault Refusal :=
  match s.tp.held with
  | [] => done s
  | f :: l =>
    let s := { s with tp := { s.tp with held := l } }
    if s.ll = .down then done s else done (s.frameIn (frameHeader f) f)

end Sys2Proof.Machine
end

