-- ==== Sys2Proof/Machine/Gates.lean ====
section
/-! DEFINITION. Block resets through gates (R71, R76 to R79, R182): the request, the stages, what each block loses. -/
namespace Sys2Proof.Machine

/-- What the reset of a block takes from it, where its chapter says so: an island link (R255), a CAN controller (R345), the bridge (R319), the
ring manager (R331), test perturbation, whose kinds stop without records (R460). (DEDUCED, log entry 63.) -/
def State.resetBlock (s : State) (b : Nat) : State :=
  if 16 ≤ b ∧ b < 32 then s.islandLinkReset (b - 16)
  else if 40 ≤ b ∧ b < 44 then s.canReset (b - 40)
  else if b = 44 then s.bbReset
  else if b = 46 then s.ringsReset
  else if b = 49 then (List.range 6).foldl (fun s k => ({ s with tp := s.tp.forget k } : State).tpRestore k) s
  else s

/-- The block is held in reset for 64 CLK_PER cycles (R77). -/
def State.gateInReset (s : State) (b : Nat) : State := (s.put (Fld.GATE_CTRL_STATE b) 2).resetBlock b

/-- Outstanding transfers complete with error responses; their count, where the request did not tell it, is a free value (R77).
(DEDUCED, log entry 63.) -/
def State.errorComplete (s : State) (b : Nat) : State :=
  match (s.gate b).outstanding with
  | some n => s.put (Fld.GATE_CTRL_ERRORED b) (min 255 n)
  | none =>
    let (n, s) := s.freeByte
    s.put (Fld.GATE_CTRL_ERRORED b) n

/-- A gate held since module reset opens (R71): from step 5 of LOAD on (R83), the firmware that releases gates running from then.
(DEDUCED, log entry 63.) -/
def State.gateReleased (s : State) (b : Nat) : State :=
  if (s.gate b).released ∨ s.rst.inReset = true ∨ (s.mode = .load ∧ s.load.step < 5) then s
  else (s.setGate b { s.gate b with released := true }).put (Fld.GATE_CTRL_STATE b) 0

/-- A request of host firmware, with the transfers outstanding at it: a block idle at the request of quiesce mode goes into reset at once
(R78). -/
def State.gateAsked (s : State) (b outstanding : Nat) : State :=
  let was := (s.gate b).resetting
  let s := s.gateRequestOuter b
  let g := s.gate b
  if !was && g.resetting then
    let s := s.setGate b { g with outstanding := some outstanding }
    if g.quiesced && outstanding == 0 then (s.put (Fld.GATE_CTRL_ERRORED b) 0).gateInReset b else s
  else s

/-- A write to GATE_CTRL[b] (R76 to R79, R469): reserved gates ignore it. -/
def State.gateCtrlWrite (s : State) (b : Nat) (v : Word) (ask : State → State) : State :=
  if 50 ≤ b then s
  else
    s.actions [Fld.GATE_CTRL_REQ b, Fld.GATE_CTRL_RELEASE b] none v fun s =>
      let s := s.regStore (Reg.GATE_CTRL b) v
      if (Fld.GATE_CTRL_REQ b).on v then ask s
      else if (Fld.GATE_CTRL_RELEASE b).on v then s.gateReleased b
      else s

/-- BLOCK_RESET_REQUEST (R77, R78). -/
def execBlockResetRequest (b : Fin 64) (v : Word) (outstanding : Nat) (s : State) : Host.Outcome State Fault Refusal :=
  done (s.gateCtrlWrite b.val v fun s => s.gateAsked b.val outstanding)

/-- GATE_RELEASE (R71). -/
def execGateRelease (b : Fin 64) (v : Word) (s : State) : Host.Outcome State Fault Refusal :=
  done (s.gateCtrlWrite b.val v fun s => s.gateRequestOuter b.val)

/-- Whether gate `b` is in the given stage of a block reset. -/
def State.gateStage (s : State) (b stage : Nat) : Bool := (s.gate b).resetting && s.get (Fld.GATE_CTRL_STATE b) == stage

/-- GATE_DRAIN_END (R77): the drain stage of a native block reset ends. -/
def execGateDrainEnd (b : Fin 64) (s : State) : Host.Outcome State Fault Refusal :=
  if s.gateStage b.val 1 && !(s.gate b.val).quiesced then done ((s.errorComplete b.val).gateInReset b.val) else done s

/-- GATE_BLOCK_IDLE (R78): no error completion. -/
def execGateBlockIdle (b : Fin 64) (s : State) : Host.Outcome State Fault Refusal :=
  if s.gateStage b.val 1 && (s.gate b.val).quiesced then done ((s.put (Fld.GATE_CTRL_ERRORED b.val) 0).gateInReset b.val) else done s

/-- GATE_QUIESCE_TIMEOUT (R78). -/
def execGateQuiesceTimeout (b : Fin 64) (s : State) : Host.Outcome State Fault Refusal :=
  if s.gateStage b.val 1 && (s.gate b.val).quiesced then
    let s := (s.errorComplete b.val).putBit (Fld.GATE_CTRL_QV b.val) true
    done ((s.raise Src.GATE_QUIESCE b.val 0).gateInReset b.val)
  else done s

/-- GATE_RESET_RELEASE (R77). -/
def execGateResetRelease (b : Fin 64) (s : State) : Host.Outcome State Fault Refusal :=
  if s.gateStage b.val 2 then done (s.put (Fld.GATE_CTRL_STATE b.val) 3) else done s

/-- The end of an abandonment or of a stop of a chamber's execution (R171): idle, it dozes. (DEDUCED, log entry 82.) -/
def State.dozeAfterGate (s : State) (b : Nat) : State :=
  if b < 16 ∧ s.bit Fld.GAL_CTRL_DOZE_AUTO = true ∧ s.chamberIdle b = true then s.put (Fld.GAL_CH_STAT_DOZE b) 1 else s

/-- GATE_OPEN (R77): the clamps release and the gate opens. -/
def execGateOpen (b : Fin 64) (s : State) : Host.Outcome State Fault Refusal :=
  if s.gateStage b.val 3 then
    let s := s.setGate b.val { s.gate b.val with resetting := false, quiesced := false, outstanding := none }
    done (((s.put (Fld.GATE_CTRL_STATE b.val) 0).bump (Fld.GATE_CTRL_RESETS b.val)).dozeAfterGate b.val)
  else done s

end Sys2Proof.Machine
end

