-- ==== Sys2Proof/Machine/Staging.lean ====
section
/-! DEFINITION. Commands of the update manager's staging (R444), whose transfers guards 4 and 9 check (R371). -/
namespace Sys2Proof.Machine

/-- The update manager's bursts from host SRAM (R363, R364, R370, log entry 72). (DESIGN CHOICE, log entry 72.) -/
def updBursts (addr len : Nat) : List Access :=
  (List.range ((len + 255) / 256)).map fun j =>
    ⟨5, .read, true, BitVec.ofNat 32 (addr + 256 * j), min 256 (len - 256 * j), []⟩

/-- A transfer that meets an error response ends the operation with an error (R371); the manual gives it no reason code.
(DESIGN CHOICE, log entry 17.) -/
def State.updTransferError (s : State) (a : Access) : State :=
  let (code, s) := ((s.route a).2).freeByte
  s.updRefuse code

/-- WRITE: UPD_XFER_LEN bytes from UPD_XFER_ADDR are appended (R444). (DESIGN CHOICE, log entry 72.) -/
def State.updAppend (s : State) : State :=
  let len := s.get Fld.UPD_XFER_LEN_LEN
  let n := s.upd.received + len
  if 0x3FF0000 < n then s.updRefuse 0xB
  else
    match (updBursts (s.getReg Reg.UPD_XFER_ADDR).toNat len).find? fun a => !s.ringPasses a with
    | some a => s.updTransferError a
    | none => ({ s with upd := { s.upd with received := n } } : State).updDone

/-- A write to UPD_CMD (R444, R446, R469). WRITE and END act on a capsule being received. -/
def State.updCmdWrite (s : State) (v : Word) : State :=
  s.actions [Fld.UPD_CMD_BEGIN, Fld.UPD_CMD_WRITE, Fld.UPD_CMD_END, Fld.UPD_CMD_DISCARD] (some Fld.UPD_CMD_REFUSED) v fun s =>
    if Fld.UPD_CMD_BEGIN.on v then
      if Fld.UPD_CMD_KEY.ext v = 0x5550 then
        match s.beginRefusal (Fld.UPD_CMD_LOADER.on v) with
        | some code => s.updRefuse code
        | none =>
          let s := s.stagingEmpty.put Fld.UPD_STAT_STAGE 1
          let s := { s with upd := { s.upd with split := Fld.UPD_CMD_SPLIT.on v, loader := Fld.UPD_CMD_LOADER.on v } }
          s.updDone
      else s
    else if Fld.UPD_CMD_WRITE.on v then
      if s.get Fld.UPD_STAT_STAGE = 1 then
        s.updAppend
      else s
    else if Fld.UPD_CMD_END.on v then
      if s.get Fld.UPD_STAT_STAGE = 1 then
        s.putAll [(Fld.UPD_STAT_STAGE, 2), (Fld.UPD_STAT_BUSY, 1), (Fld.UPD_CMD_DONE, 0), (Fld.UPD_CMD_REFUSED, 0)]
      else s
    else if Fld.UPD_CMD_DISCARD.on v then s.stagingEmpty.updDone
    else s

/-- UPD_BEGIN (R444). -/
def execUpdBegin (v : Word) (s : State) : Host.Outcome State Fault Refusal := done (s.gated 48 fun s => s.updCmdWrite v)

/-- UPD_WRITE (R444). -/
def execUpdWrite (v : Word) (s : State) : Host.Outcome State Fault Refusal := done (s.gated 48 fun s => s.updCmdWrite v)

/-- UPD_END (R444). -/
def execUpdEnd (v : Word) (s : State) : Host.Outcome State Fault Refusal := done (s.gated 48 fun s => s.updCmdWrite v)

/-- UPD_DISCARD (R444). -/
def execUpdDiscard (v : Word) (s : State) : Host.Outcome State Fault Refusal := done (s.gated 48 fun s => s.updCmdWrite v)

end Sys2Proof.Machine
end

