-- ==== Sys2Proof/Machine/RegRead.lean ====
section
/-! DEFINITION. What a register reads (R7, R465): the values held, the fields that show other state, the snapshots (R349), and the fields
whose value nothing in the manual's steps determines. -/
namespace Sys2Proof.Machine

/-- Instance number of the register at `a` in a row of `n` instances `stride` bytes apart from `base`. -/
def within (a base n stride : Nat) : Option Nat :=
  if base ≤ a ∧ a < base + n * stride ∧ (a - base) % stride = 0 then some ((a - base) / stride) else none

/-- The 32 flags of SUMP_FLAGS[w]. -/
def State.sumpFlags (s : State) (w : Nat) : BitVec 32 :=
  (List.range 32).foldl (fun v b => if s.bit (Fld.SUMP_SRC_FLAG (32 * w + b)) then v ||| BitVec.ofNat 32 (2 ^ b) else v) 0

/-- SUMP_TOP: the flagged source of highest severity, the lowest among equals. -/
def State.sumpTop (s : State) : BitVec 32 :=
  match (List.range 256).foldl (fun best n =>
      if s.bit (Fld.SUMP_SRC_FLAG n) then
        match best with
        | none => some (n, s.get (Fld.SUMP_SRC_SEVERITY n))
        | some b => if b.2 < s.get (Fld.SUMP_SRC_SEVERITY n) then some (n, s.get (Fld.SUMP_SRC_SEVERITY n)) else some b
      else best) (none : Option (Nat × Nat)) with
  | none => 0
  | some (n, sev) => BitVec.ofNat 32 (n + 256 * sev + 2 ^ 31)

/-- PWR_STAT.STATE (R397). -/
def State.powerState (s : State) : Nat :=
  if s.mode = .hibernate then 3
  else if s.get Fld.PWR_STAT_RATIO ≠ 0 then 1
  else if s.mode = .hold then 2
  else 0

/-- The slew remainder in whole ns, saturating (TIME_SLEW_REM). -/
def State.slewNs (s : State) : BitVec 32 :=
  BitVec.ofInt 32 (max (-0x7FFFFFFF) (min 0x7FFFFFFF (s.time.slewRem / 4294967296)))

/-- UPD_SLOT[x] (R439). -/
def State.updSlotView (s : State) (x : Nat) : BitVec 32 :=
  let f := s.fwSlotAt x
  BitVec.ofNat 32 (f.state.toNat + 256 * attemptCount f.attempts + (if f.intact then 1024 else 0) + 65536 * (f.seq % 65536))

/-- RING_STAT[q] (R325, R457). -/
def State.ringStatView (s : State) (q : Nat) : BitVec 32 :=
  let v := (Fld.RING_STAT_OCCUPANCY q).ins (s.getReg (Reg.RING_STAT q)) (s.ringOcc q)
  (Fld.RING_STAT_FULL q).ins v (decide (s.ringSize q ≤ s.ringOcc q) || s.ringForcedFull q).toNat

/-- FLS_STAT (R389). (DEDUCED, log entry 19.) -/
def State.flsStatView (s : State) : BitVec 32 :=
  let v := Fld.FLS_STAT_QUEUE.ins (s.getReg Reg.FLS_STAT) s.fls.queue.length
  Fld.FLS_STAT_BUSY.ins v (!s.fls.queue.isEmpty).toNat

/-- FL_PORT_STAT[p] with SLOW_BUSY. -/
def State.flStatView (s : State) (p : Nat) : BitVec 32 := (Fld.FL_PORT_STAT_SLOW_BUSY p).ins (s.getReg (Reg.FL_PORT_STAT p)) (s.slowBusy p).toNat

/-- TIME_STAT with SLEWING. -/
def State.timeStatView (s : State) : BitVec 32 :=
  Fld.TIME_STAT_SLEWING.ins (s.getReg Reg.TIME_STAT) (decide (s.time.slewRem ≠ 0)).toNat

/-- SEQ_HYPER (R96). -/
def State.hyperView (s : State) : BitVec 32 := if s.hyperNs = 0 then 0 else BitVec.ofNat 32 (s.nowNs / s.hyperNs)

/-- Registers that show state held elsewhere, one instance each. -/
def State.regViewOne (s : State) (a : Nat) : Option (BitVec 32) :=
  if a = Reg.FLS_STAT then some s.flsStatView
  else if a = Reg.FLS_HEAD_SEQ then some (BitVec.ofNat 32 s.headSeq)
  else if a = Reg.FLS_HEAD_OFF then some (BitVec.ofNat 32 s.headOff)
  else if a = Reg.FLS_TAIL_SEQ then some (BitVec.ofNat 32 s.tailSeq)
  else if a = Reg.FLS_TAIL_OFF then some (BitVec.ofNat 32 s.tailOff)
  else if a = Reg.FLS_OPTIME_LO then some (s.fls.optime.truncate 32)
  else if a = Reg.SUMP_TOP then some s.sumpTop
  else if a = Reg.PWR_STAT then some (Fld.PWR_STAT_STATE.ins (s.getReg Reg.PWR_STAT) s.powerState)
  else if a = Reg.TIME_STAT then some s.timeStatView
  else if a = Reg.TIME_NS then some (BitVec.ofNat 32 s.time.nanoseconds)
  else if a = Reg.TIME_LIN_LO then some (s.time.lin.truncate 32)
  else if a = Reg.TIME_SLEW_REM then some s.slewNs
  else if a = Reg.SEQ_HYPER then some s.hyperView
  else if a = Reg.TP_STAT then some (Fld.TP_STAT_ALLOWED.ins (s.getReg Reg.TP_STAT) s.tpAllowed.toNat)
  else if a = Reg.IDENT_SERIAL_LO then some (Config.serial.truncate 32)
  else if a = Reg.IDENT_SERIAL_HI then some ((Config.serial >>> 32).truncate 32)
  else none

/-- Registers that show state held elsewhere. -/
def State.regShown (s : State) (a : Nat) : Option (BitVec 32) :=
  match within a (Reg.SUMP_FLAGS 0) 8 4, within a (Reg.RING_STAT 0) 64 4, within a (Reg.UPD_SLOT 0) 2 4 with
  | some w, _, _ => some (s.sumpFlags w)
  | _, some q, _ => some (s.ringStatView q)
  | _, _, some x => some (s.updSlotView x)
  | none, none, none =>
    match within a (Reg.FL_PORT_STAT 0) 8 4 with
    | some p => some (s.flStatView p)
    | none => s.regViewOne a

/-- The value at a register address (R7, R9): WO bits and reserved space read 0 (R465). -/
def State.regView (s : State) (a : Nat) : BitVec 32 :=
  match regFind a with
  | none => 0
  | some r => (s.regShown a).getD (s.getReg a) &&& ~~~r.wo

/-- Bits of a register that no step of the manual determines: measurements, and counts of events without a step of their own. A read finds
a free value there. (DESIGN CHOICE, log entry 73.) -/
def freeMask (a : Nat) : BitVec 32 :=
  if a = Reg.CLK_REF_OFFSET then 0xFFFF
  else if a = Reg.CFG_STAT then 0x4
  else if a = Reg.TIME_STAT then 0x40
  else if a = Reg.UPD_FLASH then 0xFFFF
  else if (within a (Reg.CAN_STAT 0) 4 64).isSome then 0x8
  else if (within a (Reg.CAN_TDC 0) 4 64).isSome then 0x7F00
  else if (within a (Reg.PAIR_LANE 0) 2 4).isSome then 0xFFFF0000
  else if (within a (Reg.GAL_CH_ECC 0) 16 4).isSome then 0xFFFFFFFF
  else 0

/-- What a read latches for companion registers (R349 and the registers' tables). -/
def State.regLatch (s : State) (a : Nat) : State :=
  if a = Reg.TIME_NS ∨ a = Reg.TIME_LIN_LO then
    ((s.setReg Reg.TIME_SEC_LO (BitVec.ofNat 32 s.time.seconds)).setReg Reg.TIME_SEC_HI (BitVec.ofNat 32 (s.time.seconds / 2 ^ 32 % 65536))).setReg
      Reg.TIME_LIN_HI ((s.time.lin >>> 32).truncate 32)
  else if a = Reg.FLS_OPTIME_LO then s.setReg Reg.FLS_OPTIME_HI (BitVec.ofNat 32 (s.fls.optime.toNat / 2 ^ 32))
  else
    match within a (Reg.CAP_TIME_LO 0) 16 4 with
    | some k => s.setReg (Reg.CAP_TIME_HI k) (((s.cap k).stamp >>> 32).truncate 32)
    | none => s

/-- A register read; SHADOW never acts as PTP master (R354). (DESIGN CHOICE, log entries 12, 73.) -/
def State.regRead (s : State) (a : Nat) : BitVec 32 × State :=
  let v := s.regView a
  let s := s.regLatch a
  let m := if a = Reg.TIME_STAT ∧ s.role = .shadow then 0 else freeMask a
  if m = 0 then (v, s)
  else
    let (f, s) := s.draw
    ((v &&& ~~~m) ||| (f.truncate 32 &&& m), s)

/-- SNAPSHOT_READ (R349). (DESIGN CHOICE, log entries 10, 12.) -/
def execSnapshotRead (addr : Word) (s : State) : Host.Outcome State Fault Refusal :=
  let (v, s) := s.regRead addr.toNat
  done { s with bus := .data (leBytes 4 v.toNat) }

end Sys2Proof.Machine
end

