-- ==== Sys2Proof/Machine/RegWrite.lean ====
section
/-! DEFINITION. Register writes by address (R7, R10, R464, R469): each register's own effect where it has one, else its access types; blocks
whose gate is closed, and the debugger's registers, answer with an error. -/
namespace Sys2Proof.Machine

/-- CLOCK and RESET. -/
def State.writeClockReset (s : State) (a : Nat) (v : Word) : State :=
  if a = Reg.CLK_CTRL then s.clkCtrlWrite v
  else if a = Reg.RST_SW then s.rstSwWrite v
  else if a = Reg.WDT_CTRL then s.wdtCtrlWrite v
  else if a = Reg.WDT_KICK then s.kick (Fld.WDT_KICK_CODE.ext v)
  else
    match within a (Reg.GATE_CTRL 0) 64 4 with
    | some b => s.gateCtrlWrite b v fun s => s.gateRequestOuter b
    | none => s.regStore a v

/-- POWER. -/
def State.writePower (s : State) (a : Nat) (v : Word) : State :=
  if a = Reg.PWR_SQZ_CFG then s.sqzCfgWrite v
  else if a = Reg.PWR_HIB_CMD then s.hibCmdWrite v
  else s.regStore a v

/-- SUMP: SUMP_DETAIL of host firmware's sources is written by host firmware. (DEDUCED, log entry 13.) -/
def State.writeSump (s : State) (a : Nat) (v : Word) : State :=
  match within a (Reg.SUMP_SRC 0) 256 4 with
  | some n => s.sumpSrcWrite n v
  | none => if (within a (Reg.SUMP_DETAIL 240) 16 4).isSome then s.setReg a (v &&& 0x8000FFFF) else s.regStore a v

/-- FLOWSTONE. -/
def State.writeFlowstone (s : State) (a : Nat) (v : Word) : State :=
  if a = Reg.FLS_CTRL then s.flsCtrlWrite v
  else if a = Reg.FLS_SEEK then s.flsSeekWrite v
  else if a = Reg.FLS_WCMD then s.flsGo v
  else s.regStore a v

/-- GUARD, with no access outstanding. (DEDUCED, log entry 16.) -/
def State.writeGuard (s : State) (a : Nat) (v : Word) : State :=
  match guardRule a with
  | some r => s.guardRuleWrite r a v 0
  | none => s.regStore a v

/-- SECURITY. -/
def State.writeSecurity (s : State) (a : Nat) (v : Word) : State :=
  if a = Reg.SEC_LC_CMD then s.lcCmdWrite v
  else if a = Reg.SEC_PROV then s.provWrite v
  else if a = Reg.SEC_REVOKE then s.revokeWrite v
  else s.regStore a v

/-- The drip unit whose target or period the register at `a` holds. -/
def dripTargetReg (a : Nat) : Option Nat :=
  ([Reg.DRIP_TGT_LO 0, Reg.DRIP_TGT_HI 0, Reg.DRIP_PER_LO 0, Reg.DRIP_PER_HI 0].filterMap fun b => within a b 64 4).head?

/-- TIME: writes to the target or period of a unit that the survey owns are ignored (R360). -/
def State.writeTime (s : State) (a : Nat) (v : Word) : State :=
  if a = Reg.TIME_CMD then s.timeCmdWrite v
  else
    match within a (Reg.DRIP_CTRL 0) 64 4, dripTargetReg a with
    | some d, _ => s.dripCtrlWrite d v
    | none, some d => if s.bit (Fld.DRIP_CTRL_SURVEY d) then s else s.regStore a v
    | none, none => s.regStore a v

/-- GALLERY. -/
def State.writeGallery (s : State) (a : Nat) (v : Word) : State := if a = Reg.GAL_CTRL then s.galCtrlWrite v else s.regStore a v

/-- SURVEY. -/
def State.writeSurvey (s : State) (a : Nat) (v : Word) : State :=
  if a = Reg.OLC_CTRL then s.olcCtrlWrite v
  else if a = Reg.FRC_CMD then s.frcCmdWrite v
  else
    match within a (Reg.SEQ_TASK_CTRL 0) 16 4 with
    | some t => s.seqTaskCtrlWrite t v
    | none => s.regStore a v

/-- LOCKSTEP: breakpoints are set at CONTROL and above (R428). -/
def State.writeLockstep (s : State) (a : Nat) (v : Word) : State :=
  if a = Reg.LS_INJECT then s.lsInjectWrite v
  else if a = Reg.LS_DBG_GO then (if Fld.LS_DBG_GO_GO.on v then s.dbgGo else s)
  else
    match within a (Reg.LS_DBG_CTRL 0) 16 4, within a (Reg.LS_DBG_BP 0 0) 64 4 with
    | some c, _ => s.dbgCtrlWrite c v
    | none, some _ => if 2 ≤ s.get Fld.SEC_STATUS_DBG_LEVEL then s.regStore a v else s
    | none, none => s.regStore a v

/-- PAIR. -/
def State.writePair (s : State) (a : Nat) (v : Word) : State := if a = Reg.PAIR_CTRL then s.pairCtrlWrite v else s.regStore a v

/-- ISLAND. -/
def State.writeIsland (s : State) (a : Nat) (v : Word) : State :=
  if a = Reg.ISL_CAL_CMD then s.calCmdWrite v
  else
    match within a (Reg.ISL_CH_CFG 0) 128 4, within a (Reg.ISL_AN_CFG 0) 128 4 with
    | some n, _ => s.islCfgWrite n false v
    | none, some n => s.islCfgWrite n true v
    | none, none => s.regStore a v

/-- RING: RING_BASE and RING_BUFBASE are writable while the ring is not enabled and RING_LOCK is 0 (R325); a new watermark is compared.
(DEDUCED, log entry 49.) -/
def State.writeRing (s : State) (a : Nat) (v : Word) : State :=
  match within a (Reg.RING_BASE 0) 128 4, within a (Reg.RING_CFG 0) 64 4, within a (Reg.RING_PROD 0) 64 4 with
  | some n, _, _ => if s.ringEnabled (n % 64) || s.bit Fld.RING_LOCK_LOCK then s else s.regStore a v
  | none, some q, _ => s.ringCfgWrite q v
  | none, none, some q => s.ringProdWrite q v
  | none, none, none =>
    match within a (Reg.RING_CONS 0) 64 4, within a (Reg.RING_IRQ 0) 64 4 with
    | some q, _ => (s.ringConsWrite q v).canDeliverRing q
    | none, some q => (s.regStore a v).ringService q
    | none, none => s.regStore a v

/-- Controller registers of CAN. -/
def State.writeCanCtl (s : State) (k o : Nat) (a : Nat) (v : Word) : State :=
  match o with
  | 0x0 => s.canTimingWrite k .ctrl v
  | 0x4 => s.canTimingWrite k .nbt v
  | 0x8 => s.canTimingWrite k .dbt v
  | 0xC => s.canTimingWrite k .tdc v
  | 0x20 => (s.regStore a v).canDeliver k
  | _ => s.regStore a v

/-- Message objects of CAN. -/
def State.writeCanObj (s : State) (a : Nat) (v : Word) : State :=
  match within a 0x40111000 512 4, within a 0x40111800 512 4, within a 0x40112000 512 4, within a 0x40118000 8192 4 with
  | some n, _, _, _ => s.canObjWrite (n / 128) (n % 128) .ctrl v
  | none, some n, _, _ => s.canObjWrite (n / 128) (n % 128) .id v
  | none, none, some n, _ => s.canObjWrite (n / 128) (n % 128) .mask v
  | none, none, none, some n => s.canObjWrite (n / 2048) (n / 16 % 128) (.data (Fin.ofNat 16 n)) v
  | none, none, none, none => s.regStore a v

/-- CAN. -/
def State.writeCan (s : State) (a : Nat) (v : Word) : State :=
  if 0x40110000 ≤ a ∧ a < 0x40110100 then s.writeCanCtl ((a - 0x40110000) / 64) (a % 64) a v else s.writeCanObj a v

/-- UPDATE. -/
def State.writeUpdate (s : State) (a : Nat) (v : Word) : State :=
  if a = Reg.UPD_CMD then s.updCmdWrite v
  else if a = Reg.UPD_HEALTH then s.updHealthWrite v
  else if a = Reg.UPD_ISL_CMD then s.updIslCmdWrite v
  else s.regStore a v

/-- TESTPERT: the configuration of an active kind ignores writes (R459). -/
def State.writeTestpert (s : State) (a : Nat) (v : Word) : State :=
  if a = Reg.TP_CMD then s.tpCmdWrite v
  else if s.tpConfigLocked a then s
  else s.regStore a v

/-- A write to a register of the block at its 64 KiB page (R464). -/
def State.regWrite (s : State) (a : Nat) (v : Word) : State :=
  match a / 65536 with
  | 0x4001 => s.writeClockReset a v
  | 0x4002 => s.writeClockReset a v
  | 0x4003 => s.writePower a v
  | 0x4004 => s.writeSump a v
  | 0x4005 => s.writeFlowstone a v
  | 0x4006 => s.writeGuard a v
  | 0x4007 => s.writeSecurity a v
  | 0x4008 => s.writeTime a v
  | 0x4009 => s.writeGallery a v
  | 0x400A => s.writeSurvey a v
  | 0x400B => s.writeLockstep a v
  | 0x400C => s.writePair a v
  | 0x400D => s.writeIsland a v
  | 0x4010 => s.writeRing a v
  | 0x4011 => s.writeCan a v
  | 0x4012 => s.writeUpdate a v
  | 0x4013 => s.writeTestpert a v
  | _ => s.regStore a v

/-- The CAN controller whose registers hold address `a`. -/
def canOfReg (a : Nat) : Option Nat :=
  if 0x40110000 ≤ a ∧ a < 0x40110100 then some ((a - 0x40110000) / 64)
  else if 0x40111000 ≤ a ∧ a < 0x40113000 then some (a % 0x800 / 512)
  else if 0x40118000 ≤ a ∧ a < 0x40120000 then some ((a - 0x40118000) / 8192)
  else none

/-- The gate of the block whose registers hold address `a` (R76, R465, log entry 74). (DEDUCED, log entry 74.) -/
def regGate (a : Nat) : Option Nat :=
  match a / 65536 with
  | 0x400C => some 45
  | 0x400F => some 44
  | 0x4010 => some 46
  | 0x4011 => (canOfReg a).map fun k => 40 + k
  | 0x4012 => some 48
  | 0x4013 => some 49
  | 0x4014 => some 47
  | _ => none

/-- A register access is answered with an error: the gate of its block is not open (R77, R465), or host firmware asks for a register of the
debugger (R194). (DEDUCED, log entry 74.) -/
def State.regDenied (s : State) (a : Nat) (debugger : Bool) : Bool :=
  (match regGate a with
    | some b => s.get (Fld.GATE_CTRL_STATE b) != 0
    | none => false)
    || (decide (0x400B0540 ≤ a) && decide (a < 0x400B0558) && !debugger)

/-- REGISTER_WRITE (R7) by host firmware. (DESIGN CHOICE, log entry 10.) -/
def execRegisterWrite (addr : Word) (v : Word) (s : State) : Host.Outcome State Fault Refusal :=
  if addr.toNat % 4 ≠ 0 ∨ s.regDenied addr.toNat false then done { s with bus := .error }
  else
    let s := s.regWrite addr.toNat v
    done { s with bus := .done }

/-- REGISTER_BAD_ACCESS (R10). -/
def execRegisterBadAccess (addr : Word) (len : Nat) (isWrite : Bool) (s : State) : Host.Outcome State Fault Refusal :=
  match addr, len, isWrite with
  | _, _, _ => done { s with bus := .error }

/-- SIGNAL_TABLE_HOST_WRITE (R16). -/
def execSignalTableHostWrite (addr : Word) (v : Word) (s : State) : Host.Outcome State Fault Refusal :=
  match addr, v with
  | _, _ => done { s with bus := .error }

/-- LS_DBG_HOST_ACCESS (R194). -/
def execLsDbgHostAccess (addr : Word) (isWrite : Bool) (v : Word) (s : State) : Host.Outcome State Fault Refusal :=
  match addr, isWrite, v with
  | _, _, _ => done { s with bus := .error }

end Sys2Proof.Machine
end

