-- ==== Sys2Proof/Machine/HostAccess.lean ====
section
/-! DEFINITION. Accesses to host space (R363 to R371, R463 to R466): their way through the guards, what each target does, the debug access
port (R428). -/
namespace Sys2Proof.Machine

/-- The answer of a target: an error response, or the bytes read (none for a write) with the state after. -/
abbrev TargetAnswer := Option (List Byte × State)

/-- Host SRAM and the host area of retention memory, which gives no instruction fetch (R463). (DESIGN CHOICE, log entry 15.) -/
def State.sramTarget (s : State) (a : Access) : TargetAnswer :=
  let x := a.addr.toNat
  let old := s.sramRead x a.len
  match a.kind with
  | .read => some (old, s)
  | .fetch => if 0x02000000 < x + a.len then none else some (old, s)
  | .write => some ([], s.sramWrite x (a.data.take a.len))
  | .atomic => some (old, s.sramWrite x (a.data.take a.len))

/-- Register blocks (R10, R465): one 32-bit aligned read or write. (DESIGN CHOICE, log entry 15.) -/
def State.registerTarget (s : State) (a : Access) : TargetAnswer :=
  let x := a.addr.toNat
  if a.len ≠ 4 ∨ x % 4 ≠ 0 ∨ s.regDenied x (a.initiator == 3) then none
  else
    match a.kind with
    | .read => let (v, s) := s.regRead x; some (leBytes 4 v.toNat, s)
    | .write => some ([], s.regWrite x (BitVec.ofNat 32 (ofLeBytes (a.data.take 4))))
    | .fetch => none
    | .atomic => none

/-- Byte `o` of the instance MRAM as the host sees it: area 0, then area 1 (R109, R463). -/
def State.instByte (s : State) (o : Nat) : Byte :=
  BitVec.ofNat 8 ((s.instWord (o / 0x2000000) (o % 0x2000000)).toNat / 256 ^ (o % 8))

/-- Instance MRAM: a word with an uncorrectable error gives an error response (R463). (DESIGN CHOICE, log entry 15.) -/
def State.instTarget (s : State) (a : Access) : TargetAnswer :=
  let o := a.addr.toNat - 0x60000000
  let os := (List.range a.len).map fun j => o + j
  if a.kind = .read ∧ (os.all fun x => !s.inst.ue.contains (instKey (x / 0x2000000) (x % 0x2000000))) then
    some (os.map s.instByte, s)
  else none

/-- The active page of the signal table (R16, R203). (DESIGN CHOICE, log entry 15.) -/
def State.signalTarget (s : State) (a : Access) : TargetAnswer :=
  if a.kind = .read then
    let o := a.addr.toNat - 0x70000000
    some ((List.range a.len).map fun j => BitVec.ofNat 8 ((s.sigSlot ((o + j) / 8)).toNat / 256 ^ ((o + j) % 8)), s)
  else none

/-- Flowstone MRAM (R385). A reader that meets an uncorrectable error in a record raises FLS_UE (R391); what it then reads is open.
(DESIGN CHOICE, log entry 15.) -/
def State.flowstoneTarget (s : State) (a : Access) : TargetAnswer :=
  if a.kind = .read then
    let o := a.addr.toNat - 0x80000000
    if (List.range a.len).any fun j => s.fls.ue.contains ((o + j) / 8) then
      let s := (s.putBit Fld.FLS_STAT_UE true).raise Src.FLS_UE 0 0
      some (State.freeBytes a.len s)
    else some (s.flsRead o a.len, s)
  else none

/-- What a target does with an access that has passed both guards (R463). (DESIGN CHOICE, log entries 8, 15.) -/
def State.target (s : State) (t : Nat) (a : Access) : TargetAnswer :=
  match t with
  | 8 =>
    if a.kind = .read ∨ a.kind = .fetch then some ((List.range a.len).map fun j => Config.bootRom (a.addr.toNat + j), s) else none
  | 9 => s.sramTarget a
  | 10 => s.registerTarget a
  | 11 => s.instTarget a
  | 12 => s.signalTarget a
  | 13 => s.flowstoneTarget a
  | _ => none

/-- The answer on the initiator's bus. (DESIGN CHOICE, log entry 10.) -/
def State.busAnswer (s : State) (a : Access) (r : TargetAnswer) : State :=
  match r with
  | none => { s with bus := .error }
  | some (bs, s) => { s with bus := if a.kind = .write then .done else .data bs }

/-- An access to host space: refused on its way, or performed (R369, R371). -/
def State.access (s : State) (a : Access) : State :=
  let (ok, s) := s.route a
  if ok then s.busAnswer a (s.target ((targetOf a.addr.toNat).getD 0) a) else { s with bus := .error }

/-! ### The debug access port (R426 to R428) -/

/-- The registers through which a debugger reads the main lane (R194). -/
def dbgLaneReg (a : Nat) : Bool := decide (0x400B0540 ≤ a) && decide (a < 0x400B0558)

/-- The debug level an access of the port needs: OBSERVE to read and to work the main-lane registers, CONTROL to write (R428).
(DEDUCED, log entry 18.) -/
def dapLevel (a : Access) : Nat := if a.kind = .read ∨ dbgLaneReg a.addr.toNat then 1 else 2

/-- An access through the port: off while the port is off (R426), refused below its level before any guard (R364). It is privileged, and the
port does not fetch. (DEDUCED, log entry 18.) -/
def State.dapAccess (s : State) (a : Access) : State :=
  if !s.tapEnabled then s
  else
    let s := { s with sec := { s.sec with tapIr := 0x12 } }
    if s.get Fld.SEC_STATUS_DBG_LEVEL < dapLevel a ∨ a.kind = .fetch then { s with bus := .error }
    else s.access { a with initiator := 3, privileged := true }

/-- DAP (R428). (DEDUCED, log entry 18.) -/
def execDap (a : Access) (s : State) : Host.Outcome State Fault Refusal := done (s.dapAccess a)

/-- HOST_ACCESS (R369). -/
def execHostAccess (a : Access) (s : State) : Host.Outcome State Fault Refusal :=
  if a.initiator = 3 then done (s.dapAccess a) else done (s.access a)

end Sys2Proof.Machine
end

