-- ==== Sys2Proof/Machine/LaneRows.lean ====
section
/-! DEFINITION. The instructions of the block-code core, one meaning each (R136 to R149): lane `w` of chamber `c` issues the
instruction. -/
namespace Sys2Proof.Machine

/-- ADD. -/
def execAdd (c : Fin 16) (w : Lane) (w32 : Bool) (d : BitVec 5) (a : BitVec 5) (b : BitVec 5) (s : State) : Host.Outcome State Fault Refusal :=
  done (s.laneOp c.val w (.alu .add w32 d a b))

/-- SUB. -/
def execSub (c : Fin 16) (w : Lane) (w32 : Bool) (d : BitVec 5) (a : BitVec 5) (b : BitVec 5) (s : State) : Host.Outcome State Fault Refusal :=
  done (s.laneOp c.val w (.alu .sub w32 d a b))

/-- AND. -/
def execLand (c : Fin 16) (w : Lane) (w32 : Bool) (d : BitVec 5) (a : BitVec 5) (b : BitVec 5) (s : State) : Host.Outcome State Fault Refusal :=
  done (s.laneOp c.val w (.alu .and w32 d a b))

/-- OR. -/
def execLor (c : Fin 16) (w : Lane) (w32 : Bool) (d : BitVec 5) (a : BitVec 5) (b : BitVec 5) (s : State) : Host.Outcome State Fault Refusal :=
  done (s.laneOp c.val w (.alu .or w32 d a b))

/-- XOR. -/
def execLxor (c : Fin 16) (w : Lane) (w32 : Bool) (d : BitVec 5) (a : BitVec 5) (b : BitVec 5) (s : State) : Host.Outcome State Fault Refusal :=
  done (s.laneOp c.val w (.alu .xor w32 d a b))

/-- SLL. -/
def execSll (c : Fin 16) (w : Lane) (w32 : Bool) (d : BitVec 5) (a : BitVec 5) (b : BitVec 5) (s : State) : Host.Outcome State Fault Refusal :=
  done (s.laneOp c.val w (.alu .sll w32 d a b))

/-- SRL. -/
def execSrl (c : Fin 16) (w : Lane) (w32 : Bool) (d : BitVec 5) (a : BitVec 5) (b : BitVec 5) (s : State) : Host.Outcome State Fault Refusal :=
  done (s.laneOp c.val w (.alu .srl w32 d a b))

/-- SRA. -/
def execSra (c : Fin 16) (w : Lane) (w32 : Bool) (d : BitVec 5) (a : BitVec 5) (b : BitVec 5) (s : State) : Host.Outcome State Fault Refusal :=
  done (s.laneOp c.val w (.alu .sra w32 d a b))

/-- SLT. -/
def execSlt (c : Fin 16) (w : Lane) (w32 : Bool) (d : BitVec 5) (a : BitVec 5) (b : BitVec 5) (s : State) : Host.Outcome State Fault Refusal :=
  done (s.laneOp c.val w (.alu .slt w32 d a b))

/-- SLTU. -/
def execSltu (c : Fin 16) (w : Lane) (w32 : Bool) (d : BitVec 5) (a : BitVec 5) (b : BitVec 5) (s : State) : Host.Outcome State Fault Refusal :=
  done (s.laneOp c.val w (.alu .sltu w32 d a b))

/-- MIN. -/
def execMin (c : Fin 16) (w : Lane) (w32 : Bool) (d : BitVec 5) (a : BitVec 5) (b : BitVec 5) (s : State) : Host.Outcome State Fault Refusal :=
  done (s.laneOp c.val w (.alu .min w32 d a b))

/-- MAX. -/
def execMax (c : Fin 16) (w : Lane) (w32 : Bool) (d : BitVec 5) (a : BitVec 5) (b : BitVec 5) (s : State) : Host.Outcome State Fault Refusal :=
  done (s.laneOp c.val w (.alu .max w32 d a b))

/-- MINU. -/
def execMinu (c : Fin 16) (w : Lane) (w32 : Bool) (d : BitVec 5) (a : BitVec 5) (b : BitVec 5) (s : State) : Host.Outcome State Fault Refusal :=
  done (s.laneOp c.val w (.alu .minu w32 d a b))

/-- MAXU. -/
def execMaxu (c : Fin 16) (w : Lane) (w32 : Bool) (d : BitVec 5) (a : BitVec 5) (b : BitVec 5) (s : State) : Host.Outcome State Fault Refusal :=
  done (s.laneOp c.val w (.alu .maxu w32 d a b))

/-- MUL. -/
def execMul (c : Fin 16) (w : Lane) (w32 : Bool) (d : BitVec 5) (a : BitVec 5) (b : BitVec 5) (s : State) : Host.Outcome State Fault Refusal :=
  done (s.laneOp c.val w (.alu .mul w32 d a b))

/-- MULH. -/
def execMulh (c : Fin 16) (w : Lane) (w32 : Bool) (d : BitVec 5) (a : BitVec 5) (b : BitVec 5) (s : State) : Host.Outcome State Fault Refusal :=
  done (s.laneOp c.val w (.alu .mulh w32 d a b))

/-- MULHU. -/
def execMulhu (c : Fin 16) (w : Lane) (w32 : Bool) (d : BitVec 5) (a : BitVec 5) (b : BitVec 5) (s : State) : Host.Outcome State Fault Refusal :=
  done (s.laneOp c.val w (.alu .mulhu w32 d a b))

/-- DIV. -/
def execDiv (c : Fin 16) (w : Lane) (w32 : Bool) (d : BitVec 5) (a : BitVec 5) (b : BitVec 5) (s : State) : Host.Outcome State Fault Refusal :=
  done (s.laneOp c.val w (.alu .div w32 d a b))

/-- DIVU. -/
def execDivu (c : Fin 16) (w : Lane) (w32 : Bool) (d : BitVec 5) (a : BitVec 5) (b : BitVec 5) (s : State) : Host.Outcome State Fault Refusal :=
  done (s.laneOp c.val w (.alu .divu w32 d a b))

/-- REM. -/
def execRem (c : Fin 16) (w : Lane) (w32 : Bool) (d : BitVec 5) (a : BitVec 5) (b : BitVec 5) (s : State) : Host.Outcome State Fault Refusal :=
  done (s.laneOp c.val w (.alu .rem w32 d a b))

/-- REMU. -/
def execRemu (c : Fin 16) (w : Lane) (w32 : Bool) (d : BitVec 5) (a : BitVec 5) (b : BitVec 5) (s : State) : Host.Outcome State Fault Refusal :=
  done (s.laneOp c.val w (.alu .remu w32 d a b))

/-- ADDI. -/
def execAddi (c : Fin 16) (w : Lane) (d : BitVec 5) (a : BitVec 5) (imm : BitVec 16) (s : State) : Host.Outcome State Fault Refusal :=
  done (s.laneOp c.val w (.imm .addi d a imm))

/-- ANDI. -/
def execAndi (c : Fin 16) (w : Lane) (d : BitVec 5) (a : BitVec 5) (imm : BitVec 16) (s : State) : Host.Outcome State Fault Refusal :=
  done (s.laneOp c.val w (.imm .andi d a imm))

/-- ORI. -/
def execOri (c : Fin 16) (w : Lane) (d : BitVec 5) (a : BitVec 5) (imm : BitVec 16) (s : State) : Host.Outcome State Fault Refusal :=
  done (s.laneOp c.val w (.imm .ori d a imm))

/-- XORI. -/
def execXori (c : Fin 16) (w : Lane) (d : BitVec 5) (a : BitVec 5) (imm : BitVec 16) (s : State) : Host.Outcome State Fault Refusal :=
  done (s.laneOp c.val w (.imm .xori d a imm))

/-- SLTI. -/
def execSlti (c : Fin 16) (w : Lane) (d : BitVec 5) (a : BitVec 5) (imm : BitVec 16) (s : State) : Host.Outcome State Fault Refusal :=
  done (s.laneOp c.val w (.imm .slti d a imm))

/-- SLTIU. -/
def execSltiu (c : Fin 16) (w : Lane) (d : BitVec 5) (a : BitVec 5) (imm : BitVec 16) (s : State) : Host.Outcome State Fault Refusal :=
  done (s.laneOp c.val w (.imm .sltiu d a imm))

/-- SHI_SLL. -/
def execShiSll (c : Fin 16) (w : Lane) (d : BitVec 5) (a : BitVec 5) (amount : BitVec 6) (s : State) : Host.Outcome State Fault Refusal :=
  done (s.laneOp c.val w (.shift .sll d a amount))

/-- SHI_SRL. -/
def execShiSrl (c : Fin 16) (w : Lane) (d : BitVec 5) (a : BitVec 5) (amount : BitVec 6) (s : State) : Host.Outcome State Fault Refusal :=
  done (s.laneOp c.val w (.shift .srl d a amount))

/-- SHI_SRA. -/
def execShiSra (c : Fin 16) (w : Lane) (d : BitVec 5) (a : BitVec 5) (amount : BitVec 6) (s : State) : Host.Outcome State Fault Refusal :=
  done (s.laneOp c.val w (.shift .sra d a amount))

/-- LUI. -/
def execLui (c : Fin 16) (w : Lane) (d : BitVec 5) (imm : BitVec 16) (s : State) : Host.Outcome State Fault Refusal :=
  done (s.laneOp c.val w (.lui d imm))

/-- FADD. -/
def execFadd (c : Fin 16) (w : Lane) (d : BitVec 5) (a : BitVec 5) (b : BitVec 5) (s : State) : Host.Outcome State Fault Refusal :=
  done (s.laneOp c.val w (.fpu .fadd d a b))

/-- FSUB. -/
def execFsub (c : Fin 16) (w : Lane) (d : BitVec 5) (a : BitVec 5) (b : BitVec 5) (s : State) : Host.Outcome State Fault Refusal :=
  done (s.laneOp c.val w (.fpu .fsub d a b))

/-- FMUL. -/
def execFmul (c : Fin 16) (w : Lane) (d : BitVec 5) (a : BitVec 5) (b : BitVec 5) (s : State) : Host.Outcome State Fault Refusal :=
  done (s.laneOp c.val w (.fpu .fmul d a b))

/-- FDIV. -/
def execFdiv (c : Fin 16) (w : Lane) (d : BitVec 5) (a : BitVec 5) (b : BitVec 5) (s : State) : Host.Outcome State Fault Refusal :=
  done (s.laneOp c.val w (.fpu .fdiv d a b))

/-- FSQRT. -/
def execFsqrt (c : Fin 16) (w : Lane) (d : BitVec 5) (a : BitVec 5) (s : State) : Host.Outcome State Fault Refusal :=
  done (s.laneOp c.val w (.fpu .fsqrt d a 0))

/-- FMIN. -/
def execFmin (c : Fin 16) (w : Lane) (d : BitVec 5) (a : BitVec 5) (b : BitVec 5) (s : State) : Host.Outcome State Fault Refusal :=
  done (s.laneOp c.val w (.fpu .fmin d a b))

/-- FMAX. -/
def execFmax (c : Fin 16) (w : Lane) (d : BitVec 5) (a : BitVec 5) (b : BitVec 5) (s : State) : Host.Outcome State Fault Refusal :=
  done (s.laneOp c.val w (.fpu .fmax d a b))

/-- FABS. -/
def execFabs (c : Fin 16) (w : Lane) (d : BitVec 5) (a : BitVec 5) (s : State) : Host.Outcome State Fault Refusal :=
  done (s.laneOp c.val w (.fpu .fabs d a 0))

/-- FNEG. -/
def execFneg (c : Fin 16) (w : Lane) (d : BitVec 5) (a : BitVec 5) (s : State) : Host.Outcome State Fault Refusal :=
  done (s.laneOp c.val w (.fpu .fneg d a 0))

/-- FLT. -/
def execFlt (c : Fin 16) (w : Lane) (d : BitVec 5) (a : BitVec 5) (b : BitVec 5) (s : State) : Host.Outcome State Fault Refusal :=
  done (s.laneOp c.val w (.fpu .flt d a b))

/-- FLE. -/
def execFle (c : Fin 16) (w : Lane) (d : BitVec 5) (a : BitVec 5) (b : BitVec 5) (s : State) : Host.Outcome State Fault Refusal :=
  done (s.laneOp c.val w (.fpu .fle d a b))

/-- FEQ. -/
def execFeq (c : Fin 16) (w : Lane) (d : BitVec 5) (a : BitVec 5) (b : BitVec 5) (s : State) : Host.Outcome State Fault Refusal :=
  done (s.laneOp c.val w (.fpu .feq d a b))

/-- I2F. -/
def execI2f (c : Fin 16) (w : Lane) (d : BitVec 5) (a : BitVec 5) (s : State) : Host.Outcome State Fault Refusal :=
  done (s.laneOp c.val w (.fpu .i2f d a 0))

/-- F2I. -/
def execF2i (c : Fin 16) (w : Lane) (d : BitVec 5) (a : BitVec 5) (s : State) : Host.Outcome State Fault Refusal :=
  done (s.laneOp c.val w (.fpu .f2i d a 0))

/-- U2F. -/
def execU2f (c : Fin 16) (w : Lane) (d : BitVec 5) (a : BitVec 5) (s : State) : Host.Outcome State Fault Refusal :=
  done (s.laneOp c.val w (.fpu .u2f d a 0))

/-- F2IT. -/
def execF2it (c : Fin 16) (w : Lane) (d : BitVec 5) (a : BitVec 5) (s : State) : Host.Outcome State Fault Refusal :=
  done (s.laneOp c.val w (.fpu .f2it d a 0))

/-- END. -/
def execEndExec (c : Fin 16) (w : Lane) (s : State) : Host.Outcome State Fault Refusal :=
  done (s.laneOp c.val w .endOp)

/-- TOK. -/
def execTok (c : Fin 16) (w : Lane) (imm : BitVec 12) (s : State) : Host.Outcome State Fault Refusal :=
  done (s.laneOp c.val w (.tok imm))

/-- GETT. -/
def execGett (c : Fin 16) (w : Lane) (d : BitVec 5) (a : BitVec 5) (s : State) : Host.Outcome State Fault Refusal :=
  done (s.laneOp c.val w (.gett d a))

/-- SETT. -/
def execSett (c : Fin 16) (w : Lane) (d : BitVec 5) (a : BitVec 5) (s : State) : Host.Outcome State Fault Refusal :=
  done (s.laneOp c.val w (.sett d a))

/-- JOINT. -/
def execJoint (c : Fin 16) (w : Lane) (d : BitVec 5) (a : BitVec 5) (s : State) : Host.Outcome State Fault Refusal :=
  done (s.laneOp c.val w (.joint d a))

/-- JR. -/
def execJr (c : Fin 16) (w : Lane) (a : BitVec 5) (s : State) : Host.Outcome State Fault Refusal :=
  done (s.laneOp c.val w (.jr a))

/-- CYC. -/
def execCyc (c : Fin 16) (w : Lane) (d : BitVec 5) (s : State) : Host.Outcome State Fault Refusal :=
  done (s.laneOp c.val w (.cyc d))

/-- T0NS. -/
def execT0ns (c : Fin 16) (w : Lane) (d : BitVec 5) (s : State) : Host.Outcome State Fault Refusal :=
  done (s.laneOp c.val w (.t0ns d))

/-- FIRST. -/
def execFirst (c : Fin 16) (w : Lane) (d : BitVec 5) (s : State) : Host.Outcome State Fault Refusal :=
  done (s.laneOp c.val w (.first d))

/-- RPOLL. -/
def execRpoll (c : Fin 16) (w : Lane) (d : BitVec 5) (a : BitVec 5) (imm : BitVec 12) (s : State) : Host.Outcome State Fault Refusal :=
  done (s.laneOp c.val w (.rpoll d a imm))

/-- RPUT. -/
def execRput (c : Fin 16) (w : Lane) (d : BitVec 5) (a : BitVec 5) (imm : BitVec 12) (s : State) : Host.Outcome State Fault Refusal :=
  done (s.laneOp c.val w (.rput d a imm))

/-- PERIOD. -/
def execPeriod (c : Fin 16) (w : Lane) (d : BitVec 5) (s : State) : Host.Outcome State Fault Refusal :=
  done (s.laneOp c.val w (.period d))

/-- J. -/
def execJ (c : Fin 16) (w : Lane) (off : BitVec 26) (s : State) : Host.Outcome State Fault Refusal :=
  done (s.laneOp c.val w (.jump off))

/-- CALL. -/
def execCall (c : Fin 16) (w : Lane) (off : BitVec 26) (s : State) : Host.Outcome State Fault Refusal :=
  done (s.laneOp c.val w (.call off))

/-- LDB. -/
def execLdb (c : Fin 16) (w : Lane) (d : BitVec 5) (a : BitVec 5) (imm : BitVec 16) (s : State) : Host.Outcome State Fault Refusal :=
  done (s.laneOp c.val w (.load 1 d a imm))

/-- LDH. -/
def execLdh (c : Fin 16) (w : Lane) (d : BitVec 5) (a : BitVec 5) (imm : BitVec 16) (s : State) : Host.Outcome State Fault Refusal :=
  done (s.laneOp c.val w (.load 2 d a imm))

/-- LDW. -/
def execLdw (c : Fin 16) (w : Lane) (d : BitVec 5) (a : BitVec 5) (imm : BitVec 16) (s : State) : Host.Outcome State Fault Refusal :=
  done (s.laneOp c.val w (.load 4 d a imm))

/-- LDD. -/
def execLdd (c : Fin 16) (w : Lane) (d : BitVec 5) (a : BitVec 5) (imm : BitVec 16) (s : State) : Host.Outcome State Fault Refusal :=
  done (s.laneOp c.val w (.load 8 d a imm))

/-- STB. -/
def execStb (c : Fin 16) (w : Lane) (d : BitVec 5) (a : BitVec 5) (imm : BitVec 16) (s : State) : Host.Outcome State Fault Refusal :=
  done (s.laneOp c.val w (.store 1 d a imm))

/-- STH. -/
def execSth (c : Fin 16) (w : Lane) (d : BitVec 5) (a : BitVec 5) (imm : BitVec 16) (s : State) : Host.Outcome State Fault Refusal :=
  done (s.laneOp c.val w (.store 2 d a imm))

/-- STW. -/
def execStw (c : Fin 16) (w : Lane) (d : BitVec 5) (a : BitVec 5) (imm : BitVec 16) (s : State) : Host.Outcome State Fault Refusal :=
  done (s.laneOp c.val w (.store 4 d a imm))

/-- STD. -/
def execStd (c : Fin 16) (w : Lane) (d : BitVec 5) (a : BitVec 5) (imm : BitVec 16) (s : State) : Host.Outcome State Fault Refusal :=
  done (s.laneOp c.val w (.store 8 d a imm))

/-- ILDB. -/
def execIldb (c : Fin 16) (w : Lane) (d : BitVec 5) (a : BitVec 5) (imm : BitVec 16) (s : State) : Host.Outcome State Fault Refusal :=
  done (s.laneOp c.val w (.iload 1 d a imm))

/-- ILDH. -/
def execIldh (c : Fin 16) (w : Lane) (d : BitVec 5) (a : BitVec 5) (imm : BitVec 16) (s : State) : Host.Outcome State Fault Refusal :=
  done (s.laneOp c.val w (.iload 2 d a imm))

/-- ILDW. -/
def execIldw (c : Fin 16) (w : Lane) (d : BitVec 5) (a : BitVec 5) (imm : BitVec 16) (s : State) : Host.Outcome State Fault Refusal :=
  done (s.laneOp c.val w (.iload 4 d a imm))

/-- ILDD. -/
def execIldd (c : Fin 16) (w : Lane) (d : BitVec 5) (a : BitVec 5) (imm : BitVec 16) (s : State) : Host.Outcome State Fault Refusal :=
  done (s.laneOp c.val w (.iload 8 d a imm))

/-- ISTB. -/
def execIstb (c : Fin 16) (w : Lane) (d : BitVec 5) (a : BitVec 5) (imm : BitVec 16) (s : State) : Host.Outcome State Fault Refusal :=
  done (s.laneOp c.val w (.istore 1 d a imm))

/-- ISTH. -/
def execIsth (c : Fin 16) (w : Lane) (d : BitVec 5) (a : BitVec 5) (imm : BitVec 16) (s : State) : Host.Outcome State Fault Refusal :=
  done (s.laneOp c.val w (.istore 2 d a imm))

/-- ISTW. -/
def execIstw (c : Fin 16) (w : Lane) (d : BitVec 5) (a : BitVec 5) (imm : BitVec 16) (s : State) : Host.Outcome State Fault Refusal :=
  done (s.laneOp c.val w (.istore 4 d a imm))

/-- ISTD. -/
def execIstd (c : Fin 16) (w : Lane) (d : BitVec 5) (a : BitVec 5) (imm : BitVec 16) (s : State) : Host.Outcome State Fault Refusal :=
  done (s.laneOp c.val w (.istore 8 d a imm))

/-- LDS. -/
def execLds (c : Fin 16) (w : Lane) (d : BitVec 5) (a : BitVec 5) (imm : BitVec 16) (s : State) : Host.Outcome State Fault Refusal :=
  done (s.laneOp c.val w (.lds false d a imm))

/-- LDSX. -/
def execLdsx (c : Fin 16) (w : Lane) (d : BitVec 5) (a : BitVec 5) (imm : BitVec 16) (s : State) : Host.Outcome State Fault Refusal :=
  done (s.laneOp c.val w (.lds true d a imm))

/-- STS. -/
def execSts (c : Fin 16) (w : Lane) (d : BitVec 5) (a : BitVec 5) (imm : BitVec 16) (s : State) : Host.Outcome State Fault Refusal :=
  done (s.laneOp c.val w (.sts d a imm))

/-- BEQ. -/
def execBeq (c : Fin 16) (w : Lane) (a : BitVec 5) (b : BitVec 5) (off : BitVec 16) (s : State) : Host.Outcome State Fault Refusal :=
  done (s.laneOp c.val w (.branch .eq a b off))

/-- BNE. -/
def execBne (c : Fin 16) (w : Lane) (a : BitVec 5) (b : BitVec 5) (off : BitVec 16) (s : State) : Host.Outcome State Fault Refusal :=
  done (s.laneOp c.val w (.branch .ne a b off))

/-- BLT. -/
def execBlt (c : Fin 16) (w : Lane) (a : BitVec 5) (b : BitVec 5) (off : BitVec 16) (s : State) : Host.Outcome State Fault Refusal :=
  done (s.laneOp c.val w (.branch .lt a b off))

/-- BGE. -/
def execBge (c : Fin 16) (w : Lane) (a : BitVec 5) (b : BitVec 5) (off : BitVec 16) (s : State) : Host.Outcome State Fault Refusal :=
  done (s.laneOp c.val w (.branch .ge a b off))

/-- BLTU. -/
def execBltu (c : Fin 16) (w : Lane) (a : BitVec 5) (b : BitVec 5) (off : BitVec 16) (s : State) : Host.Outcome State Fault Refusal :=
  done (s.laneOp c.val w (.branch .ltu a b off))

/-- BGEU. -/
def execBgeu (c : Fin 16) (w : Lane) (a : BitVec 5) (b : BitVec 5) (off : BitVec 16) (s : State) : Host.Outcome State Fault Refusal :=
  done (s.laneOp c.val w (.branch .geu a b off))

/-- BBAD. -/
def execBbad (c : Fin 16) (w : Lane) (a : BitVec 5) (off : BitVec 16) (s : State) : Host.Outcome State Fault Refusal :=
  done (s.laneOp c.val w (.branchTag true a off))

/-- BOK. -/
def execBok (c : Fin 16) (w : Lane) (a : BitVec 5) (off : BitVec 16) (s : State) : Host.Outcome State Fault Refusal :=
  done (s.laneOp c.val w (.branchTag false a off))

/-- ILLEGAL_INSTRUCTION (R142). -/
def execIllegalInstruction (c : Fin 16) (w : Lane) (word : Word) (s : State) : Host.Outcome State Fault Refusal :=
  done (s.laneIllegal c.val w word)

end Sys2Proof.Machine
end

