-- ==== Sys2Proof/Machine/Dispatch.lean ====
section
/-! DEFINITION. One arm per command. -/
namespace Sys2Proof.Machine

def exec (i : Instr) (s : State) : Host.Outcome State Fault Refusal :=
  match i with
  | .registerWrite addr v => Sys2Proof.Machine.execRegisterWrite addr v s
  | .registerBadAccess addr len isWrite => Sys2Proof.Machine.execRegisterBadAccess addr len isWrite s
  | .signalTableHostWrite addr v => Sys2Proof.Machine.execSignalTableHostWrite addr v s
  | .startCommand => Sys2Proof.Machine.execStartCommand s
  | .stopCommand => Sys2Proof.Machine.execStopCommand s
  | .enterServiceCommand => Sys2Proof.Machine.execEnterServiceCommand s
  | .leaveServiceCommand => Sys2Proof.Machine.execLeaveServiceCommand s
  | .modeTransitionEffect => Sys2Proof.Machine.execModeTransitionEffect s
  | .baseTick => Sys2Proof.Machine.execBaseTick s
  | .presentNLow => Sys2Proof.Machine.execPresentNLow s
  | .presentNDebounced => Sys2Proof.Machine.execPresentNDebounced s
  | .mainPathOn => Sys2Proof.Machine.execMainPathOn s
  | .extraction => Sys2Proof.Machine.execExtraction s
  | .withdrawalAborted => Sys2Proof.Machine.execWithdrawalAborted s
  | .supplyInterrupt vin => Sys2Proof.Machine.execSupplyInterrupt vin s
  | .supplyReturn lenUs vin => Sys2Proof.Machine.execSupplyReturn lenUs vin s
  | .dataSave => Sys2Proof.Machine.execDataSave s
  | .pwrInputLow vin => Sys2Proof.Machine.execPwrInputLow vin s
  | .holdupFull => Sys2Proof.Machine.execHoldupFull s
  | .lampTestEnd => Sys2Proof.Machine.execLampTestEnd s
  | .selectPress => Sys2Proof.Machine.execSelectPress s
  | .zeroHold => Sys2Proof.Machine.execZeroHold s
  | .spanHold => Sys2Proof.Machine.execSpanHold s
  | .coverOpen => Sys2Proof.Machine.execCoverOpen s
  | .coverClose => Sys2Proof.Machine.execCoverClose s
  | .strappedRefTaken => Sys2Proof.Machine.execStrappedRefTaken s
  | .refSwitchDone => Sys2Proof.Machine.execRefSwitchDone s
  | .clkRefLost => Sys2Proof.Machine.execClkRefLost s
  | .refRestore v => Sys2Proof.Machine.execRefRestore v s
  | .squeezeRatioChange => Sys2Proof.Machine.execSqueezeRatioChange s
  | .clkMonWindow x count => Sys2Proof.Machine.execClkMonWindow x count s
  | .pllLockLoss => Sys2Proof.Machine.execPllLockLoss s
  | .ownOscCheck count => Sys2Proof.Machine.execOwnOscCheck count s
  | .porAssert => Sys2Proof.Machine.execPorAssert s
  | .porRelease => Sys2Proof.Machine.execPorRelease s
  | .borRelease => Sys2Proof.Machine.execBorRelease s
  | .pinAccept => Sys2Proof.Machine.execPinAccept s
  | .pinRelease => Sys2Proof.Machine.execPinRelease s
  | .watchdogExpiry => Sys2Proof.Machine.execWatchdogExpiry s
  | .wdtKick v => Sys2Proof.Machine.execWdtKick v s
  | .kickArmTimeout => Sys2Proof.Machine.execKickArmTimeout s
  | .wdtCtrlWrite v => Sys2Proof.Machine.execWdtCtrlWrite v s
  | .rstSwReq v => Sys2Proof.Machine.execRstSwReq v s
  | .resetPulseEnd src => Sys2Proof.Machine.execResetPulseEnd src s
  | .dbgResetRequest => Sys2Proof.Machine.execDbgResetRequest s
  | .dbgResetRelease => Sys2Proof.Machine.execDbgResetRelease s
  | .clkfRelease => Sys2Proof.Machine.execClkfRelease s
  | .lockup pair kind => Sys2Proof.Machine.execLockup pair kind s
  | .moduleResetRelease sample => Sys2Proof.Machine.execModuleResetRelease sample s
  | .rstCauseClear v => Sys2Proof.Machine.execRstCauseClear v s
  | .blockResetRequest b v outstanding => Sys2Proof.Machine.execBlockResetRequest b v outstanding s
  | .gateDrainEnd b => Sys2Proof.Machine.execGateDrainEnd b s
  | .gateResetRelease b => Sys2Proof.Machine.execGateResetRelease b s
  | .gateOpen b => Sys2Proof.Machine.execGateOpen b s
  | .gateBlockIdle b => Sys2Proof.Machine.execGateBlockIdle b s
  | .gateQuiesceTimeout b => Sys2Proof.Machine.execGateQuiesceTimeout b s
  | .gateRelease b v => Sys2Proof.Machine.execGateRelease b v s
  | .firmwareCandidateVerified passed failCode iface store => Sys2Proof.Machine.execFirmwareCandidateVerified passed failCode iface store s
  | .loadScrubDone comparatorFail => Sys2Proof.Machine.execLoadScrubDone comparatorFail s
  | .trimLoadDone report => Sys2Proof.Machine.execTrimLoadDone report s
  | .linkWaitExpiry => Sys2Proof.Machine.execLinkWaitExpiry s
  | .surveyLoadDone bank generation survey => Sys2Proof.Machine.execSurveyLoadDone bank generation survey s
  | .loadExit => Sys2Proof.Machine.execLoadExit s
  | .sequencerStart => Sys2Proof.Machine.execSequencerStart s
  | .surveyBankWrite bank off data => Sys2Proof.Machine.execSurveyBankWrite bank off data s
  | .scrubEccError bank uncorrectable off => Sys2Proof.Machine.execScrubEccError bank uncorrectable off s
  | .freeze t captures => Sys2Proof.Machine.execFreeze t captures s
  | .fabricTransfer e => Sys2Proof.Machine.execFabricTransfer e s
  | .executionStart c t errors => Sys2Proof.Machine.execExecutionStart c t errors s
  | .add c w w32 d a b => Sys2Proof.Machine.execAdd c w w32 d a b s
  | .sub c w w32 d a b => Sys2Proof.Machine.execSub c w w32 d a b s
  | .land c w w32 d a b => Sys2Proof.Machine.execLand c w w32 d a b s
  | .lor c w w32 d a b => Sys2Proof.Machine.execLor c w w32 d a b s
  | .lxor c w w32 d a b => Sys2Proof.Machine.execLxor c w w32 d a b s
  | .sll c w w32 d a b => Sys2Proof.Machine.execSll c w w32 d a b s
  | .srl c w w32 d a b => Sys2Proof.Machine.execSrl c w w32 d a b s
  | .sra c w w32 d a b => Sys2Proof.Machine.execSra c w w32 d a b s
  | .slt c w w32 d a b => Sys2Proof.Machine.execSlt c w w32 d a b s
  | .sltu c w w32 d a b => Sys2Proof.Machine.execSltu c w w32 d a b s
  | .min c w w32 d a b => Sys2Proof.Machine.execMin c w w32 d a b s
  | .max c w w32 d a b => Sys2Proof.Machine.execMax c w w32 d a b s
  | .minu c w w32 d a b => Sys2Proof.Machine.execMinu c w w32 d a b s
  | .maxu c w w32 d a b => Sys2Proof.Machine.execMaxu c w w32 d a b s
  | .mul c w w32 d a b => Sys2Proof.Machine.execMul c w w32 d a b s
  | .mulh c w w32 d a b => Sys2Proof.Machine.execMulh c w w32 d a b s
  | .mulhu c w w32 d a b => Sys2Proof.Machine.execMulhu c w w32 d a b s
  | .div c w w32 d a b => Sys2Proof.Machine.execDiv c w w32 d a b s
  | .divu c w w32 d a b => Sys2Proof.Machine.execDivu c w w32 d a b s
  | .rem c w w32 d a b => Sys2Proof.Machine.execRem c w w32 d a b s
  | .remu c w w32 d a b => Sys2Proof.Machine.execRemu c w w32 d a b s
  | .addi c w d a imm => Sys2Proof.Machine.execAddi c w d a imm s
  | .andi c w d a imm => Sys2Proof.Machine.execAndi c w d a imm s
  | .ori c w d a imm => Sys2Proof.Machine.execOri c w d a imm s
  | .xori c w d a imm => Sys2Proof.Machine.execXori c w d a imm s
  | .slti c w d a imm => Sys2Proof.Machine.execSlti c w d a imm s
  | .sltiu c w d a imm => Sys2Proof.Machine.execSltiu c w d a imm s
  | .shiSll c w d a amount => Sys2Proof.Machine.execShiSll c w d a amount s
  | .shiSrl c w d a amount => Sys2Proof.Machine.execShiSrl c w d a amount s
  | .shiSra c w d a amount => Sys2Proof.Machine.execShiSra c w d a amount s
  | .lui c w d imm => Sys2Proof.Machine.execLui c w d imm s
  | .fadd c w d a b => Sys2Proof.Machine.execFadd c w d a b s
  | .fsub c w d a b => Sys2Proof.Machine.execFsub c w d a b s
  | .fmul c w d a b => Sys2Proof.Machine.execFmul c w d a b s
  | .fdiv c w d a b => Sys2Proof.Machine.execFdiv c w d a b s
  | .fsqrt c w d a => Sys2Proof.Machine.execFsqrt c w d a s
  | .fmin c w d a b => Sys2Proof.Machine.execFmin c w d a b s
  | .fmax c w d a b => Sys2Proof.Machine.execFmax c w d a b s
  | .fabs c w d a => Sys2Proof.Machine.execFabs c w d a s
  | .fneg c w d a => Sys2Proof.Machine.execFneg c w d a s
  | .flt c w d a b => Sys2Proof.Machine.execFlt c w d a b s
  | .fle c w d a b => Sys2Proof.Machine.execFle c w d a b s
  | .feq c w d a b => Sys2Proof.Machine.execFeq c w d a b s
  | .i2f c w d a => Sys2Proof.Machine.execI2f c w d a s
  | .f2i c w d a => Sys2Proof.Machine.execF2i c w d a s
  | .u2f c w d a => Sys2Proof.Machine.execU2f c w d a s
  | .f2it c w d a => Sys2Proof.Machine.execF2it c w d a s
  | .endExec c w => Sys2Proof.Machine.execEndExec c w s
  | .tok c w imm => Sys2Proof.Machine.execTok c w imm s
  | .gett c w d a => Sys2Proof.Machine.execGett c w d a s
  | .sett c w d a => Sys2Proof.Machine.execSett c w d a s
  | .joint c w d a => Sys2Proof.Machine.execJoint c w d a s
  | .jr c w a => Sys2Proof.Machine.execJr c w a s
  | .cyc c w d => Sys2Proof.Machine.execCyc c w d s
  | .t0ns c w d => Sys2Proof.Machine.execT0ns c w d s
  | .first c w d => Sys2Proof.Machine.execFirst c w d s
  | .rpoll c w d a imm => Sys2Proof.Machine.execRpoll c w d a imm s
  | .rput c w d a imm => Sys2Proof.Machine.execRput c w d a imm s
  | .period c w d => Sys2Proof.Machine.execPeriod c w d s
  | .j c w off => Sys2Proof.Machine.execJ c w off s
  | .call c w off => Sys2Proof.Machine.execCall c w off s
  | .ldb c w d a imm => Sys2Proof.Machine.execLdb c w d a imm s
  | .ldh c w d a imm => Sys2Proof.Machine.execLdh c w d a imm s
  | .ldw c w d a imm => Sys2Proof.Machine.execLdw c w d a imm s
  | .ldd c w d a imm => Sys2Proof.Machine.execLdd c w d a imm s
  | .stb c w d a imm => Sys2Proof.Machine.execStb c w d a imm s
  | .sth c w d a imm => Sys2Proof.Machine.execSth c w d a imm s
  | .stw c w d a imm => Sys2Proof.Machine.execStw c w d a imm s
  | .std c w d a imm => Sys2Proof.Machine.execStd c w d a imm s
  | .ildb c w d a imm => Sys2Proof.Machine.execIldb c w d a imm s
  | .ildh c w d a imm => Sys2Proof.Machine.execIldh c w d a imm s
  | .ildw c w d a imm => Sys2Proof.Machine.execIldw c w d a imm s
  | .ildd c w d a imm => Sys2Proof.Machine.execIldd c w d a imm s
  | .istb c w d a imm => Sys2Proof.Machine.execIstb c w d a imm s
  | .isth c w d a imm => Sys2Proof.Machine.execIsth c w d a imm s
  | .istw c w d a imm => Sys2Proof.Machine.execIstw c w d a imm s
  | .istd c w d a imm => Sys2Proof.Machine.execIstd c w d a imm s
  | .lds c w d a imm => Sys2Proof.Machine.execLds c w d a imm s
  | .ldsx c w d a imm => Sys2Proof.Machine.execLdsx c w d a imm s
  | .sts c w d a imm => Sys2Proof.Machine.execSts c w d a imm s
  | .beq c w a b off => Sys2Proof.Machine.execBeq c w a b off s
  | .bne c w a b off => Sys2Proof.Machine.execBne c w a b off s
  | .blt c w a b off => Sys2Proof.Machine.execBlt c w a b off s
  | .bge c w a b off => Sys2Proof.Machine.execBge c w a b off s
  | .bltu c w a b off => Sys2Proof.Machine.execBltu c w a b off s
  | .bgeu c w a b off => Sys2Proof.Machine.execBgeu c w a b off s
  | .bbad c w a off => Sys2Proof.Machine.execBbad c w a off s
  | .bok c w a off => Sys2Proof.Machine.execBok c w a off s
  | .illegalInstruction c w word => Sys2Proof.Machine.execIllegalInstruction c w word s
  | .breakpointHalt c => Sys2Proof.Machine.execBreakpointHalt c s
  | .comparison c errors => Sys2Proof.Machine.execComparison c errors s
  | .codeRefreshEnd c bankError => Sys2Proof.Machine.execCodeRefreshEnd c bankError s
  | .commitStart c t => Sys2Proof.Machine.execCommitStart c t s
  | .commitEnd => Sys2Proof.Machine.execCommitEnd s
  | .cycleOutcome t => Sys2Proof.Machine.execCycleOutcome t s
  | .reexecAbandon c => Sys2Proof.Machine.execReexecAbandon c s
  | .emit t => Sys2Proof.Machine.execEmit t s
  | .taskHoldReq t v => Sys2Proof.Machine.execTaskHoldReq t v s
  | .taskResume t v => Sys2Proof.Machine.execTaskResume t v s
  | .taskResumeBoundary t => Sys2Proof.Machine.execTaskResumeBoundary t s
  | .taskClrStats t v => Sys2Proof.Machine.execTaskClrStats t v s
  | .galClrStats v => Sys2Proof.Machine.execGalClrStats v s
  | .chamberDozeWake c => Sys2Proof.Machine.execChamberDozeWake c s
  | .deferredBlockReset c => Sys2Proof.Machine.execDeferredBlockReset c s
  | .mismatchLeak c => Sys2Proof.Machine.execMismatchLeak c s
  | .dbgHaltReq c v => Sys2Proof.Machine.execDbgHaltReq c v s
  | .dbgResume c v => Sys2Proof.Machine.execDbgResume c v s
  | .dbgStep c v => Sys2Proof.Machine.execDbgStep c v s
  | .dbgRead => Sys2Proof.Machine.execDbgRead s
  | .dbgWrite => Sys2Proof.Machine.execDbgWrite s
  | .replayApply c => Sys2Proof.Machine.execReplayApply c s
  | .lsDbgHostAccess addr isWrite v => Sys2Proof.Machine.execLsDbgHostAccess addr isWrite v s
  | .lsInjectArm v => Sys2Proof.Machine.execLsInjectArm v s
  | .olcRequest generation survey reuse => Sys2Proof.Machine.execOlcRequest generation survey reuse s
  | .olcAreaWritten survey intact => Sys2Proof.Machine.execOlcAreaWritten survey intact s
  | .olcMigrate v => Sys2Proof.Machine.execOlcMigrate v s
  | .sweepStep index isPage uncorrectable => Sys2Proof.Machine.execSweepStep index isPage uncorrectable s
  | .olcArm v => Sys2Proof.Machine.execOlcArm v s
  | .swapAgreement => Sys2Proof.Machine.execSwapAgreement s
  | .swap => Sys2Proof.Machine.execSwap s
  | .stagingSeedDone c => Sys2Proof.Machine.execStagingSeedDone c s
  | .olcAbort v => Sys2Proof.Machine.execOlcAbort v s
  | .forceWrite v => Sys2Proof.Machine.execForceWrite v s
  | .forceClear v => Sys2Proof.Machine.execForceClear v s
  | .forceRead v => Sys2Proof.Machine.execForceRead v s
  | .forceClearAll v => Sys2Proof.Machine.execForceClearAll v s
  | .forceEffect => Sys2Proof.Machine.execForceEffect s
  | .forceStoreWrite copies => Sys2Proof.Machine.execForceStoreWrite copies s
  | .llSignalDetect x => Sys2Proof.Machine.execLlSignalDetect x s
  | .hello hdr body => Sys2Proof.Machine.execHello hdr body s
  | .helloSend => Sys2Proof.Machine.execHelloSend s
  | .trainingTimeout => Sys2Proof.Machine.execTrainingTimeout s
  | .llStatus hdr body => Sys2Proof.Machine.execLlStatus hdr body s
  | .statusSend => Sys2Proof.Machine.execStatusSend s
  | .image hdr body => Sys2Proof.Machine.execImage hdr body s
  | .outcome hdr body => Sys2Proof.Machine.execOutcome hdr body s
  | .journal hdr body => Sys2Proof.Machine.execJournal hdr body s
  | .duplex hdr body => Sys2Proof.Machine.execDuplex hdr body s
  | .command hdr body => Sys2Proof.Machine.execCommand hdr body s
  | .ack hdr body => Sys2Proof.Machine.execAck hdr body s
  | .llTime hdr body => Sys2Proof.Machine.execLlTime hdr body s
  | .timeSend => Sys2Proof.Machine.execTimeSend s
  | .bulk hdr body => Sys2Proof.Machine.execBulk hdr body s
  | .departure hdr => Sys2Proof.Machine.execDeparture hdr s
  | .relinquish f => Sys2Proof.Machine.execRelinquish f s
  | .frameGap => Sys2Proof.Machine.execFrameGap s
  | .outcomeDeadline t => Sys2Proof.Machine.execOutcomeDeadline t s
  | .pairFaultSettle => Sys2Proof.Machine.execPairFaultSettle s
  | .llLossOfSignal => Sys2Proof.Machine.execLlLossOfSignal s
  | .llSilence => Sys2Proof.Machine.execLlSilence s
  | .laneDown x => Sys2Proof.Machine.execLaneDown x s
  | .laneUp x => Sys2Proof.Machine.execLaneUp x s
  | .autoRejoin => Sys2Proof.Machine.execAutoRejoin s
  | .rejoin v => Sys2Proof.Machine.execRejoin v s
  | .joinComplete => Sys2Proof.Machine.execJoinComplete s
  | .handover v => Sys2Proof.Machine.execHandover v s
  | .handoverH => Sys2Proof.Machine.execHandoverH s
  | .revertProposal => Sys2Proof.Machine.execRevertProposal s
  | .islDownstreamFrame ch => Sys2Proof.Machine.execIslDownstreamFrame ch s
  | .islUpstreamFrame ch f => Sys2Proof.Machine.execIslUpstreamFrame ch f s
  | .islInputLatch ch l => Sys2Proof.Machine.execIslInputLatch ch l s
  | .aiConversionStart ch channels => Sys2Proof.Machine.execAiConversionStart ch channels s
  | .islOutputApply ch channels => Sys2Proof.Machine.execIslOutputApply ch channels s
  | .islFrameEnd ch noise samples readbacks => Sys2Proof.Machine.execIslFrameEnd ch noise samples readbacks s
  | .islWatchdogExpiry ch => Sys2Proof.Machine.execIslWatchdogExpiry ch s
  | .islCtrlRestart ch => Sys2Proof.Machine.execIslCtrlRestart ch s
  | .islLinkLost ch => Sys2Proof.Machine.execIslLinkLost ch s
  | .islLinkSilence ch => Sys2Proof.Machine.execIslLinkSilence ch s
  | .islChCfgWrite n analogue v => Sys2Proof.Machine.execIslChCfgWrite n analogue v s
  | .islCfgEffect => Sys2Proof.Machine.execIslCfgEffect s
  | .islCfgStoreWrite n copies => Sys2Proof.Machine.execIslCfgStoreWrite n copies s
  | .doShortTrip n => Sys2Proof.Machine.execDoShortTrip n s
  | .doRetry n => Sys2Proof.Machine.execDoRetry n s
  | .groupShed ch => Sys2Proof.Machine.execGroupShed ch s
  | .openLoadDetect n => Sys2Proof.Machine.execOpenLoadDetect n s
  | .externalDriveDetect n => Sys2Proof.Machine.execExternalDriveDetect n s
  | .supplyWarn ch volts => Sys2Proof.Machine.execSupplyWarn ch volts s
  | .supplyWarnEnd ch volts => Sys2Proof.Machine.execSupplyWarnEnd ch volts s
  | .supplyLockout ch volts => Sys2Proof.Machine.execSupplyLockout ch volts s
  | .supplyRecovering ch volts => Sys2Proof.Machine.execSupplyRecovering ch volts s
  | .supplyRecoverFall ch volts => Sys2Proof.Machine.execSupplyRecoverFall ch volts s
  | .supplyRecovered ch volts => Sys2Proof.Machine.execSupplyRecovered ch volts s
  | .limiterLimit n => Sys2Proof.Machine.execLimiterLimit n s
  | .aiFoldback n => Sys2Proof.Machine.execAiFoldback n s
  | .limiterRelease n => Sys2Proof.Machine.execLimiterRelease n s
  | .aiConversionDone n r => Sys2Proof.Machine.execAiConversionDone n r s
  | .aiContinuousStart n => Sys2Proof.Machine.execAiContinuousStart n s
  | .aoSupervision n obs => Sys2Proof.Machine.execAoSupervision n obs s
  | .aoStepUp n => Sys2Proof.Machine.execAoStepUp n s
  | .aoStepDown n => Sys2Proof.Machine.execAoStepDown n s
  | .driveOn v => Sys2Proof.Machine.execDriveOn v s
  | .driveOff v => Sys2Proof.Machine.execDriveOff v s
  | .calTake v => Sys2Proof.Machine.execCalTake v s
  | .calDefault v => Sys2Proof.Machine.execCalDefault v s
  | .calAverageDone up => Sys2Proof.Machine.execCalAverageDone up s
  | .calDriveTimeout n => Sys2Proof.Machine.execCalDriveTimeout n s
  | .calEffect => Sys2Proof.Machine.execCalEffect s
  | .calStoreWrite n copies => Sys2Proof.Machine.execCalStoreWrite n copies s
  | .flExchangeSend e => Sys2Proof.Machine.execFlExchangeSend e s
  | .flPollSend e => Sys2Proof.Machine.execFlPollSend e s
  | .flSetSend e => Sys2Proof.Machine.execFlSetSend e s
  | .flSlowSend p free => Sys2Proof.Machine.execFlSlowSend p free s
  | .reply p f => Sys2Proof.Machine.execReply p f s
  | .slowReply p station f => Sys2Proof.Machine.execSlowReply p station f s
  | .flPartnerFrame p => Sys2Proof.Machine.execFlPartnerFrame p s
  | .flLinkDown p => Sys2Proof.Machine.execFlLinkDown p s
  | .ringPartnerTimeout p => Sys2Proof.Machine.execRingPartnerTimeout p s
  | .bbFrameRx port f => Sys2Proof.Machine.execBbFrameRx port f s
  | .bbEgressTransmit port => Sys2Proof.Machine.execBbEgressTransmit port s
  | .bbLocalTx q => Sys2Proof.Machine.execBbLocalTx q s
  | .bbRxHeldDeliver => Sys2Proof.Machine.execBbRxHeldDeliver s
  | .bbPortUp x => Sys2Proof.Machine.execBbPortUp x s
  | .bbPortDown x => Sys2Proof.Machine.execBbPortDown x s
  | .prpSupervisionSend => Sys2Proof.Machine.execPrpSupervisionSend s
  | .prpEntryForget src => Sys2Proof.Machine.execPrpEntryForget src s
  | .tcFollowUpTimeout => Sys2Proof.Machine.execTcFollowUpTimeout s
  | .ringProdWrite q v => Sys2Proof.Machine.execRingProdWrite q v s
  | .ringConsWrite q v => Sys2Proof.Machine.execRingConsWrite q v s
  | .ringCfgWrite q v => Sys2Proof.Machine.execRingCfgWrite q v s
  | .ringCoalesceExpiry q => Sys2Proof.Machine.execRingCoalesceExpiry q s
  | .canFrameRx k f => Sys2Proof.Machine.execCanFrameRx k f s
  | .canRemoteFrame k f => Sys2Proof.Machine.execCanRemoteFrame k f s
  | .canTxAttempt k => Sys2Proof.Machine.execCanTxAttempt k s
  | .canTxComplete k => Sys2Proof.Machine.execCanTxComplete k s
  | .canArbLost k => Sys2Proof.Machine.execCanArbLost k s
  | .canError k kind transmitting primary => Sys2Proof.Machine.execCanError k kind transmitting primary s
  | .canRecoveryDone k => Sys2Proof.Machine.execCanRecoveryDone k s
  | .txreq k m v => Sys2Proof.Machine.execTxreq k m v s
  | .cancel k m v => Sys2Proof.Machine.execCancel k m v s
  | .cancelReachesEngine k m => Sys2Proof.Machine.execCancelReachesEngine k m s
  | .canRecover k v => Sys2Proof.Machine.execCanRecover k v s
  | .canTimingWrite k reg v => Sys2Proof.Machine.execCanTimingWrite k reg v s
  | .canObjWrite k m reg v => Sys2Proof.Machine.execCanObjWrite k m reg v s
  | .canRingTx k => Sys2Proof.Machine.execCanRingTx k s
  | .submit v => Sys2Proof.Machine.execSubmit v s
  | .acceptStep v => Sys2Proof.Machine.execAcceptStep v s
  | .acceptSlew v => Sys2Proof.Machine.execAcceptSlew v s
  | .timeDiscard v => Sys2Proof.Machine.execTimeDiscard v s
  | .timeStepInstant => Sys2Proof.Machine.execTimeStepInstant s
  | .timeHoldover => Sys2Proof.Machine.execTimeHoldover s
  | .ptpLanChange => Sys2Proof.Machine.execPtpLanChange s
  | .dripFire d => Sys2Proof.Machine.execDripFire d s
  | .dripArm d v => Sys2Proof.Machine.execDripArm d v s
  | .dripDisarm d v => Sys2Proof.Machine.execDripDisarm d v s
  | .captureEdge k level => Sys2Proof.Machine.execCaptureEdge k level s
  | .hostAccess a => Sys2Proof.Machine.execHostAccess a s
  | .guardRuleWrite addr v outstanding => Sys2Proof.Machine.execGuardRuleWrite addr v outstanding s
  | .guardDrainEnd u => Sys2Proof.Machine.execGuardDrainEnd u s
  | .guardDrainTimeout u aborted => Sys2Proof.Machine.execGuardDrainTimeout u aborted s
  | .sumpOccurrence src inst sub => Sys2Proof.Machine.execSumpOccurrence src inst sub s
  | .sumpForce src v => Sys2Proof.Machine.execSumpForce src v s
  | .sumpFlagClear src v => Sys2Proof.Machine.execSumpFlagClear src v s
  | .sumpModuleReset => Sys2Proof.Machine.execSumpModuleReset s
  | .flsRecordWrite errors => Sys2Proof.Machine.execFlsRecordWrite errors s
  | .flsWriteGo v => Sys2Proof.Machine.execFlsWriteGo v s
  | .flsErase v => Sys2Proof.Machine.execFlsErase v s
  | .flsSeek v => Sys2Proof.Machine.execFlsSeek v s
  | .flsSeekDone => Sys2Proof.Machine.execFlsSeekDone s
  | .optimeCopy => Sys2Proof.Machine.execOptimeCopy s
  | .droopDetect reading => Sys2Proof.Machine.execDroopDetect reading s
  | .squeezeStepDown => Sys2Proof.Machine.execSqueezeStepDown s
  | .coreRailBrownOut => Sys2Proof.Machine.execCoreRailBrownOut s
  | .thermalRatioChange temp => Sys2Proof.Machine.execThermalRatioChange temp s
  | .holdupTest rideUs => Sys2Proof.Machine.execHoldupTest rideUs s
  | .hibernateEnterCmd v => Sys2Proof.Machine.execHibernateEnterCmd v s
  | .hibernateEntry => Sys2Proof.Machine.execHibernateEntry s
  | .wake src => Sys2Proof.Machine.execWake src s
  | .wakeAttemptFail item => Sys2Proof.Machine.execWakeAttemptFail item s
  | .wakeRetry => Sys2Proof.Machine.execWakeRetry s
  | .wakeResetRelease sample => Sys2Proof.Machine.execWakeResetRelease sample s
  | .wakeFailStall => Sys2Proof.Machine.execWakeFailStall s
  | .lifecycleGo v => Sys2Proof.Machine.execLifecycleGo v s
  | .provisionGo v => Sys2Proof.Machine.execProvisionGo v s
  | .revokeGo v => Sys2Proof.Machine.execRevokeGo v s
  | .extest => Sys2Proof.Machine.execExtest s
  | .idcode => Sys2Proof.Machine.execIdcode s
  | .samplePreload => Sys2Proof.Machine.execSamplePreload s
  | .authNonce => Sys2Proof.Machine.execAuthNonce s
  | .authResp level verdict => Sys2Proof.Machine.execAuthResp level verdict s
  | .authDecision => Sys2Proof.Machine.execAuthDecision s
  | .authLockoutEnd => Sys2Proof.Machine.execAuthLockoutEnd s
  | .dap a => Sys2Proof.Machine.execDap a s
  | .secStat => Sys2Proof.Machine.execSecStat s
  | .bypass => Sys2Proof.Machine.execBypass s
  | .tapReset => Sys2Proof.Machine.execTapReset s
  | .debugIdleTimeout => Sys2Proof.Machine.execDebugIdleTimeout s
  | .engConnectionAttempt => Sys2Proof.Machine.execEngConnectionAttempt s
  | .engSessionOpen remote certHash => Sys2Proof.Machine.execEngSessionOpen remote certHash s
  | .engSessionTimeout => Sys2Proof.Machine.execEngSessionTimeout s
  | .engSessionClose => Sys2Proof.Machine.execEngSessionClose s
  | .updBegin v => Sys2Proof.Machine.execUpdBegin v s
  | .updWrite v => Sys2Proof.Machine.execUpdWrite v s
  | .updEnd v => Sys2Proof.Machine.execUpdEnd v s
  | .updDiscard v => Sys2Proof.Machine.execUpdDiscard v s
  | .capsuleVerified capsule => Sys2Proof.Machine.execCapsuleVerified capsule s
  | .healthConfirm v => Sys2Proof.Machine.execHealthConfirm v s
  | .healthWindowExpiry => Sys2Proof.Machine.execHealthWindowExpiry s
  | .fallbackReset => Sys2Proof.Machine.execFallbackReset s
  | .islandUpdateGo v => Sys2Proof.Machine.execIslandUpdateGo v s
  | .islandImageTransferred ok => Sys2Proof.Machine.execIslandImageTransferred ok s
  | .islandUpdateTimeout => Sys2Proof.Machine.execIslandUpdateTimeout s
  | .recoveryTftpWrite capsule => Sys2Proof.Machine.execRecoveryTftpWrite capsule s
  | .tpStart v => Sys2Proof.Machine.execTpStart v s
  | .tpStop v => Sys2Proof.Machine.execTpStop v s
  | .tpKindEffect kind => Sys2Proof.Machine.execTpKindEffect kind s
  | .tpDurationExpiry => Sys2Proof.Machine.execTpDurationExpiry s
  | .tpHeldFrameDeliver => Sys2Proof.Machine.execTpHeldFrameDeliver s
  | .ioRailBrownOut => Sys2Proof.Machine.execIoRailBrownOut s
  | .flLinkUp report => Sys2Proof.Machine.execFlLinkUp report s
  | .doCurrentLimit n => Sys2Proof.Machine.execDoCurrentLimit n s
  | .doRetryGood n => Sys2Proof.Machine.execDoRetryGood n s
  | .openLoadClear n => Sys2Proof.Machine.execOpenLoadClear n s
  | .externalDriveClear n => Sys2Proof.Machine.execExternalDriveClear n s
  | .decommissionEraseDone ok => Sys2Proof.Machine.execDecommissionEraseDone ok s
  | .tlsHandshakeFail alert => Sys2Proof.Machine.execTlsHandshakeFail alert s
  | .snapshotRead addr => Sys2Proof.Machine.execSnapshotRead addr s

end Sys2Proof.Machine
end

