-- ==== Sys2Proof/Machine/Tick.lean ====
section
/-! DEFINITION. One CLK_TIME cycle (R348): module time, operating time (R388), and the millisecond and second counts that run down in
registers. What elapsed-time events bring about comes as commands (log entry 3). -/
namespace Sys2Proof.Machine

/-- The slew contribution of one CLK_TIME cycle in units of 2⁻³² ns (R351): at most the remainder. (DESIGN CHOICE, log entry 23.) -/
def slewPart (rem : Int) (ppm : Nat) : Int :=
  let c : Int := 10737418240 * ppm / 1000000
  if 0 ≤ rem then min rem c else max rem (-c)

/-- The rate of one cycle in units of 2⁻³² ns: 2.5 ns × (1 + TIME_RATE) plus the slew, the two together clamped to ±500 ppm (R348).
(DESIGN CHOICE, log entry 23.) -/
def cycleStep (rate : Int) (slew : Int) : Int :=
  10737418240 + max (-5368709) (min 5368709 (10737418240 * rate / 1000000000000 + slew))

/-- Module time after one CLK_TIME cycle (R347, R348): the remainder falls by what the slew has added within the clamp.
(DESIGN CHOICE, log entries 3, 23.) -/
def timeCycle (t : TimeState) (rate : Int) (ppm : Nat) : TimeState :=
  let slew := cycleStep rate (slewPart t.slewRem ppm) - cycleStep rate 0
  let sum := (t.frac + cycleStep rate (slewPart t.slewRem ppm)).toNat
  let ns := t.nanoseconds + sum / 2 ^ 32
  let t := { t with frac := sum % 2 ^ 32, slewRem := t.slewRem - slew }
  if 1000000000 ≤ ns then { t with seconds := (t.seconds + 1) % 2 ^ 48, nanoseconds := ns - 1000000000 }
  else { t with nanoseconds := ns }

/-- SLEW_PPM in force (R351). -/
def State.slewPpm (s : State) : Nat := max 1 (min 500 (s.get Fld.TIME_CFG_SLEW_PPM))

/-- Count a register field down to 0. -/
def State.countDown (s : State) (f : RegField) : State := if s.get f = 0 then s else s.put f (s.get f - 1)

/-- The scrubber ends a pass over both banks every 2 s (R120): SVY_SCRUB.PASSES counts it. (DESIGN CHOICE, log entry 3.) -/
def State.scrubTick (s : State) : State :=
  if s.rst.inReset || s.mode == .hibernate then s
  else
    let s := if s.rst.scrubHalf then s.bumpWrap Fld.SVY_SCRUB_PASSES else s
    { s with rst := { s.rst with scrubHalf := !s.rst.scrubHalf } }

/-- One second: the registers that show seconds remaining (R245, R431, R448) and the scrubber. (DESIGN CHOICE, log entry 3.) -/
def State.secondTick (s : State) : State :=
  let s := s.scrubTick
  ((s.countDown Fld.PAIR_REVERT_REMAIN_S).countDown Fld.SEC_AUTH_CNT_LOCKOUT_S).countDown Fld.UPD_HEALTH_REMAIN_S

/-- One millisecond: the watchdog's count (R69, R470). (DESIGN CHOICE, log entry 3.) -/
def State.msTick (s : State) : State := if s.rst.wdtRunning && !s.rst.inReset && s.mode != .hibernate then s.countDown Fld.WDT_STAT_REMAIN_MS else s

/-- Time at /2 or /4 in whole microseconds of 400 CLK_TIME cycles, saturating (PWR_SQZ_TIME). (DESIGN CHOICE, log entry 3.) -/
def State.squeezeTick (s : State) : State :=
  if s.get Fld.PWR_STAT_RATIO = 0 then s
  else if s.rst.sqzSub + 1 < 400 then { s with rst := { s.rst with sqzSub := s.rst.sqzSub + 1 } }
  else ({ s with rst := { s.rst with sqzSub := 0 } } : State).bump Fld.PWR_SQZ_TIME_US

/-- One CLK_TIME cycle: module time stands in reset and in HIBERNATE, operating time does not (R388). (DESIGN CHOICE, log entry 3.) -/
def State.tick (s : State) : State :=
  let s := { s with time := { s.time with cycles := s.time.cycles + 1 } }
  let s := if s.rst.inReset || s.mode == .hibernate then s
    else { s with time := timeCycle s.time (s.getReg Reg.TIME_RATE).toInt s.slewPpm }
  let s := if s.rst.opSub + 1 < 390625 then { s with rst := { s.rst with opSub := s.rst.opSub + 1 } }
    else { s with rst := { s.rst with opSub := 0 }, fls := { s.fls with optime := s.fls.optime + 1 } }
  let s := if s.rst.msSub + 1 < 400000 then { s with rst := { s.rst with msSub := s.rst.msSub + 1 } }
    else ({ s with rst := { s.rst with msSub := 0 } } : State).msTick
  let s := s.squeezeTick
  if s.rst.secSub + 1 < 400000000 then { s with rst := { s.rst with secSub := s.rst.secSub + 1 } }
  else ({ s with rst := { s.rst with secSub := 0 } } : State).secondTick

end Sys2Proof.Machine
end

