-- ==== Sys2Proof/Safety.lean ====
section
/-! DEFINITION. The terms the statements use: the canonical form of the register file and of the memories, what it means that registers
alone changed, and shorthands for the outcomes of commands. -/
namespace Sys2Proof.Machine

/-- The register file is in canonical form. -/
def State.regsWf (s : State) : Bool := sparseWf regReset s.regs

/-- The memories are in canonical form: host SRAM and retention host area, instance store, Flowstone MRAM. -/
def Memory.wf (s : State) : Bool :=
  sparseWf (fun _ => (0 : Byte)) s.sram && sparseWf (fun _ => (0 : DWord)) s.inst.words && sparseWf flsDefault s.fls.mram

/-- Registers whose fields are clamped (R468). -/
def clamped (a : Nat) : Bool :=
  a == Reg.TIME_RATE || (List.range 16).any (fun i => a == Reg.ISL_CTRL i) || clampTable.any fun c => c.1.addr == a

/-- Registers whose write does more than R7 alone gives it: those of the commands, and those whose write has a condition; the first of a row
with the number of the row, 4 bytes apart. -/
def ownEffectRows : List (Nat × Nat) :=
  [(Reg.CLK_CTRL, 1), (Reg.RST_SW, 1), (Reg.WDT_CTRL, 1), (Reg.WDT_KICK, 1), (Reg.GATE_CTRL 0, 64), (Reg.PWR_SQZ_CFG, 1), (Reg.PWR_HIB_CMD, 1),
    (Reg.SUMP_SRC 0, 256), (Reg.SUMP_DETAIL 240, 16), (Reg.FLS_CTRL, 1), (Reg.FLS_SEEK, 1), (Reg.FLS_WCMD, 1), (Reg.SEC_LC_CMD, 1),
    (Reg.SEC_PROV, 1), (Reg.SEC_REVOKE, 1), (Reg.TIME_CMD, 1), (Reg.DRIP_CTRL 0, 64), (Reg.DRIP_TGT_LO 0, 64), (Reg.DRIP_TGT_HI 0, 64),
    (Reg.DRIP_PER_LO 0, 64), (Reg.DRIP_PER_HI 0, 64), (Reg.GAL_CTRL, 1), (Reg.OLC_CTRL, 1), (Reg.FRC_CMD, 1), (Reg.SEQ_TASK_CTRL 0, 16),
    (Reg.LS_INJECT, 1), (Reg.LS_DBG_GO, 1), (Reg.LS_DBG_CTRL 0, 16), (Reg.LS_DBG_BP 0 0, 64), (Reg.PAIR_CTRL, 1), (Reg.ISL_CAL_CMD, 1),
    (Reg.ISL_CH_CFG 0, 128), (Reg.ISL_AN_CFG 0, 128), (Reg.RING_BASE 0, 128), (Reg.RING_CFG 0, 64), (Reg.RING_PROD 0, 64),
    (Reg.RING_CONS 0, 64), (Reg.RING_IRQ 0, 64), (Reg.CAN_CTRL 0, 4), (Reg.CAN_CTRL 1, 4), (Reg.CAN_CTRL 2, 4), (Reg.CAN_CTRL 3, 4),
    (Reg.CAN_RING 0, 1), (Reg.CAN_RING 1, 1), (Reg.CAN_RING 2, 1), (Reg.CAN_RING 3, 1), (Reg.CAN_OBJ_CTRL 0 0, 1536), (Reg.CAN_OBJ_DATA 0 0 0, 8192),
    (Reg.UPD_CMD, 1), (Reg.UPD_HEALTH, 1), (Reg.UPD_ISL_CMD, 1), (Reg.TP_CMD, 1)]

/-- Such a register, or one that holds a rule of a guard (R372). -/
def ownEffect (a : Nat) : Bool := (ownEffectRows.any fun r => (within a r.1 r.2 4).isSome) || (guardRule a).isSome

/-- From `s` to `t` registers alone change, and of these only the ones listed. -/
def regsOnly (s t : State) (as : List Nat) : Prop :=
  { t with regs := s.regs } = s ∧ ∀ a, a ∉ as → t.getReg a = s.getReg a

/-- A module-level reset episode begun by the source of bit `n` (R69, R71, R73, R75): LOAD, in reset, the source's bit and FIRST, one more
episode, a power cycle counted for POR and BOR; the instance store, Flowstone and the firmware slots are preserved, the volatile memories are
lost. -/
def episodeBegins (s t : State) (n : Nat) : Prop :=
  t.mode = .load ∧ t.rst.inReset = true ∧ t.rst.asserted.getLsbD n = true ∧
  t.getReg Reg.RST_CAUSE = Fld.RST_CAUSE_FIRST.ins (s.getReg Reg.RST_CAUSE) n ||| BitVec.twoPow 32 n ∧
  (t.getReg Reg.RST_COUNT).toNat = min ((s.getReg Reg.RST_COUNT).toNat + 1) (2 ^ 32 - 1) ∧
  (t.getReg Reg.RST_PWR_CYCLES).toNat = min ((s.getReg Reg.RST_PWR_CYCLES).toNat + (if n < 2 then 1 else 0)) (2 ^ 32 - 1) ∧
  t.inst = s.inst ∧ t.fls.mram = s.fls.mram ∧ t.store = s.store ∧ t.upd.slot0 = s.upd.slot0 ∧ t.upd.slot1 = s.upd.slot1 ∧
  t.banks = [] ∧ t.chambers = [] ∧ t.sig = State.reset.sig ∧ t.gates = [] ∧ t.pending = s.pending

/-- The state a command leaves; `s` where it left none. -/
def State.after (s : State) (c : Instr) : State :=
  match exec c s with
  | .next t => t
  | _ => s

/-! ### Lanes -/

/-- Lane `w` of chamber `c`, in the state `l`, issues its next instruction in execution `x`: it runs, and the fetch meets no trap (R125). -/
def laneIssues (s : State) (c : Fin 16) (w : Lane) (x : Execution) (l : LaneState) : Prop :=
  s.laneRuns c.val w = true ∧ (s.chamber c.val).exec = some x ∧ (s.chamber c.val).lane w = l ∧ fetchTrap (s.chamber c.val) x l.pc = none

/-- `s` with another state of one lane, and nothing else changed. -/
def laneAlone (s : State) (c : Fin 16) (w : Lane) (m : LaneState) : State := s.setChamber c.val ((s.chamber c.val).setLane w m)

/-- From `l` to `m` a lane has written register `d` with a value and a tag, gone on by one instruction and taken `n` cycles; G[0] keeps
(R124), and nothing else of the lane changes. -/
def laneWrites (l m : LaneState) (d : BitVec 5) (v : DWord) (tag : Nibble) (n : Nat) : Prop :=
  (∀ k, m.reg k = if k = d ∧ k ≠ 0 then v else l.reg k) ∧ (∀ k, m.tag k = if k = d ∧ k ≠ 0 then tag else l.tag k) ∧
  m.pc = l.pc + 4 ∧ m.cycles = l.cycles + n ∧ { m with g := l.g, tags := l.tags, pc := l.pc, cycles := l.cycles } = l

/-- From `l` to `m` a lane has written `d` with the binary32 result of operation `f` on its registers `a` and `b` (R139): BAD_CHANNEL_FAULT for
a signalling NaN operand and for a NaN made of other operands, else propagate. -/
def laneFloats (l m : LaneState) (d : BitVec 5) (f : FpuFn) (a b : BitVec 5) (n : Nat) : Prop :=
  laneWrites l m d ((fpu f ((l.reg a).truncate 32) ((l.reg b).truncate 32)).1.zeroExtend 64)
    (if f32Snan ((l.reg a).truncate 32) = true ∨ f32Snan ((l.reg b).truncate 32) = true ∨
        (f32IsNan (fpu f ((l.reg a).truncate 32) ((l.reg b).truncate 32)).1 = true ∧ f32IsNan ((l.reg a).truncate 32) = false ∧
          f32IsNan ((l.reg b).truncate 32) = false)
      then Tag.BAD_CHANNEL_FAULT else propagate (l.tag a) (l.tag b)) n

/-- The same for an operation on register `a` alone (R139). -/
def laneFloat (l m : LaneState) (d : BitVec 5) (f : FpuFn) (a : BitVec 5) (n : Nat) : Prop :=
  laneWrites l m d ((fpu f ((l.reg a).truncate 32) 0).1.zeroExtend 64)
    (if (fpu f ((l.reg a).truncate 32) 0).2 then Tag.BAD_CHANNEL_FAULT else propagate (l.tag a) Tag.GOOD) n

/-- From `l` to `m` a lane has stored `size` bytes of `v` at byte address `adr` of its working SRAM and gone on; every other byte of it, and
everything else of the lane, is as before (R122, R137). -/
def laneStores (l m : LaneState) (adr size : Nat) (v : DWord) : Prop :=
  m.pc = l.pc + 4 ∧ m.cycles = l.cycles + 1 ∧ { m with work := l.work, workUe := l.workUe, pc := l.pc, cycles := l.cycles } = l ∧
  (∀ k, k / 8 ≠ adr / 8 → workWord m k = workWord l k) ∧
  ∀ j, j < 64 → (workWord m adr).getLsbD j =
    if 8 * (adr % 8) ≤ j ∧ j < 8 * (adr % 8) + 8 * size then v.getLsbD (j - 8 * (adr % 8)) else (workWord l adr).getLsbD j

/-- From `l` to `m` a lane has stored `size` bytes of `v` at instance offset `o`, of whose word its view was `view`: in its journal alone, in
place of an entry (`hit`) or as a new last one; the signature takes the words of R175 (R126 to R128). -/
def laneJournals (l m : LaneState) (o size : Nat) (v view : DWord) (hit : Bool) (n : Nat) : Prop :=
  m.pc = l.pc + 4 ∧ m.cycles = l.cycles + n ∧
  { m with journal := l.journal, journalUe := l.journalUe, sig := l.sig, pc := l.pc, cycles := l.cycles } = l ∧
  m.sig = crc64Word (crc64Word l.sig (0x1000000000000000 ||| BitVec.ofNat 64 ((2 ^ size - 1) * 2 ^ (o % 8) * 2 ^ 32 + o / 8 * 8 % 2 ^ 32)))
    (wordMerge 0 v (o % 8) size) ∧
  m.journalUe = (if hit then l.journalUe.filter fun k => k != o / 8 * 8 / 8 else l.journalUe) ∧
  ∃ e : DWord, m.journal = (if hit then l.journal.map fun j => if j.1 = o / 8 * 8 then (o / 8 * 8, e) else j
      else l.journal ++ [(o / 8 * 8, e)]) ∧
    ∀ j, j < 64 → e.getLsbD j =
      if 8 * (o % 8) ≤ j ∧ j < 8 * (o % 8) + 8 * size then v.getLsbD (j - 8 * (o % 8)) else view.getLsbD j

/-- A lane's program trap or error trap (R142, R175): the lane ends, the chamber goes to the comparison, and the trap word enters the
signature; the journal, the staging and the registers are as they were. -/
def laneTraps (s t : State) (c : Fin 16) (w : Lane) (l : LaneState) (cause addr n : Nat) : Prop :=
  ∃ m : LaneState, t = (laneAlone s c w m).setChState c.val Ch.COMPARING ∧ m = { l with
    fin := .trapped cause l.pc addr
    cycles := l.cycles + n
    sig := crc64Word l.sig (0xE000000000000000 ||| BitVec.ofNat 64 (cause * 2 ^ 32 + l.pc % 2 ^ 32)) }

/-- An operation of the ALU on both widths (R138): all 64 bits, or with W = 1 bits 31:0, the result sign-extended. -/
def bothWidths (w32 : Bool) (x y : DWord) (f : (n : Nat) → BitVec n → BitVec n → BitVec n) : DWord :=
  if w32 then (f 32 (x.truncate 32) (y.truncate 32)).signExtend 64 else f 64 x y

/-- A lane at the start of an execution (R124, R135): every register 0 and GOOD, PC at ENTRY, no journal, no ring positions of its own, the
pending layer equal to the current one; its working SRAM as it was. -/
def laneFresh (l m : LaneState) (entry : Nat) (current : List (Nat × DWord × BitVec 32)) : Prop :=
  m.pc = entry ∧ m.fin = .running ∧ (∀ k, m.reg k = 0 ∧ m.tag k = Tag.GOOD) ∧ m.journal = [] ∧ m.poll = [] ∧ m.put = [] ∧ m.pendOut = current ∧
  m.cycles = 0 ∧ m.work = l.work ∧ m.workUe = l.workUe

/-! ### Lifeline frames -/

/-- The receiver accepts a header of TYPE `ty` (R220, R221), and FLAGS bit 3 does not tell that the sender has left SYNCED. -/
def headerGood (s : State) (h : LLHeader) (ty : Nat) : Prop :=
  llHeaderOk h = true ∧ h.type = ty ∧ ¬(s.ll = .synced ∧ h.sync = false ∧ s.pair.syncAt ≤ h.txTime)

/-- An ordered frame with header `h` of TYPE `ty` arrives in its turn on a linked Lifeline, and neither a gate nor LL_DELAY nor a bad header
stops it (R77, R221, R222, R457). -/
def frameDue (s : State) (h : LLHeader) (ty : Nat) : Prop :=
  s.linked = true ∧ s.get (Fld.GATE_CTRL_STATE 45) = 0 ∧ s.tpActive 0 = false ∧ headerGood s h ty ∧ h.frameNum = s.pair.recvNum

/-- A frame of any kind has arrived. -/
def frameSeen (s : State) : State := { s with pair := { s.pair with lastFrameNs := s.nowNs } }

/-- Such a frame is taken: the one after it is due (R222). -/
def frameTaken (s : State) (h : LLHeader) : State :=
  { s with pair := { s.pair with lastFrameNs := s.nowNs, recvNum := nextFrameNum h.frameNum } }

/-- The frames that waited for the one just delivered follow it (R222). -/
def framesFollow (s : State) : State := State.deliverWaiting s.pair.waiting.length s

end Sys2Proof.Machine
end

