-- ==== Sys2Proof/Certificates/Slice0/Obligations.lean ====
section
/-! DEFINITION. The statements for the provers. Each docstring names the rules of the manual the
statement comes from. A statement put together from parts is the conjunction of claims that stand before it. -/
open Sys2Proof Sys2Proof.Machine

/-! ### Steps, registers and the bus (R6 to R10, R463 to R469) -/

/-- A step takes the command at the front of the queue and runs it on the state with the queue's rest (one command is one step, chapter
"What each step holds"). -/
def Obligations.StepRunsFrontCommand : Prop :=
  ∀ (s : State) (c : Instr) (rest : List Instr), s.pending = c :: rest → step s = exec c { s with pending := rest }

/-- The state after reset: LOAD, an empty queue, every register at its reset value, memory with nothing listed and both in canonical form. (The
reset values themselves are the manual's where it gives them and the model's choice of log entry 2 where it does not.) -/
def Obligations.ResetState : Prop :=
  State.reset.pending = [] ∧ State.reset.mode = .load ∧ (∀ a, State.reset.getReg a = regReset a) ∧ (∀ a, State.reset.sramByte a = 0) ∧
    State.reset.regsWf = true ∧ Memory.wf State.reset = true ∧ State.reset.out = [] ∧ State.reset.chambers = [] ∧ State.reset.ll = .down ∧
    State.reset.role = .solo

/-- Every step keeps the canonical form of the register file and of the memories: addresses strictly rising and no entry equal to what an
unlisted address reads as. (The form is the model's own, chapter "What each step holds" of the guide; no rule of the manual states it.) -/
def Obligations.StepKeepsCanonicalForm : Prop :=
  ∀ s t : State, s.regsWf = true → Memory.wf s = true → step s = .next t → t.regsWf = true ∧ Memory.wf t = true

/-- Every step answers a next state, and takes exactly the front command from the queue: no command puts one in or takes another out. (The queue
is the model's own, log entry 3.) -/
def Obligations.StepTakesOneCommand : Prop :=
  ∀ s : State, ∃ t, step s = .next t ∧ t.pending = s.pending.tail

/-- Access widths (R10): an access of another width or alignment in a register block gets an error response and changes no register, and
nothing else; a register write is the aligned word access. -/
def Obligations.RegisterAccessWidth : Prop :=
  ∀ (s : State) (addr : Word) (len : Nat) (w : Bool) (v : Word),
    exec (.registerBadAccess addr len w) s = .next { s with bus := .error } ∧
    (addr.toNat % 4 ≠ 0 → exec (.registerWrite addr v) s = .next { s with bus := .error })

/-- The two reset counters (R75): RST_COUNT counts every module-level reset episode, RST_PWR_CYCLES every episode that contains POR or BOR, once;
both saturate. The pins, the rails and the watchdog begin an episode by their own source. -/
def Obligations.ResetCounters : Prop :=
  ∀ (s : State) (src : ResetSource) (detail : List (RegField × Nat)),
    (∀ p ∈ detail, p.1.addr ≠ Reg.RST_COUNT ∧ p.1.addr ≠ Reg.RST_PWR_CYCLES) →
    (s.rst.inReset = false →
      ((s.assertReset src detail).getReg Reg.RST_COUNT).toNat = min ((s.getReg Reg.RST_COUNT).toNat + 1) 0xFFFFFFFF ∧
      ((s.assertReset src detail).getReg Reg.RST_PWR_CYCLES).toNat =
        min ((s.getReg Reg.RST_PWR_CYCLES).toNat + if src = .por ∨ src = .bor then 1 else 0) 0xFFFFFFFF ∧
      ((s.assertReset src detail).rst.pwrCounted = true ↔ src = .por ∨ src = .bor)) ∧
    (s.rst.inReset = true →
      (s.assertReset src detail).getReg Reg.RST_COUNT = s.getReg Reg.RST_COUNT ∧
      ((s.assertReset src detail).getReg Reg.RST_PWR_CYCLES).toNat =
        min ((s.getReg Reg.RST_PWR_CYCLES).toNat + if (src = .por ∨ src = .bor) ∧ s.rst.pwrCounted = false then 1 else 0) 0xFFFFFFFF ∧
      ((s.assertReset src detail).rst.pwrCounted = true ↔ s.rst.pwrCounted = true ∨ src = .por ∨ src = .bor)) ∧
    exec .porAssert s = .next (s.assertReset .por []) ∧ (s.mode ≠ .hibernate → exec .pinAccept s = .next (s.assertReset .pin [])) ∧
    exec .coreRailBrownOut s = .next (s.assertReset .bor [(Fld.RST_DETAIL_BOR_KIND, 1)]) ∧
    exec .ioRailBrownOut s = .next (s.assertReset .bor [(Fld.RST_DETAIL_BOR_KIND, 2)]) ∧
    (s.rst.wdtRunning = true → exec .watchdogExpiry s = .next (s.assertReset .wdt []))

/-- Status codes (R23 to R25, R133): of two codes the first in the order of precedence stands, whichever comes first; propagation carries every
code but FORCED, SIMULATED and GOOD and is commutative and associative; the top bit alone says bad. -/
def Claim.StatusPrecedence : Prop :=
  (∀ (i j : Fin 15) (x y : Nibble),
    [Tag.FORCED, Tag.SIMULATED, Tag.BAD_SUPPLY, Tag.BAD_STATION_LOST, Tag.BAD_CHANNEL_FAULT, Tag.BAD_EXTERNAL_DRIVE, Tag.BAD_WIRE,
      Tag.BAD_COMPLIANCE, Tag.BAD_HIGH_ALARM, Tag.BAD_LOW_ALARM, Tag.STALE, Tag.HELD, Tag.UNCERTAIN_RANGE, Tag.INIT, Tag.GOOD][i]? = some x →
    [Tag.FORCED, Tag.SIMULATED, Tag.BAD_SUPPLY, Tag.BAD_STATION_LOST, Tag.BAD_CHANNEL_FAULT, Tag.BAD_EXTERNAL_DRIVE, Tag.BAD_WIRE,
      Tag.BAD_COMPLIANCE, Tag.BAD_HIGH_ALARM, Tag.BAD_LOW_ALARM, Tag.STALE, Tag.HELD, Tag.UNCERTAIN_RANGE, Tag.INIT, Tag.GOOD][j]? = some y →
    i ≤ j → tagFirst x y = x ∧ (i.val ≠ 8 ∨ j.val ≠ 9 → tagFirst y x = x) ∧
      propagate x y = (if i.val < 2 then (if j.val < 2 then Tag.GOOD else y) else x) ∧
      (tagBad x = true ↔ 2 ≤ i.val ∧ i.val ≤ 9)) ∧
  (∀ x y z : Nibble, x ≠ 7 → y ≠ 7 → z ≠ 7 → propagate (propagate x y) z = propagate x (propagate y z))

/-- Accesses that get an error response and change no register: a host write of the signal table (R16), a host access to the debugger's
registers (R194). -/
def Claim.AccessesAnsweredWithError : Prop :=
  ∀ (s : State) (addr : Word) (w : Bool) (v : Word),
    exec (.signalTableHostWrite addr v) s = .next { s with bus := .error } ∧
    exec (.lsDbgHostAccess addr w v) s = .next { s with bus := .error }

/-- A register write by access type (R7, R9, R468): of every register whose write has no effect of its own, each bit follows its type: RW takes
the bit written, RWL does so while LOCK is 0, a 1 clears W1C and sets W1S, every other bit keeps; clamped fields then take the nearest value of
their range; no other register and nothing else changes. -/
def Claim.RegisterWriteByAccessType : Prop :=
  ∀ (s : State) (addr v : Word) (r : RegRow),
    addr.toNat % 4 = 0 → s.regDenied addr.toNat false = false → ownEffect addr.toNat = false → s.tpConfigLocked addr.toNat = false →
    regFind addr.toNat = some r →
    ∃ t w, exec (.registerWrite addr v) s = .next { t with bus := .done } ∧ regsOnly s t [addr.toNat] ∧
      t.getReg addr.toNat = clampReg addr.toNat w ∧ (clamped addr.toNat = false → t.getReg addr.toNat = w) ∧
      ∀ i, i < 32 → w.getLsbD i =
        if r.w1c.getLsbD i then (s.getReg addr.toNat).getLsbD i && !v.getLsbD i
        else if r.w1s.getLsbD i then (s.getReg addr.toNat).getLsbD i || v.getLsbD i
        else if r.rw.getLsbD i || (r.rwl.getLsbD i && !s.rowLocked r) then v.getLsbD i
        else (s.getReg addr.toNat).getLsbD i

/-- A write to a reserved offset is ignored with no error response (R465); an unaligned one, one to a block whose gate is not open and one of
host firmware to the debugger's registers get an error response and change nothing (R10, R77, R194); a register whose write has a condition
takes none while it does not hold: a drip unit's target while the survey owns the unit (R360), a ring's bases while it is enabled or locked
(R325), a breakpoint below CONTROL (R428), the configuration of an active perturbation (R459). -/
def Claim.RegisterWriteReservedOrDenied : Prop :=
  ∀ (s : State) (addr v : Word),
    (addr.toNat % 4 = 0 → s.regDenied addr.toNat false = false → ownEffect addr.toNat = false → s.tpConfigLocked addr.toNat = false →
      regFind addr.toNat = none → exec (.registerWrite addr v) s = .next { s with bus := .done }) ∧
    ((addr.toNat % 4 ≠ 0 ∨ s.regDenied addr.toNat false = true) → exec (.registerWrite addr v) s = .next { s with bus := .error }) ∧
    (∀ (d : Fin 64), ∀ a ∈ [Reg.DRIP_TGT_LO d, Reg.DRIP_TGT_HI d, Reg.DRIP_PER_LO d, Reg.DRIP_PER_HI d],
      exec (.registerWrite (BitVec.ofNat 32 a) v) s =
        .next (if s.bit (Fld.DRIP_CTRL_SURVEY d) then { s with bus := .done } else { s.regStore a v with bus := .done })) ∧
    (∀ (q : Fin 64), s.get (Fld.GATE_CTRL_STATE 46) = 0 → ∀ a ∈ [Reg.RING_BASE q, Reg.RING_BUFBASE q],
      exec (.registerWrite (BitVec.ofNat 32 a) v) s =
        .next (if s.ringEnabled q = true ∨ s.bit Fld.RING_LOCK_LOCK = true then { s with bus := .done } else { s.regStore a v with bus := .done })) ∧
    (∀ (c : Fin 16) (x : Fin 4), exec (.registerWrite (BitVec.ofNat 32 (Reg.LS_DBG_BP c x)) v) s =
        .next (if 2 ≤ s.get Fld.SEC_STATUS_DBG_LEVEL then { s.regStore (Reg.LS_DBG_BP c x) v with bus := .done } else { s with bus := .done })) ∧
    (s.get (Fld.GATE_CTRL_STATE 49) = 0 → addr.toNat % 4 = 0 → addr.toNat ≠ Reg.TP_CMD → s.tpConfigLocked addr.toNat = true →
      exec (.registerWrite addr v) s = .next { s with bus := .done })

/-- A register write of a register that commands something is that command (R464, R469): with the register's block open, the module does what
the command of that register does, and the access is answered as done. -/
def Claim.RegisterWriteIsItsCommand : Prop :=
  ∀ (s : State) (v : Word) (b d q : Fin 64) (n : Fin 256) (c : Fin 16) (m : Fin 128) (k : Fin 4)
      (w : Fin 16),
    ∀ p ∈ [(Reg.CLK_CTRL, Instr.refRestore v), (Reg.RST_SW, .rstSwReq v), (Reg.WDT_CTRL, .wdtCtrlWrite v), (Reg.WDT_KICK, .wdtKick v),
        (Reg.RST_CAUSE, .rstCauseClear v), (Reg.GATE_CTRL b, .gateRelease b v), (Reg.PWR_HIB_CMD, .hibernateEnterCmd v),
        (Reg.SUMP_SRC n, .sumpForce n v), (Reg.FLS_CTRL, .flsErase v), (Reg.FLS_SEEK, .flsSeek v), (Reg.FLS_WCMD, .flsWriteGo v),
        (Reg.SEC_LC_CMD, .lifecycleGo v), (Reg.SEC_PROV, .provisionGo v), (Reg.SEC_REVOKE, .revokeGo v), (Reg.TIME_CMD, .submit v),
        (Reg.DRIP_CTRL d, .dripArm d v), (Reg.GAL_CTRL, .galClrStats v), (Reg.OLC_CTRL, .olcMigrate v), (Reg.FRC_CMD, .forceWrite v),
        (Reg.SEQ_TASK_CTRL c, .taskHoldReq c v), (Reg.LS_INJECT, .lsInjectArm v), (Reg.LS_DBG_CTRL c, .dbgHaltReq c v),
        (Reg.PAIR_CTRL, .handover v), (Reg.ISL_CAL_CMD, .driveOn v), (Reg.ISL_CH_CFG m, .islChCfgWrite m false v),
        (Reg.ISL_AN_CFG m, .islChCfgWrite m true v), (Reg.RING_CFG q, .ringCfgWrite q v), (Reg.RING_PROD q, .ringProdWrite q v),
        (Reg.RING_CONS q, .ringConsWrite q v), (Reg.UPD_CMD, .updBegin v), (Reg.UPD_HEALTH, .healthConfirm v),
        (Reg.UPD_ISL_CMD, .islandUpdateGo v), (Reg.TP_CMD, .tpStart v), (Reg.CAN_CTRL k, .canTimingWrite k .ctrl v),
        (Reg.CAN_NBT k, .canTimingWrite k .nbt v), (Reg.CAN_DBT k, .canTimingWrite k .dbt v), (Reg.CAN_TDC k, .canTimingWrite k .tdc v),
        (Reg.CAN_OBJ_CTRL k m, .canObjWrite k m .ctrl v), (Reg.CAN_OBJ_ID k m, .canObjWrite k m .id v),
        (Reg.CAN_OBJ_MASK k m, .canObjWrite k m .mask v), (Reg.CAN_OBJ_DATA k m w, .canObjWrite k m (.data w) v)],
      s.regDenied p.1 false = false →
      ∃ t, exec p.2 s = .next t ∧ exec (.registerWrite (BitVec.ofNat 32 p.1) v) s = .next { t with bus := .done }

/-- Clamped fields (R468): WDT_CTRL.TIMEOUT, PAIR_CTRL.LL_LOSS_US and TP_DURATION store the nearest value of their range, and TIME_RATE, which
is signed, stays within ±500,000,000 (R348). -/
def Claim.ClampedFieldsStoreClampedValue : Prop :=
  (∀ v : Word, Fld.WDT_CTRL_TIMEOUT.ext (clampReg Reg.WDT_CTRL v) = max 10 (min 10000 (Fld.WDT_CTRL_TIMEOUT.ext v))) ∧
  (∀ v : Word, Fld.PAIR_CTRL_LL_LOSS_US.ext (clampReg Reg.PAIR_CTRL v) = max 100 (min 1000 (Fld.PAIR_CTRL_LL_LOSS_US.ext v))) ∧
  (∀ v : Word, Fld.TP_DURATION_DURATION_S.ext (clampReg Reg.TP_DURATION v) = max 1 (min 3600 (Fld.TP_DURATION_DURATION_S.ext v))) ∧
  ∀ v : Word, (clampReg Reg.TIME_RATE v).toInt = max (-500000000) (min 500000000 v.toInt)

/-- Register writes by access type, reserved and denied ones, those that are commands of their own, clamped fields: what the parts say, taken together. -/
def Obligations.RegisterWrites : Prop := Claim.RegisterWriteByAccessType ∧ Claim.RegisterWriteReservedOrDenied ∧ Claim.RegisterWriteIsItsCommand ∧ Claim.ClampedFieldsStoreClampedValue

/-- SNAPSHOT_READ (R349): reading TIME_NS or TIME_LIN_LO answers the value and latches seconds and LIN for their companion registers, which
then read what they hold; a read of a register that shows its own bits answers the value held with its WO bits 0 (R7) and changes no
register, and reserved space reads 0 (R465). -/
def Claim.SnapshotReadLatches : Prop :=
  ∀ s : State,
    (∀ a v, (a, v) ∈ [(Reg.TIME_NS, BitVec.ofNat 32 s.time.nanoseconds), (Reg.TIME_LIN_LO, s.time.lin.truncate 32)] →
      ∃ t, exec (.snapshotRead (BitVec.ofNat 32 a)) s = .next t ∧ t.bus = .data (leBytes 4 v.toNat) ∧
        regsOnly s { t with bus := s.bus } [Reg.TIME_SEC_LO, Reg.TIME_SEC_HI, Reg.TIME_LIN_HI] ∧
        t.getReg Reg.TIME_SEC_LO = BitVec.ofNat 32 s.time.seconds ∧
        t.getReg Reg.TIME_SEC_HI = BitVec.ofNat 32 (s.time.seconds / 2 ^ 32 % 65536) ∧
        t.getReg Reg.TIME_LIN_HI = (s.time.lin >>> 32).truncate 32) ∧
    (∀ (addr : Word) (r : RegRow), regFind addr.toNat = some r → s.regShown addr.toNat = none → freeMask addr.toNat = 0 →
      s.regLatch addr.toNat = s →
      exec (.snapshotRead addr) s = .next { s with bus := .data (leBytes 4 (s.getReg addr.toNat &&& ~~~r.wo).toNat) }) ∧
    (∀ a ∈ [Reg.TIME_SEC_LO, Reg.TIME_SEC_HI, Reg.TIME_LIN_HI], ∃ r, regFind a = some r ∧ r.wo = 0 ∧ s.regShown a = none ∧ freeMask a = 0 ∧
      s.regLatch a = s) ∧
    (∀ addr : Word, regFind addr.toNat = none → addr.toNat / 65536 = 0x4000 →
      exec (.snapshotRead addr) s = .next { s with bus := .data [0, 0, 0, 0] })

/-- Accesses answered with an error, and register reads with their snapshots: what the parts say, taken together. -/
def Obligations.BusAccesses : Prop := Claim.AccessesAnsweredWithError ∧ Claim.SnapshotReadLatches

/-! ### Modes and the front panel (R26 to R29, R38, R39) -/

/-- Mode commands of a module whose Lifeline is not SYNCED ask for the transition at rank 4 (R26, R27, R29): start in HOLD with a verified
survey and no Lifeline, stop in RUN and SERVICE, enter service in RUN with a session, leave service in SERVICE. -/
def Claim.ModeCommandsRequestTransition : Prop :=
  ∀ s : State, s.core.modeReq = none → s.ll ≠ .synced →
    (s.mode = .hold → s.surveyVerified = true → s.bit Fld.PAIR_STAT_YIELDED = false → s.ll ≠ .linked →
      exec .startCommand s = .next { s with core := { s.core with modeReq := some ⟨.run, 4, none⟩ } }) ∧
    (s.mode = .run ∨ s.mode = .service →
      exec .stopCommand s = .next { s with core := { s.core with modeReq := some ⟨.hold, 4, none⟩ } }) ∧
    (s.mode = .run → s.bit Fld.SEC_STATUS_ENG_SESSION = true →
      exec .enterServiceCommand s = .next { s with core := { s.core with modeReq := some ⟨.service, 4, none⟩ } }) ∧
    (s.mode = .service →
      exec .leaveServiceCommand s = .next { s with core := { s.core with modeReq := some ⟨.run, 4, none⟩ } })

/-- Any event that the table of R26 does not list leaves the mode unchanged: mode commands in other modes do nothing at all. -/
def Claim.ModeCommandsElsewhereIgnored : Prop :=
  ∀ s : State,
    (s.mode ≠ .hold ∨ s.surveyVerified = false → exec .startCommand s = .next s) ∧
    (s.mode ≠ .run → s.mode ≠ .service → exec .stopCommand s = .next s) ∧
    (s.mode ≠ .run ∨ s.bit Fld.SEC_STATUS_ENG_SESSION = false → exec .enterServiceCommand s = .next s) ∧
    (s.mode ≠ .service → exec .leaveServiceCommand s = .next s)

/-- In a SYNCED pair a mode command is passed over the Lifeline (R27): LEAD fixes the count four ahead and tells SHADOW, SHADOW passes the
command to LEAD. A command displaced by a transition of a higher or equal rank is refused to the engineering station (R29). -/
def Claim.ModeCommandsInPair : Prop :=
  ∀ s : State, (s.mode = .run ∨ s.mode = .service) →
    (s.ll = .synced → s.role = .lead → s.core.modeReq = none →
      exec .stopCommand s = .next (State.emit { s with core := { s.core with modeReq := some ⟨.hold, 4, some (s.fastCount + 4)⟩ } }
        (.lifeline (.command (.mode .hold (some (s.fastCount + 4))))))) ∧
    (s.ll = .synced → s.role = .shadow → exec .stopCommand s = .next (s.emit (.lifeline (.command (.mode .hold none))))) ∧
    (∀ r, s.core.modeReq = some r → r.rank ≤ 4 → s.ll ≠ .synced → exec .stopCommand s = .next (s.emit .engRefused))

/-- Mode commands request a transition where the table of R26 lists them and nowhere else: what the parts say, taken together. -/
def Obligations.ModeCommands : Prop := Claim.ModeCommandsRequestTransition ∧ Claim.ModeCommandsElsewhereIgnored ∧ Claim.ModeCommandsInPair

/-- A transition accepted takes effect at the end of the fastest task's EMIT (R26, R27): among RUN, HOLD and SERVICE, when its effective
count, if it has one, has come; without a running sequencer the base tick stands in for the EMIT (R28). -/
def Claim.ModeTransitionTakesEffect : Prop :=
  ∀ (s : State) (r : ModeReq), s.core.modeReq = some r → r.target ≠ .hibernate →
    (s.modeDue r = true → modeAllowed s.mode r.target = true → exec .modeTransitionEffect s = .next (s.enterMode r.target)) ∧
    (s.modeDue r = true → modeAllowed s.mode r.target = false →
      exec .modeTransitionEffect s = .next { s with core := { s.core with modeReq := none } }) ∧
    (s.modeDue r = false → exec .modeTransitionEffect s = .next s) ∧
    (s.bit Fld.SEQ_STAT_RUNNING = true → exec .baseTick s = .next s) ∧
    (s.bit Fld.SEQ_STAT_RUNNING = false → exec .baseTick s = exec .modeTransitionEffect s.forceEffect.cfgEffect.calEffect)

/-- The transition itself (R26): the module is then in the mode asked for and no transition waits; lifecycle and keys, the base store and the
queue of commands are as they were. -/
def Claim.EnterModeTakesMode : Prop :=
  ∀ (s : State) (m : Mode), (s.enterMode m).mode = m ∧ (s.enterMode m).core.modeReq = none ∧ (s.enterMode m).sec = s.sec ∧
    (s.enterMode m).store = s.store ∧ (s.enterMode m).pending = s.pending

/-- An accepted transition takes effect at its boundary, and the module is then in the mode asked for: what the parts say, taken together. -/
def Obligations.ModeTransitions : Prop := Claim.ModeTransitionTakesEffect ∧ Claim.EnterModeTakesMode

/-- Front panel (R38, R39, R290): the lamp test ends, and RUN, PAIR and FAULT then show mode, role and ERR_N;
SELECT steps through the pages and back to the first, and does nothing in HIBERNATE; ZERO
and SPAN held on a calibration page in SERVICE take the low point at 4.000 mA and the high point at 20.000 mA, and elsewhere do nothing. -/
def Claim.FrontPanelButtons : Prop :=
  ∀ s : State,
    (∃ t, exec .lampTestEnd s = .next t ∧ t = { s with core := { s.core with lampTest := false } } ∧
      (s.core.mainPath = .on →
        t.ledRun = (match s.mode with
          | .run => .green
          | .hold => .greenFlash
          | .service => .amber
          | .hibernate => .off
          | _ => .amberFlash) ∧
        (s.mode ≠ .hibernate → t.ledPair = (match s.role with
          | .lead => .green
          | .shadow => .greenFlash
          | .solo => .amber
          | .joining => .amberFlash)) ∧
        (t.ledFault = .red ↔ s.errN = true))) ∧
    (s.mode ≠ .hibernate → s.core.page + 1 < s.pageCount →
      exec .selectPress s = .next { s with core := { s.core with page := s.core.page + 1 } }) ∧
    (s.mode ≠ .hibernate → s.pageCount ≤ s.core.page + 1 → exec .selectPress s = .next { s with core := { s.core with page := 0 } }) ∧
    (s.mode = .hibernate → exec .selectPress s = .next s) ∧
    (∀ n, s.mode = .service → 4 ≤ s.core.page → s.aiPages[s.core.page - 4]? = some n →
      exec .zeroHold s = .next (s.calTakeAt n false 0x40800000) ∧ exec .spanHold s = .next (s.calTakeAt n true 0x41A00000)) ∧
    (s.mode ≠ .service ∨ s.core.page < 4 → exec .zeroHold s = .next s ∧ exec .spanHold s = .next s)

/-! ### Insertion, supply, data save (R32, R42, R45 to R47, R54 to R57) -/

/-- The insertion sequence (R32, R54, R57): contact starts the debounce, or starts it again; then the ramp; then the main path is on and
power-on reset is no longer held. An aborted withdrawal starts it again from the debounce, with power-on reset asserted and held. -/
def Claim.InsertionSequence : Prop :=
  ∀ s : State,
    (s.core.mainPath = .absent ∨ s.core.mainPath = .debouncing →
      exec .presentNLow s = .next { s with core := { s.core with mainPath := .debouncing, extracted := false } }) ∧
    (s.core.mainPath = .debouncing → exec .presentNDebounced s = .next { s with core := { s.core with mainPath := .ramping } }) ∧
    (s.core.mainPath = .ramping → exec .mainPathOn s = .next { s with core := { s.core with mainPath := .on, porHeld := false } }) ∧
    (s.core.porHeld = true → exec .porRelease s = .next s) ∧
    (s.core.extracted = true → ∃ t, exec .withdrawalAborted s = .next t ∧ t.core.extracted = false ∧ t.core.mainPath = .debouncing ∧
      t.core.porHeld = true ∧ t.rst.inReset = true ∧ t.rst.asserted.getLsbD 0 = true)

/-- The front panel's buttons and the insertion sequence: what the parts say, taken together. -/
def Obligations.FrontPanelAndInsertion : Prop := Claim.FrontPanelButtons ∧ Claim.InsertionSequence

/-- An interruption of the supply (R45, R42, R412): the reserve carries the module and PWR_HOLDUP holds; in HIBERNATE it saves at once and
ends in a brown-out reset; the return ends the interruption and gives its record the length; the input warning follows the input against
16.8 V; the hold-up bank reads full only on the input, and a LOAD that waited for it then ends (R55). -/
def Claim.SupplyInterruption : Prop :=
  ∀ (s : State) (vin len : Nat),
    (s.core.interrupted = false → s.rst.inReset = false → s.mode ≠ .hibernate → ∃ t, exec (.supplyInterrupt vin) s = .next t ∧
      t.core.interrupted = true ∧ t.get Fld.PWR_STAT_ON_HOLDUP = 1 ∧ t.get Fld.PWR_STAT_HOLDUP_FULL = 0 ∧
      t.get Fld.PWR_SUPPLY_VIN = vin % 65536 ∧ 0 ∈ sparseGet (fun _ => []) t.sump.levels Src.PWR_HOLDUP ∧ t.mode = s.mode ∧ t.inst = s.inst) ∧
    (s.core.interrupted = false → s.rst.inReset = false → s.mode = .hibernate → ∃ t, exec (.supplyInterrupt vin) s = .next t ∧
      t.core.interrupted = true ∧ t.mode = .load ∧ t.rst.inReset = true ∧ t.rst.asserted.getLsbD 1 = true ∧ t.fls.queue = [] ∧
      t.get Fld.RST_DETAIL_BOR_KIND = 0 ∧ t.out = s.out) ∧
    (s.core.interrupted = false → s.rst.inReset = true →
      exec (.supplyInterrupt vin) s = .next { s with core := { s.core with interrupted := true } }) ∧
    (s.core.interrupted = true → exec (.supplyInterrupt vin) s = .next s) ∧
    (s.core.interrupted = true → ∃ t, exec (.supplyReturn len vin) s = .next t ∧ t.core.interrupted = false ∧
      t.get Fld.PWR_STAT_ON_HOLDUP = 0 ∧ t.get Fld.PWR_SUPPLY_VIN = vin % 65536 ∧
      0 ∉ sparseGet (fun _ => []) t.sump.levels Src.PWR_HOLDUP ∧ t.mode = s.mode ∧ t.inst = s.inst ∧
      (∀ r, s.core.interruptSeq = some r.seq.toNat → .record r ∈ s.fls.queue → .record { r with body := recordBody [(4, len)] } ∈ t.fls.queue) ∧
      (1680 ≤ vin → t.core.inputLow = false)) ∧
    (s.core.interrupted = false → exec (.supplyReturn len vin) s = .next s) ∧
    (∃ t, exec (.pwrInputLow vin) s = .next t ∧ t.get Fld.PWR_SUPPLY_VIN = vin % 65536 ∧ (t.core.inputLow = true ↔ vin < 1680) ∧
      (0 ∈ sparseGet (fun _ => []) t.sump.levels Src.PWR_INPUT_LOW ↔ vin < 1680) ∧ t.mode = s.mode ∧ t.inst = s.inst) ∧
    (s.bit Fld.PWR_STAT_ON_HOLDUP = false → s.load.leaving = none ∨ s.mode ≠ .load →
      exec .holdupFull s = .next s.rechargeDone) ∧
    (s.bit Fld.PWR_STAT_HOLDUP_FULL = true → s.rechargeDone = s) ∧
    (s.bit Fld.PWR_STAT_HOLDUP_FULL = false → s.rechargeDone =
      { s.putBit Fld.PWR_STAT_HOLDUP_FULL true with pwr := { s.pwr with fullAt := s.fls.optime.toNat } }) ∧
    (∀ m, s.bit Fld.PWR_STAT_ON_HOLDUP = false → s.load.leaving = some m → s.mode = .load → ∃ t, exec .holdupFull s = .next t ∧
      t.mode = m ∧ t.load.leaving = none ∧ t.get Fld.PWR_STAT_HOLDUP_FULL = 1) ∧
    (s.bit Fld.PWR_STAT_ON_HOLDUP = true → exec .holdupFull s = .next s)

/-- The data save (R46, R47) and an extraction (R56, R412): both end in the brown-out reset of a finished save, with the outputs off, every
record written and the bank no longer full; an extraction has told the partner with departure frames on both lanes, in HIBERNATE it tells
nobody. Without an interruption there is no data save, and a module that is not inserted or already withdrawn sees no extraction. -/
def Claim.DataSaveAndExtraction : Prop :=
  ∀ s : State,
    (s.rst.inReset = false → s.core.interrupted = true → ∃ t, exec .dataSave s = .next t ∧ t.mode = .load ∧ t.rst.inReset = true ∧
      t.rst.asserted.getLsbD 1 = true ∧ t.get Fld.RST_CAUSE_BOR = 1 ∧ t.get Fld.RST_CAUSE_FIRST = 1 ∧ t.get Fld.RST_DETAIL_BOR_KIND = 0 ∧
      t.islRun = false ∧ t.fls.queue = [] ∧ t.get Fld.PWR_STAT_HOLDUP_FULL = 0) ∧
    (s.rst.inReset = true ∨ s.core.interrupted = false → exec .dataSave s = .next s) ∧
    (s.core.mainPath = .on → s.core.extracted = false → s.rst.inReset = false → s.mode ≠ .hibernate → ∃ t, exec .extraction s = .next t ∧
      t.core.extracted = true ∧ t.core.mainPath = .absent ∧ t.mode = .load ∧ t.rst.inReset = true ∧ t.rst.asserted.getLsbD 1 = true ∧
      t.get Fld.RST_DETAIL_BOR_KIND = 0 ∧ t.islRun = false ∧ t.fls.queue = [] ∧
      .lifeline .departure (s.llHeaderOn 0 .departure) ∈ t.out ∧ .lifeline .departure (s.llHeaderOn 1 .departure) ∈ t.out) ∧
    (s.core.mainPath = .on → s.core.extracted = false → s.rst.inReset = false → s.mode = .hibernate → ∃ t, exec .extraction s = .next t ∧
      t.core.extracted = true ∧ t.core.mainPath = .absent ∧ t.mode = .load ∧ t.rst.inReset = true ∧ t.rst.asserted.getLsbD 1 = true ∧
      t.fls.queue = [] ∧ t.out = s.out) ∧
    (s.core.mainPath = .on → s.core.extracted = false → s.rst.inReset = true →
      exec .extraction s = .next { s with core := { s.core with extracted := true, mainPath := .absent } }) ∧
    (s.core.mainPath ≠ .on ∨ s.core.extracted = true → exec .extraction s = .next s)

/-- Interruptions of the supply, the data save and an extraction: what the parts say, taken together. -/
def Obligations.SupplyAndDataSave : Prop := Claim.SupplyInterruption ∧ Claim.DataSaveAndExtraction

/-! ### Module-level reset, watchdog, clocks (R60 to R75, R470) -/

/-- Each source that begins an episode resets the module (R69, R71, R73): its bit and FIRST in RST_CAUSE, LOAD, what is non-volatile
preserved and what is volatile lost. -/
def Claim.ResetEpisodeBegins : Prop :=
  ∀ s : State, s.rst.inReset = false →
    (∃ t, exec .porAssert s = .next t ∧ episodeBegins s t 0) ∧
    (∃ t, exec .coreRailBrownOut s = .next t ∧ episodeBegins s t 1 ∧ t.get Fld.RST_DETAIL_BOR_KIND = 1) ∧
    (∃ t, exec .ioRailBrownOut s = .next t ∧ episodeBegins s t 1 ∧ t.get Fld.RST_DETAIL_BOR_KIND = 2) ∧
    (∃ t, exec .pinAccept s = .next t ∧ episodeBegins s t 2) ∧
    (s.rst.wdtRunning = true → ∃ t, exec .watchdogExpiry s = .next t ∧ episodeBegins s t 3) ∧
    (∀ v, Fld.RST_SW_REQ.on v = true → Fld.RST_SW_KEY.ext v = 0x5EB0 → ∃ t, exec (.rstSwReq v) s = .next t ∧ episodeBegins s t 4) ∧
    (s.get Fld.SEC_STATUS_DBG_LEVEL = 3 → ∃ t, exec .dbgResetRequest s = .next t ∧ episodeBegins s t 5) ∧
    (∃ t, exec .pllLockLoss s = .next t ∧ episodeBegins s t 6 ∧ t.get Fld.RST_DETAIL_CLK_ID = 6 ∧ t.get Fld.CLK_STAT_PLL_LOCK = 0) ∧
    (∀ n, n < 40 ∨ 140 < n → ∃ t, exec (.ownOscCheck n) s = .next t ∧ episodeBegins s t 6 ∧ t.get Fld.RST_DETAIL_CLK_ID = 7) ∧
    (∀ (p k : Fin 2), ∃ t, exec (.lockup p k) s = .next t ∧ episodeBegins s t 7 ∧
      t.get Fld.RST_DETAIL_LOCKUP_PAIR = p.val ∧ t.get Fld.RST_DETAIL_LOCKUP_KIND = k.val)

/-- A source that asserts while the module is in reset joins the episode (R72, R73, R75): its bit is set, RST_COUNT stays, and the
power-cycle count counts an episode with POR or BOR once; FIRST stays, unless the source asserts in the own-oscillator cycle in which the
episode began (log entry 105) and stands before it in R73's order. -/
def Claim.ResetSourceJoinsEpisode : Prop :=
  ∀ s : State, s.rst.inReset = true →
    (∃ t, exec .pinAccept s = .next t ∧ t.rst.inReset = true ∧ t.rst.asserted = s.rst.asserted ||| 4 ∧ t.mode = s.mode ∧
      (16 ≤ s.time.cycles → t.getReg Reg.RST_CAUSE = s.getReg Reg.RST_CAUSE ||| 4) ∧
      (s.time.cycles < 16 → t.get Fld.RST_CAUSE_FIRST =
        if s.get Fld.RST_CAUSE_FIRST = 4 ∨ s.get Fld.RST_CAUSE_FIRST = 5 then 2 else s.get Fld.RST_CAUSE_FIRST) ∧
      t.getReg Reg.RST_COUNT = s.getReg Reg.RST_COUNT ∧ t.getReg Reg.RST_PWR_CYCLES = s.getReg Reg.RST_PWR_CYCLES) ∧
    (∃ t, exec .coreRailBrownOut s = .next t ∧ t.rst.asserted = s.rst.asserted ||| 2 ∧ t.rst.pwrCounted = true ∧
      (16 ≤ s.time.cycles → t.getReg Reg.RST_CAUSE = s.getReg Reg.RST_CAUSE ||| 2) ∧
      (s.time.cycles < 16 → t.get Fld.RST_CAUSE_FIRST = if s.get Fld.RST_CAUSE_FIRST = 0 then 0 else 1) ∧
      t.getReg Reg.RST_COUNT = s.getReg Reg.RST_COUNT ∧
      (t.getReg Reg.RST_PWR_CYCLES).toNat =
        if s.rst.pwrCounted then (s.getReg Reg.RST_PWR_CYCLES).toNat else min ((s.getReg Reg.RST_PWR_CYCLES).toNat + 1) (2 ^ 32 - 1))

/-- Every source begins a module-level reset episode, and one in reset joins it: what the parts say, taken together. -/
def Obligations.ResetEpisodes : Prop := Claim.ResetEpisodeBegins ∧ Claim.ResetSourceJoinsEpisode

/-- Sources release one by one (R69, R72): each release takes away its own source alone, and the module leaves reset only when none is left,
into LOAD step 1 with the straps sampled. -/
def Claim.ResetRelease : Prop :=
  ∀ s : State,
    (s.core.porHeld = false → exec .porRelease s = .next { s with rst := { s.rst with asserted := s.rst.asserted &&& ~~~1 } }) ∧
    exec .borRelease s = .next { s with rst := { s.rst with asserted := s.rst.asserted &&& ~~~2 } } ∧
    exec .pinRelease s = .next { s with rst := { s.rst with asserted := s.rst.asserted &&& ~~~4 } } ∧
    exec (.resetPulseEnd .wdt) s = .next { s with rst := { s.rst with asserted := s.rst.asserted &&& ~~~8 } } ∧
    exec (.resetPulseEnd .sw) s = .next { s with rst := { s.rst with asserted := s.rst.asserted &&& ~~~16 } } ∧
    exec .dbgResetRelease s = .next { s with rst := { s.rst with asserted := s.rst.asserted &&& ~~~32 } } ∧
    (∃ t, exec .clkfRelease s = .next t ∧ t.rst.asserted = s.rst.asserted &&& ~~~64 ∧ t.get Fld.CLK_STAT_OWN_OK = 1 ∧
      t.get Fld.CLK_STAT_PLL_LOCK = 1) ∧
    exec (.resetPulseEnd .lockup) s = .next { s with rst := { s.rst with asserted := s.rst.asserted &&& ~~~128 } } ∧
    (∀ m, s.rst.asserted ≠ 0 → exec (.moduleResetRelease m) s = .next s) ∧
    (∀ m, s.rst.inReset = true → s.rst.asserted = 0 → s.sec.erasePending = false → ∃ t, exec (.moduleResetRelease m) s = .next t ∧
      t.rst.inReset = false ∧ t.get Fld.RST_STRAP_BOOT = m.boot.toNat ∧ t.get Fld.RST_STRAP_CLK = m.clk.toNat ∧
      t.get Fld.CLK_STAT_REF_STRAP = m.clk.toNat ∧ t.get Fld.PAIR_STAT_SLOT = m.slotAb.toNat ∧ t.core.lampTest = true)

/-- The kick logic of R470: armed by 0xA5, restarted by 0x5A, every other sequence ignored and counted; a write of ENABLE starts and stops the
count, a new TIMEOUT waits for the next restart. -/
def Obligations.WatchdogKickLogic : Prop :=
  ∀ (s : State) (v : Word),
    (s.rst.wdtArmed = false → Fld.WDT_KICK_CODE.ext v = 0xA5 → exec (.wdtKick v) s = .next { s with rst := { s.rst with wdtArmed := true } }) ∧
    (s.rst.wdtArmed = false → Fld.WDT_KICK_CODE.ext v ≠ 0xA5 → exec (.wdtKick v) s = .next (s.bump Fld.WDT_STAT_BAD_KICKS)) ∧
    (s.rst.wdtArmed = true → s.rst.wdtRunning = true → Fld.WDT_KICK_CODE.ext v = 0x5A →
      exec (.wdtKick v) s = .next (State.put
        { s with rst := { s.rst with wdtArmed := false, wdtTimeout := s.get Fld.WDT_CTRL_TIMEOUT } }
        Fld.WDT_STAT_REMAIN_MS (s.get Fld.WDT_CTRL_TIMEOUT))) ∧
    (s.rst.wdtArmed = true → Fld.WDT_KICK_CODE.ext v = 0xA5 → exec (.wdtKick v) s = .next (s.bump Fld.WDT_STAT_BAD_KICKS)) ∧
    (s.rst.wdtArmed = true → Fld.WDT_KICK_CODE.ext v ≠ 0xA5 → Fld.WDT_KICK_CODE.ext v ≠ 0x5A →
      exec (.wdtKick v) s = .next (State.bump { s with rst := { s.rst with wdtArmed := false } } Fld.WDT_STAT_BAD_KICKS)) ∧
    (s.rst.wdtArmed = true → exec .kickArmTimeout s = .next (State.bump { s with rst := { s.rst with wdtArmed := false } } Fld.WDT_STAT_BAD_KICKS)) ∧
    (s.bit Fld.RST_LOCK_LOCK = false → s.bit Fld.WDT_CTRL_ENABLE = true → Fld.WDT_CTRL_ENABLE.on v = false → ∃ t,
      exec (.wdtCtrlWrite v) s = .next t ∧ t.rst.wdtRunning = false ∧ t.getReg Reg.WDT_STAT = s.getReg Reg.WDT_STAT ∧
      t.get Fld.WDT_CTRL_ENABLE = 0) ∧
    (s.bit Fld.RST_LOCK_LOCK = false → s.bit Fld.WDT_CTRL_ENABLE = true → Fld.WDT_CTRL_ENABLE.on v = true → ∃ t,
      exec (.wdtCtrlWrite v) s = .next t ∧ t.rst = s.rst ∧ t.getReg Reg.WDT_STAT = s.getReg Reg.WDT_STAT ∧
      t.get Fld.WDT_CTRL_TIMEOUT = max 10 (min 10000 (Fld.WDT_CTRL_TIMEOUT.ext v)))

/-- RST_CAUSE (R74): a write clears exactly the bits written as 1, FIRST and every other register stay; a software reset with another key is
refused and raises RST_BAD_KEY (R69). -/
def Claim.ResetCauseAndKey : Prop :=
  ∀ (s : State) (v : Word),
    (∃ t, exec (.rstCauseClear v) s = .next t ∧ regsOnly s t [Reg.RST_CAUSE] ∧
      t.getReg Reg.RST_CAUSE = s.getReg Reg.RST_CAUSE &&& ~~~(v &&& 0x1FF)) ∧
    (Fld.RST_SW_REQ.on v = true → Fld.RST_SW_KEY.ext v ≠ 0x5EB0 → exec (.rstSwReq v) s = .next (s.raise Src.RST_BAD_KEY 0 0)) ∧
    (Fld.RST_SW_REQ.on v = false → exec (.rstSwReq v) s = .next s)

/-- Sources release one by one; RST_CAUSE and the key of the software reset: what the parts say, taken together. -/
def Obligations.ResetReleaseAndCause : Prop := Claim.ResetRelease ∧ Claim.ResetCauseAndKey

/-- The reference (R60 to R63, R83): a strapped reference that has been good moves the root to it, from step 5 of LOAD on, and is only noted before it; the move ends with REF_ACTIVE; a loss moves the
root to the own oscillator, sets CLK_EVENT.LOST and is raised and recorded; the root returns by REF_RESTORE alone, which is ignored while the
reference is not good. -/
def Claim.ReferenceSwitching : Prop :=
  ∀ (s : State) (v : Word),
    (s.rst.inReset = false → s.get Fld.CLK_STAT_REF_STRAP = 1 → s.rst.refWanted = true → s.get Fld.CLK_STAT_REF_ACTIVE = 0 →
      s.rst.refMoving ≠ some 1 → s.mode ≠ .load ∨ 5 ≤ s.load.step → exec .strappedRefTaken s = .next (State.putBit
        { s.putBit Fld.CLK_STAT_BASE_OK true with rst := { s.rst with refMoving := some 1 } } Fld.CLK_STAT_SWITCHING true)) ∧
    (s.rst.inReset = false → s.get Fld.CLK_STAT_REF_STRAP = 1 → s.mode = .load → s.load.step < 5 →
      exec .strappedRefTaken s = .next (s.putBit Fld.CLK_STAT_BASE_OK true)) ∧
    (s.rst.inReset = true ∨ s.get Fld.CLK_STAT_REF_STRAP = 0 ∨ s.get Fld.CLK_STAT_REF_STRAP = 3 → exec .strappedRefTaken s = .next s) ∧
    (∀ r, s.rst.refMoving = some r → exec .refSwitchDone s = .next (State.putAll { s with rst := { s.rst with refMoving := none } }
      [(Fld.CLK_STAT_REF_ACTIVE, r), (Fld.CLK_STAT_SWITCHING, 0)])) ∧
    (s.get Fld.CLK_STAT_REF_STRAP = 1 → s.get Fld.CLK_STAT_REF_ACTIVE = 1 → ∃ t, exec .clkRefLost s = .next t ∧
      t.rst.refMoving = some 0 ∧ t.rst.refWanted = false ∧ t.get Fld.CLK_EVENT_LOST = 1 ∧ t.get Fld.CLK_STAT_BASE_OK = 0 ∧
      t.get Fld.CLK_STAT_SWITCHING = 1) ∧
    (Fld.CLK_CTRL_REF_RESTORE.on v = true → s.get Fld.CLK_STAT_REF_STRAP = 1 → s.bit Fld.CLK_STAT_BASE_OK = true →
      s.get Fld.CLK_STAT_REF_ACTIVE = 0 → exec (.refRestore v) s = .next (State.putBit
        { s with rst := { s.rst with refWanted := true, refMoving := some 1 } } Fld.CLK_STAT_SWITCHING true)) ∧
    (s.bit s.strapOkField = false → exec (.refRestore v) s = .next s)

/-- The clock monitors (R66, R67): a window with a change of ratio is discarded; one within ±1 % clears the clock's streak; one outside warns
and begins a streak; the second in a row is a clock-failure reset; the own oscillator passes with 40 to 140 edges (R68). -/
def Claim.ClockMonitors : Prop :=
  ∀ (s : State) (x : Fin 6) (n : Nat),
    (s.rst.monSkip.getLsbD x.val = true → exec (.clkMonWindow x n) s = .next
      { s.put (Fld.CLK_MON_COUNT_COUNT x.val) n with rst := { s.rst with monSkip := s.rst.monSkip &&& ~~~BitVec.twoPow 6 x.val } }) ∧
    (s.rst.monSkip.getLsbD x.val = false → monOut x.val (s.get Fld.CLK_STAT_SQZ_RATIO) n = false → exec (.clkMonWindow x n) s = .next
      { s.put (Fld.CLK_MON_COUNT_COUNT x.val) n with rst := { s.rst with monBad := s.rst.monBad &&& ~~~BitVec.twoPow 6 x.val } }) ∧
    (s.rst.monSkip.getLsbD x.val = false → monOut x.val (s.get Fld.CLK_STAT_SQZ_RATIO) n = true → s.rst.monBad.getLsbD x.val = false →
      ∃ t, exec (.clkMonWindow x n) s = .next t ∧ t.rst.monBad = s.rst.monBad ||| BitVec.twoPow 6 x.val ∧ t.mode = s.mode ∧
        t.get Fld.CLK_EVENT_MON_WARN = 1 ∧ t.get Fld.CLK_EVENT_MON_CLK = x.val) ∧
    (s.rst.monSkip.getLsbD x.val = false → monOut x.val (s.get Fld.CLK_STAT_SQZ_RATIO) n = true → s.rst.monBad.getLsbD x.val = true →
      s.rst.inReset = false → ∃ t, exec (.clkMonWindow x n) s = .next t ∧ t.rst.inReset = true ∧ t.get Fld.RST_CAUSE_FIRST = 6 ∧
        t.get Fld.RST_DETAIL_CLK_ID = x.val) ∧
    (40 ≤ n → n ≤ 140 → exec (.ownOscCheck n) s = .next (s.putBit Fld.CLK_STAT_OWN_OK true)) ∧
    (monOut x.val 0 (monExpected x.val).1 = false) ∧ (monOut 0 1 4000 = false) ∧ (monOut 0 2 2041 = true) ∧ (monOut 3 2 4000 = false)

/-- Switching of the reference and the clock monitors: what the parts say, taken together. -/
def Obligations.Clocks : Prop := Claim.ReferenceSwitching ∧ Claim.ClockMonitors

/-! ### Gates (R71, R76 to R79) -/

/-- A block reset in native mode (R77): the request closes the gate, the drain ends with the outstanding transfers completed with errors, the
block is held in reset, the clamps hold, and the gate opens with RESETS counted. -/
def Claim.NativeBlockReset : Prop :=
  ∀ (s : State) (b : Fin 64) (v : Word) (n : Nat), b.val < 50 → 16 ≤ b.val →
    ((Fld.GATE_CTRL_REQ b.val).on v = true → (Fld.GATE_CTRL_RELEASE b.val).on v = false → s.rst.inReset = false →
      (s.gate b.val).released = true → (s.gate b.val).resetting = false → s.bit (Fld.GATE_CTRL_QUIESCE b.val) = false →
      (Fld.GATE_CTRL_QUIESCE b.val).on v = false → ∃ t, exec (.blockResetRequest b v n) s = .next t ∧
        t.get (Fld.GATE_CTRL_STATE b.val) = 1 ∧ t.gate b.val = ⟨true, true, false, some n, false⟩) ∧
    ((s.gate b.val).resetting = true → (s.gate b.val).quiesced = false → s.get (Fld.GATE_CTRL_STATE b.val) = 1 →
      (s.gate b.val).outstanding = some n →
      exec (.gateDrainEnd b) s = .next ((((s.put (Fld.GATE_CTRL_ERRORED b.val) (min 255 n)).put (Fld.GATE_CTRL_STATE b.val) 2)).resetBlock b.val)) ∧
    ((s.gate b.val).resetting = true → s.get (Fld.GATE_CTRL_STATE b.val) = 2 →
      exec (.gateResetRelease b) s = .next (s.put (Fld.GATE_CTRL_STATE b.val) 3)) ∧
    ((s.gate b.val).resetting = true → s.get (Fld.GATE_CTRL_STATE b.val) = 3 →
      exec (.gateOpen b) s = .next (((s.setGate b.val { s.gate b.val with resetting := false, quiesced := false, outstanding := none }).put
        (Fld.GATE_CTRL_STATE b.val) 0).bump (Fld.GATE_CTRL_RESETS b.val)))

/-- Quiesce mode (R78): a block found idle goes into reset without error completion; one that is not idle after 10 µs is completed with errors,
QV is set and GATE_QUIESCE raised. -/
def Claim.QuiesceBlockReset : Prop :=
  ∀ (s : State) (b : Fin 64) (n : Nat),
    (s.gate b.val).resetting = true → (s.gate b.val).quiesced = true → s.get (Fld.GATE_CTRL_STATE b.val) = 1 →
    exec (.gateDrainEnd b) s = .next s ∧
    exec (.gateBlockIdle b) s = .next (((s.put (Fld.GATE_CTRL_ERRORED b.val) 0).put (Fld.GATE_CTRL_STATE b.val) 2).resetBlock b.val) ∧
    ((s.gate b.val).outstanding = some n → exec (.gateQuiesceTimeout b) s = .next
      (((((s.put (Fld.GATE_CTRL_ERRORED b.val) (min 255 n)).putBit (Fld.GATE_CTRL_QV b.val) true).raise Src.GATE_QUIESCE b.val 0).put
        (Fld.GATE_CTRL_STATE b.val) 2).resetBlock b.val))

/-- How requests meet (R71, R76, R79): discarded during a module-level reset and before LOAD releases the gate, merged into a reset under
way, ignored on a reserved gate; RELEASE opens a gate held since module reset; a write of both action bits is ignored whole (R469). -/
def Claim.BlockResetRequestsMeet : Prop :=
  ∀ (s : State) (b : Fin 64) (v : Word) (n : Nat),
    (s.rst.inReset = true ∨ (s.gate b.val).released = false ∨ (s.gate b.val).resetting = true → s.gateRequest b.val = s) ∧
    (50 ≤ b.val → exec (.blockResetRequest b v n) s = .next s ∧ exec (.gateRelease b v) s = .next s) ∧
    ((Fld.GATE_CTRL_REQ b.val).on v = true → (Fld.GATE_CTRL_RELEASE b.val).on v = true →
      exec (.blockResetRequest b v n) s = .next s ∧ exec (.gateRelease b v) s = .next s) ∧
    (b.val < 50 → (s.gate b.val).released = false → s.rst.inReset = false → s.mode ≠ .load ∨ 5 ≤ s.load.step →
      (Fld.GATE_CTRL_RELEASE b.val).on v = true → (Fld.GATE_CTRL_REQ b.val).on v = false →
      ∃ t, exec (.gateRelease b v) s = .next t ∧ (t.gate b.val).released = true ∧ t.get (Fld.GATE_CTRL_STATE b.val) = 0)

/-- Block resets through gates, in native and in quiesce mode: what the parts say, taken together. -/
def Obligations.BlockResets : Prop := Claim.NativeBlockReset ∧ Claim.QuiesceBlockReset ∧ Claim.BlockResetRequestsMeet

/-! ### LOAD and the survey (R83 to R88, R117 to R120) -/

/-- The layout of the store (R81, R82): every offset of its 256 MiB lies in exactly one region and none beyond it lies in any; the survey
image of an area begins 64 KiB into it, behind its header, and its 48 MiB end inside the area. -/
def Claim.StoreLayout : Prop :=
  (∀ off : Nat, off < 0x10000000 → ∃ r, storeRegionAt off = some r ∧
    ∀ r' : StoreRegion, (r'.span.1 ≤ off ∧ off < r'.span.1 + r'.span.2) ↔ r' = r) ∧
  (∀ off : Nat, 0x10000000 ≤ off → storeRegionAt off = none) ∧
  (∀ off : Nat, off < 0x3000000 → storeRegionAt (surveyImageAt 0 + off) = some .area0 ∧ storeRegionAt (surveyImageAt 1 + off) = some .area1) ∧
  surveyImageAt 0 = StoreRegion.area0.span.1 + 0x10000 ∧ surveyImageAt 1 = StoreRegion.area1.span.1 + 0x10000

/-- LOAD steps 4 to 6 (R55, R83, R84, R188, R423): a failing candidate, or one older than its security version counters, leaves the next, the
last one leads to RECOVERY; a passing one runs, and the store's header ends step 5; a store without an intact header leads to HOLD (R82); the scrub ends step 6, a chamber that fails its comparator
test is FAILED. -/
def Claim.LoadFirmwareToScrub : Prop :=
  ∀ (s : State) (code iface : Nat) (store : StoreContents) (c : FwCandidate) (cs : List FwCandidate), s.mode = .load →
    (s.load.step = 4 → s.load.candidates = c :: cs → cs ≠ [] → ∃ t,
      exec (.firmwareCandidateVerified false code iface store) s = .next t ∧ t.mode = .load ∧ t.load = { s.load with candidates := cs }) ∧
    (s.load.step = 4 → s.load.candidates = c :: cs → cs ≠ [] → State.candidateFresh { s with store := store } c = false → ∃ t,
      exec (.firmwareCandidateVerified true code iface store) s = .next t ∧ t.mode = .load ∧ t.load = { s.load with candidates := cs }) ∧
    (s.load.step = 4 → s.load.candidates = [c] → s.load.hold = false → ∃ t,
      exec (.firmwareCandidateVerified false code iface store) s = .next t ∧
      (s.bit Fld.PWR_STAT_HOLDUP_FULL = true → t.mode = .recovery) ∧
      (s.bit Fld.PWR_STAT_HOLDUP_FULL = false → t.mode = .load ∧ t.load.leaving = some .recovery)) ∧
    (∀ h, s.load.step = 4 → s.load.candidates = .store :: cs → State.candidateFresh { s with store := store } .store = true →
      storeHeader store = some h → store.sfdpOk = true → ∃ t,
      exec (.firmwareCandidateVerified true code iface store) s = .next t ∧ t.mode = .load ∧ t.store = store ∧
        t.load = { s.load with step := 5, startPolicy := h.startPolicy, candidates := [], fwIface := iface } ∧
        t.get Fld.CFG_STAT_HDR_OK = 1 ∧ t.get Fld.CFG_STAT_SFDP_OK = 1) ∧
    (s.load.step = 4 → s.load.candidates = .store :: cs → State.candidateFresh { s with store := store } .store = true →
      storeHeader store = none → s.load.hold = false → ∃ t,
      exec (.firmwareCandidateVerified true code iface store) s = .next t ∧
      (s.bit Fld.PWR_STAT_HOLDUP_FULL = true → t.mode = .hold) ∧
      (s.bit Fld.PWR_STAT_HOLDUP_FULL = false → t.mode = .load ∧ t.load.leaving = some .hold)) ∧
    (s.load.step = 5 → exec (.loadScrubDone 0) s = .next { s with load := { s.load with step := 6 } }) ∧
    (∀ (bad : BitVec 16) (n : Fin 16), s.load.step = 5 → bad.getLsbD n.val = true → ∃ t, exec (.loadScrubDone bad) s = .next t ∧
      t.load.step = 6 ∧ t.get (Fld.GAL_CH_STAT_STATE n.val) = Ch.FAILED)

/-- LOAD steps 7 to 10 (R55, R86, R87): of two intact ACTIVE areas the higher GENERATION runs, equal ones with one digest run area 0, with two
digests none; one alone runs; without a Lifeline the own generation is taken, and without one the module enters HOLD. -/
def Claim.LoadGeneration : Prop :=
  ∀ (s : State) (r : TrimReport), s.mode = .load →
    let runs (x : Nat) : Bool := areaIntact (s.area x) && (s.area x).state == 0x1F
    (s.load.step = 6 → ∃ t, exec (.trimLoadDone r) s = .next t ∧ t.load.step = 8 ∧
      (s.linked = false → t.mode = .load ∧ t.load.ownGen =
        if runs 0 && runs 1 then
          if (s.area 0).generation = (s.area 1).generation then (if (s.area 0).digest = (s.area 1).digest then some 0 else none)
          else if (s.area 0).generation < (s.area 1).generation then some 1 else some 0
        else if runs 0 then some 0
        else if runs 1 then some 1
        else none)) ∧
    (∀ a, s.load.step = 8 → s.load.resolved = false → s.linked = false → s.load.ownGen = some a → ∃ t,
      exec .linkWaitExpiry s = .next t ∧ t.mode = .load ∧ t.load.resolved = true ∧ t.load.ownGen = some a ∧ t.get Fld.CFG_STAT_RESOLVE = 0) ∧
    (s.load.step = 8 → s.load.resolved = false → s.linked = false → s.load.ownGen = none → s.load.hold = false → ∃ t,
      exec .linkWaitExpiry s = .next t ∧ (s.bit Fld.PWR_STAT_HOLDUP_FULL = true → t.mode = .hold) ∧
      (s.bit Fld.PWR_STAT_HOLDUP_FULL = false → t.mode = .load ∧ t.load.leaving = some .hold))

/-- LOAD from the firmware candidates to the choice of the generation: what the parts say, taken together. -/
def Obligations.LoadSteps : Prop := Claim.StoreLayout ∧ Claim.LoadFirmwareToScrub ∧ Claim.LoadGeneration

/-- The survey of LOAD step 11 (R55, R117 to R119): one that passes every check becomes the ACTIVE survey of bank A; the first failed check leads to
HOLD with the bank empty of a survey; a survey loaded for a change that fails is refused and the running one goes on. -/
def Claim.SurveyLoad : Prop :=
  ∀ (s : State) (gen : Nat) (g : Survey) (f : Nat × Nat × Nat),
    (s.mode = .load → s.load.step = 8 → s.load.resolved = true →
      s.surveyFault g (s.area (s.load.ownGen.getD 0)).surveyLength false = none → ∃ t, exec (.surveyLoadDone 0 gen g) s = .next t ∧
        t.mode = .load ∧ t.load.step = 11 ∧ t.activeSurvey = some g) ∧
    (s.mode = .load → s.load.step = 8 → s.load.resolved = true → s.load.hold = false →
      s.surveyFault g (s.area (s.load.ownGen.getD 0)).surveyLength false = some f → ∃ t, exec (.surveyLoadDone 0 gen g) s = .next t ∧
        (s.bit Fld.PWR_STAT_HOLDUP_FULL = true → t.mode = .hold) ∧
        (s.bit Fld.PWR_STAT_HOLDUP_FULL = false → t.mode = .load ∧ t.load.leaving = some .hold) ∧ (sparseGet (fun _ => (⟨none⟩ : Bank)) t.banks 0).survey = none) ∧
    (∀ x : Fin 2, s.mode ≠ .load → s.olcState = Olc.LOADING → x.val = s.olc.bank → x.val ≠ s.get Fld.SEQ_STAT_ACTIVE_BANK →
      s.surveyFault g (s.area s.olc.targetArea).surveyLength true = some f → ∃ t, exec (.surveyLoadDone x gen g) s = .next t ∧
        t.mode = s.mode ∧ t.activeSurvey = s.activeSurvey ∧ t.olc.survey = none)

/-- The exit from LOAD (R26, R88, R239): alone with START_POLICY AUTO the module waits for the hyperperiod boundary and then runs, with MANUAL it
enters HOLD; with a running partner it joins; it leaves only with the hold-up bank full (R55). -/
def Obligations.LoadExitAndStart : Prop :=
  ∀ s : State,
    (s.mode = .load → s.load.step = 11 → s.load.hold = false → s.bit Fld.PWR_STAT_HOLDUP_FULL = true → s.load.wakeLoad = false →
      s.linked = false → s.load.startPolicy = 0 →
      ∃ t, exec .loadExit s = .next t ∧ t.mode = .load ∧ t.core.startPending = true ∧ t.load.step = 13) ∧
    (s.mode = .load → s.load.step = 11 → s.load.hold = false → s.bit Fld.PWR_STAT_HOLDUP_FULL = true → s.load.wakeLoad = false →
      s.linked = false → s.load.startPolicy ≠ 0 → ∃ t, exec .loadExit s = .next t ∧ t.mode = .hold) ∧
    (s.mode = .load → s.load.step = 11 → s.load.hold = false → s.bit Fld.PWR_STAT_HOLDUP_FULL = true → s.load.wakeLoad = false →
      s.linked = true → s.partnerRuns = true → s.slot = 0 → ∃ t, exec .loadExit s = .next t ∧ t.mode = .load ∧ t.role = .joining) ∧
    (s.bit Fld.PWR_STAT_HOLDUP_FULL = false → exec .loadExit s = .next s) ∧
    (∀ g, s.mode = .load → s.core.startPending = true → s.activeSurvey = some g → s.bit Fld.SEQ_STAT_RUNNING = false → ∃ t,
      exec .sequencerStart s = .next t ∧ t.mode = .run ∧ t.get Fld.SEQ_STAT_RUNNING = 1 ∧ t.time.seqRan = true ∧ t.core.startPending = false) ∧
    (s.bit Fld.SEQ_STAT_RUNNING = true → exec .sequencerStart s = .next s)

/-- The survey banks (R119, R120): a write of the active bank gets an error response and raises SURVEY_BANK_WRITE; a corrected error is counted;
an uncorrectable one in the inactive bank empties it and makes it REJECTED, in the active bank it is recorded and raised, and in SOLO the module
asks for HOLD. -/
def Claim.SurveyBanks : Prop :=
  ∀ (s : State) (x : Fin 2) (off : Nat) (d : Word),
    (s.get (Fld.SVY_BANK_STATE x.val) = 3 →
      exec (.surveyBankWrite x off d) s = .next { s.raise Src.SURVEY_BANK_WRITE x.val 0 with bus := .error }) ∧
    (s.get (Fld.SVY_BANK_STATE x.val) ≠ 3 → exec (.surveyBankWrite x off d) s = .next { s with bus := .done }) ∧
    exec (.scrubEccError x false off) s = .next (s.bump (Fld.SVY_BANK_CE_COUNT x.val)) ∧
    (s.get (Fld.SVY_BANK_STATE x.val) ≠ 3 → exec (.scrubEccError x true off) s = .next
      (State.raise { s.putAll [(Fld.SVY_BANK_STATE x.val, 4), (Fld.SVY_SCRUB_UE_INACTIVE, 1)] with
        banks := sparseSet (fun _ => (⟨none⟩ : Bank)) s.banks x.val ⟨none⟩ } Src.SURVEY_ECC_UE_INACTIVE x.val 0)) ∧
    (s.get (Fld.SVY_BANK_STATE x.val) = 3 → s.inPair = false → exec (.scrubEccError x true off) s = .next
      (((s.putBit Fld.SVY_SCRUB_UE_ACTIVE true).record 0x21 x.val [(4, off)]).raise Src.SURVEY_ECC_UE_ACTIVE x.val 0).requestHold)

/-- Survey loads and the survey banks: what the parts say, taken together. -/
def Obligations.SurveyLoadAndBanks : Prop := Claim.SurveyLoad ∧ Claim.SurveyBanks

/-! ### On-line change and forcing (R198 to R217) -/

/-- Admission (R198, R199): each condition that fails gives its reason, in order; in a SYNCED pair the
partner is asked first, and nothing else begins before its answer; a request admitted without one erases the other area and is WRITING. -/
def Claim.ChangeAdmission : Prop :=
  ∀ (s : State) (gen : Nat) (g : Survey) (reuse : Bool),
    (∀ r, s.olcRefusal gen (hasMigration g) g.header.parentBuildId = some r → exec (.olcRequest gen g reuse) s = .next
      ((s.put Fld.OLC_REASON_CODE r).bump Fld.OLC_COUNT_ABORTS)) ∧
    (s.olcState ≠ Olc.IDLE → s.olcRefusal gen (hasMigration g) g.header.parentBuildId = some 1) ∧
    (s.olc.asking.isSome = true → s.olcRefusal gen (hasMigration g) g.header.parentBuildId = some 1) ∧
    (s.olcState = Olc.IDLE → s.olc.asking = none → hasMigration g = false ∨ g.header.parentBuildId ≠ s.runningBuild →
      s.olcRefusal gen (hasMigration g) g.header.parentBuildId = some 3) ∧
    (s.olcRefusal gen (hasMigration g) g.header.parentBuildId = none → s.ll = .synced → exec (.olcRequest gen g reuse) s = .next
      (State.emit { s with olc := { s.olc with asking := some (gen, g, reuse) } }
        (.lifeline (.command (.olcRequest gen (hasMigration g) g.header.parentBuildId))))) ∧
    (s.olcRefusal gen (hasMigration g) g.header.parentBuildId = none → s.ll ≠ .synced → ∃ t, exec (.olcRequest gen g false) s = .next t ∧
      t.olcState = Olc.WRITING ∧ t.olc.survey = some g ∧ t.olc.generation = gen ∧ t.olc.targetArea = 1 - s.get Fld.CFG_STAT_RUN_AREA ∧
      t.olc.bank = 1 - s.get Fld.SEQ_STAT_ACTIVE_BANK ∧ t.get Fld.OLC_REASON_CODE = 0)

/-- The change goes on (R187, R199 to R206): area written, MIGRATE in VERIFIED, the next sweep step only with no journal to commit and the queue
empty, ARM in SOLO takes S, the agreement fixes S afresh, programs the new area ACTIVE and is ARMED, or is refused; an ABORT before the agreement
ends it, after it is ignored (R211). -/
def Claim.ChangeSteps : Prop :=
  ∀ (s : State) (g : Survey) (v : Word), s.olc.survey = some g →
    (s.olcState = Olc.WRITING → ∃ t, exec (.olcAreaWritten g true) s = .next t ∧ t.olcState = Olc.LOADING ∧ t.olc = s.olc) ∧
    (Fld.OLC_CTRL_MIGRATE.on v = true → Fld.OLC_CTRL_ARM.on v = false → Fld.OLC_CTRL_ABORT.on v = false → s.olcState = Olc.VERIFIED →
      mappedWords g ≠ [] → ∃ t, exec (.olcMigrate v) s = .next t ∧ t.olcState = Olc.MIGRATING ∧ t.olc.mirror = true ∧ t.olc.areaDone = [] ∧
        t.olc.pageDone = []) ∧
    (∀ ix, s.olcState = Olc.MIGRATING → s.seq.journals = [] → s.olc.queue = [] → s.sweepNext g false = some ix → s.inst.ue = [] → ∃ t,
      exec (.sweepStep ix false false) s = .next t ∧ t.olc.areaDone = s.olc.areaDone ++ [ix]) ∧
    (∀ ix u, s.olcState = Olc.MIGRATING → s.seq.journals = [] → s.olc.queue = [] → s.sweepNext g true = some ix → ∃ t,
      exec (.sweepStep ix true u) s = .next t ∧ t.olc.pageDone = s.olc.pageDone ++ [ix]) ∧
    (∀ ix p u, s.seq.commit ≠ none ∨ s.seq.ready ≠ [] ∨ s.olc.queue ≠ [] ∨ s.sweepNext g p ≠ some ix → exec (.sweepStep ix p u) s = .next s) ∧
    (∀ x, Fld.OLC_CTRL_MIGRATE.on v = false → Fld.OLC_CTRL_ARM.on v = true → Fld.OLC_CTRL_ABORT.on v = false → s.olcState = Olc.MIGRATED →
      s.ll ≠ .synced → (s.regStore Reg.OLC_CTRL v).swapInstant g = some x → ∃ t, exec (.olcArm v) s = .next t ∧ t.olc.agreed = true ∧
        t.olc.swapAt = x ∧ t.olcState = Olc.MIGRATED) ∧
    (s.olcState = Olc.MIGRATED → s.olc.agreed = true → s.olc.swapAt ≠ 0 → s.ll ≠ .synced →
      (s.swapBlocked g = true → ∃ t, exec .swapAgreement s = .next t ∧ t.olcState = Olc.MIGRATED ∧ t.olc.agreed = false ∧
        t.get Fld.OLC_REASON_CODE = 2) ∧
      (s.swapBlocked g = false → s.swapInstant g = none → ∃ t, exec .swapAgreement s = .next t ∧ t.olcState = Olc.MIGRATED ∧
        t.olc.agreed = false ∧ t.get Fld.OLC_REASON_CODE = 7) ∧
      (∀ x, s.swapBlocked g = false → s.swapInstant g = some x → ∃ t, exec .swapAgreement s = .next t ∧
        t.olcState = Olc.ARMED ∧ t.olc.swapAt = x ∧ t.get Fld.OLC_SWAP_LO_NS_LO = x % 2 ^ 32)) ∧
    (Fld.OLC_CTRL_MIGRATE.on v = false → Fld.OLC_CTRL_ARM.on v = false → Fld.OLC_CTRL_ABORT.on v = true → s.olcState = Olc.ARMED →
      exec (.olcAbort v) s = .next (s.regStore Reg.OLC_CTRL v)) ∧
    (Fld.OLC_CTRL_MIGRATE.on v = false → Fld.OLC_CTRL_ARM.on v = false → Fld.OLC_CTRL_ABORT.on v = true → s.olcState = Olc.VERIFIED →
      s.ll ≠ .synced → ∃ t, exec (.olcAbort v) s = .next t ∧ t.olc.survey = none ∧ t.olc.mirror = false)

/-- The swap at S (R207, R208, R211): both banks and both pages change over, and the tail's EMITs are awaited; a module whose new bank is not
VERIFIED, or with a failed chamber that the new survey uses and no variant replaces (R187), cannot swap and gives the change up. A chamber's staging is seeded once (R207). -/
def Claim.SwapAtS : Prop :=
  ∀ (s : State) (old new : Survey) (c : Fin 16),
    (s.olcState = Olc.ARMED → s.activeSurvey = some old → s.otherSurvey = some new → s.get (Fld.SVY_BANK_STATE s.olc.bank) = 2 → s.swapBlocked new = false → ∃ t,
      exec .swap s = .next t ∧ t.sig.active = 1 - s.sig.active ∧ t.mode = s.mode ∧ t.load.ownGen = some s.olc.targetArea) ∧
    (s.olcState = Olc.ARMED → s.activeSurvey = some old → s.otherSurvey = some new →
      s.get (Fld.SVY_BANK_STATE s.olc.bank) ≠ 2 ∨ s.swapBlocked new = true → ∃ t, exec .swap s = .next t ∧ t.olc.survey = none ∧ t.sig = s.sig) ∧
    (c.val ∉ s.olc.seeding → exec (.stagingSeedDone c) s = .next s) ∧
    (c.val ∈ s.olc.seeding → ∃ t, exec (.stagingSeedDone c) s = .next t ∧ c.val ∉ t.olc.seeding ∧ t.sig = s.sig ∧ t.inst = s.inst)

/-- On-line change: admission, migration, arming and the swap at S: what the parts say, taken together. -/
def Obligations.OnlineChange : Prop := Claim.ChangeAdmission ∧ Claim.ChangeSteps ∧ Claim.SwapAtS

/-- The conversions of a migration map (R114): copy and zero extension keep the number, sign extension and narrowing keep the signed value,
narrowing saturating at the ends of the range, and a NaN becomes the integer 0. -/
def Claim.MigrationConversions : Prop :=
  ∀ (e : MigrationEntry) (v : Nat),
    (e.conv = 0 ∨ e.conv = 1 → migConvert e v = v) ∧
    (e.conv = 2 → 0 < e.oldWidth → e.oldWidth < e.newWidth → signedOf e.newWidth (migConvert e v) = signedOf e.oldWidth v) ∧
    (e.conv = 5 → 0 < e.newWidth → e.newWidth < e.oldWidth →
      signedOf e.newWidth (migConvert e v) = max (-(2 ^ (8 * e.newWidth - 1))) (min (2 ^ (8 * e.newWidth - 1) - 1) (signedOf e.oldWidth v))) ∧
    (e.conv = 4 → f32IsNan (BitVec.ofNat 32 v) = true → migConvert e v = 0) ∧
    (e.conv = 3 → migConvert e v = (f32OfInt (signedOf e.oldWidth v)).toNat) ∧
    (0 < e.newWidth → migConvert { e with conv := 2 } v < 2 ^ (8 * e.newWidth) ∧ migConvert { e with conv := 5 } v < 2 ^ (8 * e.newWidth))

/-- Order of precedence and propagation of status codes, and the conversions of a migration map: what the parts say, taken together. -/
def Obligations.StatusAndConversions : Prop := Claim.StatusPrecedence ∧ Claim.MigrationConversions

/-- Force commands (R212, R215, R217, R435): a write that R212 allows waits for its cycle E, the count at acceptance plus 4; one without a
session or between agreement and IDLE is refused, and so are two commands in one write (R469); READ shows an entry or is refused. -/
def Claim.ForceCommands : Prop :=
  ∀ (s : State) (v : Word),
    (Fld.FRC_CMD_WRITE.on v = true → Fld.FRC_CMD_CLEAR.on v = true → ∃ t,
      exec (.forceWrite v) s = .next t ∧ exec (.forceClear v) s = .next t ∧ t = s.putBit Fld.FRC_CMD_REFUSED true) ∧
    (∀ e, v.toNat % 16 = 1 → s.forcesClosed = false → s.forceCandidate = some e → s.ll ≠ .synced → ∃ t, exec (.forceWrite v) s = .next t ∧
      t.frc.waiting = s.frc.waiting ++ [(s.effective, .write e)] ∧ t.frc.entries = s.frc.entries ∧ t.get Fld.FRC_CMD_DONE = 1 ∧
      t.get Fld.FRC_CMD_REFUSED = 0) ∧
    (v.toNat % 16 = 1 → s.forcesClosed = true ∨ s.forceCandidate = none →
      exec (.forceWrite v) s = .next (s.putAll [(Fld.FRC_CMD_DONE, 0), (Fld.FRC_CMD_REFUSED, 1)])) ∧
    (v.toNat % 16 = 2 → s.forcesClosed = false → (s.forcesAhead.any fun x => x.id == (s.getReg Reg.FRC_ID).toNat) = true → s.ll ≠ .synced →
      ∃ t, exec (.forceClear v) s = .next t ∧ t.frc.waiting = s.frc.waiting ++ [(s.effective, .clear (s.getReg Reg.FRC_ID).toNat)]) ∧
    (v.toNat % 16 = 4 → s.frc.entries[s.get Fld.FRC_SEL_INDEX]? = none →
      exec (.forceRead v) s = .next (s.putAll [(Fld.FRC_CMD_DONE, 0), (Fld.FRC_CMD_REFUSED, 1)])) ∧
    (∀ e, v.toNat % 16 = 4 → s.frc.entries[s.get Fld.FRC_SEL_INDEX]? = some e → ∃ t, exec (.forceRead v) s = .next t ∧ t.frc = s.frc ∧
      t.getReg Reg.FRC_ID = BitVec.ofNat 32 e.id ∧ t.getReg Reg.FRC_VALUE = e.value ∧ t.get Fld.FRC_CMD_DONE = 1) ∧
    (v.toNat % 16 = 8 → s.forcesClosed = false → s.ll ≠ .synced → ∃ t, exec (.forceClearAll v) s = .next t ∧
      t.frc.waiting = s.frc.waiting ++ [(s.effective, .clearAll)])

/-- Changes of the force table (R212, R215, R216): those whose cycle E has come apply in order, the table stays sorted by ID without repeats,
an entry that is suspended stays so (R217), and the store write brings both copies to the table. -/
def Claim.ForceTableChanges : Prop :=
  ∀ (s : State) (e : BitVec 32) (f : ForceEntry),
    (s.frc.waiting = [(e, .write f)] → s.reached e = true → ∃ t, exec .forceEffect s = .next t ∧ t.frc.waiting = [] ∧
      t.frc.entries = (s.frc.entries.filter fun x => decide (x.id < f.id)) ++
        [{ f with suspended := f.suspended || s.frc.entries.any fun x => x.id == f.id && x.suspended }] ++ s.frc.entries.filter fun x => decide (f.id < x.id)) ∧
    ((∀ c ∈ s.frc.waiting, s.reached c.1 = false) → exec .forceEffect s = .next s) ∧
    (s.bit Fld.FRC_STAT_STORE_PENDING = true → ∃ t, exec (.forceStoreWrite 2) s = .next t ∧ t.get Fld.FRC_STAT_STORE_PENDING = 0 ∧
      forceCopyOk t.store.forces0 = true ∧ forceCopyOk t.store.forces1 = true ∧
      t.store.forces0.entries = t.store.forces1.entries ∧ t.store.forces0.entries.map (fun x => x.id) = s.frc.entries.map (fun x => x.id)) ∧
    (s.bit Fld.FRC_STAT_STORE_PENDING = true → exec (.forceStoreWrite 0) s = .next (s.raise Src.CFG_STORE_FAIL 0 0)) ∧
    (s.bit Fld.FRC_STAT_STORE_PENDING = true → ∃ t, exec (.forceStoreWrite 1) s = .next t ∧ t.get Fld.FRC_STAT_STORE_PENDING = 1 ∧
      forceCopyOk t.store.forces0 = true ∧ t.store.forces1 = s.store.forces1) ∧
    (s.bit Fld.FRC_STAT_STORE_PENDING = false → ∀ k, exec (.forceStoreWrite k) s = .next s) ∧
    (∀ l c, (l.Pairwise fun x y => x.id < y.id) → ((forceApply l c).Pairwise fun x y => x.id < y.id))

/-- Force commands and the changes they make to the force table: what the parts say, taken together. -/
def Obligations.Forcing : Prop := Claim.ForceCommands ∧ Claim.ForceTableChanges

/-! ### Power states (R64, R399 to R416) -/

/-- Squeeze (R64, R399 to R402): a registered ratio takes effect for the four clocks together; a droop below 95 % calls for /2 and below 92 %
for /4 and steps down one ratio at a time; the thermal ratio follows the temperature and its enable. -/
def Claim.SqueezeRatios : Prop :=
  ∀ (s : State) (mv : Nat) (temp : BitVec 16),
    (s.rst.ratioReq = none → exec .squeezeRatioChange s = .next s) ∧
    (∀ r, s.rst.ratioReq = some r → r = s.get Fld.PWR_STAT_RATIO →
      exec .squeezeRatioChange s = .next { s with rst := { s.rst with ratioReq := none } }) ∧
    (∀ r, r < 3 → s.rst.ratioReq = some r → r ≠ s.get Fld.PWR_STAT_RATIO → ∃ t, exec .squeezeRatioChange s = .next t ∧
      t.get Fld.PWR_STAT_RATIO = r ∧ t.get Fld.CLK_STAT_SQZ_RATIO = r ∧ t.rst.monSkip = BitVec.allOnes 6) ∧
    (713 ≤ mv → exec (.droopDetect mv) s = .next s) ∧
    (mv < 713 → ∃ t, exec (.droopDetect mv) s = .next t ∧ t.pwr.droopAt = s.time.cycles) ∧
    (mv < 690 → ∃ t, exec (.droopDetect mv) s = .next t ∧ t.get Fld.PWR_STAT_RATIO_DROOP = max 2 (s.get Fld.PWR_STAT_RATIO_DROOP) ∧
      t.rst.ratioReq.isSome = true) ∧
    (690 ≤ mv → mv < 713 → ∃ t, exec (.droopDetect mv) s = .next t ∧
      t.get Fld.PWR_STAT_RATIO_DROOP = max 1 (s.get Fld.PWR_STAT_RATIO_DROOP)) ∧
    (s.get Fld.PWR_STAT_RATIO_DROOP = 0 ∨ s.time.cycles < s.pwr.droopAt + 400 * s.get Fld.PWR_SQZ_CFG_HOLD_US → exec .squeezeStepDown s = .next s) ∧
    (s.get Fld.PWR_STAT_RATIO_DROOP ≠ 0 → s.pwr.droopAt + 400 * s.get Fld.PWR_SQZ_CFG_HOLD_US ≤ s.time.cycles → ∃ t, exec .squeezeStepDown s = .next t ∧
      t.get Fld.PWR_STAT_RATIO_DROOP = s.get Fld.PWR_STAT_RATIO_DROOP - 1 ∧ t.pwr.droopAt = s.time.cycles) ∧
    (∃ t, exec (.thermalRatioChange temp) s = .next t ∧ t.get Fld.PWR_TEMP_NOW = temp.toNat ∧
      t.get Fld.PWR_STAT_RATIO_THERMAL = thermalRatio (s.bit Fld.PWR_SQZ_CFG_THERMAL_EN) (s.get Fld.PWR_STAT_RATIO_THERMAL) temp.toInt) ∧
    thermalRatio true 0 1251 = 2 ∧ thermalRatio true 0 1101 = 1 ∧ thermalRatio true 2 1101 = 2 ∧ thermalRatio true 2 999 = 0 ∧
    thermalRatio true 1 1050 = 1 ∧ thermalRatio false 2 1251 = 0

/-- The hold-up test (R403): the ride-through is shown and recorded, one below 10.5 ms is DEGRADED, and the test leaves the bank discharged; no
test on a low input, on the reserve, or within 200 ms of a recharge. -/
def Claim.HoldupTest : Prop :=
  ∀ (s : State) (us : Nat),
    (s.core.inputLow = true ∨ s.bit Fld.PWR_STAT_ON_HOLDUP = true ∨ s.bit Fld.PWR_STAT_HOLDUP_FULL = false ∨
      s.fls.optime.toNat < s.pwr.fullAt + 205 → exec (.holdupTest us) s = .next s) ∧
    (s.core.inputLow = false → s.bit Fld.PWR_STAT_ON_HOLDUP = false → s.bit Fld.PWR_STAT_HOLDUP_FULL = true →
      s.pwr.fullAt + 205 ≤ s.fls.optime.toNat → ∃ t, exec (.holdupTest us) s = .next t ∧
      t.get Fld.PWR_SUPPLY_HOLDUP = min (us / 100) 65535 ∧ t.get Fld.PWR_STAT_HOLDUP_DEGRADED = (decide (us < 10500)).toNat ∧
      t.get Fld.PWR_STAT_HOLDUP_FULL = 0)

/-- HIBERNATE (R406 to R409): the command acts in HOLD with its key alone; refusers are told by mask and first code and the mode stays HOLD;
without one the transition waits for its instant; the entry counts, drains Flowstone and leaves the retention image. -/
def Claim.HibernateEntry : Prop :=
  ∀ (s : State) (v : Word),
    (Fld.PWR_HIB_CMD_ENTER.on v = false ∨ Fld.PWR_HIB_CMD_KEY.ext v ≠ 0x4842 ∨ s.mode ≠ .hold →
      exec (.hibernateEnterCmd v) s = .next s) ∧
    (Fld.PWR_HIB_CMD_ENTER.on v = true → Fld.PWR_HIB_CMD_KEY.ext v = 0x4842 → s.mode = .hold → s.hibRefusers = [] → s.ll = .down →
      s.core.modeReq = none → exec (.hibernateEnterCmd v) s = .next { s with core := { s.core with modeReq := some ⟨.hibernate, 4, none⟩ } }) ∧
    (∀ c cs, Fld.PWR_HIB_CMD_ENTER.on v = true → Fld.PWR_HIB_CMD_KEY.ext v = 0x4842 → s.mode = .hold → s.hibRefusers = c :: cs → ∃ t,
      exec (.hibernateEnterCmd v) s = .next t ∧ t.mode = .hold ∧ t.get Fld.PWR_HIB_STAT_LAST_REFUSER = c ∧
        t.get Fld.PWR_HIB_STAT_REFUSE_MASK = ((c :: cs).map fun c => 2 ^ (c - 1)).sum) ∧
    (s.hibDue = false → exec .hibernateEntry s = .next s) ∧
    (s.hibDue = true → s.hibRefusers = [] → ∃ t r, exec .hibernateEntry s = .next t ∧ t.mode = .hibernate ∧
      t.pwr.retention = some r ∧ r.intact = true ∧ r.fwIface = s.load.fwIface ∧ t.fls.queue = [] ∧ t.core.outputsOff = true ∧
      t.get Fld.PWR_HIB_STAT_ENTRIES = min (s.get Fld.PWR_HIB_STAT_ENTRIES + 1) (2 ^ Fld.PWR_HIB_STAT_ENTRIES.width - 1) ∧ t.inst = s.inst)

/-- Squeeze ratios, the hold-up test and the entry into HIBERNATE: what the parts say, taken together. -/
def Obligations.PowerStates : Prop := Claim.SqueezeRatios ∧ Claim.HoldupTest ∧ Claim.HibernateEntry

/-- Waking (R412 to R415): an enabled source begins an attempt and a second one merges; three failures are retried, the fourth is a
power-on-class reset with WAKE_FAIL that loses the image and stalls in LOAD with ERR_N asserted; a successful attempt leaves reset into LOAD with
RST_CAUSE and RST_COUNT as they were. -/
def Claim.Waking : Prop :=
  ∀ (s : State) (src : WakeSource) (item : Nat) (m : ResetSample), s.mode = .hibernate →
    (s.pwr.attempt = 0 → s.wakeEnabled src = true → exec (.wake src) s = .next
      { s with pwr := { s.pwr with attempt := 1, failed := [], source := some src } }) ∧
    (s.pwr.attempt ≠ 0 ∨ s.wakeEnabled src = false → exec (.wake src) s = .next s) ∧
    (s.pwr.failed.length < s.pwr.attempt → s.pwr.attempt < 4 → exec (.wakeAttemptFail item) s = .next
      { s with pwr := { s.pwr with failed := s.pwr.failed ++ [item] } }) ∧
    (1 ≤ s.pwr.attempt → s.pwr.failed.length = s.pwr.attempt → exec .wakeRetry s = .next
      { s with pwr := { s.pwr with attempt := s.pwr.attempt + 1 } }) ∧
    (s.pwr.failed.length < s.pwr.attempt → 4 ≤ s.pwr.attempt → ∃ t, exec (.wakeAttemptFail item) s = .next t ∧ t.pwr.retention = none ∧
      t.pwr.wakeFailed = true ∧ t.get Fld.RST_CAUSE_WAKE_FAIL = 1 ∧ t.rst.inReset = true ∧ t.rst.asserted.getLsbD 0 = true) ∧
    (s.pwr.failed.length < s.pwr.attempt → ∃ t, exec (.wakeResetRelease m) s = .next t ∧ t.rst.inReset = false ∧
      t.load.wakeLoad = true ∧ t.pwr.attempt = 0 ∧ t.getReg Reg.RST_COUNT = s.getReg Reg.RST_COUNT ∧
      t.getReg Reg.RST_CAUSE = s.getReg Reg.RST_CAUSE)

/-- The stall after a failed wake (R26, R414): the power-on-class reset ends in LOAD with ERR_N asserted. -/
def Claim.WakeFailStall : Prop :=
  ∀ s : State, s.pwr.wakeFailed = true → s.rst.inReset = true → exec .wakeFailStall s = .next
    { s with
      core := { s.core with errForced := true }
      rst := { s.rst with inReset := false, asserted := 0, pwrCounted := false } }


/-- Waking from HIBERNATE, and a wake that fails: what the parts say, taken together. -/
def Obligations.WakingUp : Prop := Claim.Waking ∧ Claim.WakeFailStall

/-! ### Block code (R121 to R149, R174, R175) -/

/-- Integer results (R124, R133, R136, R138, R141): a lane that issues a command of an ALU operation but division completes it: it writes the
result with the tag propagate(a, b), goes on by one instruction and takes its cycles; nothing else changes anywhere. -/
def Claim.LaneIntegerResults : Prop :=
  ∀ (s : State) (c : Fin 16) (w : Lane) (x : Execution) (l : LaneState) (w32 : Bool) (d a b : BitVec 5), laneIssues s c w x l →
    (∃ m, exec (.add c w w32 d a b) s = .next (laneAlone s c w m) ∧
      laneWrites l m d (bothWidths w32 (l.reg a) (l.reg b) fun _ p q => p + q) (propagate (l.tag a) (l.tag b)) 1) ∧
    (∃ m, exec (.sub c w w32 d a b) s = .next (laneAlone s c w m) ∧
      laneWrites l m d (bothWidths w32 (l.reg a) (l.reg b) fun _ p q => p - q) (propagate (l.tag a) (l.tag b)) 1) ∧
    (∃ m, exec (.land c w w32 d a b) s = .next (laneAlone s c w m) ∧
      laneWrites l m d (bothWidths w32 (l.reg a) (l.reg b) fun _ p q => p &&& q) (propagate (l.tag a) (l.tag b)) 1) ∧
    (∃ m, exec (.lor c w w32 d a b) s = .next (laneAlone s c w m) ∧
      laneWrites l m d (bothWidths w32 (l.reg a) (l.reg b) fun _ p q => p ||| q) (propagate (l.tag a) (l.tag b)) 1) ∧
    (∃ m, exec (.lxor c w w32 d a b) s = .next (laneAlone s c w m) ∧
      laneWrites l m d (bothWidths w32 (l.reg a) (l.reg b) fun _ p q => p ^^^ q) (propagate (l.tag a) (l.tag b)) 1) ∧
    (∃ m, exec (.sll c w w32 d a b) s = .next (laneAlone s c w m) ∧
      laneWrites l m d (bothWidths w32 (l.reg a) (l.reg b) fun n p q => p <<< (q.toNat % n)) (propagate (l.tag a) (l.tag b)) 1) ∧
    (∃ m, exec (.srl c w w32 d a b) s = .next (laneAlone s c w m) ∧
      laneWrites l m d (bothWidths w32 (l.reg a) (l.reg b) fun n p q => p >>> (q.toNat % n)) (propagate (l.tag a) (l.tag b)) 1) ∧
    (∃ m, exec (.sra c w w32 d a b) s = .next (laneAlone s c w m) ∧
      laneWrites l m d (bothWidths w32 (l.reg a) (l.reg b) fun n p q => BitVec.ofInt n (p.toInt / 2 ^ (q.toNat % n))) (propagate (l.tag a) (l.tag b)) 1) ∧
    (∃ m, exec (.slt c w w32 d a b) s = .next (laneAlone s c w m) ∧
      laneWrites l m d (bothWidths w32 (l.reg a) (l.reg b) fun n p q => BitVec.ofNat n (if p.toInt < q.toInt then 1 else 0)) (propagate (l.tag a) (l.tag b)) 1) ∧
    (∃ m, exec (.sltu c w w32 d a b) s = .next (laneAlone s c w m) ∧
      laneWrites l m d (bothWidths w32 (l.reg a) (l.reg b) fun n p q => BitVec.ofNat n (if p.toNat < q.toNat then 1 else 0)) (propagate (l.tag a) (l.tag b)) 1) ∧
    (∃ m, exec (.min c w w32 d a b) s = .next (laneAlone s c w m) ∧
      laneWrites l m d (bothWidths w32 (l.reg a) (l.reg b) fun n p q => BitVec.ofInt n (min p.toInt q.toInt)) (propagate (l.tag a) (l.tag b)) 1) ∧
    (∃ m, exec (.max c w w32 d a b) s = .next (laneAlone s c w m) ∧
      laneWrites l m d (bothWidths w32 (l.reg a) (l.reg b) fun n p q => BitVec.ofInt n (max p.toInt q.toInt)) (propagate (l.tag a) (l.tag b)) 1) ∧
    (∃ m, exec (.minu c w w32 d a b) s = .next (laneAlone s c w m) ∧
      laneWrites l m d (bothWidths w32 (l.reg a) (l.reg b) fun n p q => BitVec.ofNat n (min p.toNat q.toNat)) (propagate (l.tag a) (l.tag b)) 1) ∧
    (∃ m, exec (.maxu c w w32 d a b) s = .next (laneAlone s c w m) ∧
      laneWrites l m d (bothWidths w32 (l.reg a) (l.reg b) fun n p q => BitVec.ofNat n (max p.toNat q.toNat)) (propagate (l.tag a) (l.tag b)) 1) ∧
    (∃ m, exec (.mul c w w32 d a b) s = .next (laneAlone s c w m) ∧
      laneWrites l m d (bothWidths w32 (l.reg a) (l.reg b) fun _ p q => p * q) (propagate (l.tag a) (l.tag b)) 3) ∧
    (∃ m, exec (.mulh c w w32 d a b) s = .next (laneAlone s c w m) ∧
      laneWrites l m d (bothWidths w32 (l.reg a) (l.reg b) fun n p q => BitVec.ofInt n (p.toInt * q.toInt / 2 ^ n)) (propagate (l.tag a) (l.tag b)) 3) ∧
    (∃ m, exec (.mulhu c w w32 d a b) s = .next (laneAlone s c w m) ∧
      laneWrites l m d (bothWidths w32 (l.reg a) (l.reg b) fun n p q => BitVec.ofNat n (p.toNat * q.toNat / 2 ^ n)) (propagate (l.tag a) (l.tag b)) 3)

/-- Division (R138): it completes, toward zero with the remainder's sign the dividend's, in 34 cycles or with W = 1 in 18; by zero the quotient
is 0, the remainder the dividend and the tag BAD_CHANNEL_FAULT; the most negative value by −1 gives itself and 0 with the ordinary tag. -/
def Claim.LaneDivision : Prop :=
  ∀ (s : State) (c : Fin 16) (w : Lane) (x : Execution) (l : LaneState) (w32 : Bool) (d a b : BitVec 5) (tag : Nibble), laneIssues s c w x l →
    tag = (if bothWidths w32 (l.reg a) (l.reg b) (fun _ _ q => q) = 0 then Tag.BAD_CHANNEL_FAULT else propagate (l.tag a) (l.tag b)) →
    (∃ m, exec (.div c w w32 d a b) s = .next (laneAlone s c w m) ∧
      laneWrites l m d (bothWidths w32 (l.reg a) (l.reg b) fun n p q => if q = 0 then 0 else BitVec.ofInt n (p.toInt.tdiv q.toInt)) tag (if w32 then 18 else 34)) ∧
    (∃ m, exec (.divu c w w32 d a b) s = .next (laneAlone s c w m) ∧
      laneWrites l m d (bothWidths w32 (l.reg a) (l.reg b) fun n p q => if q = 0 then 0 else BitVec.ofNat n (p.toNat / q.toNat)) tag (if w32 then 18 else 34)) ∧
    (∃ m, exec (.rem c w w32 d a b) s = .next (laneAlone s c w m) ∧
      laneWrites l m d (bothWidths w32 (l.reg a) (l.reg b) fun n p q => if q = 0 then p else BitVec.ofInt n (p.toInt.tmod q.toInt)) tag (if w32 then 18 else 34)) ∧
    (∃ m, exec (.remu c w w32 d a b) s = .next (laneAlone s c w m) ∧
      laneWrites l m d (bothWidths w32 (l.reg a) (l.reg b) fun n p q => if q = 0 then p else BitVec.ofNat n (p.toNat % q.toNat)) tag (if w32 then 18 else 34))

/-- Immediate operations, shifts by an immediate and LUI complete with these results (R133, R136, R137, R141). -/
def Claim.LaneImmediateResults : Prop :=
  ∀ (s : State) (c : Fin 16) (w : Lane) (x : Execution) (l : LaneState) (d a : BitVec 5) (i : BitVec 16) (n : BitVec 6),
    laneIssues s c w x l →
    (∃ m, exec (.addi c w d a i) s = .next (laneAlone s c w m) ∧
      laneWrites l m d (l.reg a + i.signExtend 64) (propagate (l.tag a) Tag.GOOD) 1) ∧
    (∃ m, exec (.andi c w d a i) s = .next (laneAlone s c w m) ∧
      laneWrites l m d (l.reg a &&& i.zeroExtend 64) (propagate (l.tag a) Tag.GOOD) 1) ∧
    (∃ m, exec (.ori c w d a i) s = .next (laneAlone s c w m) ∧
      laneWrites l m d (l.reg a ||| i.zeroExtend 64) (propagate (l.tag a) Tag.GOOD) 1) ∧
    (∃ m, exec (.xori c w d a i) s = .next (laneAlone s c w m) ∧
      laneWrites l m d (l.reg a ^^^ i.zeroExtend 64) (propagate (l.tag a) Tag.GOOD) 1) ∧
    (∃ m, exec (.slti c w d a i) s = .next (laneAlone s c w m) ∧
      laneWrites l m d (if (l.reg a).toInt < i.toInt then 1 else 0) (propagate (l.tag a) Tag.GOOD) 1) ∧
    (∃ m, exec (.sltiu c w d a i) s = .next (laneAlone s c w m) ∧
      laneWrites l m d (if (l.reg a).toNat < (i.signExtend 64).toNat then 1 else 0) (propagate (l.tag a) Tag.GOOD) 1) ∧
    (∃ m, exec (.shiSll c w d a n) s = .next (laneAlone s c w m) ∧
      laneWrites l m d (l.reg a <<< n.toNat) (propagate (l.tag a) Tag.GOOD) 1) ∧
    (∃ m, exec (.shiSrl c w d a n) s = .next (laneAlone s c w m) ∧
      laneWrites l m d (l.reg a >>> n.toNat) (propagate (l.tag a) Tag.GOOD) 1) ∧
    (∃ m, exec (.shiSra c w d a n) s = .next (laneAlone s c w m) ∧
      laneWrites l m d (BitVec.ofInt 64 ((l.reg a).toInt / 2 ^ n.toNat)) (propagate (l.tag a) Tag.GOOD) 1) ∧
    ∃ m, exec (.lui c w d i) s = .next (laneAlone s c w m) ∧ laneWrites l m d (BitVec.ofInt 64 (i.toInt * 65536)) Tag.GOOD 1

/-- Results of the ALU, of division and of the immediate operations, in any lane and register: what the parts say, taken together. -/
def Obligations.LaneArithmetic : Prop := Claim.LaneIntegerResults ∧ Claim.LaneDivision ∧ Claim.LaneImmediateResults

/-- Floating point (R139, R141): every operation completes, on bits 31:0 alone, the upper half 0; NaN results are 0x7FC0_0000 and no subnormal
results; BAD_CHANNEL_FAULT for a signalling NaN operand and for a NaN made of other operands, else propagate; the seven operations of a alone
ignore b. The values are those of the shared operation `fpu`, rounded to nearest even. -/
def Obligations.LaneFloatResults : Prop :=
  ∀ (s : State) (c : Fin 16) (w : Lane) (x : Execution) (l : LaneState) (d a b : BitVec 5), laneIssues s c w x l →
    (∃ m, exec (.fadd c w d a b) s = .next (laneAlone s c w m) ∧ laneFloats l m d .fadd a b 4) ∧
    (∃ m, exec (.fsub c w d a b) s = .next (laneAlone s c w m) ∧ laneFloats l m d .fsub a b 4) ∧
    (∃ m, exec (.fmul c w d a b) s = .next (laneAlone s c w m) ∧ laneFloats l m d .fmul a b 4) ∧
    (∃ m, exec (.fdiv c w d a b) s = .next (laneAlone s c w m) ∧ laneFloats l m d .fdiv a b 14) ∧
    (∃ m, exec (.fmin c w d a b) s = .next (laneAlone s c w m) ∧ laneFloats l m d .fmin a b 4) ∧
    (∃ m, exec (.fmax c w d a b) s = .next (laneAlone s c w m) ∧ laneFloats l m d .fmax a b 4) ∧
    (∃ m, exec (.flt c w d a b) s = .next (laneAlone s c w m) ∧ laneFloats l m d .flt a b 4) ∧
    (∃ m, exec (.fle c w d a b) s = .next (laneAlone s c w m) ∧ laneFloats l m d .fle a b 4) ∧
    (∃ m, exec (.feq c w d a b) s = .next (laneAlone s c w m) ∧ laneFloats l m d .feq a b 4) ∧
    (∃ m, exec (.fsqrt c w d a) s = .next (laneAlone s c w m) ∧ laneFloat l m d .fsqrt a 16) ∧
    (∃ m, exec (.fabs c w d a) s = .next (laneAlone s c w m) ∧ laneFloat l m d .fabs a 4) ∧
    (∃ m, exec (.fneg c w d a) s = .next (laneAlone s c w m) ∧ laneFloat l m d .fneg a 4) ∧
    (∃ m, exec (.i2f c w d a) s = .next (laneAlone s c w m) ∧ laneFloat l m d .i2f a 4) ∧
    (∃ m, exec (.f2i c w d a) s = .next (laneAlone s c w m) ∧ laneFloat l m d .f2i a 4) ∧
    (∃ m, exec (.u2f c w d a) s = .next (laneAlone s c w m) ∧ laneFloat l m d .u2f a 4) ∧
    (∃ m, exec (.f2it c w d a) s = .next (laneAlone s c w m) ∧ laneFloat l m d .f2it a 4) ∧
    (∀ f p q, f ∈ [FpuFn.fadd, .fsub, .fmul, .fdiv, .fsqrt, .fmin, .fmax, .fabs, .fneg, .i2f, .u2f] →
      f32IsNan (fpu f p q).1 = true → (fpu f p q).1 = 0x7FC00000) ∧
    (∀ f p q, f ∈ [FpuFn.fadd, .fsub, .fmul, .fdiv, .fsqrt, .fmin, .fmax, .fabs, .fneg, .i2f, .u2f] →
      (fpu f p q).1.extractLsb' 23 8 = 0 → (fpu f p q).1.extractLsb' 0 23 = 0)

/-- System operations that read the cycle of their execution or work on tags, tokens and END (R140 to R143, R175, R177): no memory and no instance data change;
SETT of 0x7 traps; END ends the lane and starts the comparison, and TOK and END enter the signature. -/
def Claim.LaneSystemOperations : Prop :=
  ∀ (s : State) (c : Fin 16) (w : Lane) (x : Execution) (l : LaneState) (d a : BitVec 5) (i : BitVec 12), laneIssues s c w x l →
    (∃ m, exec (.cyc c w d) s = .next (laneAlone s c w m) ∧ laneWrites l m d (x.cyc.zeroExtend 64) Tag.GOOD 1) ∧
    (∃ m, exec (.t0ns c w d) s = .next (laneAlone s c w m) ∧ laneWrites l m d (BitVec.ofNat 64 x.t0) Tag.GOOD 1) ∧
    (∃ m, exec (.first c w d) s = .next (laneAlone s c w m) ∧ laneWrites l m d (if x.first then 1 else 0) Tag.GOOD 1) ∧
    (∃ m, exec (.period c w d) s = .next (laneAlone s c w m) ∧ laneWrites l m d (BitVec.ofNat 64 (s.periodAt x.t0 x.task)) Tag.GOOD 1) ∧
    (∃ m, exec (.gett c w d a) s = .next (laneAlone s c w m) ∧ laneWrites l m d ((l.tag a).zeroExtend 64) Tag.GOOD 1) ∧
    ((l.reg a).truncate 4 ≠ (7 : Nibble) → ∃ m, exec (.sett c w d a) s = .next (laneAlone s c w m) ∧
      laneWrites l m d (l.reg d) ((l.reg a).truncate 4) 1) ∧
    ((l.reg a).truncate 4 = (7 : Nibble) → ∃ t, exec (.sett c w d a) s = .next t ∧ laneTraps s t c w l 7 0 1) ∧
    (∃ m, exec (.joint c w d a) s = .next (laneAlone s c w m) ∧ laneWrites l m d (l.reg d) (propagate (l.tag d) (l.tag a)) 1) ∧
    exec (.tok c w i) s = .next (laneAlone s c w { l with
      pc := l.pc + 4
      cycles := l.cycles + 1
      sig := crc64Word l.sig (0xF000000000000000 ||| (i.zeroExtend 64 <<< 32) ||| BitVec.ofNat 64 (l.pc % 2 ^ 32)) }) ∧
    exec (.endExec c w) s = .next ((laneAlone s c w { l with
      fin := .ended l.pc
      cycles := l.cycles + 1
      sig := crc64Word l.sig (0xD000000000000000 ||| BitVec.ofNat 64 (l.pc % 2 ^ 32)) }).setChState c.val Ch.COMPARING)

/-- Jumps and branches complete (R136, R137, R140, R141): taken they set PC := PC + OFF · 4 in 2 cycles, not taken PC + 4 in 1; CALL leaves the return
address in G[31]; JR goes to G[a]; nothing else changes. -/
def Claim.LaneJumpsAndBranches : Prop :=
  ∀ (s : State) (c : Fin 16) (w : Lane) (x : Execution) (l taken next : LaneState) (a b : BitVec 5) (off : BitVec 16) (far : BitVec 26),
    laneIssues s c w x l → taken = { l with pc := (BitVec.ofNat 64 l.pc + off.signExtend 64 * 4).toNat, cycles := l.cycles + 2 } →
    next = { l with pc := l.pc + 4, cycles := l.cycles + 1 } →
    (l.reg a = l.reg b → exec (.beq c w a b off) s = .next (laneAlone s c w taken)) ∧
    (l.reg a ≠ l.reg b → exec (.beq c w a b off) s = .next (laneAlone s c w next)) ∧
    (l.reg a ≠ l.reg b → exec (.bne c w a b off) s = .next (laneAlone s c w taken)) ∧
    (l.reg a = l.reg b → exec (.bne c w a b off) s = .next (laneAlone s c w next)) ∧
    ((l.reg a).toInt < (l.reg b).toInt → exec (.blt c w a b off) s = .next (laneAlone s c w taken)) ∧
    ((l.reg b).toInt ≤ (l.reg a).toInt → exec (.blt c w a b off) s = .next (laneAlone s c w next)) ∧
    ((l.reg b).toInt ≤ (l.reg a).toInt → exec (.bge c w a b off) s = .next (laneAlone s c w taken)) ∧
    ((l.reg a).toInt < (l.reg b).toInt → exec (.bge c w a b off) s = .next (laneAlone s c w next)) ∧
    ((l.reg a).toNat < (l.reg b).toNat → exec (.bltu c w a b off) s = .next (laneAlone s c w taken)) ∧
    ((l.reg b).toNat ≤ (l.reg a).toNat → exec (.bltu c w a b off) s = .next (laneAlone s c w next)) ∧
    ((l.reg b).toNat ≤ (l.reg a).toNat → exec (.bgeu c w a b off) s = .next (laneAlone s c w taken)) ∧
    ((l.reg a).toNat < (l.reg b).toNat → exec (.bgeu c w a b off) s = .next (laneAlone s c w next)) ∧
    ((l.tag a).getLsbD 3 = true → exec (.bbad c w a off) s = .next (laneAlone s c w taken)) ∧
    ((l.tag a).getLsbD 3 = false → exec (.bbad c w a off) s = .next (laneAlone s c w next)) ∧
    ((l.tag a).getLsbD 3 = false → exec (.bok c w a off) s = .next (laneAlone s c w taken)) ∧
    ((l.tag a).getLsbD 3 = true → exec (.bok c w a off) s = .next (laneAlone s c w next)) ∧
    exec (.j c w far) s = .next (laneAlone s c w { l with
      pc := (BitVec.ofNat 64 l.pc + far.signExtend 64 * 4).toNat
      cycles := l.cycles + 2 }) ∧
    exec (.jr c w a) s = .next (laneAlone s c w { l with pc := (l.reg a).toNat, cycles := l.cycles + 2 }) ∧
    ∃ m, exec (.call c w far) s = .next (laneAlone s c w { m with
      pc := (BitVec.ofNat 64 l.pc + far.signExtend 64 * 4).toNat }) ∧ laneWrites l m 31 (BitVec.ofNat 64 (l.pc + 4)) Tag.GOOD 2

/-- SYS operations, jumps and branches of a lane: what the parts say, taken together. -/
def Obligations.LaneControl : Prop := Claim.LaneSystemOperations ∧ Claim.LaneJumpsAndBranches

/-- Loads and stores of the lane's own working SRAM, and slots (R121, R122, R132, R134, R137): loads reach INPUT and SCRATCH, stores SCRATCH,
LDS and LDSX slots of INPUT, STS slots of OUTPUT in the pending layer with its signature words; a store changes its own bytes alone. -/
def Claim.LaneLoadsAndStores : Prop :=
  ∀ (s : State) (c : Fin 16) (w : Lane) (x : Execution) (l : LaneState) (d a : BitVec 5) (i : BitVec 16) (adr : Nat),
    laneIssues s c w x l → adr = (l.reg a + i.signExtend 64).toNat →
    (adr < 0x1E0000 → adr / 8 ∉ l.workUe → ∀ v, v = workWord l adr >>> (8 * (adr % 8)) →
      (∃ m, exec (.ldb c w d a i) s = .next (laneAlone s c w m) ∧ laneWrites l m d ((v.truncate 8).zeroExtend 64) Tag.GOOD 2) ∧
      (adr % 2 = 0 → ∃ m, exec (.ldh c w d a i) s = .next (laneAlone s c w m) ∧ laneWrites l m d ((v.truncate 16).zeroExtend 64) Tag.GOOD 2) ∧
      (adr % 4 = 0 → ∃ m, exec (.ldw c w d a i) s = .next (laneAlone s c w m) ∧ laneWrites l m d ((v.truncate 32).signExtend 64) Tag.GOOD 2) ∧
      (adr % 8 = 0 → ∃ m, exec (.ldd c w d a i) s = .next (laneAlone s c w m) ∧ laneWrites l m d (v) Tag.GOOD 2)) ∧
    (0x100000 ≤ adr → adr < 0x1E0000 →
      (adr / 8 ∉ l.workUe → ∃ m, exec (.stb c w d a i) s = .next (laneAlone s c w m) ∧ laneStores l m adr 1 (l.reg d)) ∧
      (adr % 2 = 0 → adr / 8 ∉ l.workUe → ∃ m, exec (.sth c w d a i) s = .next (laneAlone s c w m) ∧ laneStores l m adr 2 (l.reg d)) ∧
      (adr % 4 = 0 → adr / 8 ∉ l.workUe → ∃ m, exec (.stw c w d a i) s = .next (laneAlone s c w m) ∧ laneStores l m adr 4 (l.reg d)) ∧
      (adr % 8 = 0 → ∃ m, exec (.std c w d a i) s = .next (laneAlone s c w m) ∧ laneStores l m adr 8 (l.reg d))) ∧
    (adr % 8 = 0 → adr < 0x100000 → adr / 8 ∉ l.workUe →
      (∃ m, exec (.lds c w d a i) s = .next (laneAlone s c w m) ∧
        laneWrites l m d ((slotValue (workWord l adr)).signExtend 64) (slotStatus (workWord l adr)) 2) ∧
      ∃ m, exec (.ldsx c w d a i) s = .next (laneAlone s c w m) ∧ laneWrites l m d (workWord l adr) (slotStatus (workWord l adr)) 2) ∧
    (adr % 8 = 0 → 0x1F0000 ≤ adr → adr < 0x200000 → ∀ st, st = (if l.tag d = Tag.FORCED ∨ l.tag d = Tag.SIMULATED then Tag.GOOD else l.tag d) →
      exec (.sts c w d a i) s = .next (laneAlone s c w { l with
        pc := l.pc + 4
        cycles := l.cycles + 1
        pendOut := (l.pendOut.filter fun p => p.1 != adr) ++
          [(adr, mkSlot ((l.reg d).truncate 32) st (s.origin x.t0 4) 0 (x.cyc.truncate 16), x.cyc)]
        workUe := l.workUe.filter fun k => k != adr / 8
        sig := crc64Word (crc64Word l.sig (0x2000000000000000 ||| BitVec.ofNat 64 adr)) (mkSlot ((l.reg d).truncate 32) st 0 0 0) }))

/-- Instance loads and stores (R126 to R128, R141, R175): a load reads the lane's own journal entry, else the committed word of the task's area;
a store goes to the journal alone, in place or as a new entry, and enters the signature with its words. -/
def Claim.LaneInstanceAccesses : Prop :=
  ∀ (s : State) (c : Fin 16) (w : Lane) (x : Execution) (l : LaneState) (d a : BitVec 5) (i : BitVec 16) (adr : Nat) (view : DWord) (hit : Bool),
    laneIssues s c w x l → adr = (l.reg a + i.signExtend 64).toNat → (s.laneEnv c.val x).winLo ≤ adr → adr < (s.laneEnv c.val x).winHi →
    hit = (l.journal.any fun e => e.1 == adr / 8 * 8) →
    view = (((l.journal.find? fun e => e.1 == adr / 8 * 8).map fun e => e.2).getD (s.instWord (s.areaAt x.t0) (adr / 8 * 8))) →
    (l.instBlocked (s.laneEnv c.val x) adr = none → ∀ v, v = view >>> (8 * (adr % 8)) →
      (∃ m, exec (.ildb c w d a i) s = .next (laneAlone s c w m) ∧ laneWrites l m d ((v.truncate 8).zeroExtend 64) Tag.GOOD (if hit then 2 else 40)) ∧
      (adr % 2 = 0 → ∃ m, exec (.ildh c w d a i) s = .next (laneAlone s c w m) ∧ laneWrites l m d ((v.truncate 16).zeroExtend 64) Tag.GOOD (if hit then 2 else 40)) ∧
      (adr % 4 = 0 → ∃ m, exec (.ildw c w d a i) s = .next (laneAlone s c w m) ∧ laneWrites l m d ((v.truncate 32).signExtend 64) Tag.GOOD (if hit then 2 else 40)) ∧
      (adr % 8 = 0 → ∃ m, exec (.ildd c w d a i) s = .next (laneAlone s c w m) ∧ laneWrites l m d (v) Tag.GOOD (if hit then 2 else 40))) ∧
    (hit = true ∨ l.journal.length < 16384 →
      (l.instBlocked (s.laneEnv c.val x) adr = none → ∃ m, exec (.istb c w d a i) s = .next (laneAlone s c w m) ∧
        laneJournals l m adr 1 (l.reg d) view hit (if hit then 2 else 40)) ∧
      (adr % 2 = 0 → l.instBlocked (s.laneEnv c.val x) adr = none → ∃ m, exec (.isth c w d a i) s = .next (laneAlone s c w m) ∧
        laneJournals l m adr 2 (l.reg d) view hit (if hit then 2 else 40)) ∧
      (adr % 4 = 0 → l.instBlocked (s.laneEnv c.val x) adr = none → ∃ m, exec (.istw c w d a i) s = .next (laneAlone s c w m) ∧
        laneJournals l m adr 4 (l.reg d) view hit (if hit then 2 else 40)) ∧
      (adr % 8 = 0 → ∃ m, exec (.istd c w d a i) s = .next (laneAlone s c w m) ∧
        laneJournals l m adr 8 (l.reg d) view hit (2)))

/-- Loads and stores of working SRAM, staging and the instance store: what the parts say, taken together. -/
def Obligations.LaneMemory : Prop := Claim.LaneLoadsAndStores ∧ Claim.LaneInstanceAccesses

/-- Ring slots (R121, R144 to R146, R175): RPOLL copies the next descriptor not yet polled to SCRATCH, or answers 0; RPUT puts 32 bytes of
SCRATCH to the pending layer while fewer than FREE have been put, or answers 0; a word of the share with an error traps with WORK_UE, and a
slot that is not the execution's own with RING_SLOT, unless a lower cause is met. -/
def Claim.LaneRingSlots : Prop :=
  ∀ (s : State) (c : Fin 16) (w : Lane) (x : Execution) (l : LaneState) (e : LaneEnv) (d a : BitVec 5) (i : BitVec 12) (n adr : Nat)
    (q : Descriptor), laneIssues s c w x l → adr = (l.reg a).toNat → n = i.toNat % 256 → e = s.laneEnv c.val x →
    (e.slotOk n false = true → (e.rx n)[l.polled n]? = none →
      ∃ m, exec (.rpoll c w d a i) s = .next (laneAlone s c w m) ∧ laneWrites l m d 0 Tag.GOOD 12) ∧
    (e.slotOk n false = true → (e.rx n)[l.polled n]? = some q → adr % 32 = 0 → 0x100000 ≤ adr → adr < 0x1E0000 →
      (l.quadUe (e.rxBase n + 32 * l.polled n) = false → ∃ m, exec (.rpoll c w d a i) s = .next (laneAlone s c w m) ∧
        laneWrites { l with work := m.work, workUe := m.workUe, poll := m.poll } m d 1 Tag.GOOD 12 ∧
        workWord m adr = q.w0 ∧ workWord m (adr + 8) = q.w1 ∧ workWord m (adr + 16) = q.w2 ∧ workWord m (adr + 24) = q.w3 ∧
        (∀ k, k < adr ∨ adr + 32 ≤ k → workWord m k = workWord l k) ∧ m.polled n = l.polled n + 1) ∧
      (l.quadUe (e.rxBase n + 32 * l.polled n) = true → ∃ t, exec (.rpoll c w d a i) s = .next t ∧
        laneTraps s t c w l 0xA (e.rxBase n + 32 * l.polled n) 12)) ∧
    (e.slotOk n true = true → e.free n ≤ (l.puts n).length →
      ∃ m, exec (.rput c w d a i) s = .next (laneAlone s c w m) ∧ laneWrites l m d 0 Tag.GOOD 12) ∧
    (e.slotOk n true = true → (l.puts n).length < e.free n → adr % 32 = 0 → 0x100000 ≤ adr → adr < 0x1E0000 →
      (l.quadUe adr = false → ∃ m, exec (.rput c w d a i) s = .next (laneAlone s c w m) ∧
        laneWrites { l with put := m.put, rputs := l.rputs + 1, sig := m.sig, workUe := m.workUe } m d 1 Tag.GOOD 12 ∧
        m.put = l.put ++ [(n, ⟨workWord l adr, workWord l (adr + 8), workWord l (adr + 16), workWord l (adr + 24)⟩)] ∧
        ∀ k ∈ m.workUe, k ∈ l.workUe) ∧
      (l.quadUe adr = true → ∃ t, exec (.rput c w d a i) s = .next t ∧ laneTraps s t c w l 0xA adr 12)) ∧
    (adr % 32 = 0 → 0x100000 ≤ adr → adr < 0x1E0000 →
      (e.slotOk n false = false → ∃ t, exec (.rpoll c w d a i) s = .next t ∧ laneTraps s t c w l 8 adr 1) ∧
      (e.slotOk n true = false → ∃ t, exec (.rput c w d a i) s = .next t ∧ laneTraps s t c w l 8 adr 1)) ∧
    (adr % 32 ≠ 0 →
      (e.slotOk n false = false → ∃ t, exec (.rpoll c w d a i) s = .next t ∧ laneTraps s t c w l 3 adr 1) ∧
      (e.slotOk n true = false → ∃ t, exec (.rput c w d a i) s = .next t ∧ laneTraps s t c w l 3 adr 1))

/-- Traps (R122, R125, R126, R128, R142): the lowest cause among those an instruction meets; a fetch outside the segment or misaligned; a
reserved word; alignment, area, window; what follows a trap. A lane that does not run takes no instruction. -/
def Claim.LaneTraps : Prop :=
  ∀ (s : State) (c : Fin 16) (w : Lane) (x : Execution) (l : LaneState) (d a : BitVec 5) (i : BitVec 16) (adr : Nat) (word : Word),
    (s.laneRuns c.val w = false → exec (.illegalInstruction c w word) s = .next s ∧ exec (.endExec c w) s = .next s ∧
      exec (.std c w d a i) s = .next s ∧ exec (.istd c w d a i) s = .next s ∧ exec (.sts c w d a i) s = .next s) ∧
    (s.laneRuns c.val w = true → (s.chamber c.val).exec = some x → (s.chamber c.val).lane w = l →
      (l.pc < x.segBase ∨ x.segBase + x.segBytes ≤ l.pc → ∃ t, exec (.endExec c w) s = .next t ∧ laneTraps s t c w l 2 l.pc 1) ∧
      (x.segBase ≤ l.pc → l.pc < x.segBase + x.segBytes → l.pc % 4 ≠ 0 → ∃ t, exec (.endExec c w) s = .next t ∧ laneTraps s t c w l 3 l.pc 1)) ∧
    (laneIssues s c w x l → adr = (l.reg a + i.signExtend 64).toNat →
      (decodeBlock word = none → ∃ t, exec (.illegalInstruction c w word) s = .next t ∧ laneTraps s t c w l 1 l.pc 1) ∧
      (adr % 8 ≠ 0 → ∀ r ∈ [Instr.ldd c w d a i, .std c w d a i, .ildd c w d a i, .istd c w d a i, .lds c w d a i, .ldsx c w d a i,
        .sts c w d a i], ∃ t, exec r s = .next t ∧ laneTraps s t c w l 3 adr 1) ∧
      (adr % 8 = 0 → 0x1E0000 ≤ adr → adr < 0x1F0000 → ∀ r ∈ [Instr.ldd c w d a i, .std c w d a i, .lds c w d a i, .ldsx c w d a i,
        .sts c w d a i], ∃ t, exec r s = .next t ∧ laneTraps s t c w l 4 adr 1) ∧
      (adr % 8 = 0 → adr < 0x100000 → ∃ t, exec (.std c w d a i) s = .next t ∧ laneTraps s t c w l 4 adr 1) ∧
      (adr % 8 = 0 → adr < (s.laneEnv c.val x).winLo ∨ (s.laneEnv c.val x).winHi ≤ adr → ∀ r ∈ [Instr.ildd c w d a i, .istd c w d a i],
        ∃ t, exec r s = .next t ∧ laneTraps s t c w l 5 adr 1) ∧
      (adr % 8 = 0 → (s.laneEnv c.val x).winLo ≤ adr → adr < (s.laneEnv c.val x).winHi → l.journal.length = 16384 →
        (∀ e ∈ l.journal, e.1 ≠ adr) → ∃ t, exec (.istd c w d a i) s = .next t ∧ laneTraps s t c w l 6 adr 1))

/-- Ring slots of a lane, and the traps of block code: what the parts say, taken together. -/
def Obligations.LaneRingsAndTraps : Prop := Claim.LaneRingSlots ∧ Claim.LaneTraps

/-- A word of code SRAM and the instruction it spells agree (R136 to R140): the word of every well-formed instruction decodes to it, and what a
word decodes to is well-formed. -/
def Obligations.BlockCodeRoundTrip : Prop :=
  ∀ op : LaneOp, (op.wf = true → decodeBlock (encodeBlock op) = some op) ∧ ∀ word, decodeBlock word = some op → op.wf = true

/-! ### Task cycle, comparison and commit, debugging (R124, R142, R153 to R197) -/

/-- Executions begin at the cairn (R124, R135, R155, R178, R181), once their inputs are in and START has come: every lane fresh, PC at ENTRY; a re-execution after the code refresh likewise;
one abandoned is dropped through the gate and counted (R163); a doze ends, a deferred reset follows the idle chamber (R171, R182). -/
def Claim.ExecutionsBegin : Prop :=
  ∀ (s : State) (c t : Fin 16) (errors : List MemError),
    (∀ p y, s.execEntry c.val t.val = some (p, y) → s.mayExecute c.val t.val = true → s.startDue c.val t.val y.start = true →
      p.chamber ∉ (s.task t.val).equal →
      p.chamber ∉ (s.task t.val).mism → ∃ u, exec (.executionStart c t errors) s = .next u ∧ u.chState c.val = Ch.EXECUTING ∧
        u.get (Fld.GAL_CH_STAT_TASK c.val) = t.val ∧ u.get (Fld.GAL_CH_STAT_DOZE c.val) = 0 ∧
        (u.chamber c.val).exec = some (Execution.mk t.val (s.cyc t.val) (s.task t.val).t0 (s.task t.val).firstScan
          (s.get (Fld.GAL_TASK_INST_LO_OFFSET t.val)) (s.get (Fld.GAL_TASK_INST_HI_END t.val)) y.entry y.segBase y.segBytes y.wcet y.variant
          p.chamber false s.nowNs) ∧
        (∀ w, laneFresh { (s.chamber c.val).lane w with workUe := ((s.chamber c.val).lane w).workUe ++ errors.filterMap (MemError.workWord w) }
          ((u.chamber c.val).lane w) y.entry (s.chamber c.val).current) ∧
        (∀ k, .code k ∈ errors → k ∈ (u.chamber c.val).codeUe) ∧ (∀ k, .inst k ∈ errors → instKey (s.areaFor t.val) (8 * k) ∈ u.inst.ue) ∧
        u.tasks = s.tasks ∧ u.inst.words = s.inst.words ∧ u.sig = s.sig ∧ u.mode = s.mode) ∧
    (s.mayExecute c.val t.val = false → exec (.executionStart c t errors) s = .next s) ∧
    (∀ p y, s.execEntry c.val t.val = some (p, y) → s.startDue c.val t.val y.start = false → exec (.executionStart c t errors) s = .next s) ∧
    (∀ x, (s.chamber c.val).exec = some x → s.chState c.val = Ch.RECOVERING → (s.gate c.val).resetting = false →
      ∃ u, exec (.codeRefreshEnd c false) s = .next u ∧ u.chState c.val = Ch.EXECUTING ∧
        (u.chamber c.val).exec = some { x with reexec := true } ∧ u.tasks = s.tasks ∧ u.inst = s.inst ∧
        (∀ w, laneFresh ((s.chamber c.val).lane w) ((u.chamber c.val).lane w) x.entry (s.chamber c.val).current)) ∧
    (∀ x, (s.chamber c.val).exec = some x → (s.chamber c.val).mmDone = true →
      (s.task x.task).outcomeFixed = true ∨ s.presentCycle x = false →
      ∃ u, exec (.reexecAbandon c) s = .next u ∧ (u.chamber c.val).exec = none ∧ (∀ w, ((u.chamber c.val).lane w).journal = []) ∧
        (u.gate c.val).resetting = true ∧ u.tasks = s.tasks ∧ u.inst = s.inst) ∧
    (s.mode = .hold ∨ s.chState c.val = Ch.FAILED ∨ (∀ u ∈ s.tasksOn c.val, s.taskHeld u = true) → exec (.chamberDozeWake c) s = .next s) ∧
    (s.mode ≠ .hold → s.chState c.val ≠ Ch.FAILED → (∃ u ∈ s.tasksOn c.val, s.taskHeld u = false) →
      exec (.chamberDozeWake c) s = .next (s.putBit (Fld.GAL_CH_STAT_DOZE c.val) false)) ∧
    ((s.gate c.val).deferred = false ∨ (2 ≤ s.chState c.val ∧ s.chState c.val ≤ 4) → exec (.deferredBlockReset c) s = .next s) ∧
    ((s.gate c.val).deferred = true → (s.chState c.val < 2 ∨ 4 < s.chState c.val) → exec (.deferredBlockReset c) s = .next (s.gateRequest c.val))

/-- What a comparison does (R131, R135, R142, R163, R177, R179, R181, R183), with no flip injected: equal, the journal waits for the commit;
after the outcome is fixed the results are dropped; unequal, the chamber recovers, or fails in a re-execution; the same program trap or
INSTANCE_UE in both lanes ends the cycle badly and no instance data changes. -/
def Claim.ComparisonOutcomes : Prop :=
  ∀ (s : State) (c : Fin 16) (x : Execution) (m k : LaneState) (errors : List MemError), (s.chamber c.val).exec = some x →
    (s.chamber c.val).main = m → (s.chamber c.val).checker = k → s.bit (Fld.LS_DBG_CTRL_HALTED c.val) = false → s.ls.injectLeft = 0 →
    (s.chState c.val ≠ Ch.COMPARING → exec (.comparison c errors) s = .next s) ∧
    (s.chState c.val = Ch.COMPARING → ∃ u, exec (.comparison c errors) s = .next u ∧ u.inst.words = s.inst.words ∧ u.mode = s.mode ∧
      (∀ pc, compareCause m k false = 0 → m.fin = .ended pc → (s.task x.task).outcomeFixed = false → s.presentCycle x = true →
        u.seq.ready = s.seq.ready ++ [ReadyJournal.mk x.task c.val x.primary x.cyc x.t0 (s.task x.task).t0Cyc] ∧ (u.task x.task).equal = (s.task x.task).equal ++ [x.primary] ∧
        (u.task x.task).journals = (s.task x.task).journals ++ [(x.primary, m.journal)] ∧ (u.chamber c.val).exec = none) ∧
      (∀ pc, compareCause m k false = 0 → m.fin = .ended pc → (s.task x.task).outcomeFixed = true ∨ s.presentCycle x = false →
        u.seq.ready = s.seq.ready ∧ u.tasks = s.tasks ∧ (u.chamber c.val).exec = none ∧ ∀ w, ((u.chamber c.val).lane w).journal = []) ∧
      (compareCause m k false ≠ 0 → x.reexec = false → u.chState c.val = Ch.RECOVERING ∧
        u.get (Fld.LS_CH_LAST_CAUSE c.val) = compareCause m k false ∧ (u.task x.task).mism = (s.task x.task).mism ++ [x.primary] ∧
        ∀ w, ((u.chamber c.val).lane w).journal = [] ∧ ((u.chamber c.val).lane w).pendOut = (s.chamber c.val).current) ∧
      (compareCause m k false ≠ 0 → x.reexec = true → u.chState c.val = Ch.FAILED ∧ u.get ⟨Reg.LS_FAILED, c.val, 1⟩ = 1 ∧
        (u.chamber c.val).exec = none) ∧
      (∀ cause pc a, compareCause m k false = 0 → m.fin = .trapped cause pc a → cause ≤ 8 ∨ cause = 0xB →
        (s.presentCycle x = true → (u.task x.task).badEnd = true) ∧ (u.chamber c.val).exec = none ∧ u.seq.ready = s.seq.ready ∧
        ∀ w, ((u.chamber c.val).lane w).journal = []) ∧
      (∀ cause pc a, compareCause m k false = 0 → m.fin = .trapped cause pc a → cause ≤ 8 → (s.task x.task).holdPending = none →
        s.get (Fld.SEQ_TASK_STAT_STATE x.task) = 1 → (u.task x.task).holdPending = some 2))

/-- Executions begin with fresh lanes; a comparison's outcome follows the signatures: what the parts say, taken together. -/
def Obligations.ExecutionAndComparison : Prop := Claim.ExecutionsBegin ∧ Claim.ComparisonOutcomes

/-- Commit (R158 to R160, R179): one journal at a time, in the order of deadlines, once every execution of its task cycle has compared
equal; at its end the words of the journal are in the area that its cycle runs in and no other word has changed. -/
def Claim.CommitOfJournals : Prop :=
  ∀ (s : State) (c t : Fin 16),
    (∀ j ∈ s.seq.ready, s.seq.commit = none → s.committable j = true → j.task = t.val → j.chamber = c.val →
      (∀ q ∈ s.seq.ready, s.committable q = true → (q.task = t.val ∧ q.chamber = c.val → q = j) ∧ (q = j ∨ s.commitBefore j q = true)) →
      ∃ u, exec (.commitStart c t) s = .next u ∧ u.seq.commit = some j ∧ u.seq.ready = (s.seq.ready.filter fun q => q != j) ∧
        u.get Fld.SEQ_STAT_COMMIT_BUSY = 1 ∧ u.inst = s.inst) ∧
    (s.seq.commit = none → (∀ q ∈ s.seq.ready, q.task = t.val → q.chamber = c.val → s.committable q = false) →
      exec (.commitStart c t) s = .next s) ∧
    (∀ j, s.seq.commit = some j → (j.task ≠ t.val ∨ j.chamber ≠ c.val) → exec (.commitStart c t) s = .next s) ∧
    (s.seq.commit = none → exec .commitEnd s = .next s) ∧
    (∀ j, s.seq.commit = some j → j.chamber = c.val → s.olc.survey = none → (s.chamber c.val).main.journalUe = [] →
      (((s.chamber c.val).main.journal.map fun e => e.1 / 8).Nodup) →
      ∃ u, exec .commitEnd s = .next u ∧ u.seq.commit = none ∧ u.get Fld.SEQ_STAT_COMMIT_BUSY = 0 ∧ u.chambers = s.chambers ∧
        (∀ e ∈ (s.chamber c.val).main.journal, u.instWord (s.areaAt j.t0) e.1 = e.2) ∧
        ∀ k, (∀ e ∈ (s.chamber c.val).main.journal, instKey (s.areaAt j.t0) e.1 ≠ k) →
          sparseGet (fun _ => 0) u.inst.words k = sparseGet (fun _ => 0) s.inst.words k)

/-- Outcomes of a cycle (R162, R164) of a module in SOLO: what each is, that it stands and is shown, that a bad one's waiting journals are
discarded; and EMIT (R153, R168): a hold that waits enters there, and no instance data changes. -/
def Claim.CycleOutcomesAndEmit : Prop :=
  ∀ (s : State) (t : Fin 16),
    (s.allEqual t.val = true → (s.task t.val).badEnd = false → (s.task t.val).mism = [] → s.ownOutcome t.val = .committed) ∧
    (s.allEqual t.val = true → (s.task t.val).badEnd = false → (s.task t.val).mism ≠ [] → s.ownOutcome t.val = .recovered) ∧
    ((∃ e ∈ s.entriesOf t.val, e.chamber ∉ (s.task t.val).equal ∧ e.chamber ∉ (s.task t.val).mism) → s.ownOutcome t.val = .overrun) ∧
    ((∀ e ∈ s.entriesOf t.val, e.chamber ∈ (s.task t.val).equal ∨ e.chamber ∈ (s.task t.val).mism) →
      ((s.task t.val).badEnd = true ∨ s.allEqual t.val = false) → s.ownOutcome t.val = .skipped) ∧
    (s.bit Fld.SEQ_STAT_RUNNING = false ∨ (s.task t.val).outcomeFixed = true → exec (.cycleOutcome t) s = .next s) ∧
    (s.bit Fld.SEQ_STAT_RUNNING = true → s.mode = .run ∨ s.mode = .service → s.taskRunning t.val = true → (s.task t.val).outcomeFixed = false →
      s.role = .solo → (s.task t.val).standing = none → ∃ u, exec (.cycleOutcome t) s = .next u ∧ (u.task t.val).outcomeFixed = true ∧
        (u.task t.val).own = some (s.ownOutcome t.val) ∧ (u.task t.val).standing = some (s.ownOutcome t.val) ∧
        u.get (Fld.SEQ_TASK_STAT_OUTCOME t.val) = outcomeCode (s.ownOutcome t.val) ∧ u.inst = s.inst ∧
        (outcomeBad (s.ownOutcome t.val) = true → (u.task t.val).journals = [] ∧ ∀ p ∈ u.seq.ready, p.task = t.val → p.t0 ≠ (s.task t.val).t0)) ∧
    (s.bit Fld.SEQ_STAT_RUNNING = false ∨ s.get (Fld.SEQ_TASK_STAT_STATE t.val) = 0 → exec (.emit t) s = .next s) ∧
    (∀ cause, cause ≤ 5 → s.bit Fld.SEQ_STAT_RUNNING = true → s.taskRunning t.val = true → s.role = .solo → (s.task t.val).standing.isSome = true →
      (s.task t.val).holdPending = some cause → t.val ∉ s.olc.tail → ∃ u, exec (.emit t) s = .next u ∧
        u.get (Fld.SEQ_TASK_STAT_STATE t.val) = 2 ∧ u.get (Fld.SEQ_TASK_STAT_HOLD_CAUSE t.val) = cause ∧ u.inst = s.inst ∧
        (u.task t.val).holdPending = none)

/-- Commits of journals, the cycle's outcome and EMIT: what the parts say, taken together. -/
def Obligations.CommitAndOutcomes : Prop := Claim.CommitOfJournals ∧ Claim.CycleOutcomesAndEmit

/-- FREEZE begins a cycle with the count and t0 of its instant (R153, R156); the fabric copies the slots of an entry to both lanes' INPUT (R101,
R121), once per cycle, only entries of the table in effect, and not before those that stand before it in the issue order (R100). -/
def Obligations.FreezeAndFabric : Prop :=
  ∀ (s : State) (t : Fin 16) (caps : List CaptureImage) (g : Survey) (e : TaskEntry), s.activeSurvey = some g → s.pair.watchLeft = 0 →
    (s.bit Fld.SEQ_STAT_RUNNING = false → ∀ f, exec (.freeze t caps) s = .next s ∧ exec (.fabricTransfer f) s = .next s) ∧
    ((g.tasks.find? fun e => e.task == t.val) = none → exec (.freeze t caps) s = .next s) ∧
    (s.bit Fld.SEQ_STAT_RUNNING = true → (g.tasks.find? fun e => e.task == t.val) = some e → s.get (Fld.SEQ_TASK_STAT_STATE t.val) ≠ 0 →
      0 < e.periodTicks → e.phaseTicks * 250000 ≤ s.nowNs → ∃ u n, exec (.freeze t caps) s = .next u ∧
        n = (s.nowNs - e.phaseTicks * 250000) / (e.periodTicks * 250000) ∧ u.cyc t.val = BitVec.ofNat 32 n ∧
        (u.task t.val).t0 = n * (e.periodTicks * 250000) + e.phaseTicks * 250000 ∧ (u.task t.val).outcomeFixed = false ∧
        (u.task t.val).equal = [] ∧ (u.task t.val).mism = [] ∧ (u.task t.val).standing = none ∧ (u.task t.val).moved = [] ∧
        u.inst = s.inst ∧ u.mode = s.mode) ∧
    (∀ f, s.bit Fld.SEQ_STAT_RUNNING = true → s.get (Fld.SEQ_TASK_STAT_STATE f.task) ≠ 0 →
      (((s.fabricFor f.task).find? fun p => p.2 == f && !(s.task f.task).moved.contains p.1) = none →
        exec (.fabricTransfer f) s = .next s) ∧
      (∀ p, ((s.fabricFor f.task).find? fun p => p.2 == f && !(s.task f.task).moved.contains p.1) = some p → s.waitsFor p = true →
        exec (.fabricTransfer f) s = .next s) ∧
      (∀ ix (c : Fin 16), ((s.fabricFor f.task).find? fun p => p.2 == f && !(s.task f.task).moved.contains p.1) = some (ix, f) →
        f.srcPort = 0 → f.dstPort = c.val + 1 → f.anchor = 1 → (s.chamber c.val).exec = none → s.waitsFor (ix, f) = false → s.mode = .run → s.taskRunning f.task = true →
        s.get (Fld.GATE_CTRL_STATE c.val) = 0 → ∃ u, exec (.fabricTransfer f) s = .next u ∧ u.sig = s.sig ∧
          (u.task f.task).moved = (s.task f.task).moved ++ [ix] ∧
          ∀ j w, j < 4 * f.beats → workWord ((u.chamber c.val).lane w) (8 * (4 * f.dstIndex + j)) =
            s.sigPage (if s.inTail f.task then 1 - s.sig.active else s.sig.active) (4 * f.srcIndex + j)))

/-- Held tasks and statistics (R168, R169, R189, R469): a hold waits for the EMIT, in a SYNCED pair four cycles ahead, and delays no hold
already due; a resumption waits for its hyperperiod boundary and is refused while a chamber the task needs has failed; two commands in one write are ignored whole; the clears clear. -/
def Obligations.TaskHoldsAndStatistics : Prop :=
  ∀ (s : State) (t c : Fin 16) (v : Word),
    (2 ≤ ([(Fld.SEQ_TASK_CTRL_RESUME t.val), Fld.SEQ_TASK_CTRL_HOLD_REQ t.val, Fld.SEQ_TASK_CTRL_CLR_STATS t.val].filter fun f => f.on v).length →
      exec (.taskHoldReq t v) s = .next s ∧ exec (.taskResume t v) s = .next s ∧ exec (.taskClrStats t v) s = .next s) ∧
    ((Fld.SEQ_TASK_CTRL_HOLD_REQ t.val).on v = true → (Fld.SEQ_TASK_CTRL_RESUME t.val).on v = false →
      (Fld.SEQ_TASK_CTRL_CLR_STATS t.val).on v = false →
      (s.ll ≠ .synced → s.taskRunning t.val = true → exec (.taskHoldReq t v) s = .next
        (if (s.task t.val).holdPending = none then s.setTask t.val { s.task t.val with holdPending := some 5 } else s)) ∧
      (s.ll = .synced → s.role = .lead → s.taskRunning t.val = true → exec (.taskHoldReq t v) s = .next ((s.setTask t.val
        { s.task t.val with holdEffective := some (s.cyc t.val + 4) }).emit
          (.lifeline (.command (.holdTask t.val (some (s.cyc t.val + 4))))))) ∧
      (s.ll = .synced → s.role = .shadow → exec (.taskHoldReq t v) s = .next (s.emit (.lifeline (.command (.holdTask t.val none))))) ∧
      (s.ll ≠ .synced → s.taskRunning t.val = false → exec (.taskHoldReq t v) s = .next s)) ∧
    ((Fld.SEQ_TASK_CTRL_RESUME t.val).on v = true → (Fld.SEQ_TASK_CTRL_HOLD_REQ t.val).on v = false →
      (Fld.SEQ_TASK_CTRL_CLR_STATS t.val).on v = false → s.ll ≠ .synced →
      (s.get (Fld.SEQ_TASK_STAT_STATE t.val) = 2 → s.taskBlocked t.val = false → exec (.taskResume t v) s = .next ((s.setTask t.val
        { s.task t.val with resumePending := true, resumeEffective := some (s.nextBoundary 0) }).put (Fld.SEQ_TASK_STAT_STATE t.val) 3)) ∧
      (s.get (Fld.SEQ_TASK_STAT_STATE t.val) ≠ 2 ∨ s.taskBlocked t.val = true → exec (.taskResume t v) s = .next s)) ∧
    (s.get (Fld.SEQ_TASK_STAT_STATE t.val) = 3 → (∀ b, (s.task t.val).resumeEffective = some b → b ≤ s.nowNs) → ∃ u,
      exec (.taskResumeBoundary t) s = .next u ∧ (u.task t.val).firstScan = true ∧
      u.get (Fld.SEQ_TASK_STAT_STATE t.val) = 1 ∧ u.get (Fld.SEQ_TASK_STAT_HOLD_CAUSE t.val) = 0 ∧ u.inst = s.inst ∧ u.chambers = s.chambers) ∧
    (∀ b, (s.task t.val).resumeEffective = some b → s.nowNs < b → exec (.taskResumeBoundary t) s = .next s) ∧
    (s.get (Fld.SEQ_TASK_STAT_STATE t.val) ≠ 3 → exec (.taskResumeBoundary t) s = .next s) ∧
    ((Fld.SEQ_TASK_CTRL_CLR_STATS t.val).on v = true → (Fld.SEQ_TASK_CTRL_HOLD_REQ t.val).on v = false →
      (Fld.SEQ_TASK_CTRL_RESUME t.val).on v = false → ∃ u, exec (.taskClrStats t v) s = .next u ∧
        regsOnly s u [Reg.SEQ_TASK_SKIPS t.val, Reg.SEQ_TASK_OVERRUNS t.val, Reg.SEQ_TASK_RECOVERED t.val, Reg.SEQ_TASK_LATE t.val,
          Reg.SEQ_TASK_MARGIN t.val] ∧ u.getReg (Reg.SEQ_TASK_SKIPS t.val) = 0 ∧ u.getReg (Reg.SEQ_TASK_OVERRUNS t.val) = 0 ∧
        u.getReg (Reg.SEQ_TASK_RECOVERED t.val) = 0 ∧ u.getReg (Reg.SEQ_TASK_LATE t.val) = 0 ∧
        u.getReg (Reg.SEQ_TASK_MARGIN t.val) = 0xFFFFFFFF) ∧
    (Fld.GAL_CTRL_CLR_STATS.on v = true → ∃ u, exec (.galClrStats v) s = .next u ∧ { u with regs := s.regs } = s ∧
      u.getReg (Reg.GAL_CH_MAXCYC c.val) = 0 ∧ u.getReg (Reg.GAL_CH_JMAX c.val) = 0 ∧ u.getReg (Reg.GAL_CH_ECC c.val) = 0) ∧
    (c.val ∉ s.ls.leaking → exec (.mismatchLeak c) s = .next s) ∧
    (c.val ∈ s.ls.leaking → ∃ u, exec (.mismatchLeak c) s = .next u ∧ u.get (Fld.LS_CH_RATE_LEVEL c.val) = s.get (Fld.LS_CH_RATE_LEVEL c.val) - 1 ∧
      (s.get (Fld.LS_CH_RATE_LEVEL c.val) ≤ 1 ↔ c.val ∉ u.ls.leaking))

/-- The debugger at a chamber (R194 to R196): halts need DBG_LEVEL CONTROL and are refused on LEAD; a step runs the same instruction in both
lanes and leaves the chamber halted; a resume lets it go on; accepted writes go through the replay buffer to both lanes; reads show the main
lane. -/
def Obligations.DebuggingChambers : Prop :=
  ∀ (s : State) (c : Fin 16) (v : Word),
    (∀ x, s.chState c.val = Ch.EXECUTING → s.bit (Fld.LS_DBG_CTRL_HALTED c.val) = false →
      ((List.range 4).find? fun x => s.bit (Fld.LS_DBG_BP_ENABLE c.val x) && s.get (Fld.LS_DBG_BP_PC_WORD c.val x) ==
        (s.chamber c.val).main.pc / 4) = some x →
      (s.role = .lead ∨ s.get Fld.SEC_STATUS_DBG_LEVEL < 2 → exec (.breakpointHalt c) s = .next (s.putBit (Fld.LS_DBG_CTRL_REFUSED c.val) true)) ∧
      (s.role ≠ .lead → 2 ≤ s.get Fld.SEC_STATUS_DBG_LEVEL → ∃ u, exec (.breakpointHalt c) s = .next u ∧
        u.bit (Fld.LS_DBG_CTRL_HALTED c.val) = true ∧ u.get (Fld.LS_DBG_CTRL_BP_HIT c.val) = 1 ∧ u.get (Fld.LS_DBG_CTRL_BP_INDEX c.val) = x ∧
        ∀ w, (u.chamber c.val).lane w = (s.chamber c.val).lane w)) ∧
    ((Fld.LS_DBG_CTRL_HALT_REQ c.val).on v = true → (Fld.LS_DBG_CTRL_RESUME c.val).on v = false → (Fld.LS_DBG_CTRL_STEP c.val).on v = false →
      ∃ u, exec (.dbgHaltReq c v) s = .next u ∧ (∀ w, (u.chamber c.val).lane w = (s.chamber c.val).lane w) ∧
        (s.role ≠ .lead → 2 ≤ s.get Fld.SEC_STATUS_DBG_LEVEL → u.bit (Fld.LS_DBG_CTRL_HALTED c.val) = true) ∧
        (s.role = .lead ∨ s.get Fld.SEC_STATUS_DBG_LEVEL < 2 → u.bit (Fld.LS_DBG_CTRL_REFUSED c.val) = true ∧
          u.bit (Fld.LS_DBG_CTRL_HALTED c.val) = s.bit (Fld.LS_DBG_CTRL_HALTED c.val))) ∧
    ((Fld.LS_DBG_CTRL_RESUME c.val).on v = true → (Fld.LS_DBG_CTRL_HALT_REQ c.val).on v = false → (Fld.LS_DBG_CTRL_STEP c.val).on v = false →
      2 ≤ s.get Fld.SEC_STATUS_DBG_LEVEL → (s.chamber c.val).replay = [] → (s.chamber c.val).stopDeferred = false →
      ∃ u, exec (.dbgResume c v) s = .next u ∧ u.bit (Fld.LS_DBG_CTRL_HALTED c.val) = false ∧ u.chambers = s.chambers) ∧
    (∀ x op, (Fld.LS_DBG_CTRL_STEP c.val).on v = true → (Fld.LS_DBG_CTRL_HALT_REQ c.val).on v = false →
      (Fld.LS_DBG_CTRL_RESUME c.val).on v = false → 2 ≤ s.get Fld.SEC_STATUS_DBG_LEVEL → s.bit (Fld.LS_DBG_CTRL_HALTED c.val) = true →
      (s.chamber c.val).replay = [] → (s.chamber c.val).exec = some x →
      (∀ w, ((s.chamber c.val).lane w).fin = .running ∧ fetchTrap (s.chamber c.val) x ((s.chamber c.val).lane w).pc = none ∧
        decodeBlock ((s.chamber c.val).codeWord ((s.chamber c.val).lane w).pc) = some op) →
      ∃ u, exec (.dbgStep c v) s = .next u ∧ u.bit (Fld.LS_DBG_CTRL_HALTED c.val) = true ∧
        ∀ w, (u.chamber c.val).lane w = ((s.chamber c.val).lane w).after (laneEffect ((s.chamber c.val).lane w) (s.laneEnv c.val x) op)) ∧
    (∀ w ws, (s.chamber c.val).replay = w :: ws → s.ls.waiting = none → exec (.replayApply c) s = .next ((s.setChamber c.val
      { s.chamber c.val with
        main := (s.chamber c.val).main.poke w
        checker := (s.chamber c.val).checker.poke w
        replay := ws }).put (Fld.LS_DBG_CTRL_REPLAY_PEND c.val) ws.length)) ∧
    (s.bit Fld.LS_DBG_SEL_WRITE = false → (∀ x, s.get Fld.LS_DBG_SEL_CHAMBER = c.val →
      s.dbgValue c.val (s.get Fld.LS_DBG_SEL_SPACE) (s.getReg Reg.LS_DBG_ADDR).toNat = some x → 1 ≤ s.get Fld.SEC_STATUS_DBG_LEVEL →
      ∃ u, exec .dbgRead s = .next u ∧ regsOnly s u [Reg.LS_DBG_DATA_LO, Reg.LS_DBG_DATA_HI, Reg.LS_DBG_RESULT] ∧
        u.getReg Reg.LS_DBG_DATA_HI ++ u.getReg Reg.LS_DBG_DATA_LO = x ∧ u.get Fld.LS_DBG_RESULT_DONE = 1 ∧ u.get Fld.LS_DBG_RESULT_ERROR = 0) ∧
      (s.get Fld.SEC_STATUS_DBG_LEVEL < 1 → exec .dbgRead s = .next s.dbgError)) ∧
    (∀ w, s.bit Fld.LS_DBG_SEL_WRITE = true → s.get Fld.LS_DBG_SEL_CHAMBER = c.val →
      w = (⟨s.get Fld.LS_DBG_SEL_SPACE, s.getReg Reg.LS_DBG_ADDR, s.getReg Reg.LS_DBG_DATA_HI ++ s.getReg Reg.LS_DBG_DATA_LO⟩ : ReplayWrite) →
      (s.dbgWriteOk c.val w = false → exec .dbgWrite s = .next s.dbgError) ∧
      (s.dbgWriteOk c.val w = true → (s.chamber c.val).replay.length < 16 → ∃ u, exec .dbgWrite s = .next u ∧
        (u.chamber c.val).replay = (s.chamber c.val).replay ++ [w] ∧ u.get Fld.LS_DBG_RESULT_DONE = 1 ∧ u.get Fld.LS_DBG_RESULT_ERROR = 0 ∧
        ∀ x, (u.chamber c.val).lane x = (s.chamber c.val).lane x) ∧
      (s.dbgWriteOk c.val w = true → 16 ≤ (s.chamber c.val).replay.length → ∃ u, exec .dbgWrite s = .next u ∧ u.ls.waiting = some (c.val, w) ∧
        u.get Fld.LS_DBG_RESULT_DONE = 0 ∧ u.chambers = s.chambers)) ∧
    (Fld.LS_INJECT_ARM.on v = true → s.tpAllowed = true → (s.regStore Reg.LS_INJECT v).bit Fld.LS_INJECT_PENDING = false →
      (s.regStore Reg.LS_INJECT v).get Fld.LS_INJECT_KIND < 2 → ∃ u, exec (.lsInjectArm v) s = .next u ∧
        u.ls.injectLeft = (s.regStore Reg.LS_INJECT v).get Fld.LS_INJECT_KIND + 1 ∧
        u.ls.injectChamber = (s.regStore Reg.LS_INJECT v).get Fld.LS_INJECT_CHAMBER ∧ u.get Fld.LS_INJECT_PENDING = 1) ∧
    (Fld.LS_INJECT_ARM.on v = true → s.tpAllowed = false → ∃ u, exec (.lsInjectArm v) s = .next u ∧ u.ls = s.ls ∧ u.get Fld.LS_INJECT_REFUSED = 1)

/-! ### Host accesses, guards, Sump, Flowstone, time base (R347 to R394, R428, R463 to R466) -/

/-- An access of the host or of the debug port (R363, R369, R428, R463, R466): performed where both guards pass it, refused with its record
where one does not, counted where nothing is mapped; the port is refused below its debug level before any guard and does nothing while it is
off. -/
def Claim.HostAccessesThroughGuards : Prop :=
  ∀ (s : State) (a : Access),
    (a.initiator ≠ 3 →
      (∀ f, s.initiatorCheck a = some f →
        exec (.hostAccess a) s = .next { s.guardFault (a.initiator - 1) a f with bus := .error }) ∧
      (s.initiatorCheck a = none → targetOf a.addr.toNat = none → exec (.hostAccess a) s = .next { s.unmappedAccess a with bus := .error }) ∧
      (∀ t f, s.initiatorCheck a = none → targetOf a.addr.toNat = some t → s.guardCheck t a = some f →
        exec (.hostAccess a) s = .next { s.guardFault t a f with bus := .error }) ∧
      (s.accessPasses a = true → targetOf a.addr.toNat = some 9 → a.kind = .write →
        exec (.hostAccess a) s = .next { s.sramWrite a.addr.toNat (a.data.take a.len) with bus := .done }) ∧
      (s.accessPasses a = true → targetOf a.addr.toNat = some 9 → a.kind = .read →
        exec (.hostAccess a) s = .next { s with bus := .data (s.sramRead a.addr.toNat a.len) }) ∧
      (s.accessPasses a = true → targetOf a.addr.toNat = some 12 → a.kind = .write → exec (.hostAccess a) s = .next { s with bus := .error }) ∧
      (s.accessPasses a = true → targetOf a.addr.toNat = some 10 → a.len ≠ 4 ∨ a.addr.toNat % 4 ≠ 0 →
        exec (.hostAccess a) s = .next { s with bus := .error })) ∧
    (a.initiator = 3 → exec (.hostAccess a) s = exec (.dap a) s) ∧
    (s.tapEnabled = false → exec (.dap a) s = .next s) ∧
    (s.tapEnabled = true → s.get Fld.SEC_STATUS_DBG_LEVEL < (if a.kind = .read ∨ dbgLaneReg a.addr.toNat = true then 1 else 2) →
      ∃ t, exec (.dap a) s = .next t ∧ t.bus = .error ∧ regsOnly s { t with bus := s.bus, sec := s.sec } [])

/-- Host SRAM holds what was written (R463): the bytes stored read back, every other byte reads as before, and the canonical form is kept. -/
def Claim.HostSramReadAfterWrite : Prop :=
  ∀ (s : State) (a : Nat) (bs : List Byte),
    (s.sramWrite a bs).sramRead a bs.length = bs ∧
    (∀ x, x < a ∨ a + bs.length ≤ x → (s.sramWrite a bs).sramByte x = s.sramByte x) ∧
    (Memory.wf s = true → Memory.wf (s.sramWrite a bs) = true) ∧ { s.sramWrite a bs with sram := s.sram } = s

/-- Matching (R365 to R367, R369): the region that decides covers the address, none that covers it is smaller, and of those of its size its
number is the lowest; no region covers it exactly when the background decides; a guard that is not enabled passes everything. -/
def Claim.GuardMatching : Prop :=
  ∀ (s : State) (u x : Nat) (a : Access),
    (guardMatch (s.guardRegions u) x = none ↔ ∀ r ∈ s.guardRegions u, r.covers x = false) ∧
    (∀ r, guardMatch (s.guardRegions u) x = some r → r ∈ s.guardRegions u ∧ r.covers x = true ∧
      ∀ q ∈ s.guardRegions u, q.covers x = true → r.sizeLog < q.sizeLog ∨ (r.sizeLog = q.sizeLog ∧ r.index ≤ q.index)) ∧
    (s.bit (Fld.GUARD_CTRL_ENABLE u) = false → s.guardCheck u a = none) ∧
    (∀ f, s.guardCheck u a = some f → a.addr.toNat ≤ f.addr ∧ f.addr ≤ a.addr.toNat + (a.len - 1) ∧ f.cause < 2 ∧ f.region ≤ 16)

/-- Changing the rules (R368, R372 to R374): a rule of an existing guard takes effect at once with nothing outstanding, and otherwise waits,
DRAINING; a locked one is ignored and counted; the drain's end applies the first that waits, a timeout counts what it aborted. -/
def Claim.GuardRuleChanges : Prop :=
  ∀ (s : State) (addr v : Word) (n : Nat) (r : GuardRule), guardRule addr.toNat = some r →
    (guardExists r.guard = false → exec (.guardRuleWrite addr v n) s = .next s) ∧
    (guardExists r.guard = true → s.guardLocked r = true → exec (.guardRuleWrite addr v n) s = .next (s.guardIgnored r)) ∧
    (guardExists r.guard = true → s.guardLocked r = false → (∀ w ∈ s.guardWaits, w.guard ≠ r.guard) →
      exec (.guardRuleWrite addr v 0) s = .next (s.regStore addr.toNat v)) ∧
    (guardExists r.guard = true → s.guardLocked r = false → n ≠ 0 ∨ (∃ w ∈ s.guardWaits, w.guard = r.guard) →
      exec (.guardRuleWrite addr v n) s = .next
        (State.putBit { s with guardWaits := s.guardWaits ++ [⟨r.guard, addr.toNat, v⟩] } (Fld.GUARD_STAT_DRAINING r.guard) true)) ∧
    (∀ u : Fin 16, (∀ w ∈ s.guardWaits, w.guard ≠ u.val) → exec (.guardDrainEnd u) s = .next s ∧ exec (.guardDrainTimeout u n) s = .next s) ∧
    (∀ (u : Fin 16), s.guardWaits = [⟨u.val, addr.toNat, v⟩] → r.guard = u.val → s.guardLocked r = false →
      exec (.guardDrainEnd u) s = .next (State.putBit (State.regStore { s with guardWaits := [] } addr.toNat v) (Fld.GUARD_STAT_DRAINING u.val) false) ∧
      ∃ t, exec (.guardDrainTimeout u n) s = .next t ∧ t.guardWaits = [] ∧ t.get (Fld.GUARD_STAT_DRAINING u.val) = 0)

/-- Host accesses pass the guards, which match by their rules and change by register writes: what the parts say, taken together. -/
def Obligations.HostAndGuards : Prop := Claim.HostAccessesThroughGuards ∧ Claim.GuardMatching ∧ Claim.GuardRuleChanges

/-- Sump occurrences (R376, R379 to R383): flag, count and detail of the source; occurrences of one source in one CLK_PER cycle count as one, and
the detail word records the lowest instance; a level source rises once; a strong force is refused where perturbation is not allowed; the flag
of an ACTIVE level source stays; a MODULE_RESET source resets the module once the records are written, or after 20 µs. -/
def Claim.SumpOccurrences : Prop :=
  ∀ (s : State) (n : Fin 256) (i j : BitVec 8) (v : Word),
    (sumpSource n.val = none → exec (.sumpOccurrence n i j) s = .next s ∧ exec (.sumpForce n v) s = .next s ∧
      exec (.sumpFlagClear n v) s = .next s) ∧
    (∀ sev, sumpSource n.val = some (sev, false) → n.val < 240 → s.sumpSeen n.val = true → ∃ t, exec (.sumpOccurrence n i j) s = .next t ∧
      t.get (Fld.SUMP_SRC_FLAG n.val) = 1 ∧ t.get (Fld.SUMP_CNT_COUNT n.val) = s.get (Fld.SUMP_CNT_COUNT n.val) ∧ t.fls = s.fls ∧ t.out = s.out ∧
      t.get (Fld.SUMP_DETAIL_INSTANCE n.val) * 256 + t.get (Fld.SUMP_DETAIL_SUB n.val) =
        min (i.toNat * 256 + j.toNat) (s.get (Fld.SUMP_DETAIL_INSTANCE n.val) * 256 + s.get (Fld.SUMP_DETAIL_SUB n.val))) ∧
    (∀ sev, sumpSource n.val = some (sev, false) → n.val < 240 → n.val ≠ Src.FLS_OVERFLOW → s.sumpSeen n.val = false →
      s.get (Fld.SUMP_SRC_SEVERITY n.val) ≠ 7 → ∃ t,
      exec (.sumpOccurrence n i j) s = .next t ∧ t.get (Fld.SUMP_SRC_FLAG n.val) = 1 ∧ t.get (Fld.SUMP_DETAIL_INSTANCE n.val) = i.toNat ∧
      t.get (Fld.SUMP_DETAIL_SUB n.val) = j.toNat ∧ t.get (Fld.SUMP_DETAIL_FORCED n.val) = 0 ∧
      t.get (Fld.SUMP_CNT_COUNT n.val) = min (s.get (Fld.SUMP_CNT_COUNT n.val) + 1) (2 ^ (Fld.SUMP_CNT_COUNT n.val).width - 1) ∧
      t.mode = s.mode ∧ t.core.modeReq = s.core.modeReq) ∧
    (∀ sev, sumpSource n.val = some (sev, true) →
      ((i.toNat * 256 + j.toNat) ∈ sparseGet (fun _ => []) s.sump.levels n.val → exec (.sumpOccurrence n i j) s = .next s) ∧
      ((i.toNat * 256 + j.toNat) ∉ sparseGet (fun _ => []) s.sump.levels n.val → s.get (Fld.SUMP_SRC_SEVERITY n.val) ≠ 7 → ∃ t, exec (.sumpOccurrence n i j) s = .next t ∧
        t.get (Fld.SUMP_SRC_ACTIVE n.val) = 1 ∧ t.get (Fld.SUMP_SRC_FLAG n.val) = 1)) ∧
    (∀ sev lvl, sumpSource n.val = some (sev, lvl) → n.val < 240 → s.bit Fld.SUMP_LOCK_LOCK = true →
      (Fld.SUMP_SRC_FORCE n.val).on v = true → (Fld.SUMP_SRC_FLAG n.val).on v = false →
      (s.tpAllowed = false → s.get (Fld.SUMP_SRC_SEVERITY n.val) = 7 ∨ s.bit (Fld.SUMP_SRC_MODULE_RESET n.val) = true → ∃ t,
        exec (.sumpForce n v) s = .next t ∧ t.get (Fld.SUMP_SRC_FORCE_REFUSED n.val) = 1 ∧
        t.get (Fld.SUMP_SRC_FLAG n.val) = s.get (Fld.SUMP_SRC_FLAG n.val) ∧ t.fls = s.fls ∧ t.core = s.core) ∧
      (s.tpAllowed = true → n.val ≠ Src.FLS_OVERFLOW → (s.get (Fld.SUMP_SRC_SEVERITY n.val) ≠ 7 ∨ s.inPair = false) → ∃ t,
        exec (.sumpForce n v) s = .next t ∧ t.get (Fld.SUMP_SRC_FLAG n.val) = 1 ∧ t.get (Fld.SUMP_DETAIL_FORCED n.val) = 1)) ∧
    (∀ sev lvl, sumpSource n.val = some (sev, lvl) → (Fld.SUMP_SRC_FORCE n.val).on v = false → (Fld.SUMP_SRC_FLAG n.val).on v = true → ∃ t,
      exec (.sumpFlagClear n v) s = .next t ∧ regsOnly s t [Reg.SUMP_SRC n.val] ∧
      t.get (Fld.SUMP_SRC_FLAG n.val) = if s.bit (Fld.SUMP_SRC_ACTIVE n.val) then s.get (Fld.SUMP_SRC_FLAG n.val) else 0) ∧
    (s.sump.moduleReset = none → exec .sumpModuleReset s = .next s) ∧
    (∀ src c, s.sump.moduleReset = some (src, c) → s.fls.queue ≠ [] → s.time.cycles < c + 8000 → exec .sumpModuleReset s = .next s) ∧
    (∀ src c, src < 256 → s.sump.moduleReset = some (src, c) → s.fls.queue = [] ∨ c + 8000 ≤ s.time.cycles → s.rst.inReset = false → ∃ t, exec .sumpModuleReset s = .next t ∧
      episodeBegins s t 4 ∧ t.get Fld.RST_DETAIL_SW_BY_SUMP = 1 ∧ t.get Fld.RST_DETAIL_SUMP_SRC = src)

/-- The Flowstone recorder (R386 to R394): the record at the front of the queue is written at HEAD, which goes on by its length and one
sequence; a host record with a type or length of the recorder's is refused, and waits while the queue is full; the ring is erased with its key
in two lifecycles alone; a seek answers once. -/
def Claim.FlowstoneRecorder : Prop :=
  ∀ (s : State) (v : Word) (errors : List Nat),
    (s.fls.queue = [] → exec (.flsRecordWrite errors) s = .next s) ∧
    (∀ r q, s.fls.queue = .record r :: q → 1 ∉ s.fls.ue ++ errors → 2 ∉ s.fls.ue ++ errors → s.fls.lostRun = 0 → s.fls.goWaiting = false →
      s.headOff + recordLength r ≤ 16711680 → ∃ t, exec (.flsRecordWrite errors) s = .next t ∧ t.fls.queue = q ∧
        t.flsRead (0x10000 + s.headOff) (recordLength r) = recordBytes r ∧ t.headSeq = (s.headSeq + 1) % 2 ^ 32 ∧
        t.headOff = s.headOff + recordLength r ∧ t.regs = s.regs ∧ t.mode = s.mode) ∧
    (s.fls.queue ≠ [] → (1 ∈ s.fls.ue ++ errors ∨ 2 ∈ s.fls.ue ++ errors) → ∃ t, exec (.flsRecordWrite errors) s = .next t ∧
      t.tailSeq = s.headSeq ∧ t.tailOff = s.headOff ∧ t.headSeq = s.headSeq ∧ t.headOff = s.headOff ∧ t.get Fld.FLS_STAT_UE = 1) ∧
    (Fld.FLS_WCMD_GO.on v = false → exec (.flsWriteGo v) s = .next s) ∧
    (Fld.FLS_WCMD_GO.on v = true → s.get Fld.FLS_WTYPE_TYPE ≤ 2 ∨ s.get Fld.FLS_WTYPE_LEN = 0 ∨ s.get Fld.FLS_WTYPE_LEN = 63 →
      exec (.flsWriteGo v) s = .next (s.putAll [(Fld.FLS_WCMD_DONE, 0), (Fld.FLS_WCMD_REFUSED, 1)])) ∧
    (Fld.FLS_WCMD_GO.on v = true → 2 < s.get Fld.FLS_WTYPE_TYPE → 0 < s.get Fld.FLS_WTYPE_LEN → s.get Fld.FLS_WTYPE_LEN < 63 →
      (64 ≤ s.fls.queue.length → ∃ t, exec (.flsWriteGo v) s = .next t ∧ t.fls.goWaiting = true ∧ t.fls.queue = s.fls.queue ∧
        t.get Fld.FLS_WCMD_DONE = 0 ∧ t.get Fld.FLS_WCMD_REFUSED = 0) ∧
      (s.fls.queue = [] → ∃ t, exec (.flsWriteGo v) s = .next t ∧ t.fls.queue.length = 1 ∧ t.get Fld.FLS_WCMD_DONE = 1 ∧
        t.get Fld.FLS_WCMD_REFUSED = 0)) ∧
    (Fld.FLS_CTRL_ERASE.on v = true →
      (Fld.FLS_CTRL_KEY.ext v = 0x4552 → s.get Fld.SEC_STATUS_LIFECYCLE = 1 ∨ s.get Fld.SEC_STATUS_LIFECYCLE = 3 → ∃ t,
        exec (.flsErase v) s = .next t ∧ t.tailSeq = t.headSeq ∧ t.tailOff = t.headOff ∧
        (s.fls.queue = [] → t.headSeq = s.headSeq ∧ t.headOff = s.headOff ∧ t.flsNat 0x18 4 = (s.flsNat 0x18 4 + 1) % 2 ^ 32)) ∧
      (Fld.FLS_CTRL_KEY.ext v ≠ 0x4552 ∨ (s.get Fld.SEC_STATUS_LIFECYCLE ≠ 1 ∧ s.get Fld.SEC_STATUS_LIFECYCLE ≠ 3) → ∃ t,
        exec (.flsErase v) s = .next t ∧ t.fls = s.fls ∧ t.get Fld.FLS_CTRL_REFUSED = 1)) ∧
    exec (.flsSeek v) s = .next (let t := s.putAll [(Fld.FLS_SEEK_OFF_DONE, 0), (Fld.FLS_SEEK_OFF_VALID, 0)]
      { t with fls := { t.fls with seeking := some v } }) ∧
    (s.fls.seeking = none → exec .flsSeekDone s = .next s) ∧
    (∀ q, s.fls.seeking = some q → ∃ t, exec .flsSeekDone s = .next t ∧ t.fls = { s.fls with seeking := none } ∧
      t.get Fld.FLS_SEEK_OFF_DONE = 1 ∧ t.get Fld.FLS_SEEK_OFF_VALID =
        if (q.toNat + 2 ^ 32 - s.tailSeq) % 2 ^ 32 < (s.headSeq + 2 ^ 32 - s.tailSeq) % 2 ^ 32 then 1 else 0) ∧
    (s.mode ≠ .hibernate → exec .optimeCopy s = .next { s with fls := { s.fls with optimeCopy := s.fls.optime } }) ∧
    (s.mode = .hibernate → exec .optimeCopy s = .next s)

/-- The Sump's sources, flags and reactions, and the Flowstone recorder: what the parts say, taken together. -/
def Obligations.SumpAndFlowstone : Prop := Claim.SumpOccurrences ∧ Claim.FlowstoneRecorder

/-- One CLK_TIME cycle on an empty queue (R348, R351; log entry 3): module time goes on by 2.5 ns times one plus the rate, with the slew, the
two together within 500 ppm; it stands in reset and in HIBERNATE
(the cycles themselves are counted on). -/
def Claim.ClockCycleOnEmptyQueue : Prop :=
  ∀ s : State, s.pending = [] →
    step s = .next s.tick ∧ s.tick.pending = [] ∧
    (s.rst.inReset = true ∨ s.mode = .hibernate → s.tick.time = { s.time with cycles := s.time.cycles + 1 }) ∧
    (s.rst.inReset = false → s.mode ≠ .hibernate → s.time.nanoseconds < 1000000000 → s.time.frac < 2 ^ 32 → s.time.seconds + 1 < 2 ^ 48 →
      s.tick.time.nanoseconds < 1000000000 ∧ s.tick.time.frac < 2 ^ 32 ∧
      ∃ d : Int, -5368709 ≤ d ∧ d ≤ 5368709 ∧
        (s.tick.nowNs * 2 ^ 32 + s.tick.time.frac : Nat) = ((s.nowNs * 2 ^ 32 + s.time.frac : Nat) : Int) + 10737418240 + d ∧
        (s.getReg Reg.TIME_RATE = 0 → s.time.slewRem = 0 → d = 0) ∧
        (s.getReg Reg.TIME_RATE = 0 → 0 < s.time.slewRem → 0 < d ∧ d ≤ s.time.slewRem ∧ s.tick.time.slewRem = s.time.slewRem - d))

/-- Steering (R350 to R353, R355): a submission within JUMP_US slews, one beyond is refused and pends, the first before the sequencer has run
steps; a follower takes none; the operator steps or slews a pending offset in a session, a step only while the sequencer stands. -/
def Claim.TimeSteering : Prop :=
  ∀ (s : State) (v : Word),
    (Fld.TIME_CMD_SUBMIT.on v = true → Fld.TIME_CMD_ACCEPT_STEP.on v = false → Fld.TIME_CMD_ACCEPT_SLEW.on v = false →
      Fld.TIME_CMD_DISCARD.on v = false → Fld.TIME_CMD_SRC.ext v = 1 ∨ Fld.TIME_CMD_SRC.ext v = 2 →
      (s.get Fld.TIME_STAT_STATE = 3 → exec (.submit v) s = .next (s.putBit Fld.TIME_CMD_REFUSED false)) ∧
      (s.get Fld.TIME_STAT_STATE = 0 → s.time.seqRan = false → ∃ t, exec (.submit v) s = .next t ∧ t.get Fld.TIME_STAT_STATE = 1 ∧
        (t.nowNs : Int) = (s.nowNs + s.adjOffset) % (2 ^ 48 * 1000000000) ∧ t.get Fld.TIME_EVENT_STEPPED = 1) ∧
      (s.get Fld.TIME_STAT_STATE = 1 → s.adjOffset.natAbs ≤ s.jumpNs → s.bit Fld.TIME_STAT_STEP_PENDING = false → ∃ t,
        exec (.submit v) s = .next t ∧ t.time = { s.time with slewRem := s.time.slewRem + s.adjOffset * 4294967296 } ∧
        t.get Fld.TIME_STAT_STATE = 1) ∧
      (s.get Fld.TIME_STAT_STATE = 1 → s.jumpNs < s.adjOffset.natAbs → ∃ t, exec (.submit v) s = .next t ∧ t.time = s.time ∧
        t.get Fld.TIME_STAT_STATE = 2 ∧ t.get Fld.TIME_STAT_STEP_PENDING = 1 ∧ t.pendingOffset = s.adjOffset)) ∧
    (Fld.TIME_CMD_ACCEPT_STEP.on v = true → Fld.TIME_CMD_SUBMIT.on v = false → Fld.TIME_CMD_ACCEPT_SLEW.on v = false →
      Fld.TIME_CMD_DISCARD.on v = false →
      (s.session = false ∨ s.bit Fld.TIME_STAT_STEP_PENDING = false ∨ s.bit Fld.SEQ_STAT_RUNNING = true →
        exec (.acceptStep v) s = .next (s.putBit Fld.TIME_CMD_REFUSED true)) ∧
      (s.session = true → s.bit Fld.TIME_STAT_STEP_PENDING = true → s.bit Fld.SEQ_STAT_RUNNING = false → s.ll ≠ .synced → ∃ t,
        exec (.acceptStep v) s = .next t ∧ (t.nowNs : Int) = (s.nowNs + s.pendingOffset) % (2 ^ 48 * 1000000000) ∧
        t.get Fld.TIME_STAT_STEP_PENDING = 0 ∧ t.pendingOffset = 0 ∧ t.get Fld.TIME_STAT_STATE = 1)) ∧
    (Fld.TIME_CMD_ACCEPT_SLEW.on v = true → Fld.TIME_CMD_SUBMIT.on v = false → Fld.TIME_CMD_ACCEPT_STEP.on v = false →
      Fld.TIME_CMD_DISCARD.on v = false →
      (s.session = false ∨ s.bit Fld.TIME_STAT_STEP_PENDING = false → exec (.acceptSlew v) s = .next (s.putBit Fld.TIME_CMD_REFUSED true)) ∧
      (s.session = true → s.bit Fld.TIME_STAT_STEP_PENDING = true → ∃ t, exec (.acceptSlew v) s = .next t ∧ t.pendingOffset = 0 ∧
        t.time = { s.time with slewRem := s.time.slewRem + s.pendingOffset * 4294967296 } ∧ t.get Fld.TIME_STAT_STEP_PENDING = 0)) ∧
    (Fld.TIME_CMD_DISCARD.on v = true → Fld.TIME_CMD_SUBMIT.on v = false → Fld.TIME_CMD_ACCEPT_STEP.on v = false →
      Fld.TIME_CMD_ACCEPT_SLEW.on v = false → ∃ t, exec (.timeDiscard v) s = .next t ∧ t.time = s.time ∧ t.pendingOffset = 0 ∧
        t.get Fld.TIME_STAT_STEP_PENDING = 0) ∧
    (s.time.stepAt = none → exec .timeStepInstant s = .next s) ∧
    (∀ i o, s.time.stepAt = some (i, o) → s.nowNs < i → exec .timeStepInstant s = .next s) ∧
    (∀ i o, s.time.stepAt = some (i, o) → i ≤ s.nowNs → ∃ t, exec .timeStepInstant s = .next t ∧ t.time.stepAt = none ∧
      (t.nowNs : Int) = (s.nowNs + o) % (2 ^ 48 * 1000000000)) ∧
    (s.get Fld.TIME_STAT_STATE ≠ 1 → exec .timeHoldover s = .next s) ∧
    (s.get Fld.TIME_STAT_STATE = 1 → ∃ t, exec .timeHoldover s = .next t ∧ t.get Fld.TIME_STAT_STATE = 2 ∧ t.time = s.time ∧
      t.get Fld.TIME_EVENT_HOLDOVER = 1) ∧
    (s.get Fld.BB_CTRL_MODE = 1 → s.get Fld.TIME_STAT_SOURCE = 1 → exec .ptpLanChange s = .next (s.put Fld.TIME_STAT_SOURCE 2)) ∧
    (s.get Fld.BB_CTRL_MODE = 1 → s.get Fld.TIME_STAT_SOURCE = 2 → exec .ptpLanChange s = .next (s.put Fld.TIME_STAT_SOURCE 1)) ∧
    (s.get Fld.BB_CTRL_MODE ≠ 1 → exec .ptpLanChange s = .next s)

/-- Drip units and capture inputs (R356 to R362): an armed unit whose target is reached fires, a periodic one goes on by its period; a period out
of range is refused, a survey unit is not armed by a host; a disarm changes no target. An edge is stamped where it is selected, a first level is
no edge. -/
def Claim.DripsAndCaptures : Prop :=
  ∀ (s : State) (d : Fin 64) (v : Word) (k : Fin 16) (level : Bool),
    (s.bit (Fld.DRIP_CTRL_ARMED d.val) = false ∨ 2 ^ 39 ≤ ((s.time.lin.truncate 40 - (s.drip d.val).target : BitVec 40)).toNat →
      exec (.dripFire d) s = .next s) ∧
    (s.bit (Fld.DRIP_CTRL_ARMED d.val) = true → ((s.time.lin.truncate 40 - (s.drip d.val).target : BitVec 40)).toNat < 2 ^ 39 → ∃ t,
      exec (.dripFire d) s = .next t ∧ t.get (Fld.DRIP_CTRL_FIRED d.val) = 1 ∧ .drip d.val ∈ t.out ∧ t.time = s.time ∧
      ((s.drip d.val).late = true → t.get (Fld.DRIP_CTRL_LATE d.val) = 1) ∧
      ((s.drip d.val).period = 0 → t.get (Fld.DRIP_CTRL_ARMED d.val) = 0 ∧ (t.drip d.val).target = (s.drip d.val).target) ∧
      ((s.drip d.val).period ≠ 0 → t.get (Fld.DRIP_CTRL_ARMED d.val) = 1 ∧
        (t.drip d.val).target = (s.drip d.val).target + (s.drip d.val).period ∧ (t.drip d.val).period = (s.drip d.val).period)) ∧
    ((Fld.DRIP_CTRL_ARM d.val).on v = true → (Fld.DRIP_CTRL_DISARM d.val).on v = false →
      (s.bit (Fld.DRIP_CTRL_SURVEY d.val) = true → exec (.dripArm d v) s = .next (s.regStore (Reg.DRIP_CTRL d.val) v)) ∧
      (s.bit (Fld.DRIP_CTRL_SURVEY d.val) = false → s.dripPeriod d.val ≠ 0 → s.dripPeriod d.val < 1000 ∨ 2 ^ 39 ≤ s.dripPeriod d.val →
        exec (.dripArm d v) s = .next ((s.regStore (Reg.DRIP_CTRL d.val) v).putBit Fld.TIME_EVENT_DRIP_REFUSED true)) ∧
      (s.bit (Fld.DRIP_CTRL_SURVEY d.val) = false → s.dripPeriod d.val = 0 ∨ (1000 ≤ s.dripPeriod d.val ∧ s.dripPeriod d.val < 2 ^ 39) →
        2 ^ 39 ≤ ((s.time.lin.truncate 40 - BitVec.ofNat 40 (s.dripTarget d.val) : BitVec 40)).toNat → ∃ t, exec (.dripArm d v) s = .next t ∧
          t.get (Fld.DRIP_CTRL_ARMED d.val) = 1 ∧
          t.drip d.val = ⟨BitVec.ofNat 40 (s.dripTarget d.val), BitVec.ofNat 40 (s.dripPeriod d.val), false⟩)) ∧
    ((Fld.DRIP_CTRL_DISARM d.val).on v = true → (Fld.DRIP_CTRL_ARM d.val).on v = false → ∃ t, exec (.dripDisarm d v) s = .next t ∧
      regsOnly s t [Reg.DRIP_CTRL d.val] ∧ t.get (Fld.DRIP_CTRL_ARMED d.val) = 0) ∧
    ((s.cap k.val).level = none ∨ (s.cap k.val).level = some level ∨
        (if level then s.get (Fld.CAP_CFG_EDGE k.val) % 2 = 0 else s.get (Fld.CAP_CFG_EDGE k.val) < 2) →
      exec (.captureEdge k level) s = .next
        ((s.putBit (Fld.CAP_STAT_LEVEL k.val) level).setCap k.val { s.cap k.val with level := some level })) ∧
    ((s.cap k.val).level = some (!level) →
        (if level then s.get (Fld.CAP_CFG_EDGE k.val) % 2 = 1 else 2 ≤ s.get (Fld.CAP_CFG_EDGE k.val)) → ∃ t,
      exec (.captureEdge k level) s = .next t ∧ t.cap k.val = ⟨some level, s.capStamp k.val⟩ ∧
      t.getReg (Reg.CAP_TIME_LO k.val) = (s.capStamp k.val).truncate 32 ∧ t.get (Fld.CAP_STAT_VALID k.val) = 1 ∧
      t.get (Fld.CAP_STAT_RISING k.val) = level.toNat ∧ t.get (Fld.CAP_STAT_LEVEL k.val) = level.toNat ∧
      (s.bit (Fld.CAP_STAT_VALID k.val) = true → t.get (Fld.CAP_STAT_OVERRUN k.val) = 1))

/-- The time base, its steering, the drip units and captures: what the parts say, taken together. -/
def Obligations.TimeAndDrips : Prop := Claim.ClockCycleOnEmptyQueue ∧ Claim.TimeSteering ∧ Claim.DripsAndCaptures

/-! ### Security, updates, perturbation (R417 to R462) -/

/-- Lifecycle, provisioning, revocation, the decommissioning erase and the cover (R41, R418 to R422, R426): each command acts with its key and
under its conditions and is else refused; a lifecycle never goes back; its change resets the module. -/
def Obligations.LifecycleAndKeys : Prop :=
  ∀ (s : State) (v : Word) (ok : Bool),
    (∀ n, s.lifecycleAllowed n = true → s.get Fld.SEC_STATUS_LIFECYCLE < n ∧ n ≤ 3) ∧
    (Fld.SEC_LC_CMD_GO.on v = true → Fld.SEC_LC_CMD_KEY.ext v = 0x4C43 → s.lifecycleAllowed (Fld.SEC_LC_CMD_TARGET.ext v) = true →
      s.rst.inReset = false → ∃ t, exec (.lifecycleGo v) s = .next t ∧ t.sec.lifecycle = Fld.SEC_LC_CMD_TARGET.ext v ∧ t.mode = .load ∧
        t.rst.inReset = true ∧ t.rst.asserted.getLsbD 4 = true ∧ t.fls.queue = [] ∧
        (Fld.SEC_LC_CMD_TARGET.ext v = 3 → t.sec.erasePending = true)) ∧
    (Fld.SEC_LC_CMD_GO.on v = true → Fld.SEC_LC_CMD_KEY.ext v = 0x4C43 → s.lifecycleAllowed (Fld.SEC_LC_CMD_TARGET.ext v) = false → ∃ t,
      exec (.lifecycleGo v) s = .next t ∧ regsOnly s t [Reg.SEC_LC_CMD] ∧ t.get Fld.SEC_LC_CMD_REFUSED = 1) ∧
    (Fld.SEC_PROV_GO.on v = true → Fld.SEC_PROV_KEY.ext v = 0x5052 →
      (s.provisionAllowed (Fld.SEC_PROV_ITEM.ext v) = true → ∃ t, exec (.provisionGo v) s = .next t ∧
        t.sec = { s.sec with items := s.sec.items ++ [Fld.SEC_PROV_ITEM.ext v] } ∧ t.get Fld.SEC_PROV_DONE = 1 ∧
        t.get Fld.SEC_PROV_REFUSED = 0) ∧
      (s.provisionAllowed (Fld.SEC_PROV_ITEM.ext v) = false → ∃ t, exec (.provisionGo v) s = .next t ∧ regsOnly s t [Reg.SEC_PROV] ∧
        t.get Fld.SEC_PROV_REFUSED = 1 ∧ t.get Fld.SEC_PROV_DONE = 0)) ∧
    (Fld.SEC_REVOKE_GO.on v = true → Fld.SEC_REVOKE_KEY.ext v = 0x5256 →
      (s.revokeAllowed (Fld.SEC_REVOKE_TARGET.ext v) = true → ∃ t, exec (.revokeGo v) s = .next t ∧
        t.sec = { s.sec with revoked := s.sec.revoked ++ [Fld.SEC_REVOKE_TARGET.ext v] } ∧ t.get Fld.SEC_REVOKE_REFUSED = 0) ∧
      (s.revokeAllowed (Fld.SEC_REVOKE_TARGET.ext v) = false → ∃ t, exec (.revokeGo v) s = .next t ∧ regsOnly s t [Reg.SEC_REVOKE] ∧
        t.get Fld.SEC_REVOKE_REFUSED = 1)) ∧
    (s.sec.erasePending = false ∨ s.rst.inReset = true → exec (.decommissionEraseDone ok) s = .next s) ∧
    (s.sec.erasePending = true → s.rst.inReset = false → ∃ t, exec (.decommissionEraseDone ok) s = .next t ∧ t.mode = .recovery ∧
      t.inst.words = [] ∧ t.sram = [] ∧ t.pwr.retention = none ∧ t.upd.slot0 = FwSlot.erased ∧ t.upd.slot1 = FwSlot.erased ∧
      t.upd.staged = none ∧ t.sec.erasePending = !ok ∧ t.get Fld.SEC_STATUS_BLANK_VERIFIED = ok.toNat) ∧
    (s.core.cover = true → exec .coverOpen s = .next s) ∧
    (s.core.cover = false → ∃ t, exec .coverOpen s = .next t ∧ t.core.cover = true ∧ t.get Fld.SEC_STATUS_COVER_OPEN = 1 ∧ t.mode = s.mode) ∧
    (∃ t, exec .coverClose s = .next t ∧ t.core.cover = false ∧ t.get Fld.SEC_STATUS_COVER_OPEN = 0 ∧ t.get Fld.SEC_STATUS_DBG_LEVEL = 0 ∧
      t.sec.request = none ∧ t.mode = s.mode)

/-- The test access port and the debug levels (R426 to R433): off without the cover open and in HIBERNATE; a request is decided by the
lifecycle's rule, fails into the counter, and one at a time; a nonce serves one request; reset and idling end the session. -/
def Claim.TestAccessPort : Prop :=
  ∀ (s : State) (level : Fin 4) (v : AuthVerdict),
    (s.core.cover = false ∨ s.mode = .hibernate → ∀ c ∈ [Instr.idcode, .bypass, .secStat, .extest, .samplePreload, .authNonce,
      .authResp level v], exec c s = .next s) ∧
    (s.core.cover = true → s.mode ≠ .hibernate →
      exec .idcode s = .next (State.emit { s with sec := { s.sec with tapIr := 0x01 } } (.tap "IDCODE" (s.getReg Reg.IDENT_IDCODE).toNat)) ∧
      exec .bypass s = .next (State.emit { s with sec := { s.sec with tapIr := 0x3F } } (.tap "BYPASS" 0)) ∧
      exec .secStat s = .next (State.emit { s with sec := { s.sec with tapIr := 0x13 } } (.tap "SEC_STAT" (s.getReg Reg.SEC_STATUS).toNat)) ∧
      (s.boundaryGranted = false →
        exec .extest s = .next (State.emit { s with sec := { s.sec with tapIr := 0x00 } } (.tap "BYPASS" 0)) ∧
        exec .samplePreload s = .next (State.emit { s with sec := { s.sec with tapIr := 0x02 } } (.tap "BYPASS" 0))) ∧
      (s.boundaryGranted = true → ∃ n t, exec .extest s = .next (State.emit t (.tap "EXTEST" n)) ∧ t.regs = s.regs ∧ t.sec.tapIr = 0) ∧
      (s.boundaryGranted = true → ∃ n t, exec .samplePreload s = .next (State.emit t (.tap "SAMPLE/PRELOAD" n)) ∧ t.regs = s.regs ∧
        t.sec.tapIr = 2) ∧
      (∃ n t, exec .authNonce s = .next (State.emit t (.tap "AUTH_NONCE" n.toNat)) ∧ t.sec.nonce = some n ∧ t.regs = s.regs ∧
        (s.nonceValid = true → s.sec.nonce = some n)) ∧
      (s.bit Fld.SEC_STATUS_LOCKOUT = true ∨ s.sec.request.isSome = true →
        exec (.authResp level v) s = .next { s with sec := { s.sec with tapIr := 0x11 } }) ∧
      (s.bit Fld.SEC_STATUS_LOCKOUT = false → s.sec.request = none → exec (.authResp level v) s = .next { s with
        sec := { s.sec with tapIr := 0x11, nonce := none, request := some (level.val, if s.nonceValid then v else ⟨v.signed, false, false⟩) } })) ∧
    (s.sec.request = none → exec .authDecision s = .next s) ∧
    (s.sec.request = some (level.val, v) → s.core.cover = true → s.mode ≠ .hibernate → s.get Fld.SEC_STATUS_LIFECYCLE = 2 → ∃ t,
      exec .authDecision s = .next t ∧ t.sec.request = none ∧
      (level.val ≤ 1 → t.get Fld.SEC_STATUS_DBG_LEVEL = level.val) ∧
      (level.val = 2 → v.signed = true → v.fieldKey = true → t.get Fld.SEC_STATUS_DBG_LEVEL = 2 ∧ t.get Fld.SEC_STATUS_DBG_AUTH = 1) ∧
      (level.val = 2 → v.signed = false ∨ v.fieldKey = false → t.get Fld.SEC_STATUS_DBG_LEVEL = s.get Fld.SEC_STATUS_DBG_LEVEL ∧
        t.get Fld.SEC_AUTH_CNT_FAILS = min (s.get Fld.SEC_AUTH_CNT_FAILS + 1) (2 ^ Fld.SEC_AUTH_CNT_FAILS.width - 1)) ∧
      (level.val = 3 → t.get Fld.SEC_STATUS_DBG_LEVEL = s.get Fld.SEC_STATUS_DBG_LEVEL)) ∧
    (s.bit Fld.SEC_STATUS_LOCKOUT = false ∨ s.get Fld.SEC_AUTH_CNT_LOCKOUT_S ≠ 0 → exec .authLockoutEnd s = .next s) ∧
    (s.bit Fld.SEC_STATUS_LOCKOUT = true → s.get Fld.SEC_AUTH_CNT_LOCKOUT_S = 0 → ∃ t, exec .authLockoutEnd s = .next t ∧ t.get Fld.SEC_STATUS_LOCKOUT = 0 ∧ t.sec.failTimes = []) ∧
    (∃ t, exec .tapReset s = .next t ∧ t.get Fld.SEC_STATUS_DBG_LEVEL = 0 ∧ t.sec.request = none ∧ t.sec.tapIr = 1 ∧ t.mode = s.mode) ∧
    (∃ t, exec .debugIdleTimeout s = .next t ∧ t.get Fld.SEC_STATUS_DBG_LEVEL = 0 ∧ t.sec.request = none ∧ t.mode = s.mode)

/-- The engineering session (R434, R435): one at a time, a second attempt counts as refused; its end clears the peer; a failed handshake is
counted and opens none. -/
def Claim.EngineeringSession : Prop :=
  ∀ (s : State) (remote : Bool) (hash : Word) (alert : Nat),
    (s.bit Fld.SEC_STATUS_ENG_SESSION = true → exec .engConnectionAttempt s = .next (s.bump Fld.SEC_ENG_REFUSED) ∧
      exec (.engSessionOpen remote hash) s = .next (s.bump Fld.SEC_ENG_REFUSED)) ∧
    (s.bit Fld.SEC_STATUS_ENG_SESSION = false → exec .engConnectionAttempt s = .next s ∧ exec .engSessionClose s = .next s ∧
      exec .engSessionTimeout s = .next s ∧ ∃ t, exec (.engSessionOpen remote hash) s = .next t ∧ t.get Fld.SEC_STATUS_ENG_SESSION = 1 ∧
        t.getReg Reg.SEC_ENG_PEER = hash ∧ t.mode = s.mode) ∧
    (s.bit Fld.SEC_STATUS_ENG_SESSION = true → ∀ c ∈ [Instr.engSessionClose, .engSessionTimeout], ∃ t, exec c s = .next t ∧
      t.get Fld.SEC_STATUS_ENG_SESSION = 0 ∧ t.getReg Reg.SEC_ENG_PEER = 0 ∧ t.mode = s.mode) ∧
    (∃ t, exec (.tlsHandshakeFail alert) s = .next t ∧ t.get Fld.SEC_STATUS_ENG_SESSION = s.get Fld.SEC_STATUS_ENG_SESSION ∧
      t.get Fld.SEC_ENG_HANDSHAKE_FAILS = min (s.get Fld.SEC_ENG_HANDSHAKE_FAILS + 1) (2 ^ Fld.SEC_ENG_HANDSHAKE_FAILS.width - 1))

/-- The test access port and the engineering session: what the parts say, taken together. -/
def Obligations.TestAccess : Prop := Claim.TestAccessPort ∧ Claim.EngineeringSession

/-- Staging a capsule (R443, R444, R446, R469): BEGIN with its key where R444 allows, data appended, END begins the verification, a capsule
that fails a check is refused with its reason and staging is empty, one that passes is STAGED; a closed gate answers with an error. -/
def Claim.CapsuleStaging : Prop :=
  ∀ (s : State) (v : Word) (c : Capsule),
    (s.get (Fld.GATE_CTRL_STATE 48) ≠ 0 → ∀ i ∈ [Instr.updBegin v, .updWrite v, .updEnd v, .updDiscard v],
      exec i s = .next { s with bus := .error }) ∧
    (s.get (Fld.GATE_CTRL_STATE 48) = 0 → Fld.UPD_CMD_BEGIN.on v = true → Fld.UPD_CMD_WRITE.on v = true →
      exec (.updBegin v) s = .next (s.putBit Fld.UPD_CMD_REFUSED true)) ∧
    (s.get (Fld.GATE_CTRL_STATE 48) = 0 →
      (v = 0x55500000 ||| BitVec.twoPow 32 Fld.UPD_CMD_BEGIN.lo →
        (∀ r, s.beginRefusal false = some r → exec (.updBegin v) s = .next (s.updRefuse r)) ∧
        (s.beginRefusal false = none → ∃ t, exec (.updBegin v) s = .next t ∧ t.get Fld.UPD_STAT_STAGE = 1 ∧ t.upd.received = 0 ∧
          t.upd.staged = none ∧ t.get Fld.UPD_CMD_DONE = 1)) ∧
      (v = BitVec.twoPow 32 Fld.UPD_CMD_BEGIN.lo → exec (.updBegin v) s = .next s) ∧
      (v = BitVec.twoPow 32 Fld.UPD_CMD_WRITE.lo →
        (s.get Fld.UPD_STAT_STAGE ≠ 1 → exec (.updWrite v) s = .next s) ∧
        (s.get Fld.UPD_STAT_STAGE = 1 → 0x3FF0000 < s.upd.received + s.get Fld.UPD_XFER_LEN_LEN →
          exec (.updWrite v) s = .next (s.updRefuse 0xB)) ∧
        (s.get Fld.UPD_STAT_STAGE = 1 → s.upd.received + s.get Fld.UPD_XFER_LEN_LEN ≤ 0x3FF0000 →
          (∀ a ∈ updBursts (s.getReg Reg.UPD_XFER_ADDR).toNat (s.get Fld.UPD_XFER_LEN_LEN), s.ringPasses a = true) →
          exec (.updWrite v) s = .next (State.putAll { s with upd := { s.upd with received := s.upd.received + s.get Fld.UPD_XFER_LEN_LEN } }
            [(Fld.UPD_CMD_DONE, 1), (Fld.UPD_CMD_REFUSED, 0)]))) ∧
      (v = BitVec.twoPow 32 Fld.UPD_CMD_END.lo →
        (s.get Fld.UPD_STAT_STAGE ≠ 1 → exec (.updEnd v) s = .next s) ∧
        (s.get Fld.UPD_STAT_STAGE = 1 → exec (.updEnd v) s = .next (s.putAll
          [(Fld.UPD_STAT_STAGE, 2), (Fld.UPD_STAT_BUSY, 1), (Fld.UPD_CMD_DONE, 0), (Fld.UPD_CMD_REFUSED, 0)]))) ∧
      (v = BitVec.twoPow 32 Fld.UPD_CMD_DISCARD.lo → ∃ t, exec (.updDiscard v) s = .next t ∧ t.get Fld.UPD_STAT_STAGE = 0 ∧
        t.upd.staged = none ∧ t.upd.received = 0 ∧ t.get Fld.UPD_CMD_DONE = 1)) ∧
    (s.get Fld.UPD_STAT_STAGE ≠ 2 → exec (.capsuleVerified c) s = .next s) ∧
    (s.get Fld.UPD_STAT_STAGE = 2 → ∃ t, exec (.capsuleVerified c) s = .next t ∧ t.mode = s.mode ∧
      (s.capsuleCheck c false ≠ 0 → t.upd.staged = none ∧ t.get Fld.UPD_STAT_STAGE = 0 ∧ t.get Fld.UPD_REASON_CODE = s.capsuleCheck c false ∧
        t.upd.slot0 = s.upd.slot0 ∧ t.upd.slot1 = s.upd.slot1) ∧
      (s.capsuleCheck c false = 0 → s.upd.loader = false → t.upd.staged = some c ∧ t.get Fld.UPD_STAT_STAGE = 3 ∧
        t.get Fld.UPD_STAT_STAGED_COMP = c.component % 8 ∧ t.upd.slot0 = s.upd.slot0 ∧ t.upd.slot1 = s.upd.slot1))

/-- A slot's health (R425, R440, R447 to R449): CONFIRM with its key makes the running TENTATIVE slot CONFIRMED and no security counter falls;
an unconfirmed window retires it and owes a reset, which an agreed change delays; the recovery ROM writes a FULL capsule and resets. -/
def Claim.FirmwareHealth : Prop :=
  ∀ (s : State) (v : Word) (c : Capsule) (x : Nat), x = s.get Fld.UPD_STAT_RUN_SLOT → x < 2 →
    (s.get (Fld.GATE_CTRL_STATE 48) ≠ 0 → exec (.healthConfirm v) s = .next { s with bus := .error }) ∧
    (s.get (Fld.GATE_CTRL_STATE 48) = 0 → Fld.UPD_HEALTH_CONFIRM.on v = false ∨ Fld.UPD_HEALTH_KEY.ext v ≠ 0x4F4B ∨
      s.bit Fld.UPD_STAT_TENTATIVE = false → exec (.healthConfirm v) s = .next s) ∧
    (s.get (Fld.GATE_CTRL_STATE 48) = 0 → Fld.UPD_HEALTH_CONFIRM.on v = true → Fld.UPD_HEALTH_KEY.ext v = 0x4F4B →
      s.bit Fld.UPD_STAT_TENTATIVE = true → s.mode = .run ∨ s.mode = .hold ∨ s.mode = .service → s.upd.fallback = none → ∃ t,
      exec (.healthConfirm v) s = .next t ∧ (t.fwSlotAt x).state = 0x1F ∧ t.get Fld.UPD_STAT_TENTATIVE = 0 ∧
      t.get Fld.UPD_HEALTH_OPEN = 0 ∧ ∀ k, s.secCounter k ≤ t.secCounter k) ∧
    (s.bit Fld.UPD_HEALTH_OPEN = false ∨ s.get Fld.UPD_HEALTH_REMAIN_S ≠ 0 → exec .healthWindowExpiry s = .next s) ∧
    (s.bit Fld.UPD_HEALTH_OPEN = true → s.get Fld.UPD_HEALTH_REMAIN_S = 0 → ∃ t, exec .healthWindowExpiry s = .next t ∧ (t.fwSlotAt x).state = 0x0F ∧ t.upd.fallback = some x ∧
      t.get Fld.UPD_HEALTH_OPEN = 0 ∧ t.mode = s.mode) ∧
    (s.upd.fallback = none ∨ s.get Fld.OLC_STAT_STATE = 6 ∨ s.get Fld.OLC_STAT_STATE = 7 ∨ s.bit Fld.UPD_STAT_ISL_BUSY = true →
      exec .fallbackReset s = .next s) ∧
    (s.upd.fallback ≠ none → s.get Fld.OLC_STAT_STATE < 6 → s.bit Fld.UPD_STAT_ISL_BUSY = false → s.rst.inReset = false → ∃ t,
      exec .fallbackReset s = .next t ∧ episodeBegins s t 4) ∧
    (s.mode ≠ .recovery ∨ c.component ≠ 0 → exec (.recoveryTftpWrite c) s = .next s) ∧
    (s.mode = .recovery → c.component = 0 → s.capsuleCheck c true = 0 → s.upd.slot0.intact = false → s.rst.inReset = false → ∃ t,
      exec (.recoveryTftpWrite c) s = .next t ∧ t.upd.slot0.state = 0x3F ∧ t.upd.slot0.attempts = 0xFF ∧ t.upd.slot0.buildId = c.buildId ∧
      t.upd.slot1 = s.upd.slot1 ∧ t.rst.inReset = true ∧ t.mode = .load)

/-- Capsule staging, acceptance and the health of firmware slots: what the parts say, taken together. -/
def Obligations.UpdatesAndFirmware : Prop := Claim.CapsuleStaging ∧ Claim.FirmwareHealth

/-- Test perturbation (R456 to R460): a start is refused with the first reason that applies, else its kinds wait for their records; a kind takes
effect once its record is written; a stop and the end of DURATION_S leave its kinds neither active nor waiting. -/
def Obligations.Perturbation : Prop :=
  ∀ (s : State) (v : Word) (k : Fin 6),
    (s.get (Fld.GATE_CTRL_STATE 49) ≠ 0 → exec (.tpStart v) s = .next { s with bus := .error } ∧ exec (.tpStop v) s = .next { s with bus := .error }) ∧
    (s.get (Fld.GATE_CTRL_STATE 49) = 0 → Fld.TP_CMD_KEY.ext v ≠ 0x5450 → exec (.tpStart v) s = .next s ∧ exec (.tpStop v) s = .next s) ∧
    (s.get (Fld.GATE_CTRL_STATE 49) = 0 → Fld.TP_CMD_KEY.ext v = 0x5450 → Fld.TP_CMD_START.on v = true → Fld.TP_CMD_STOP.on v = false →
      (s.tpAllowed = false → exec (.tpStart v) s = .next (s.tpRefuse 1 v)) ∧
      (s.tpAllowed = true → (∃ j ∈ tpKinds v, s.tpActive j = true ∨ j ∈ s.tp.waiting) → exec (.tpStart v) s = .next (s.tpRefuse 2 v)) ∧
      (s.tpAllowed = true → (∀ j ∈ tpKinds v, s.tpActive j = false ∧ j ∉ s.tp.waiting) → (∃ j ∈ tpKinds v, s.tpConfigOk j = false) →
        exec (.tpStart v) s = .next (s.tpRefuse 3 v)) ∧
      (s.tpAllowed = true → (∀ j ∈ tpKinds v, s.tpActive j = false ∧ j ∉ s.tp.waiting ∧ s.tpConfigOk j = true) →
        (s.tpRecords (tpKinds v)).2 = false → ∃ t, exec (.tpStart v) s = .next t ∧ t.tp.waiting = s.tp.waiting ++ tpKinds v ∧
          t.get Fld.TP_STAT_ACTIVE = s.get Fld.TP_STAT_ACTIVE ∧
          t.get Fld.TP_CNT_STARTS = min (s.get Fld.TP_CNT_STARTS + 1) (2 ^ Fld.TP_CNT_STARTS.width - 1))) ∧
    (s.get (Fld.GATE_CTRL_STATE 49) = 0 → Fld.TP_CMD_KEY.ext v = 0x5450 → Fld.TP_CMD_STOP.on v = true → Fld.TP_CMD_START.on v = false → ∃ t,
      exec (.tpStop v) s = .next t ∧ ∀ j ∈ tpKinds v, t.tpActive j = false ∧ j ∉ t.tp.waiting) ∧
    (k.val ∉ s.tp.waiting ∨ s.tpRecordQueued k.val = true → exec (.tpKindEffect k) s = .next s) ∧
    (k.val ∈ s.tp.waiting → s.tpRecordQueued k.val = false → s.get (Fld.SUMP_SRC_SEVERITY Src.TP_ACTIVE) ≠ 7 → ∃ t,
      exec (.tpKindEffect k) s = .next t ∧ t.tpActive k.val = true ∧ k.val ∉ t.tp.waiting ∧
      (k.val = 5 → t.get Fld.PWR_STAT_RATIO_FORCED = s.get Fld.TP_SQZ_RATIO)) ∧
    (s.tp.starts = [] → exec .tpDurationExpiry s = .next s) ∧
    (∀ l ls, s.tp.starts = l :: ls → ∃ t, exec .tpDurationExpiry s = .next t ∧ ∀ j ∈ l, t.tpActive j = false ∧ j ∉ t.tp.waiting)

/-! ### Islands, channels, calibration (R247 to R290, R450, R451) -/

/-- The isolation link (R248 to R257). A frame of the period starts while the link is open, and stands on the wire once it has ended, as its 92
bytes with their CRC-32; the island applies the image of a valid frame, awaits ten valid frames after silence, takes its samples and acts on the
trigger words that a valid frame brought it, once each. -/
def Claim.IslandFrames : Prop :=
  ∀ (s : State) (i : Fin 16) (j : Fin 8) (channels faults : BitVec 8) (currents : List Word) (samples : BitVec 80)
    (readbacks : BitVec 8) (f : DownFrame) (noise : List Byte),
    (s.linkOpen i.val = true → s.tpActive 2 = false → exec (.islDownstreamFrame i) s = .next
      (State.setIsland { s with freeCtr := s.freeCtr + 5 } i.val { s.island i.val with frame := some (s.downFrame i.val s.serviceStream.1),
                                                                                        frameAt := s.periodStart, spoiled := false })) ∧
    (downBytes (s.downFrame i.val s.serviceStream.1)).length = 92 ∧
    (s.linkOpen i.val = false → exec (.islDownstreamFrame i) s = .next (s.setIsland i.val { s.island i.val with frame := none })) ∧
    (∃ t, exec (.islFrameEnd i noise samples readbacks) s = .next t ∧ (t.island i.val).frame = none ∧
      ((s.island i.val).frame = some f → (s.island i.val).spoiled = false → t.out = s.out ++ [.island i.val (downBytes f)]) ∧
      ((s.island i.val).frame = some f → frameArrives noise (downBytes f) = true → (s.island i.val).spoiled = false →
        (t.island i.val).trigs = f.triggers ∧ (t.island i.val).run = f.run ∧
        ((s.island i.val).silent = false → (s.island i.val).restarting = false → (s.kind2 i.val).getLsbD j.val = false →
          (t.chan (8 * i.val + j.val)).out = f.out.getD j.val 0) ∧
        ((s.island i.val).silent = true → (s.island i.val).restarting = false → (s.island i.val).goodRun < 10 →
          (t.island i.val).silent = true ∧ (t.island i.val).goodRun = (s.island i.val).goodRun + 1)) ∧
      ((s.island i.val).frame = none ∨ frameArrives noise (downBytes f) = false ∧ (s.island i.val).frame = some f →
        (t.island i.val).goodRun = 0 ∧ (t.island i.val).trigs = []) ∧
      (s.chMode (8 * i.val + j.val) = chDI → s.modeFromSurvey (8 * i.val + j.val) = chDI →
        t.get (Fld.ISL_CH_STAT_RAW (8 * i.val + j.val)) = (samples.getLsbD (72 + j.val)).toNat)) ∧
    (s.heldTrigger i.val 2 channels = none → exec (.islOutputApply i channels) s = .next s) ∧
    (∀ w, s.heldTrigger i.val 2 channels = some w → ∃ t, exec (.islOutputApply i channels) s = .next t ∧
      (t.island i.val).trigs = (s.island i.val).trigs.erase w ∧
      ((s.island i.val).silent = false → channels.getLsbD j.val = true →
        (t.chan (8 * i.val + j.val)).out = (s.chan (8 * i.val + j.val)).heldOut) ∧
      ((s.island i.val).silent = true → (t.chan (8 * i.val + j.val)) = s.chan (8 * i.val + j.val))) ∧
    (s.surveyLatches i.val channels = false → exec (.islInputLatch i ⟨channels, faults, currents⟩) s = .next s) ∧
    (s.surveyLatches i.val channels = true → frameOver (s.island i.val).awaitedAt s.nowNs = false → ∃ t,
      exec (.islInputLatch i ⟨channels, faults, currents⟩) s = .next t ∧
      (∀ w, s.heldTrigger i.val 0 channels = some w → (s.island i.val).restarting = false →
        (t.island i.val).latch.seq = (s.island i.val).latch.seq + 1 ∧ (t.island i.val).latch.takenAt = s.nowNs) ∧
      (s.heldTrigger i.val 0 channels = none ∨ (s.island i.val).restarting = true → (t.island i.val).latch = (s.island i.val).latch) ∧
      ((s.island i.val).lost = false → (t.island i.val).awaited.getLsbD j.val = ((s.island i.val).awaited.getLsbD j.val ||
        (channels.getLsbD j.val && (s.inputSignal (8 * i.val + j.val)).isSome))) ∧
      ((s.island i.val).lost = true → channels.getLsbD j.val = true → s.leadHas (8 * i.val + j.val) = false →
        ∀ d, s.inputSignal (8 * i.val + j.val) = some d →
        t.port18 (8 * i.val + j.val) = slotBad d.safeValue (slotAged (s.port18 (8 * i.val + j.val))) Tag.BAD_CHANNEL_FAULT))

/-- The upstream frame, loss, silence and restarts of an island (R248, R249, R251, R256, R257): ten valid frames bring the link up, a discarded
one starts the count again; a link lost is shown; silence and the watchdog put the island in safe states, which a restart does not end. -/
def Claim.IslandUpstream : Prop :=
  ∀ (s : State) (i : Fin 16) (j : Fin 8) (noise : List Byte) (volts : BitVec 16),
    (s.linkOpen i.val = false ∨ (s.island i.val).restarting = true → s.inPair = false →
      exec (.islUpstreamFrame i ⟨noise, volts, none⟩) s = .next s) ∧
    (s.linkOpen i.val = true → (s.island i.val).restarting = false → s.tpActive 2 = false → s.inPair = false →
      frameArrives noise (upBytes (s.upFrame i.val volts s.serviceStream.1)) = true →
      ∃ t, exec (.islUpstreamFrame i ⟨noise, volts, none⟩) s = .next t ∧ t.get (Fld.ISL_STAT_CTRL_OK i.val) = 1 ∧
        t.get (Fld.ISL_STAT_SUPPLY i.val) = (s.island i.val).supply % 4 ∧
        (s.bit (Fld.ISL_STAT_LINK_UP i.val) = false → (t.get (Fld.ISL_STAT_LINK_UP i.val) = 1 ↔ 9 ≤ (s.island i.val).upGood))) ∧
    (s.linkOpen i.val = true → (s.island i.val).restarting = false → s.tpActive 2 = false → s.inPair = false →
      frameArrives noise (upBytes (s.upFrame i.val volts s.serviceStream.1)) = false →
      ∃ t, exec (.islUpstreamFrame i ⟨noise, volts, none⟩) s = .next t ∧ (t.island i.val).upGood = 0 ∧
        t.get (Fld.ISL_STAT_LINK_UP i.val) = s.get (Fld.ISL_STAT_LINK_UP i.val) ∧
        t.get (Fld.ISL_STAT_CTRL_OK i.val) = s.get (Fld.ISL_STAT_CTRL_OK i.val)) ∧
    ((s.island i.val).lost = true → exec (.islLinkLost i) s = .next s) ∧
    ((s.island i.val).lost = false → ∃ t, exec (.islLinkLost i) s = .next t ∧ (t.island i.val).lost = true ∧
      t.get (Fld.ISL_STAT_LINK_UP i.val) = 0 ∧ t.get (Fld.ISL_EVENT_LINK_LOST i.val) = 1) ∧
    (∃ t, exec (.islLinkSilence i) s = .next t ∧ (t.island i.val).silent = true ∧ t.get (Fld.ISL_EVENT_SILENCE i.val) = 1 ∧
      (s.chMode (8 * i.val + j.val) = chDO → s.get (Fld.ISL_CH_CFG_SAFE (8 * i.val + j.val)) = 0 →
        t.get (Fld.ISL_CH_STAT_DRIVER (8 * i.val + j.val)) = 0)) ∧
    (∃ t, exec (.islWatchdogExpiry i) s = .next t ∧ (t.island i.val).silent = true ∧ (t.island i.val).restarting = true ∧
      t.get (Fld.ISL_STAT_CTRL_OK i.val) = 0) ∧
    ((s.island i.val).restarting = false → exec (.islCtrlRestart i) s = .next s) ∧
    ((s.island i.val).restarting = true → ∃ t, exec (.islCtrlRestart i) s = .next t ∧ (t.island i.val).restarting = false ∧
      (t.island i.val).silent = true ∧ (t.island i.val).goodRun = 0 ∧
      t.get (Fld.ISL_STAT_CTRL_OK i.val) = 1 ∧ t.get (Fld.ISL_EVENT_CTRL_RESTART i.val) = 1)

/-- The field supply (R272, R273): its states follow one another, a lockout switches every digital output of the island off, and after it an
output with RESTART ACK awaits acknowledgement. -/
def Claim.FieldSupply : Prop :=
  ∀ (s : State) (i : Fin 16) (j : Fin 8) (v : Nat),
    ((s.island i.val).supply ≠ 0 → exec (.supplyWarn i v) s = .next s) ∧
    ((s.island i.val).supply = 0 → ∃ t, exec (.supplyWarn i v) s = .next t ∧ (t.island i.val).supply = 1 ∧ t.get (Fld.ISL_STAT_SUPPLY i.val) = 1 ∧
      t.get (Fld.ISL_EVENT_WARN i.val) = 1) ∧
    ((s.island i.val).supply ≠ 1 → exec (.supplyWarnEnd i v) s = .next s) ∧
    ((s.island i.val).supply = 1 → ∃ t, exec (.supplyWarnEnd i v) s = .next t ∧ (t.island i.val).supply = 0 ∧ t.get (Fld.ISL_STAT_SUPPLY i.val) = 0) ∧
    (2 ≤ (s.island i.val).supply → exec (.supplyLockout i v) s = .next s) ∧
    ((s.island i.val).supply < 2 → ∃ t, exec (.supplyLockout i v) s = .next t ∧ (t.island i.val).supply = 2 ∧
      t.get (Fld.ISL_STAT_SUPPLY i.val) = 2 ∧ t.get (Fld.ISL_EVENT_LOCKOUT i.val) = 1 ∧
      (s.chMode (8 * i.val + j.val) = chDO → t.get (Fld.ISL_CH_STAT_DRIVER (8 * i.val + j.val)) = 0 ∧ (t.chan (8 * i.val + j.val)).off = 0)) ∧
    ((s.island i.val).supply = 2 → exec (.supplyRecovering i v) s = .next (State.putAll
      (s.setIsland i.val { s.island i.val with supply := 3 }) [(Fld.ISL_STAT_SUPPLY i.val, 3), (Fld.ISL_STAT_SUPPLY_V i.val, v)])) ∧
    ((s.island i.val).supply ≠ 2 → exec (.supplyRecovering i v) s = .next s) ∧
    ((s.island i.val).supply ≠ 3 → exec (.supplyRecoverFall i v) s = .next s ∧ exec (.supplyRecovered i v) s = .next s) ∧
    ((s.island i.val).supply = 3 → (∃ t, exec (.supplyRecoverFall i v) s = .next t ∧ (t.island i.val).supply = 2) ∧
      ∃ t, exec (.supplyRecovered i v) s = .next t ∧ (t.island i.val).supply = (if v < 1920 then 1 else 0) ∧
        (s.isOutput (8 * i.val + j.val) = true → s.bit (Fld.ISL_CH_CFG_RESTART (8 * i.val + j.val)) = true →
          t.get (Fld.ISL_CH_STAT_AWAIT_ACK (8 * i.val + j.val)) = 1))

/-- Faults of digital outputs (R267 to R270): a short or a shed switches the driver off until the retry; a retry that runs ends the fault; open
load and external drive are seen where their rules allow; an event without its condition does nothing. -/
def Claim.DigitalOutputFaults : Prop :=
  ∀ (s : State) (n : Fin 128) (i : Fin 16),
    (s.chMode n.val ≠ chDO ∨ s.bit (Fld.ISL_CH_STAT_DRIVER n.val) = false →
      exec (.doCurrentLimit n) s = .next s ∧ exec (.doShortTrip n) s = .next s) ∧
    (s.chMode n.val = chDO → s.bit (Fld.ISL_CH_STAT_DRIVER n.val) = true →
      ((s.chan n.val).short = false → (s.chan n.val).shed = false →
        exec (.doCurrentLimit n) s = .next (s.putBit (Fld.ISL_CH_STAT_LIMIT n.val) true)) ∧
      ((s.chan n.val).short = true ∨ (s.chan n.val).shed = true → ∃ t, exec (.doCurrentLimit n) s = .next t ∧ (t.chan n.val).off = 1 ∧
        t.get (Fld.ISL_CH_STAT_DRIVER n.val) = 0) ∧
      (s.bit (Fld.ISL_CH_STAT_LIMIT n.val) = true → ∃ t, exec (.doShortTrip n) s = .next t ∧ (t.chan n.val).off = 1 ∧
        (t.chan n.val).short = true ∧ t.get (Fld.ISL_CH_STAT_DRIVER n.val) = 0 ∧ t.get (Fld.ISL_CH_STAT_LIMIT n.val) = 0)) ∧
    ((s.chan n.val).off = 0 ∨ s.get (Fld.ISL_CH_CFG_RETRY n.val) = 0 → exec (.doRetry n) s = .next s) ∧
    ((s.chan n.val).off ≠ 0 → s.get (Fld.ISL_CH_CFG_RETRY n.val) ≠ 0 → ∃ t, exec (.doRetry n) s = .next t ∧ (t.chan n.val).off = 0 ∧
      (t.chan n.val).short = (s.chan n.val).short) ∧
    ((s.chan n.val).off ≠ 0 → exec (.doRetryGood n) s = .next s) ∧
    ((s.chan n.val).off = 0 → s.bit (Fld.ISL_CH_STAT_DRIVER n.val) = true → ∃ t, exec (.doRetryGood n) s = .next t ∧
      (t.chan n.val).short = false ∧ (t.chan n.val).shed = false) ∧
    ((∀ j, j < 8 → s.chMode (8 * i.val + j) ≠ chDO ∨ s.bit (Fld.ISL_CH_STAT_DRIVER (8 * i.val + j)) = false) →
      exec (.groupShed i) s = .next s) ∧
    (∀ j, j < 8 → s.chMode (8 * i.val + j) = chDO → s.bit (Fld.ISL_CH_STAT_DRIVER (8 * i.val + j)) = true →
      (∀ k, j < k → k < 8 → s.chMode (8 * i.val + k) ≠ chDO ∨ s.bit (Fld.ISL_CH_STAT_DRIVER (8 * i.val + k)) = false) →
      ∃ t, exec (.groupShed i) s = .next t ∧ (t.chan (8 * i.val + j)).off = 2 ∧ t.get (Fld.ISL_CH_STAT_DRIVER (8 * i.val + j)) = 0 ∧
        t.get (Fld.ISL_EVENT_GROUP_SHED i.val) = 1 ∧ t.get (Fld.ISL_STAT_GROUP_SHED i.val) = 1) ∧
    (s.chMode n.val = chDO → s.bit (Fld.ISL_CH_CFG_OPEN_DET n.val) = true → s.duplex n.val = false → ∃ t,
      exec (.openLoadDetect n) s = .next t ∧ (t.chan n.val).openLoad = true) ∧
    (s.chMode n.val ≠ chDO ∨ s.bit (Fld.ISL_CH_CFG_OPEN_DET n.val) = false ∨ s.duplex n.val = true → exec (.openLoadDetect n) s = .next s) ∧
    (∃ t, exec (.openLoadClear n) s = .next t ∧ (t.chan n.val).openLoad = false) ∧
    (s.chMode n.val = chDO → s.bit (Fld.ISL_CH_STAT_DRIVER n.val) = false → (s.chan n.val).extDrive = false →
      (s.driveMasked n.val = true → exec (.externalDriveDetect n) s = .next (s.putBit (Fld.ISL_CH_STAT_MASKED n.val) true)) ∧
      (s.driveMasked n.val = false → s.doDrives n.val = false → ∃ t, exec (.externalDriveDetect n) s = .next t ∧ (t.chan n.val).extDrive = true)) ∧
    (s.chMode n.val ≠ chDO ∨ s.bit (Fld.ISL_CH_STAT_DRIVER n.val) = true ∨ (s.chan n.val).extDrive = true →
      exec (.externalDriveDetect n) s = .next s) ∧
    (∃ t, exec (.externalDriveClear n) s = .next t ∧ (t.chan n.val).extDrive = false)

/-- The field supply's states and the faults of digital outputs: what the parts say, taken together. -/
def Obligations.DigitalOutputs : Prop := Claim.FieldSupply ∧ Claim.DigitalOutputFaults

/-- Analogue channels (R275 to R284): the limiter and its foldback, conversions and overlaps, readings trimmed and saturated, the supervision of
outputs, the step from sharing to full current. -/
def Obligations.AnalogueChannels : Prop :=
  ∀ (s : State) (n : Fin 128) (i : Fin 16) (j : Fin 8) (channels : BitVec 8) (r : Word) (obs : AoObservation),
    (s.chMode n.val = chAI → s.duplex n.val = false → s.get (Fld.ISL_AN_STAT_LIMITER n.val) = 0 →
      exec (.limiterLimit n) s = .next (s.put (Fld.ISL_AN_STAT_LIMITER n.val) 1)) ∧
    (s.chMode n.val ≠ chAI ∨ s.duplex n.val = true ∨ s.get (Fld.ISL_AN_STAT_LIMITER n.val) ≠ 0 → exec (.limiterLimit n) s = .next s) ∧
    (s.get (Fld.ISL_AN_STAT_LIMITER n.val) ≠ 1 → exec (.aiFoldback n) s = .next s) ∧
    (s.get (Fld.ISL_AN_STAT_LIMITER n.val) = 1 → ∃ t, exec (.aiFoldback n) s = .next t ∧ t.get (Fld.ISL_AN_STAT_LIMITER n.val) = 2) ∧
    (s.get (Fld.ISL_AN_STAT_LIMITER n.val) ≠ 2 → exec (.limiterRelease n) s = .next s) ∧
    (s.get (Fld.ISL_AN_STAT_LIMITER n.val) = 2 → ∃ t, exec (.limiterRelease n) s = .next t ∧ t.get (Fld.ISL_AN_STAT_LIMITER n.val) = 0) ∧
    (s.heldTrigger i.val 1 channels = none → exec (.aiConversionStart i channels) s = .next s) ∧
    (∀ w, s.heldTrigger i.val 1 channels = some w → ∃ t, exec (.aiConversionStart i channels) s = .next t ∧
      (t.island i.val).trigs = (s.island i.val).trigs.erase w ∧
      (channels.getLsbD j.val = true → s.chMode (8 * i.val + j.val) = chAI → t.get (Fld.ISL_AN_STAT_CONV_BUSY (8 * i.val + j.val)) = 1 ∧
        (s.bit (Fld.ISL_AN_STAT_CONV_BUSY (8 * i.val + j.val)) = true → t.get (Fld.ISL_AN_STAT_OVERLAPS (8 * i.val + j.val)) =
          min (s.get (Fld.ISL_AN_STAT_OVERLAPS (8 * i.val + j.val)) + 1) (2 ^ (Fld.ISL_AN_STAT_OVERLAPS (8 * i.val + j.val)).width - 1))) ∧
      (channels.getLsbD j.val = false ∨ s.chMode (8 * i.val + j.val) ≠ chAI →
        t.getReg (Reg.ISL_AN_STAT (8 * i.val + j.val)) = s.getReg (Reg.ISL_AN_STAT (8 * i.val + j.val)))) ∧
    (s.chMode n.val = chAI → s.triggered n.val = false → s.convPast n.val 5 = true → ∃ t, exec (.aiContinuousStart n) s = .next t ∧
      t.get (Fld.ISL_AN_STAT_CONV_BUSY n.val) = 1 ∧
      (t.chan n.val).conv = some (s.time.lin.toNat, convWindow (s.get (Fld.ISL_AN_CFG_RATE n.val)))) ∧
    (s.chMode n.val ≠ chAI ∨ s.triggered n.val = true → exec (.aiContinuousStart n) s = .next s) ∧
    (∀ a w, (s.chan n.val).conv = some (a, w) → s.time.lin.toNat < a + (w + 1) * 1000 → exec (.aiConversionDone n r) s = .next s) ∧
    (∀ a w, (s.chan n.val).conv = some (a, w) → s.time.lin.toNat < a + (w + 5) * 1000 → exec (.aiContinuousStart n) s = .next s) ∧
    ([0, 1, 2, 3, 4, 5, 6, 7].map convWindow = [120, 245, 495, 995, 4000, 20000, 60000, 995]) ∧
    (s.chMode n.val = chAI → s.bit (Fld.ISL_AN_STAT_CONV_BUSY n.val) = true → s.convPast n.val 1 = true → ∃ t, exec (.aiConversionDone n r) s = .next t ∧
      t.getReg (Reg.ISL_AN_VALUE n.val) = s.aiReading n.val r ∧ t.get (Fld.ISL_AN_STAT_CONV_BUSY n.val) = 0 ∧ (t.chan n.val).fresh = true) ∧
    (s.chMode n.val ≠ chAI ∨ s.bit (Fld.ISL_AN_STAT_CONV_BUSY n.val) = false → exec (.aiConversionDone n r) s = .next s) ∧
    (s.chMode n.val ≠ chAO → exec (.aoSupervision n obs) s = .next s ∧ exec (.aoStepUp n) s = .next s) ∧
    (s.chMode n.val = chAO → ∃ t, exec (.aoSupervision n obs) s = .next t ∧ (t.chan n.val).ao = aoStatus (aoCommand (s.chan n.val).out) obs ∧
      t.get (Fld.ISL_AN_STAT_AT_LIMIT n.val) = obs.atLimit.toNat ∧
      (obs.atLimit = true → obs.terminalHigh = true → (t.chan n.val).ao = Tag.BAD_EXTERNAL_DRIVE) ∧
      (obs.atLimit = true → obs.terminalHigh = false → f32Le 0x3F800000 (aoCommand (s.chan n.val).out) = true →
        f32Lt obs.measured 0x3DCCCCCD = true → (t.chan n.val).ao = Tag.BAD_WIRE) ∧
      (obs.atLimit = false → (t.chan n.val).ao = Tag.GOOD)) ∧
    (s.chMode n.val = chAO → s.duplex n.val = true → s.bit (Fld.ISL_AN_STAT_STEP_UP n.val) = false → f32Eq (s.aoCurrent n.val) 0 = false →
      s.bit (Fld.ISL_AN_STAT_CAL_DRIVE n.val) = false → ∃ t, exec (.aoStepUp n) s = .next t ∧ t.get (Fld.ISL_AN_STAT_STEP_UP n.val) = 1) ∧
    (s.bit (Fld.ISL_AN_STAT_STEP_UP n.val) = false → exec (.aoStepDown n) s = .next s) ∧
    (s.bit (Fld.ISL_AN_STAT_STEP_UP n.val) = true → ∃ t, exec (.aoStepDown n) s = .next t ∧ t.get (Fld.ISL_AN_STAT_STEP_UP n.val) = 0)

/-- Calibration and channel configuration (R259, R286 to R290, R469): each command's result code, the drive that ends, trims and words that wait
for their cycle E and then stand in their registers, and the store write that puts them into both copies of the user block. -/
def Obligations.CalibrationAndConfiguration : Prop :=
  ∀ (s : State) (v : Word) (n : Fin 128) (up an : Bool) (e zero span low : Word),
    (Fld.ISL_CAL_CMD_DRIVE_ON.on v = true → Fld.ISL_CAL_CMD_TAKE.on v = true → ∀ c ∈ [Instr.driveOn v, .driveOff v, .calTake v, .calDefault v],
      exec c s = .next s) ∧
    (v.toNat % 16 = 2 ^ Fld.ISL_CAL_CMD_DRIVE_ON.lo →
      (s.mode ≠ .service ∨ s.chMode s.calChannel ≠ chAO → exec (.driveOn v) s = .next (s.calResult 1)) ∧
      (s.mode = .service → s.chMode s.calChannel = chAO → s.bit Fld.ISL_CAL_STAT_BUSY = true → exec (.driveOn v) s = .next (s.calResult 2)) ∧
      (s.mode = .service → s.chMode s.calChannel = chAO → s.bit Fld.ISL_CAL_STAT_BUSY = false → s.duplex s.calChannel = true → s.ll ≠ .down →
        exec (.driveOn v) s = .next (s.calResult 6)) ∧
      (s.mode = .service → s.chMode s.calChannel = chAO → s.bit Fld.ISL_CAL_STAT_BUSY = false → s.duplex s.calChannel = false →
        refInRange (s.bit Fld.ISL_CAL_SEL_POINT) (s.getReg Reg.ISL_CAL_REF) = true → ∃ t, exec (.driveOn v) s = .next t ∧
          t.get (Fld.ISL_AN_STAT_CAL_DRIVE s.calChannel) = 1 ∧ (t.chan s.calChannel).calRef = some (s.getReg Reg.ISL_CAL_REF) ∧
          t.get Fld.ISL_CAL_STAT_RESULT = 0 ∧ t.get Fld.ISL_CAL_STAT_DONE = 1)) ∧
    (v.toNat % 16 = 2 ^ Fld.ISL_CAL_CMD_DRIVE_OFF.lo → ∃ t, exec (.driveOff v) s = .next t ∧
      t.get (Fld.ISL_AN_STAT_CAL_DRIVE s.calChannel) = 0 ∧ t.get Fld.ISL_CAL_STAT_RESULT = 0) ∧
    (∃ t, exec (.calDriveTimeout n) s = .next t ∧ t.get (Fld.ISL_AN_STAT_CAL_DRIVE n.val) = 0 ∧ t.mode = s.mode) ∧
    (v.toNat % 16 = 2 ^ Fld.ISL_CAL_CMD_TAKE.lo →
      (s.mode ≠ .service → exec (.calTake v) s = .next (s.calResult 1)) ∧
      (s.calRefusal s.calChannel (s.bit Fld.ISL_CAL_SEL_POINT) (s.getReg Reg.ISL_CAL_REF) = 0 → s.chMode s.calChannel = chAI → ∃ t,
        exec (.calTake v) s = .next t ∧ t.get Fld.ISL_CAL_STAT_BUSY = 1 ∧
        t.cal.averaging = some ⟨s.calChannel, s.bit Fld.ISL_CAL_SEL_POINT, s.getReg Reg.ISL_CAL_REF, 0, 0, 0, 0, false⟩)) ∧
    (v.toNat % 16 = 2 ^ Fld.ISL_CAL_CMD_DEFAULT.lo →
      (s.mode ≠ .service → exec (.calDefault v) s = .next (s.calResult 1)) ∧
      (s.mode = .service → s.bit Fld.ISL_CAL_STAT_BUSY = false → ∃ t, exec (.calDefault v) s = .next t ∧ t.get Fld.ISL_CAL_STAT_RESULT = 0 ∧
        t.cal.trims = s.cal.trims ++ [(s.effective, s.calChannel, 0, 0x3F800000, 0x40800000)] ∧
        t.cal.trimStore = s.cal.trimStore ++ [s.calChannel])) ∧
    (s.cal.averaging = none → exec (.calAverageDone up) s = .next s) ∧
    (∀ a, s.cal.averaging = some a → ∃ t, exec (.calAverageDone up) s = .next t ∧ t.cal.averaging = none ∧ t.get Fld.ISL_CAL_STAT_DONE = 1 ∧
      (a.bad = true ∨ s.chMode a.channel ≠ chAI → t.get Fld.ISL_CAL_STAT_RESULT = 3 ∧ t.cal.trims = s.cal.trims) ∧
      (a.bad = false → s.chMode a.channel = chAI → 2 ^ 149 < 20 * (a.top - a.low) →
        t.get Fld.ISL_CAL_STAT_RESULT = 4 ∧ t.cal.trims = s.cal.trims) ∧
      (a.bad = false → s.chMode a.channel = chAI → 20 * (a.top - a.low) ≤ 2 ^ 149 → a.count ≠ 0 →
        let x := calTrims a.high a.ref (a.mean up) (s.getReg (Reg.ISL_AN_ZERO a.channel)) (s.getReg (Reg.ISL_AN_SPAN a.channel))
          (s.chan a.channel).lowRef
        (trimsInRange x.1 x.2.1 = false → t.get Fld.ISL_CAL_STAT_RESULT = 5 ∧ t.cal.trims = s.cal.trims) ∧
        (trimsInRange x.1 x.2.1 = true → t.get Fld.ISL_CAL_STAT_RESULT = 0 ∧
          t.cal.trims = s.cal.trims ++ [(s.effective, a.channel, x.1, x.2.1, x.2.2)]))) ∧
    (∀ a, s.cal.averaging = some a → a.channel = n.val → s.chMode n.val = chAI → s.bit (Fld.ISL_AN_STAT_CONV_BUSY n.val) = true → s.convPast n.val 1 = true →
      ∃ t, exec (.aiConversionDone n e) s = .next t ∧
        t.cal.averaging = some (a.take e (s.aiReading n.val e) (BitVec.ofNat 4 (t.get (Fld.ISL_CH_STAT_STATUS n.val))))) ∧
    (s.chMode n.val = chAO → s.driveOf n.val ≠ .off → (s.island (n.val / 8)).silent = false → (s.chan n.val).calRef = some e →
      ((s.refreshChan n.val).chan n.val).drive = e) ∧
    (((s.calDriveOver n.val).chan n.val).calRef = none ∨ s.bit (Fld.ISL_AN_STAT_CAL_DRIVE n.val) = true) ∧
    (s.cal.trims = [(e, n.val, zero, span, low)] → s.reached e = true → ∃ t, exec .calEffect s = .next t ∧ t.cal.trims = [] ∧
      t.getReg (Reg.ISL_AN_ZERO n.val) = zero ∧ t.getReg (Reg.ISL_AN_SPAN n.val) = span ∧ (t.chan n.val).lowRef = low) ∧
    (n.val ∉ s.cal.trimStore → ∀ k, exec (.calStoreWrite n k) s = .next s) ∧ exec (.calStoreWrite n 0) s = .next s ∧
    (n.val ∈ s.cal.trimStore → ∃ t, exec (.calStoreWrite n 1) s = .next t ∧ n.val ∈ t.cal.trimStore ∧ t.userBlock n.val 1 = s.userBlock n.val 1 ∧
      blockCrcOk (t.userBlock n.val 0) = true ∧ (t.userBlock n.val 0).zero = (s.trimsAhead n.val).1) ∧
    (n.val ∈ s.cal.trimStore → ∃ t, exec (.calStoreWrite n 2) s = .next t ∧ n.val ∉ t.cal.trimStore ∧
      t.userBlock n.val 0 = t.userBlock n.val 1 ∧ blockCrcOk (t.userBlock n.val 0) = true ∧ (t.userBlock n.val 0).zero = (s.trimsAhead n.val).1 ∧
      (t.userBlock n.val 0).span = (s.trimsAhead n.val).2.1) ∧
    (s.mode ≠ .load → s.mode ≠ .hold → s.mode ≠ .service →
      exec (.islChCfgWrite n an v) s = .next (s.putBit Fld.ISL_CFG_STAT_REFUSED true)) ∧
    (s.mode = .load ∨ s.mode = .hold ∨ s.mode = .service →
      (s.ll = .synced → s.role = .shadow → exec (.islChCfgWrite n an v) s = .next (s.emit (.lifeline (.command (.chConfig n.val an v none))))) ∧
      (s.ll ≠ .synced → ∃ t, exec (.islChCfgWrite n an v) s = .next t ∧ t.cal.cfg = s.cal.cfg ++ [(s.effective, n.val, an, v)] ∧
        n.val ∈ t.cal.cfgStore ∧ t.getReg Reg.ISL_CFG_EFFECT = s.effective ∧ t.get Fld.ISL_CFG_STAT_STORE_PENDING = 1 ∧ t.mode = s.mode)) ∧
    ((∀ c ∈ s.cal.cfg, s.reached c.1 = false) → exec .islCfgEffect s = .next s) ∧
    (s.cal.cfg = [(e, n.val, an, v)] → s.reached e = true → exec .islCfgEffect s = .next
      ((State.regStore { s with cal := { s.cal with cfg := [] } } (cfgReg n.val an) v).refreshChan n.val)) ∧
    exec (.islCfgStoreWrite n 0) s = .next s ∧
    (n.val ∈ s.cal.cfgStore → ∃ t, exec (.islCfgStoreWrite n 1) s = .next t ∧ n.val ∈ t.cal.cfgStore ∧ t.userBlock n.val 1 = s.userBlock n.val 1 ∧
      (t.userBlock n.val 0).chCfg = s.cfgAhead n.val false) ∧
    (n.val ∈ s.cal.cfgStore → ∃ t, exec (.islCfgStoreWrite n 2) s = .next t ∧ n.val ∉ t.cal.cfgStore ∧
      t.userBlock n.val 0 = t.userBlock n.val 1 ∧ (t.userBlock n.val 0).chCfg = s.cfgAhead n.val false ∧
      (t.userBlock n.val 0).anCfg = s.cfgAhead n.val true)

/-- Updates of island firmware (R450, R451): a request where R450 allows begins the transfer; the restart waits for the fastest task's EMIT
while the sequencer runs; a failure or a timeout ends the update in phase 5. -/
def Claim.IslandUpdates : Prop :=
  ∀ (s : State) (v : Word),
    (s.get (Fld.GATE_CTRL_STATE 48) ≠ 0 → exec (.islandUpdateGo v) s = .next { s with bus := .error }) ∧
    (s.get (Fld.GATE_CTRL_STATE 48) = 0 → Fld.UPD_ISL_CMD_GO.on v = true → Fld.UPD_ISL_CMD_KEY.ext v = 0x4953 →
      (s.islUpdateOk (Fld.UPD_ISL_CMD_ISLAND.ext v) = true → ∃ t, exec (.islandUpdateGo v) s = .next t ∧ t.get Fld.UPD_ISL_STAT_PHASE = 1 ∧
        t.get Fld.UPD_STAT_ISL_BUSY = 1 ∧
        t.upd.island = some (Fld.UPD_ISL_CMD_ISLAND.ext v, s.getReg (Reg.UPD_ISL_VER (Fld.UPD_ISL_CMD_ISLAND.ext v)))) ∧
      (s.islUpdateOk (Fld.UPD_ISL_CMD_ISLAND.ext v) = false → ∃ t, exec (.islandUpdateGo v) s = .next t ∧ t.upd = s.upd ∧
        t.get Fld.UPD_ISL_CMD_REFUSED = 1)) ∧
    (s.upd.island = none → ∀ ok, exec (.islandImageTransferred ok) s = .next s ∧ exec .islandUpdateTimeout s = .next s) ∧
    (∀ i old, s.upd.island = some (i, old) →
      (s.get Fld.UPD_ISL_STAT_PHASE = 1 → s.bit Fld.SEQ_STAT_RUNNING = true →
        exec (.islandImageTransferred true) s = .next (s.putAll [(Fld.UPD_ISL_STAT_PHASE, 2), (Fld.UPD_ISL_STAT_DONE_KB, s.stagedKb)])) ∧
      (s.get Fld.UPD_ISL_STAT_PHASE = 1 → ∃ t, exec (.islandImageTransferred false) s = .next t ∧ t.get Fld.UPD_ISL_STAT_PHASE = 5 ∧
        t.get Fld.UPD_STAT_ISL_BUSY = 0 ∧ t.upd.island = none) ∧
      (s.get Fld.UPD_ISL_STAT_PHASE ≠ 1 → ∀ ok, exec (.islandImageTransferred ok) s = .next s) ∧
      (s.get Fld.UPD_ISL_STAT_PHASE = 3 → ∃ t, exec .islandUpdateTimeout s = .next t ∧ t.get Fld.UPD_ISL_STAT_PHASE = 5 ∧
        t.get Fld.UPD_STAT_ISL_BUSY = 0 ∧ t.upd.island = none) ∧
      (s.get Fld.UPD_ISL_STAT_PHASE ≠ 3 → exec .islandUpdateTimeout s = .next s))

/-- Frames of the isolation links both ways, the island's triggers, link loss, silence and restarts, and updates of island firmware: what the parts say, taken together. -/
def Obligations.IslandLinks : Prop := Claim.IslandFrames ∧ Claim.IslandUpstream ∧ Claim.IslandUpdates

/-! ### The Lifeline and the pair (R219 to R246) -/

/-- Lanes and training (R221, R223, R224): a signal starts training; a lane up ends its PAIR_LANE_DOWN; a lane down sets PAIR_EVENT.LANE_DOWN,
counts a loss of signal where it was one, and raises PAIR_LANE_DOWN; HELLO goes out from TRAINING on,
STATUS and TIME once linked, on each lane, every frame with the header of R220 and its CRC-32. -/
def Claim.LifelineTraining : Prop :=
  ∀ (s : State) (x : Fin 2),
    (s.mode ≠ .hibernate → (s.mode = .load → 5 ≤ s.load.step) → s.get (Fld.GATE_CTRL_STATE 45) = 0 → s.ll = .down →
      s.get (Fld.PAIR_LANE_STATE x) = 0 →
      exec (.llSignalDetect x) s = .next (((s.put (Fld.PAIR_LANE_STATE x) 1).setLl .training).fall Src.LIFELINE_DOWN 0 0)) ∧
    (s.mode = .hibernate ∨ (s.mode = .load ∧ s.load.step < 5) ∨ s.get (Fld.GATE_CTRL_STATE 45) ≠ 0 → exec (.llSignalDetect x) s = .next s) ∧
    exec .trainingTimeout s = .next s ∧
    (s.ll ≠ .down → s.get (Fld.PAIR_LANE_STATE x) ≠ 2 → exec (.laneUp x) s = .next
      ((s.putAll [(Fld.PAIR_LANE_STATE x, 2), (if x = 0 then Fld.PAIR_STAT_LANE_0_UP else Fld.PAIR_STAT_LANE_1_UP, 1)]).fall
        Src.PAIR_LANE_DOWN x 0)) ∧
    (s.get (Fld.PAIR_LANE_STATE x) ≠ 0 → ∃ (los : Bool) (u : State), u = s.draw.2.putAll [(Fld.PAIR_LANE_STATE x, 0),
        (if x = 0 then Fld.PAIR_STAT_LANE_0_UP else Fld.PAIR_STAT_LANE_1_UP, 0), (Fld.PAIR_EVENT_LANE_DOWN, 1)] ∧
      exec (.laneDown x) s = .next ((if los then u.bump (Fld.PAIR_LANE_LOS_EVENTS x) else u).rise Src.PAIR_LANE_DOWN x 0)) ∧
    (s.ll ≠ .down → exec .helloSend s = .next (s.emitLanes 1 (.hello s.helloBody))) ∧
    (s.ll = .down → exec .helloSend s = .next s) ∧
    (s.linked = true → exec .statusSend s = .next
      (s.emitLanes 2 (.status ⟨s.mode, s.role, s.heldTasks, s.fastCount, s.surveyVerified⟩))) ∧
    (s.linked = true → exec .timeSend s = .next
      (State.emitLanes { s with pair := { s.pair with timeSent := some s.nowNs } } 2
        (.time ⟨s.time.seconds, s.time.nanoseconds, s.get Fld.TIME_STAT_STATE, s.pair.timeRx⟩))) ∧
    (∀ f least, (least ≤ s.get (Fld.PAIR_LANE_STATE 0) → s.get (Fld.PAIR_LANE_STATE 1) < least → s.emitLanes least f = s.emitOn 0 f) ∧
      (s.get (Fld.PAIR_LANE_STATE 0) < least → least ≤ s.get (Fld.PAIR_LANE_STATE 1) → s.emitLanes least f = s.emitOn 1 f) ∧
      (least ≤ s.get (Fld.PAIR_LANE_STATE 0) → least ≤ s.get (Fld.PAIR_LANE_STATE 1) → s.emitLanes least f = (s.emitOn 0 f).emitOn 1 f) ∧
      (s.get (Fld.PAIR_LANE_STATE 0) < least → s.get (Fld.PAIR_LANE_STATE 1) < least → s.emitLanes least f = s)) ∧
    (∀ f, ∃ h : LLHeader, h = s.llHeaderOn x f ∧ llHeaderOk h = true ∧ h.lane = x.val ∧ h.type = llType f ∧ h.slotB = (s.slot == 1) ∧
      h.role = s.role ∧ h.sync = (s.ll == .synced) ∧ h.txTime = s.nowNs ∧ h.length ≤ 8192 ∧
      h.frameNum = (if llOrdered f then nextFrameNum s.pair.sendNum else 0) ∧ s.emitOn x f = { s with
        out := s.out ++ [.lifeline f h]
        pair := { s.pair with sendNum := if llOrdered f then h.frameNum else s.pair.sendNum } }) ∧
    (s.linked = false → exec .statusSend s = .next s ∧ exec .timeSend s = .next s)

/-- Reception (R77, R220 to R223, R457): a Lifeline that is down or gated takes no frame; a frame with a bad HDR_CRC or another TYPE is counted
and discarded; LL_DELAY holds every frame but TIME; of the ordered frames one before its turn waits and one after its turn is discarded; a gap
that is given up counts each FRAME_NUM still missing; a held frame is then received; LEAD leaves SYNCED with a partner that has left it. -/
def Claim.LifelineReception : Prop :=
  ∀ (s : State) (h : LLHeader) (f : Instr) (src : Nat) (b1 : ImageBody) (b2 : OutcomeBody) (b3 : JournalBody) (b4 : DuplexBody)
      (b5 : RelayCommand) (b6 : AckBody) (b7 : BulkBody) (b8 : HelloBody) (b9 : StatusBody) (b10 : TimeBody),
    f ∈ [Instr.image h b1, .outcome h b2, .journal h b3, .duplex h b4, .command h b5, .ack h b6, .bulk h b7, .departure h, .relinquish ⟨h, src⟩,
      .hello h b8, .llStatus h b9, .llTime h b10] →
    (s.ll = .down ∨ s.get (Fld.GATE_CTRL_STATE 45) ≠ 0 → exec f s = .next s) ∧
    (s.ll ≠ .down → s.get (Fld.GATE_CTRL_STATE 45) = 0 → s.tpActive 0 = true → f ≠ .llTime h b10 →
      exec f s = .next (State.tpAffect { s with tp := { s.tp with held := s.tp.held ++ [f] } } 0)) ∧
    (s.ll ≠ .down → s.get (Fld.GATE_CTRL_STATE 45) = 0 → s.tpActive 0 = false → llHeaderOk h = false ∨ h.type ≠ frameType f →
      exec f s = .next (s.bump Fld.PAIR_GAPS_BAD_FRAMES)) ∧
    (s.linked = true → s.get (Fld.GATE_CTRL_STATE 45) = 0 → s.tpActive 0 = false → headerGood s h (frameType f) → f ≠ .llStatus h b9 →
      f ≠ .llTime h b10 →
      (h.frameNum ≠ s.pair.recvNum → (h.frameNum - s.pair.recvNum).toNat < 2 ^ 31 → exec f s = .next { s with pair := { s.pair with
        lastFrameNs := s.nowNs
        waiting := s.pair.waiting.filter (fun q => q.1 != h.frameNum) ++ [(h.frameNum, f)] } }) ∧
      (2 ^ 31 ≤ (h.frameNum - s.pair.recvNum).toNat → exec f s = .next (frameSeen s))) ∧
    (s.ll = .synced → s.role ≠ .shadow → s.get (Fld.GATE_CTRL_STATE 45) = 0 → s.tpActive 0 = false → llHeaderOk h = true → h.type = 2 →
      h.sync = false → s.pair.syncAt ≤ h.txTime →
      exec (.llStatus h b9) s = .next ((frameSeen s).leaveSynced.partnerSeen b9.mode b9.role b9.surveyOk)) ∧
    (s.pair.waiting = [] → exec .frameGap s = .next s) ∧
    (∀ n, s.pair.waiting = [(n, f)] → s.ll ≠ .synced → s.role ≠ .joining → exec .frameGap s = .next (State.deliverWaiting 1
      { s.put Fld.PAIR_GAPS_GAPS (min 65535 (s.get Fld.PAIR_GAPS_GAPS + missingFrames s.pair.recvNum n)) with
        pair := { s.pair with recvNum := n } })) ∧
    (∀ due n : Word, due.toNat < n.toNat → missingFrames due n = n.toNat - due.toNat) ∧
    (s.tp.held = [] → exec .tpHeldFrameDeliver s = .next s) ∧
    (∀ l, s.tp.held = f :: l → s.ll ≠ .down →
      exec .tpHeldFrameDeliver s = .next (State.frameIn { s with tp := { s.tp with held := l } } h f))

/-- Training of the Lifeline, its own frames, and the order in which frames are received: what the parts say, taken together. -/
def Obligations.LifelineFrames : Prop := Claim.LifelineTraining ∧ Claim.LifelineReception

/-- HELLO, STATUS and TIME (R221, R223, R225): in training a partner of another major version or of the same slot is refused, any other links
the Lifeline; STATUS tells mode, role and survey; a TIME exchange gives the offset, whatever the
path delay; SHADOW slews by minus it, a JOINING module steps by it once; an offset beyond 100 ns at three exchanges running is a pair fault. -/
def Claim.HelloStatusTime : Prop :=
  ∀ (s : State) (h : LLHeader) (b : HelloBody) (st : StatusBody) (tm : TimeBody), s.get (Fld.GATE_CTRL_STATE 45) = 0 →
    (s.ll = .training → s.tpActive 0 = false → headerGood s h 1 →
      (h.protoMajor ≠ s.get Fld.PAIR_VERSION_PROTO_MAJOR →
        exec (.hello h b) s = .next (((frameSeen s).putBit Fld.PAIR_EVENT_VERSION true).raise Src.PAIR_VERSION 0 0)) ∧
      (h.protoMajor = s.get Fld.PAIR_VERSION_PROTO_MAJOR → b.slotB = (s.slot == 1) →
        exec (.hello h b) s = .next (((frameSeen s).putBit Fld.PAIR_EVENT_SLOT_CONFLICT true).raise Src.PAIR_SLOT_CONFLICT 0 0)) ∧
      (h.protoMajor = s.get Fld.PAIR_VERSION_PROTO_MAJOR → b.slotB ≠ (s.slot == 1) →
        exec (.hello h b) s = .next (((frameSeen s).becomeLinked h b).helloTells h b))) ∧
    (s.role ≠ .solo → s.pair.watchLeft = 0 → (s.becomeLinked h b).ll = .linked ∧ (s.becomeLinked h b).pair.recvNum = nextFrameNum h.frameNum ∧
      (s.becomeLinked h b).pair.waiting = [] ∧ (s.becomeLinked h b).get Fld.PAIR_PARTNER_SLOT = b.slotB.toNat ∧ (s.becomeLinked h b).role = s.role) ∧
    (frameDue s h 1 → exec (.hello h b) s = .next (framesFollow ((frameTaken s h).helloTells h b))) ∧
    (s.linked = true → s.tpActive 0 = false → headerGood s h 2 → exec (.llStatus h st) s = .next ((frameSeen s).partnerSeen st.mode st.role st.surveyOk)) ∧
    (s.linked = true → s.tpActive 0 = false → headerGood s h 2 → s.role ≠ .joining → st.role ≠ .joining → s.pair.joinOut = false → s.core.startPending = false →
      ∃ t, exec (.llStatus h st) s = .next t ∧ regsOnly { s with pair := t.pair } t [Reg.PAIR_PARTNER, Reg.PAIR_STAT] ∧
        t.get Fld.PAIR_PARTNER_MODE = modeCode st.mode ∧ t.get Fld.PAIR_PARTNER_ROLE = roleCode st.role ∧ t.pair.partnerMode = st.mode ∧
        t.pair.partnerSurveyOk = st.surveyOk) ∧
    (s.linked = false → headerGood s h 9 → s.ll ≠ .down → exec (.llTime h tm) s = .next (frameSeen s)) ∧
    (s.linked = true → headerGood s h 9 → tm.echo = none ∨ (∃ t1 t2, tm.echo = some (t1, t2) ∧ s.pair.timeSent ≠ some t1) →
      exec (.llTime h tm) s = .next { s with pair := { s.pair with lastFrameNs := s.nowNs, timeRx := some (h.txTime, s.nowNs) } }) ∧
    (∀ t1 t2 : Nat, s.linked = true → headerGood s h 9 → tm.echo = some (t1, t2) → s.pair.timeSent = some t1 → exec (.llTime h tm) s = .next
      (State.timeFound { s with pair := { s.pair with lastFrameNs := s.nowNs, timeRx := some (h.txTime, s.nowNs) } }
        (timeOffset t1 t2 h.txTime s.nowNs))) ∧
    (∀ t1 t3 d o : Int, timeOffset t1 (t1 + d - o) t3 (t3 + o + d) = o) ∧
    (∀ o : Int,
      (s.role = .shadow → s.ll = .synced → o.natAbs ≤ 100 → (s.timeFound o).time = { s.time with slewRem := -o * 4294967296 } ∧
        (s.timeFound o).pair = { s.pair with badOffsets := 0 } ∧ (s.timeFound o).getReg Reg.PAIR_TIME_OFS = BitVec.ofInt 32 o ∧
        regsOnly { s with time := (s.timeFound o).time, pair := (s.timeFound o).pair } (s.timeFound o) [Reg.PAIR_TIME_OFS]) ∧
      (s.role = .shadow → s.ll = .synced → 100 < o.natAbs → s.pair.badOffsets = 2 → ∃ u : State, s.timeFound o = u.pairBreak 4 ∧
        u.pair.badOffsets = 3 ∧ u.mode = s.mode ∧ u.out = s.out) ∧
      (s.role = .joining → s.pair.timeTaken = false → o ≠ 0 →
        s.timeFound o = State.stepTime { s with pair := { s.pair with timeTaken := true } } (-o)) ∧
      (s.role = .solo ∨ s.role = .lead → s.timeFound o = s))

/-- IMAGE, OUTCOME, JOURNAL and DUPLEX in their turn (R145, R227, R228, R230, R240): a SHADOW takes the beats of the present cycle, LEAD's
outcome, which stands, and LEAD's committed entries; a JOINING module takes the commit stream; every other module, and a frame of another
cycle, changes nothing but the sequence. -/
def Obligations.PairCycleFrames : Prop :=
  ∀ (s : State) (h : LLHeader),
    (∀ b : ImageBody, frameDue s h 3 → s.taskRole b.task = .shadow → s.cyc b.task = b.cyc → b.asyncImages = [] → b.moved = [] → b.free = [] →
      exec (.image h b) s = .next (framesFollow (b.beats.foldl (fun u x => u.takeBeat b.task x) (frameTaken s h)))) ∧
    (∀ (u : State) t port beat (slots : List DWord), u.takeBeat t (port, beat, slots) =
      let v := (slots.zipIdx.take 4).foldl (fun v p => v.setImageSlot port (4 * beat + p.2) p.1) u
      { v with pair := { v.pair with
        imageBeats := v.pair.imageBeats.filter (fun q => q != (t, 65536 * port + beat)) ++ [(t, 65536 * port + beat)] } }) ∧
    (∀ b : ImageBody, frameDue s h 3 → s.taskRole b.task ≠ .shadow ∨ s.cyc b.task ≠ b.cyc → exec (.image h b) s = .next (framesFollow (frameTaken s h))) ∧
    (∀ b : OutcomeBody, frameDue s h 4 → s.awaitsOutcome b.task = true → s.cyc b.task = b.cyc → exec (.outcome h b) s = .next (framesFollow
      (((frameTaken s h).setTask b.task { s.task b.task with
        partnerOutcome := some b.outcome
        partnerJournal := some (b.bytes, b.crc) }).settle b.task))) ∧
    (∀ b : OutcomeBody, frameDue s h 4 → s.awaitsOutcome b.task = false ∨ s.cyc b.task ≠ b.cyc → exec (.outcome h b) s = .next (framesFollow (frameTaken s h))) ∧
    (∀ b : JournalBody, frameDue s h 5 → s.role = .joining → b.staging = [] → b.signals = [] → (s.task b.task).t0 = 0 →
      exec (.journal h b) s = .next (framesFollow ((frameTaken s h).commitWords 0 b.entries))) ∧
    (∀ b : JournalBody, frameDue s h 5 → s.role = .shadow → s.taskRole b.task = .shadow → b.staging = [] → b.signals = [] → (s.task b.task).t0 ≠ 0 →
      s.cyc b.task = b.cyc → exec (.journal h b) s = .next (framesFollow
        (((frameTaken s h).setTask b.task { s.task b.task with stream := (s.task b.task).stream ++ b.entries }).settle b.task))) ∧
    (∀ b : JournalBody, frameDue s h 5 → s.role = .solo ∨ s.role = .lead → s.taskRole b.task ≠ .shadow →
      exec (.journal h b) s = .next (framesFollow (frameTaken s h))) ∧
    (∀ b : DuplexBody, frameDue s h 6 → s.ll = .synced → exec (.duplex h b) s = .next
      (framesFollow { frameTaken s h with pair := { (frameTaken s h).pair with duplexNext := some b } })) ∧
    (∀ b : DuplexBody, frameDue s h 6 → s.ll ≠ .synced → exec (.duplex h b) s = .next (framesFollow (frameTaken s h)))

/-- COMMAND and ACK in their turn (R27, R169, R221, R244, R259, R353): a proposal of a handover is accepted, with E four cycles ahead, by a
SYNCED module that has none pending, and refused else; a SHADOW adopts what LEAD fixed, with its effective count, and answers; an ACK of a
handover fixes E, a refusal reaches the register or the engineering station that asked. -/
def Claim.CommandsAndAnswers : Prop :=
  ∀ (s : State) (h : LLHeader),
    (∀ x, frameDue s h 7 → s.ll = .synced → s.pair.handover = none → exec (.command h (.handover x)) s = .next (framesFollow
      (((frameTaken s h).fixHandover (s.fastCount + 4)).answer (.handover x) true (s.fastCount + 4)))) ∧
    (∀ x, frameDue s h 7 → s.ll = .synced → s.pair.handover ≠ none → exec (.command h (.handover x)) s = .next (framesFollow
      ((frameTaken s h).answer (.handover x) false 0))) ∧
    (∀ m x, frameDue s h 7 → s.role = .shadow → s.ll = .synced → exec (.command h (.mode m (some x))) s = .next (framesFollow
      (((frameTaken s h).requestMode m 4 (some x)).answer (.mode m (some x)) true x))) ∧
    (∀ (t : Fin 16) x, frameDue s h 7 → s.role = .shadow → s.ll = .synced → exec (.command h (.holdTask t.val (some x))) s = .next (framesFollow
      (((frameTaken s h).setTask t.val { s.task t.val with holdEffective := some x }).answer (.holdTask t.val (some x)) true x))) ∧
    (∀ (n : Fin 128) an v x, frameDue s h 7 → s.role = .shadow → s.ll = .synced → exec (.command h (.chConfig n.val an v (some x))) s = .next (framesFollow
      (((frameTaken s h).cfgSchedule n.val an v x).answer (.chConfig n.val an v (some x)) true x))) ∧
    (∀ at0 o, frameDue s h 7 → exec (.command h (.timeStep at0 o)) s = .next (framesFollow
      (State.answer { frameTaken s h with time := { s.time with stepAt := some (at0, o) } } (.timeStep at0 o) true 0))) ∧
    (∀ (u : State) c ok e, ∃ hd, hd.frameNum = nextFrameNum u.pair.sendNum ∧ u.answer c ok e = { u with
      out := u.out ++ [.lifeline (.ack ⟨c, ok, e⟩) hd]
      pair := { u.pair with sendNum := hd.frameNum } }) ∧
    (∀ x e, frameDue s h 8 → s.ll = .synced → exec (.ack h ⟨.handover x, true, e⟩) s = .next (framesFollow ((frameTaken s h).fixHandover e))) ∧
    (∀ n an v x e, frameDue s h 8 → exec (.ack h ⟨.chConfig n an v x, false, e⟩) s = .next
      (framesFollow ((frameTaken s h).putBit Fld.ISL_CFG_STAT_REFUSED true))) ∧
    (∀ m x e, frameDue s h 8 → exec (.ack h ⟨.mode m x, false, e⟩) s = .next (framesFollow ((frameTaken s h).emit .engRefused)))

/-- HELLO, STATUS and TIME, and commands and answers between the modules of a pair: what the parts say, taken together. -/
def Obligations.PairMessages : Prop := Claim.HelloStatusTime ∧ Claim.CommandsAndAnswers

/-- The join transfer in the joining module (R240): each part of an item is applied, its first one overwriting
what was there (R246), its last one counted in PAIR_JOIN; any other module
ignores the items; and at S_J, with the state record applied and the survey active, the joining module becomes SHADOW of a SYNCED pair in
RUN, while the module that served the join becomes LEAD (R226, R241). -/
def Claim.JoinTransfer : Prop :=
  ∀ (s : State) (h : LLHeader),
    (frameDue s h 0x0A → s.role = .joining →
      (∀ a part last (words : List (Nat × DWord)), exec (.bulk h (.areaBlock a part last words)) s = .next (framesFollow
        ((words.foldl (fun u p => u.setInstWord a p.1 p.2) (frameTaken s h)).partEnds last (a % 2) 2))) ∧
      (∀ part last (slots : List (Nat × DWord)), exec (.bulk h (.page part last slots)) s = .next (framesFollow
        ((slots.foldl (fun u p => u.setSigPage u.sig.active p.1 p.2) ((frameTaken s h).clearPage part)).partEnds last 18 3))) ∧
      (∀ (c : Fin 16) part last slots, exec (.bulk h (.staging c.val part last slots)) s = .next (framesFollow
        ((((frameTaken s h).clearStaging c.val part).takeStaging c.val slots).partEnds last (2 + c.val) 3))) ∧
      (∀ part last l, exec (.bulk h (.forces part last l)) s = .next (framesFollow (((frameTaken s h).takeForces part last l).partEnds last 19 4))) ∧
      (∀ r, exec (.bulk h (.stateRecord r)) s = .next (framesFollow (((frameTaken s h).takeRecord r).partDone 20 5)))) ∧
    (∀ (u : State) p g, (u.partDone p g).pair.joinItems = u.pair.joinItems.filter (fun q => q != p) ++ [p] ∧
      u.partEnds true p g = u.partDone p g ∧
      u.partEnds false p g = u.put Fld.PAIR_JOIN_STAGE g ∧ (g < 8 → (u.partDone p g).get Fld.PAIR_JOIN_STAGE = g) ∧ (u.partDone p g).inst = u.inst ∧ (u.partDone p g).sig = u.sig) ∧
    (∀ u : State, ((u.clearPage 0).sig.active = 0 → (u.clearPage 0).sig.page0 = []) ∧ (u.clearPage 0).sig.active = u.sig.active ∧
      ∀ c, ((u.clearStaging c 0).chamber c).current = []) ∧
    (∀ (u : State) l, (u.takeForces 0 true l).frc.entries = l ∧ (u.takeForces 0 true l).get Fld.FRC_STAT_STORE_PENDING = 1) ∧
    (frameDue s h 0x0A → s.role ≠ .joining → ∀ a p e words l r slots,
      ∀ b ∈ [BulkBody.areaBlock a p e words, .forces p e l, .stateRecord r, .page p e slots],
      exec (.bulk h b) s = .next (framesFollow (frameTaken s h))) ∧
    (s.activeSurvey = none → exec .joinComplete s = .next s) ∧
    (∀ g, s.activeSurvey = some g → s.ll = .linked → s.role = .joining → s.pair.joinItems.contains 20 = true → exec .joinComplete s = .next
      ((State.put (State.sequencerRuns ((s.synced .shadow s.lastBoundary).bump Fld.PAIR_CNT_B_JOINS) g s.lastBoundary false)
        Fld.PAIR_JOIN_STAGE 0).enterMode .run)) ∧
    (∀ g, s.activeSurvey = some g → s.ll = .linked → s.role = .solo → s.pair.joinOut = true → exec .joinComplete s = .next
      ((State.synced { s with pair := { s.pair with
        joinTails := s.tailsAt s.lastBoundary
        joinOut := !(s.tailsAt s.lastBoundary).isEmpty } } .lead s.lastBoundary).tpCheck))

/-- Losing the partner (R223, R224, R226, R228, R231 to R233): loss of signal or silence takes both lanes and the Lifeline down; a
departure frame takes the Lifeline down and starts no watch; RELINQUISH makes the module of a pair SOLO, and is withdrawn by slot A where
both relinquished within a cycle; LEAD's missing outcome is a pair fault, and a fault after which the Lifeline stays up yields the module. -/
def Obligations.LosingThePartner : Prop :=
  ∀ s : State,
    (s.ll = .down → exec .llLossOfSignal s = .next s ∧ exec .llSilence s = .next s) ∧
    (s.ll ≠ .down → exec .llLossOfSignal s = .next (((s.laneGoes 0 true).laneGoes 1 true).llDown true) ∧
      exec .llSilence s = .next (((s.laneGoes 0 false).laneGoes 1 false).llDown true)) ∧
    (∀ h, s.ll = .training → s.get (Fld.GATE_CTRL_STATE 45) = 0 → s.tpActive 0 = false → headerGood s h 0x0B →
      exec (.departure h) s = .next ((frameSeen s).llDown false)) ∧
    (∀ h, frameDue s h 0x0B → exec (.departure h) s = .next (framesFollow ((frameTaken s h).llDown false))) ∧
    (∀ u : State, ∃ v, u.forgetPartner = v ∧ v.pair.waiting = [] ∧ v.pair.partnerHello = none ∧ v.pair.partnerMode = .load ∧
      v.pair.joinOut = false ∧ v.get Fld.PAIR_STAT_PARTNER_RUNNING = 0 ∧ v.ll = u.ll ∧ v.role = u.role ∧ v.mode = u.mode ∧ v.sig = u.sig) ∧
    (∀ h src, frameDue s h 0x0C → s.pair.relinquishedAt = none → s.inPair = true →
      exec (.relinquish ⟨h, src⟩) s = .next (framesFollow ((frameTaken s h).leaveSynced.becomeSolo.settleAll))) ∧
    (∀ h src, frameDue s h 0x0C → s.pair.relinquishedAt = none → s.inPair = false →
      exec (.relinquish ⟨h, src⟩) s = .next (framesFollow (frameTaken s h))) ∧
    (∀ h src n, frameDue s h 0x0C → s.pair.relinquishedAt = some n → s.nowNs - n ≤ s.periodNs (s.get Fld.SEQ_STAT_FASTEST) →
      exec (.relinquish ⟨h, src⟩) s = .next (framesFollow (if s.slot = 0 then (frameTaken s h).withdraw else frameTaken s h))) ∧
    (∀ u : State, u.becomeSolo.role = .solo ∧ u.becomeSolo.pair.handover = none ∧ u.becomeSolo.mode = u.mode ∧ u.becomeSolo.ll = u.ll) ∧
    (∀ t : Fin 16, s.awaitsOutcome t.val = true → s.taskRunning t.val = true → (s.task t.val).t0 ≠ 0 →
      exec (.outcomeDeadline t) s = .next (s.pairBreak 2)) ∧
    (∀ t : Fin 16, s.awaitsOutcome t.val = false → exec (.outcomeDeadline t) s = .next s) ∧
    (s.pair.settling = true → s.ll ≠ .down → exec .pairFaultSettle s = .next
      (State.yieldModule { s.becomeSolo with pair := { s.becomeSolo.pair with emitStopped := true } })) ∧
    (s.pair.settling = false ∨ s.ll = .down → exec .pairFaultSettle s = .next s)

/-- Rejoin, handover and revert (R238, R244, R245, R469): a handover is proposed over the Lifeline while SYNCED and none is pending; a rejoin
is a software reset; one write with both commands takes neither; a fourth automatic rejoin within 60 min of operating time
is reported and not taken, nor any after it; at H the roles exchange; slot A as SHADOW proposes the revert once its hold time has run. -/
def Claim.RejoinAndHandover : Prop :=
  ∀ (s : State) (v : Word),
    (s.get (Fld.GATE_CTRL_STATE 45) = 0 → Fld.PAIR_CTRL_HANDOVER.on v = true → Fld.PAIR_CTRL_REJOIN.on v = false →
      exec (.handover v) s = .next (s.regStore Reg.PAIR_CTRL v).proposeHandover) ∧
    (s.get (Fld.GATE_CTRL_STATE 45) = 0 → Fld.PAIR_CTRL_HANDOVER.on v = false → Fld.PAIR_CTRL_REJOIN.on v = true →
      exec (.rejoin v) s = .next (s.regStore Reg.PAIR_CTRL v).softReset) ∧
    (s.get (Fld.GATE_CTRL_STATE 45) = 0 → Fld.PAIR_CTRL_HANDOVER.on v = true → Fld.PAIR_CTRL_REJOIN.on v = true →
      exec (.handover v) s = .next s ∧ exec (.rejoin v) s = .next s) ∧
    (s.get (Fld.GATE_CTRL_STATE 45) ≠ 0 → exec (.handover v) s = .next { s with bus := .error } ∧ exec (.rejoin v) s = .next { s with bus := .error }) ∧
    (s.ll = .synced → s.pair.handover = none → s.proposeHandover = s.emit (.lifeline (.command (.handover 0)))) ∧
    (s.ll ≠ .synced ∨ s.pair.handover ≠ none → s.proposeHandover = s) ∧
    (s.pair.rejoinLatched = true → exec .autoRejoin s = .next s) ∧
    (s.bit Fld.PAIR_STAT_YIELDED = true ∨ (s.mode = .hold ∧ s.pair.joinFailed = true) → s.pair.rejoinLatched = false →
      s.bit Fld.PAIR_CTRL_AUTO_REJOIN = true → s.ll = .linked → s.partnerRuns = true →
      (s.recentRejoins.length < 3 → exec .autoRejoin s = .next (State.softReset
        { s with pair := { s.pair with rejoins := s.recentRejoins ++ [s.fls.optime.toNat] } })) ∧
      (3 ≤ s.recentRejoins.length → exec .autoRejoin s = .next (State.raise (State.putBit
        { s with pair := { s.pair with rejoinLatched := true } } Fld.PAIR_EVENT_REJOIN_LIMIT true) Src.PAIR_REJOIN_LIMIT 0 0))) ∧
    ((s.bit Fld.PAIR_STAT_YIELDED = false ∧ (s.mode ≠ .hold ∨ s.pair.joinFailed = false)) ∨ s.bit Fld.PAIR_CTRL_AUTO_REJOIN = false ∨
      s.ll ≠ .linked ∨ s.partnerRuns = false → exec .autoRejoin s = .next s) ∧
    (∀ e, s.pair.handover = some e → s.ll = .synced → s.inPair = true → (BitVec.ofNat 32 s.fastestNow.1 - e).toNat < 2 ^ 31 →
      exec .handoverH s = .next (State.tpCheck (State.revertRestart (State.record (State.bump
        { (s.setRole (roleExchanged s.role)).putAll [(Fld.PAIR_STAT_HANDOVER_PENDING, 0), (Fld.PAIR_TIME_OFS_NS, 0)] with
          pair := { s.pair with
            handover := none
            swappedNs := some s.fastestNow.2 } } Fld.PAIR_CNT_A_HANDOVERS)
        0x44 0 [(8, s.fastestNow.2), (1, roleCode (roleExchanged s.role))])))) ∧
    (s.pair.handover = none → exec .handoverH s = .next s) ∧
    (s.slot = 0 → s.role = .shadow → s.get Fld.PAIR_REVERT_REMAIN_S = 0 → exec .revertProposal s = .next s.proposeHandover) ∧
    (s.slot ≠ 0 ∨ s.role ≠ .shadow ∨ s.get Fld.PAIR_REVERT_REMAIN_S ≠ 0 → exec .revertProposal s = .next s)

/-- The join transfer, rejoin, handover and revert: what the parts say, taken together. -/
def Obligations.JoinAndHandover : Prop := Claim.JoinTransfer ∧ Claim.RejoinAndHandover

/-! ### Fieldlinks (R292 to R312) -/

/-- Frames sent on a fieldlink and replies received (R297, R298, R300, R306, R311, R312): an entry of the running survey goes out at its
instant, an EXCHANGE or a POLL then awaits its reply; a module that does not send, a gated port and a quiet task send nothing; an invalid reply
is discarded, one that nothing awaits is unmatched, a late one is counted and raised, the first in time is kept; a slow frame goes out where
the gap takes it and is deferred where it does not, and a SHADOW drops it; slow replies go to the port's ring. -/
def Claim.FieldlinkFrames : Prop :=
  ∀ (s : State) (g : Survey) (e : FrameSlot) (p : Fin 8) (f : ReplyFrame), s.surveyFor e.task = some g → s.tpActive 3 = false →
    (g.frameSlots.contains e = true → s.humarSends = true → flOpen s e.port = true → (s.task e.task).quiet = false →
      (s.task e.task).t0Cyc + e.txOffset ≤ s.time.cycles + 8 →
      (e.kind = 1 → exec (.flExchangeSend e) s = .next { s with
        out := s.out ++ [.fieldlink e.port (s.flBytes e.port (s.humarFrame g e))]
        fl := { s.fl with waits := s.fl.waits ++ [⟨e, s.fastCount, none, false⟩] } }) ∧
      (e.kind = 2 → exec (.flPollSend e) s = .next { s with
        out := s.out ++ [.fieldlink e.port (s.flBytes e.port (s.humarFrame g e))]
        fl := { s.fl with waits := s.fl.waits ++ [⟨e, s.fastCount, none, false⟩] } }) ∧
      (e.kind = 3 → exec (.flSetSend e) s = .next { s with out := s.out ++ [.fieldlink e.port (s.flBytes e.port (s.humarFrame g e))] })) ∧
    (g.frameSlots.contains e = false ∨ s.humarSends = false ∨ flOpen s e.port = false ∨ (s.task e.task).quiet = true ∨
      s.time.cycles + 8 < (s.task e.task).t0Cyc + e.txOffset →
      ∀ c ∈ [Instr.flExchangeSend e, .flPollSend e, .flSetSend e], exec c s = .next s) ∧
    ((s.humarFrame g e).station = e.station ∧ (s.humarFrame g e).slotNo = e.slotNo ∧ (s.humarFrame g e).frameSeq = s.fastCount ∧
      (s.humarFrame g e).slotB = (s.slot == 1) ∧ (s.mode = .hold → e.kind ≠ 2 → (s.humarFrame g e).safe = true) ∧
      (s.mode = .run → s.taskHeld e.task = false → (s.humarFrame g e).safe = false)) ∧
    (flOpen s p = false → exec (.reply p f) s = .next s) ∧
    (flOpen s p = true →
      (replyValid f = false → exec (.reply p f) s = .next (s.bumpWrap (Fld.FL_PORT_ERR_DISCARDED p))) ∧
      (f.head.kind ≠ 0x10 ∨ f.head.reserved9 ≠ 0 ∨ f.head.reserved14 ≠ 0 → replyValid f = false) ∧
      (replyValid f = true → s.fl.waits.find? (fun w => w.answers p f) = none →
        exec (.reply p f) s = .next (s.bumpWrap (Fld.FL_PORT_ERR_UNMATCHED p))) ∧
      (∀ w, replyValid f = true → s.fl.waits.find? (fun w => w.answers p f) = some w →
        (w.past = true → exec (.reply p f) s = .next
          (((s.bump (Fld.FL_STN_CNT_LATE p f.station)).putAll [(Fld.FL_EVENT_LATE, 1), (Fld.FL_EVENT_PORT, p), (Fld.FL_EVENT_STATION, f.station)]).raise
            Src.FL_REPLY_LATE p f.station)) ∧
        (w.past = false → w.reply = none → exec (.reply p f) s = .next { s with fl := { s.fl with
          waits := s.fl.waits.map fun x => if x.answers p f then { x with reply := some (f, s.time.cycles) } else x } }) ∧
        (w.past = false → w.reply ≠ none → exec (.reply p f) s = .next s))) ∧
    (∀ (w : FlWait) (c : Nat), w.reply = some (f, c) → ((c : Int) ≤ (s.task w.slot.task).t0Cyc + w.slot.deadline → s.replyOf w = some f) ∧
      ((s.task w.slot.task).t0Cyc + w.slot.deadline < (c : Int) → s.replyOf w = none)) ∧
    (∀ free, s.ringWith (fun q => s.ringConsIs q 3 p) = none → exec (.flSlowSend p free) s = .next s) ∧
    (∀ q n d bytes, s.ringWith (fun q => s.ringConsIs q 3 p) = some q → s.ringChain q = .payload n d bytes →
      (s.role = .shadow ∨ s.role = .joining → ∀ free, exec (.flSlowSend p free) s = .next (s.ringConsume q false n)) ∧
      (s.humarSends = true → s.role ≠ .shadow → flOpen s p = true → bytes.length ≤ 1024 →
        exec (.flSlowSend p false) s = .next s ∧
        (s.slowFits p bytes.length = false → exec (.flSlowSend p true) s = .next (s.bumpWrap (Fld.FL_PORT_SLOW_DEFERRED p))) ∧
        ((s.slowFrame (descTag d) bytes).kind = 0x20 ∧ (s.slowFrame (descTag d) bytes).frameSeq = s.fastCount ∧
          (s.slowFrame (descTag d) bytes).payload = bytes) ∧
        (s.slowFits p bytes.length = true → ∃ t, exec (.flSlowSend p true) s = .next t ∧
          t.out = s.out ++ [.fieldlink p (s.flBytes p (s.slowFrame (descTag d) bytes))] ∧
          t.regs = ((s.ringConsume q false n).bumpWrap (Fld.FL_PORT_SLOW_SENT p)).regs ∧
          t.slowBusy p = true))) ∧
    (∀ (st : Fin 64) x, flOpen s p = false → exec (.slowReply p st x) s = .next s) ∧
    (∀ (st : Fin 64) x, flOpen s p = true → humarValid x.head 0x21 (slowBytes st x) = false →
      exec (.slowReply p st x) s = .next (s.bumpWrap (Fld.FL_PORT_ERR_DISCARDED p))) ∧
    (∀ (st : Fin 64) x q, flOpen s p = true → humarValid x.head 0x21 (slowBytes st x) = true → s.ringWith (fun q => s.ringProdIs q 3 p) = some q →
      exec (.slowReply p st x) s = .next ((s.ringPushBuf q 0 st x.payload (BitVec.ofNat 64 s.nowNs)).getD (s.ringDrop q)))

/-- Stations of a fieldlink (R306, R307, R309): a missing reply counts, the third in a row loses the station, a reply brings it back; a lost
station's inputs take BAD_STATION_LOST, and an image slot that gets no fresh value keeps VALUE while its AGE rises. -/
def Claim.FieldlinkStations : Prop :=
  ∀ (s : State) (g : Survey) (w : FlWait) (f : ReplyFrame), w.slot.port < 8 → w.slot.station < 64 →
    let p := w.slot.port
    let st := w.slot.station
    (s.stationMiss w).get (Fld.FL_STN_STAT_MISSES p st) = min 3 (s.get (Fld.FL_STN_STAT_MISSES p st) + 1) ∧
    (s.get (Fld.FL_STN_STAT_MISSES p st) < 2 → (s.stationMiss w).get (Fld.FL_STN_STAT_STATE p st) = 2) ∧
    (2 ≤ s.get (Fld.FL_STN_STAT_MISSES p st) → (s.stationMiss w).get (Fld.FL_STN_STAT_STATE p st) = 3) ∧
    (s.get (Fld.FL_STN_STAT_MISSES p st) = 2 → s.get (Fld.FL_STN_STAT_STATE p st) ≠ 3 →
      (s.stationMiss w).get (Fld.FL_STN_CNT_LOSSES p st) = min (s.get (Fld.FL_STN_CNT_LOSSES p st) + 1) 255) ∧
    ((s.stationReply w.slot f).get (Fld.FL_STN_STAT_STATE p st) = 1 ∧ (s.stationReply w.slot f).get (Fld.FL_STN_STAT_MISSES p st) = 0) ∧
    (∀ d k, (slotSignals g w.slot false)[k]? = some d →
      (s.slotMissed g w.slot true).port19 (imageKey w.slot false + k) =
        slotBad d.safeValue (slotAged (s.port19 (imageKey w.slot false + k))) Tag.BAD_STATION_LOST ∧
      (s.slotMissed g w.slot false).port19 (imageKey w.slot false + k) = slotAged (s.port19 (imageKey w.slot false + k)))

/-- Links, partner frames and topology of a fieldlink (R292, R293, R308, R310): a link that goes down is an event and a level; LINK up ends it;
a partner frame and its absence for 1 ms set and clear PARTNER_SEEN; TOPO is 0 with no stations, 1 for a line, 2 for a closed ring and 3 for
a broken one, which is an event when it breaks and a level while it lasts. -/
def Claim.FieldlinkTopology : Prop :=
  ∀ (s : State) (p : Fin 8),
    (s.bit (Fld.FL_PORT_STAT_LINK p) = true → exec (.flLinkDown p) s = .next
      (((s.putAll [(Fld.FL_PORT_STAT_LINK p, 0), (Fld.FL_EVENT_LINK_DOWN, 1), (Fld.FL_EVENT_PORT, p)]).rise Src.FL_LINK_DOWN p 0).showTopo p)) ∧
    (s.bit (Fld.FL_PORT_STAT_LINK p) = false → exec (.flLinkDown p) s = .next s) ∧
    exec (.flLinkUp ⟨p, 1000, true⟩) s = .next (((s.putBit (Fld.FL_PORT_STAT_LINK p) true).fall Src.FL_LINK_DOWN p 0).showTopo p) ∧
    (∀ speed full, speed ≠ 1000 ∨ full = false → exec (.flLinkUp ⟨p, speed, full⟩) s = exec (.flLinkDown p) s) ∧
    (flOpen s p = false → exec (.flPartnerFrame p) s = .next s) ∧
    (flOpen s p = true → ∃ u : State, u.getReg (Reg.FL_PORT_STAT p) = (Fld.FL_PORT_STAT_PARTNER_SEEN p).ins (s.getReg (Reg.FL_PORT_STAT p)) 1 ∧
      u.fl.partnerLost.contains p.val = false ∧ u.out = s.out ∧ exec (.flPartnerFrame p) s = .next (u.showTopo p)) ∧
    (∃ u : State, u.getReg (Reg.FL_PORT_STAT p) = (Fld.FL_PORT_STAT_PARTNER_SEEN p).ins (s.getReg (Reg.FL_PORT_STAT p)) 0 ∧
      u.fl.partnerLost.contains p.val = true ∧ u.out = s.out ∧ exec (.ringPartnerTimeout p) s = .next (u.showTopo p)) ∧
    (s.stationsOf p = [] → s.showTopo p = (s.putAll [(Fld.FL_PORT_STAT_TOPO p, 0), (Fld.FL_PORT_STAT_ANSWERING p, 0)]).fall Src.FL_RING_BREAK p 0) ∧
    (s.stationsOf p ≠ [] → s.bit (Fld.FL_PORT_CFG_RING p) = true → s.bit (Fld.FL_PORT_STAT_LINK p) = false →
      s.get (Fld.FL_PORT_STAT_TOPO p) ≠ 3 → s.showTopo p = (s.putAll [(Fld.FL_PORT_STAT_TOPO p, 3),
        (Fld.FL_PORT_STAT_ANSWERING p, ((s.stationsOf p).filter fun x => s.get (Fld.FL_STN_STAT_STATE p x) != 3).length),
        (Fld.FL_EVENT_RING_BREAK, 1), (Fld.FL_EVENT_PORT, p)]).rise Src.FL_RING_BREAK p 0) ∧
    (s.stationsOf p ≠ [] → s.bit (Fld.FL_PORT_CFG_RING p) = false → s.showTopo p = (s.putAll [(Fld.FL_PORT_STAT_TOPO p, 1),
        (Fld.FL_PORT_STAT_ANSWERING p, ((s.stationsOf p).filter fun x => s.get (Fld.FL_STN_STAT_STATE p x) != 3).length)]).fall
          Src.FL_RING_BREAK p 0)

/-- Frames and replies of the fieldlinks, and their links and topology: what the parts say, taken together. -/
def Obligations.Fieldlinks : Prop := Claim.FieldlinkFrames ∧ Claim.FieldlinkStations ∧ Claim.FieldlinkTopology

/-! ### The backbone (R314 to R329) -/

/-- Frames received and forwarded (R316 to R324): every frame on a port that is up counts; pause frames and frames beyond 2,000 bytes are
length errors, runts are discarded; a bad FCS counts, a wake frame for the module is seen and goes no further; in BRIDGE mode a frame is
forwarded and offered to the local port, in PRP mode a duplicate is discarded and a first copy goes to the local port. -/
def Obligations.BackboneReception : Prop :=
  ∀ (s : State) (x : Fin 2) (f : BbFrame),
    (s.bbUp x = false → exec (.bbFrameRx x f) s = .next s) ∧
    (s.bbUp x = true → ∃ u : State, u = s.bumpWrap (Fld.BB_PORT_CNT_RX x) ∧
      (f.pause = true ∨ 2000 < f.length → exec (.bbFrameRx x f) s = .next (u.bump (Fld.BB_PORT_ERR_LENGTH x))) ∧
      (f.pause = false → f.length < 64 → exec (.bbFrameRx x f) s = .next u) ∧
      (f.pause = false → 64 ≤ f.length → f.length ≤ 2000 →
        (f.fcsOk = false → s.bbMode ≠ 0 → exec (.bbFrameRx x f) s = .next (u.bump (Fld.BB_PORT_ERR_FCS x))) ∧
        (f.fcsOk = false → s.bbMode = 0 → exec (.bbFrameRx x f) s = .next ((u.bump (Fld.BB_PORT_ERR_FCS x)).bbForward x f)) ∧
        (f.fcsOk = true → s.wakeFrame f = true → exec (.bbFrameRx x f) s = .next (u.bump Fld.BB_WAKE_STAT_SEEN)) ∧
        (f.fcsOk = true → s.wakeFrame f = false →
          (s.bbMode = 0 → exec (.bbFrameRx x f) s = .next ((u.bbForward x f).bbLocal x f)) ∧
          (s.bbMode = 1 → f.prp = none → exec (.bbFrameRx x f) s = .next (u.bbLocal x f)) ∧
          (∀ seq, s.bbMode = 1 → f.prp = some (seq, 10 + x.val) →
            ((u.prpCheck f.src seq).1 = true → exec (.bbFrameRx x f) s = .next ((u.prpCheck f.src seq).2.bump Fld.BB_PRP_CNT_DUPLICATE)) ∧
            ((u.prpCheck f.src seq).1 = false → exec (.bbFrameRx x f) s = .next
              (((u.prpCheck f.src seq).2.bump (if x = 0 then Fld.BB_PRP_CNT_UNIQUE_A else Fld.BB_PRP_CNT_UNIQUE_B)).bbLocal x f))) ∧
          (s.bbMode = 2 → exec (.bbFrameRx x f) s = .next u)))) ∧
    (f.dst = s.macBase ∨ s.macOwn f.src = true → s.bbForward x f = s) ∧
    (∀ y, s.vlanOut x y f ≠ none → ∃ v, s.bit (Fld.BB_VLAN_VALID v) = true ∧ s.get (Fld.BB_VLAN_VID v) = s.bbVid x f ∧
      s.get (Fld.BB_VLAN_MEMBER v) / 2 ^ x.val % 2 = 1 ∧ s.get (Fld.BB_VLAN_MEMBER v) / 2 ^ y % 2 = 1) ∧
    (∀ src seq, (s.prpCheck src seq).2.bb.prp.getLast?.map (fun e => e.1) = some src ∧
      (s.bb.prp.length ≤ 1024 → (s.prpCheck src seq).2.bb.prp.length ≤ 1024)) ∧
    (∀ w seq n, prpSee (seq, n) (seq + BitVec.ofNat 16 w) = (false, seq + BitVec.ofNat 16 w, n <<< w ||| 1) ∨ w = 0 ∨ 32768 ≤ w)

/-- Frames sent (R316, R318, R321, R324, R327, R329): an idle egress sends at once, a busy one stores a good frame in order while its buffer
takes it and else counts it dropped; the high queue goes first; the local port's frames and chains, frames held for a full ring, supervision
frames, the PRP table and follow-up timeouts, and the ports' links. -/
def Claim.BackboneTransmission : Prop :=
  ∀ (s : State) (p : Fin 3) (x : Fin 2) (q : BbQueued),
    (s.bbUp q.port = false → s.bbEgress q = s) ∧
    (s.bbUp q.port = true → 2000 < q.frame.length → s.bbEgress q = s.bump (Fld.BB_PORT_ERR_LENGTH q.port)) ∧
    (s.bbUp q.port = true → q.frame.length ≤ 2000 → s.bbBusy q.port = false → (s.bb.queue.any fun r => r.port == q.port) = false →
      s.tcOn = false → q.frame.fcsOk = true → s.bbEgress q = { s.bumpWrap (Fld.BB_PORT_CNT_TX q.port) with
        out := s.out ++ [.backbone q.port q.frame]
        bb := { s.bb with busy := s.bb.busy.filter (fun k => k.1 != q.port) ++ [(q.port, q.ingress.isSome)] } }) ∧
    (s.bbUp q.port = true → q.frame.length ≤ 2000 → s.bbBusy q.port = true → q.frame.fcsOk = true →
      (s.bbStored q.port + q.frame.length ≤ 262144 → s.bbEgress q = { s with bb := { s.bb with queue := s.bb.queue ++ [q] } }) ∧
      (262144 < s.bbStored q.port + q.frame.length → s.bbEgress q = s.bump (Fld.BB_PORT_ERR_DROPPED q.port))) ∧
    (s.bbNext p = none → exec (.bbEgressTransmit p) s = .next { s with bb := { s.bb with busy := s.bb.busy.filter fun k => k.1 != p.val } }) ∧
    (s.bbNext p = some q → s.bbUp p = true → s.tcOn = false → q.frame.fcsOk = true → ∃ t, exec (.bbEgressTransmit p) s = .next t ∧
      t.out = s.out ++ [.backbone p q.frame] ∧ t.bb.queue = s.bb.queue.erase q ∧ t.bbBusy p = true ∧
      regsOnly { s with out := t.out, bb := t.bb } t [Reg.BB_PORT_CNT p]) ∧
    (∀ r, s.bbNext p = some q → q.high = false → r ∈ s.bb.queue → r.port = p → r.high = false) ∧
    (∀ k : Fin 64, s.ringEnabled k = false ∨ s.ringConsIs k 2 0 = false ∨ s.get (Fld.GATE_CTRL_STATE 44) ≠ 0 → exec (.bbLocalTx k) s = .next s) ∧
    (∀ (k : Fin 64) n d bytes, s.ringEnabled k = true → s.ringConsIs k 2 0 = true → s.get (Fld.GATE_CTRL_STATE 44) = 0 →
      s.ringChain k = .payload n d bytes →
      (s.bbMode = 2 → exec (.bbLocalTx k) s = .next (s.ringConsume k true n)) ∧
      (s.bbMode ≠ 2 → s.bbTxWaits d = true → exec (.bbLocalTx k) s = .next s) ∧
      (s.bbMode ≠ 2 → descCode d / 8 % 2 = 0 → exec (.bbLocalTx k) s = .next ((s.bbSend (parseFrame bytes) (descCode d)).ringConsume k false n))) ∧
    (s.bb.held = [] → exec .bbRxHeldDeliver s = .next s) ∧
    (∀ k lin f g tag t, s.bb.held = [(k, x.val, lin, f)] → s.bbProduces k = true → 0 < s.ringFree k → s.bbLocalFrame x f = some (g, tag) →
      State.bbDeliver { s with bb := { s.bb with held := [] } } k x lin g tag = some t → exec .bbRxHeldDeliver s = .next t) ∧
    (s.bbMode ≠ 1 → exec .prpSupervisionSend s = .next s) ∧
    (s.bbMode = 1 → s.bbUp 0 = true → s.bbUp 1 = false → s.bb.busy = [] → s.bb.queue = [] → ∃ t f, exec .prpSupervisionSend s = .next t ∧
      t.out = s.out ++ [.backbone 0 f] ∧ f.dst = 0x01154E000100 ∧ f.src = s.macBase + 1 ∧ f.etherType = 0x88FB) ∧
    (∀ src, ∃ t, exec (.prpEntryForget src) s = .next t ∧ { t with bb := s.bb } = s ∧ ∀ e, e ∈ t.bb.prp ↔ e ∈ s.bb.prp ∧ e.1 ≠ src) ∧
    exec .tcFollowUpTimeout s = .next { s with bb := { s.bb with twoStep := s.bb.twoStep.drop 1 } } ∧
    (s.get Fld.BB_CTRL_PORT_EN / 2 ^ x.val % 2 = 1 → exec (.bbPortUp x) s = .next
      ((s.putAll [(Fld.BB_PORT_STAT_UP x, 1), (Fld.BB_PORT_STAT_SIGNAL x, 1)]).fall Src.BB_LINK_DOWN x 0)) ∧
    (s.get Fld.BB_CTRL_PORT_EN / 2 ^ x.val % 2 ≠ 1 → exec (.bbPortUp x) s = .next s) ∧
    (s.bit (Fld.BB_PORT_STAT_UP x) = true → exec (.bbPortDown x) s = .next
      ((s.putAll [(Fld.BB_PORT_STAT_UP x, 0), (Fld.BB_PORT_STAT_DOWN_EVENT x, 1)]).rise Src.BB_LINK_DOWN x 0)) ∧
    (s.bit (Fld.BB_PORT_STAT_UP x) = false → exec (.bbPortDown x) s = .next s)

/-- The transparent clock and a gate reset of the bridge (R319, R323): with the clock on in E2E mode a frame that passes gets its residence
added where it is a one-step Sync, a Delay_Req or a Pdelay_Req, is held for its Follow_Up where it is a two-step Sync, and passes unchanged
where it is another; a Follow_Up gets the residence held for at most 1 ms, else it passes unchanged and is counted; an IPv6 event message is
counted; in P2P mode a peer-delay message is not forwarded. A gate reset empties the bridge and counts the frame it cuts. -/
def Claim.BackboneClock : Prop :=
  ∀ (s : State) (x : Nat) (f : BbFrame) (d : Int),
    (s.get Fld.BB_TC_CFG_MODE = 1 →
      (f.ptp = .oneStepSync ∨ f.ptp = .delayReq ∨ f.ptp = .pdelayReq →
        s.tcPass f d = (addCorrection f d, s.bump Fld.BB_TC_STAT_CORRECTED)) ∧
      (∀ key, f.ptp = .twoStepSync key → (s.bb.twoStep.filter fun e => e.1 != key).length < 16 →
        s.tcPass f d = (f, { s with bb := { s.bb with twoStep := (s.bb.twoStep.filter fun e => e.1 != key) ++ [(key, d, s.time.cycles)] } }))) ∧
    (∀ key r cyc, f.ptp = .followUp key → (s.bb.twoStep.find? fun e => e.1 == key) = some (key, r, cyc) → s.time.cycles ≤ cyc + 400000 →
      (s.tcPass f d).1 = addCorrection f r ∧ ((s.tcPass f d).2.bb.twoStep.any fun e => e.1 == key) = false) ∧
    (∀ key, f.ptp = .followUp key → (s.bb.twoStep.find? fun e => e.1 == key) = none → s.tcPass f d = (f, s.bump Fld.BB_TC_STAT_UNMATCHED)) ∧
    (f.ptp = .ipv6Event → s.tcPass f d = (f, s.bump Fld.BB_TC_STAT_UNCORRECTED)) ∧
    (f.ptp = .none ∨ f.ptp = .general ∨ f.ptp = .pdelayReply → s.tcPass f d = (f, s)) ∧
    (s.bbMode = 0 → s.get Fld.BB_TC_CFG_MODE = 2 → f.isPdelay = true → s.bbForward x f = s) ∧
    (∀ via i, f.ptpStart = some (via, i) → (addCorrection f d).fcsOk = f.fcsOk) ∧
    (s.bbReset.bb.queue = [] ∧ s.bbReset.bb.busy = [] ∧ s.bbReset.bb.held = [] ∧ s.bbReset.bb.twoStep = [] ∧
      s.bbReset.bb.prp = s.bb.prp ∧ (∀ y, s.bb.busy = [(y, true)] → s.bbReset.getReg (Reg.BB_PORT_ERR y) =
        (s.bump (Fld.BB_PORT_ERR_STOMPED y)).getReg (Reg.BB_PORT_ERR y)))

/-- Frames the backbone bridge sends, its queues, ports and PRP entries, and its transparent clock: what the parts say, taken together. -/
def Obligations.BackboneTransmission : Prop := Claim.BackboneTransmission ∧ Claim.BackboneClock

/-! ### The hardware rings (R325 to R331) -/

/-- The index registers of a ring (R328): the host's doorbell is accepted when (new − old) and (new − CONS) are both at most the size, the
host's consumer index when (new − old) is at most the occupancy; a refused write changes nothing else, sets RING_EVENT.PROTOCOL and raises
RING_PROTOCOL; a write to an index that a hardware endpoint owns is ignored. Frames that waited in CAN objects for room follow the consumer
index (R342). A ring that test perturbation makes appear full takes no new PROD (R457). -/
def Obligations.RingIndexWrites : Prop :=
  ∀ (s : State) (q : Fin 64) (v : Word), s.get (Fld.GATE_CTRL_STATE 46) = 0 → s.ringEnabled q = true →
    (s.get (Fld.RING_CFG_PROD_KIND q) = 1 →
      ((v - s.ringProd q).toNat ≤ s.ringSize q → (v - s.ringCons q).toNat ≤ s.ringSize q → s.ringForcedFull q = false →
        exec (.ringProdWrite q v) s = .next ((s.setReg (Reg.RING_PROD q) v).ringService q)) ∧
      (s.ringSize q < (v - s.ringProd q).toNat ∨ s.ringSize q < (v - s.ringCons q).toNat → exec (.ringProdWrite q v) s = .next
        ((s.putAll [(Fld.RING_EVENT_PROTOCOL, 1), (Fld.RING_EVENT_RING, q)]).raise Src.RING_PROTOCOL q 0))) ∧
    (s.get (Fld.RING_CFG_PROD_KIND q) ≠ 1 → exec (.ringProdWrite q v) s = .next s) ∧
    (s.get (Fld.RING_CFG_CONS_KIND q) = 1 →
      ((v - s.ringCons q).toNat ≤ s.ringOcc q → exec (.ringConsWrite q v) s = .next
        (((s.setReg (Reg.RING_CONS q) v).ringService q).canDeliverRing q)) ∧
      (s.ringOcc q < (v - s.ringCons q).toNat → exec (.ringConsWrite q v) s = .next
        (((s.putAll [(Fld.RING_EVENT_PROTOCOL, 1), (Fld.RING_EVENT_RING, q)]).raise Src.RING_PROTOCOL q 0).canDeliverRing q))) ∧
    (s.get (Fld.RING_CFG_CONS_KIND q) ≠ 1 → exec (.ringConsWrite q v) s = .next (s.canDeliverRing q)) ∧
    (s.get (Fld.RING_CFG_PROD_KIND q) ≠ 4 → s.canDeliverRing q = s)

/-- A ring's configuration and service (R325, R326, R330): a configuration the rules refuse leaves the ring disabled and sets
RING_EVENT.CONFIG; an accepted one enables it with its size; disabling empties it; the host's side pends at WATERMARK and at the end of
coalescing; behind a closed gate every write is an error, and a disabled ring's indexes take no write. -/
def Obligations.RingConfiguration : Prop :=
  ∀ (s : State) (q : Fin 64) (v : Word),
    (s.get (Fld.GATE_CTRL_STATE 46) ≠ 0 → ∀ c ∈ [Instr.ringProdWrite q v, .ringConsWrite q v, .ringCfgWrite q v],
      exec c s = .next { s with bus := .error }) ∧
    (s.get (Fld.GATE_CTRL_STATE 46) = 0 →
      (s.ringEnabled q = false → exec (.ringProdWrite q v) s = .next s) ∧
      (s.ringEnabled q = false → s.bit Fld.RING_LOCK_LOCK = false → (Fld.RING_CFG_ENABLE q).on v = true →
        (s.ringRefused q v = true → ∃ t, exec (.ringCfgWrite q v) s = .next t ∧ t.ringEnabled q = false ∧ t.get Fld.RING_EVENT_CONFIG = 1 ∧
          t.get Fld.RING_EVENT_RING = q ∧ regsOnly s t [Reg.RING_CFG q, Reg.RING_EVENT]) ∧
        (s.ringRefused q v = false → ∃ t, exec (.ringCfgWrite q v) s = .next t ∧ t.ringEnabled q = true ∧ t.ringSize q = 2 ^ (Fld.RING_CFG_SIZE_LOG2 q).ext v ∧
          t.ringProd q = s.ringProd q ∧ t.ringCons q = s.ringCons q ∧ regsOnly s t [Reg.RING_CFG q])) ∧
      (s.ringEnabled q = true → (Fld.RING_CFG_ENABLE q).on v = false → ∃ t, exec (.ringCfgWrite q v) s = .next t ∧ t.ringEnabled q = false ∧
        t.ringProd q = 0 ∧ t.ringCons q = 0 ∧ regsOnly s t [Reg.RING_CFG q, Reg.RING_PROD q, Reg.RING_CONS q])) ∧
    (s.bit (Fld.RING_IRQ_ENABLE q) = true → s.ringEnabled q = true → s.get (Fld.RING_CFG_CONS_KIND q) = 1 →
      s.get (Fld.RING_IRQ_WATERMARK q) ≤ s.ringOcc q → s.ringService q = s.putBit (ringPend q) true) ∧
    (s.bit (Fld.RING_IRQ_ENABLE q) = true → s.ringEnabled q = true → s.get (Fld.RING_CFG_CONS_KIND q) = 1 → 0 < s.ringOcc q →
      exec (.ringCoalesceExpiry q) s = .next (s.putBit (ringPend q) true)) ∧
    (s.bit (Fld.RING_IRQ_ENABLE q) = false ∨ s.ringEnabled q = false ∨ s.get (Fld.RING_CFG_CONS_KIND q) ≠ 1 ∨ s.ringOcc q = 0 →
      exec (.ringCoalesceExpiry q) s = .next s)

/-- A descriptor is 32 bytes, four little-endian words (R327): what is written reads back, and no other byte of memory changes; a hardware
producer writes it at PROD's place and moves PROD on by one, and a full or disabled ring takes none (R326). -/
def Claim.RingDescriptors : Prop :=
  ∀ (s : State) (a : Nat) (d : Descriptor),
    (s.setDesc a d).descAt a = d ∧ (∀ b, (b < a ∨ a + 32 ≤ b) → (s.setDesc a d).sramByte b = s.sramByte b) ∧
    { s.setDesc a d with sram := s.sram } = s ∧
    ∀ q : Fin 64, (s.ringEnabled q = false ∨ s.ringFree q = 0 → s.ringPush q d = none) ∧
      (s.ringEnabled q = true → 0 < s.ringFree q → s.ringRefusedAt .write (s.ringAddr q (s.ringProd q)) 32 = none →
        ∃ t, s.ringPush q d = some t ∧ t.ringProd q = s.ringProd q + 1 ∧ t.ringCons q = s.ringCons q ∧
          t.descAt (s.ringAddr q (s.ringProd q)) = d ∧ t.out = s.out)

/-- Host SRAM reads back what was written, bytes and ring descriptors: what the parts say, taken together. -/
def Obligations.SramAndDescriptors : Prop := Claim.HostSramReadAfterWrite ∧ Claim.RingDescriptors

/-! ### CAN (R332 to R346) -/

/-- The choice before each attempt (R336, R337): of the pending objects, the one whose arbitration field wins on the bus, and of those with
equal identifier and format the lower-numbered, enters ATTEMPT while the controller drives the bus and no attempt is under way; with none
pending nothing happens. -/
def Obligations.CanArbitration : Prop :=
  ∀ (s : State) (k : Fin 4),
    (s.canDrives k = true → (s.canSt k).attempt = none → (∃ i, i < 128 ∧ s.canReady k i = true) → ∃ j, j < 128 ∧ s.canReady k j = true ∧
      (∀ i, i < 128 → s.canReady k i = true → arbKey (s.getReg (Reg.CAN_OBJ_ID k j)) ≤ arbKey (s.getReg (Reg.CAN_OBJ_ID k i)) ∧
        (arbKey (s.getReg (Reg.CAN_OBJ_ID k j)) = arbKey (s.getReg (Reg.CAN_OBJ_ID k i)) → j ≤ i)) ∧
      exec (.canTxAttempt k) s = .next ((s.setCan k { s.canSt k with
        attempt := some j
        cancelled := false }).put (Fld.CAN_OBJ_CTRL_TX_STATE k j) 2)) ∧
    (s.canDrives k = false ∨ (s.canSt k).attempt ≠ none ∨ (∀ i, i < 128 → s.canReady k i = false) → exec (.canTxAttempt k) s = .next s)

/-- Transmission (R337, R341): a completed attempt sends the
object's frame and ends SENT; a lost or failed one is PENDING again, or CANCELLED where a cancel has reached the engine; a cancel that reaches
the engine takes a PENDING request back. -/
def Claim.CanTransmission : Prop :=
  ∀ (s : State) (k : Fin 4) (m : Fin 128),
    (∀ j, (s.canSt k).attempt = some j → ∃ u : State, u = ((State.bumpWrap { s with
          out := s.out ++ [.can k ⟨s.getReg (Reg.CAN_OBJ_ID k j), (s.canBytes k j).take (s.get (Fld.CAN_OBJ_CTRL_LENGTH k j))⟩ (s.get (Fld.CAN_STAT_STATE k) == 1)] }
          (Fld.CAN_CNT_TX k)).canCounts k (s.get (Fld.CAN_STAT_TEC k) - 1) (s.get (Fld.CAN_STAT_REC k))) ∧
      exec (.canTxComplete k) s = .next (u.endAttempt k j Tx.SENT (u.canSt k).cancelled)) ∧
    (∀ j, (s.canSt k).attempt = some j → exec (.canArbLost k) s = .next
      ((s.bump (Fld.CAN_OBJ_STAT_LOST_ARB k j)).endAttempt k j (if (s.canSt k).cancelled then Tx.CANCELLED else Tx.PENDING) false)) ∧
    ((s.canSt k).attempt = none → exec (.canTxComplete k) s = .next s ∧ exec (.canArbLost k) s = .next s) ∧
    ((s.canSt k).held = [] → ∀ st late, (s.endAttempt k m st late).txState k m = st % 8 ∧ ((s.endAttempt k m st late).canSt k).attempt = none ∧
      ((s.endAttempt k m st late).canSt k).cancelled = false ∧ regsOnly { s with can := (s.endAttempt k m st late).can } (s.endAttempt k m st late)
        [Reg.CAN_OBJ_CTRL k m]) ∧
    ((s.canSt k).cancels.contains m.val = false → exec (.cancelReachesEngine k m) s = .next s) ∧
    ((s.canSt k).cancels.contains m.val = true → ∃ t, exec (.cancelReachesEngine k m) s = .next t ∧ (t.canSt k).cancels.contains m.val = false ∧
      ((s.canSt k).attempt = some m.val → (t.canSt k).cancelled = true ∧ t.regs = s.regs) ∧
      ((s.canSt k).attempt ≠ some m.val → s.txState k m = Tx.PENDING → t.txState k m = Tx.CANCELLED ∧
        t.bit (Fld.CAN_OBJ_CTRL_CANCEL_LATE k m) = false) ∧
      ((s.canSt k).attempt ≠ some m.val → s.txState k m ≠ Tx.PENDING → t.regs = s.regs)) ∧
    (s.canTxRing k = none → exec (.canRingTx k) s = .next s) ∧
    (∀ q n d bytes, s.canTxRing k = some q → s.ringChain q = .payload n d bytes → s.bit (Fld.CAN_STAT_PAIR_SILENT k) = false →
      descInline d = true → descCode d = m → s.canRingObject k m = true → canLengthOk (BitVec.ofNat 32 (descTag d)) bytes.length = true →
      canFormatOk (BitVec.ofNat 32 (descTag d)) = true →
      (s.txState k m = Tx.PENDING ∨ s.txState k m = Tx.ATTEMPT → exec (.canRingTx k) s = .next s) ∧
      (s.txState k m ≠ Tx.PENDING → s.txState k m ≠ Tx.ATTEMPT → exec (.canRingTx k) s = .next
        ((((((s.setReg (Reg.CAN_OBJ_ID k m) (BitVec.ofNat 32 (descTag d))).put (Fld.CAN_OBJ_CTRL_LENGTH k m) bytes.length).setCanBytes k m bytes).put
          (Fld.CAN_OBJ_CTRL_TX_STATE k m) 1)).ringConsume q false n)))

/-- Survey objects of a CAN controller (R340, R341): at the latch a signal of an object takes its fresh value where the object has a frame that is
long enough and did not become valid in t0's own cycle; of a shorter frame it is BAD_CHANNEL_FAULT, without a new frame it ages, and while
the controller takes no part it is BAD_CHANNEL_FAULT. A send object is packed and requested; not in HOLD, while its task is held and no force
applies, with a bad signal where it withholds, or by a silent module, which packs only. -/
def Claim.CanSurveyObjects : Prop :=
  ∀ (s : State) (g : Survey) (e : CanMapEntry), e.ctrl < 4 → e.object < 128 → e.task < 16 →
    (∀ j d, (canSignals g e)[j]? = some d → ∀ t, t = s.canLatchOne g e →
      (s.canTakesPart e.ctrl = false →
        t.port20 (canImageKey e + j) = slotBad d.safeValue (slotAged (s.port20 (canImageKey e + j))) Tag.BAD_CHANNEL_FAULT) ∧
      (s.canTakesPart e.ctrl = true → s.canNew e = false → t.port20 (canImageKey e + j) = slotMissedFresh d (s.port20 (canImageKey e + j))) ∧
      (s.canTakesPart e.ctrl = true → s.canNew e = true → s.get (Fld.CAN_OBJ_STAT_RX_LEN e.ctrl e.object) < e.length →
        t.port20 (canImageKey e + j) = s.canShort e d (s.port20 (canImageKey e + j)) ∧
        t.get (Fld.CAN_OBJ_STAT_SHORT e.ctrl e.object) = min 255 (s.get (Fld.CAN_OBJ_STAT_SHORT e.ctrl e.object) + 1)) ∧
      (s.canTakesPart e.ctrl = true → s.canNew e = true → e.length ≤ s.get (Fld.CAN_OBJ_STAT_RX_LEN e.ctrl e.object) →
        t.port20 (canImageKey e + j) = s.canFresh e d (ofLeBytes (s.canBytes e.ctrl e.object)) ∧
        t.bit (Fld.CAN_OBJ_CTRL_NEW e.ctrl e.object) = false)) ∧
    ((s.canSt e.ctrl).rxAt.contains (e.object, (s.task e.task).t0Cyc) = true → s.canNew e = false) ∧
    (∀ held, s.mode = .hold ∨ s.canOpen e.ctrl = false ∨ (held = true ∧ s.canForced g e = false) → s.canPack g e held = s) ∧
    (s.mode ≠ .hold → s.canOpen e.ctrl = true → e.withholdBad = false →
      (s.bit (Fld.CAN_STAT_PAIR_SILENT e.ctrl) = false → s.canPack g e false = s.canRequest e.ctrl e.object (s.canPayload g e)) ∧
      (s.bit (Fld.CAN_STAT_PAIR_SILENT e.ctrl) = true → s.txState e.ctrl e.object ≠ Tx.ATTEMPT →
        s.canPack g e false = s.setCanBytes e.ctrl e.object (s.canPayload g e))) ∧
    (∀ bs, s.txState e.ctrl e.object = Tx.ATTEMPT → (s.canRequest e.ctrl e.object bs).regs = s.regs ∧
      (e.object, bs) ∈ ((s.canRequest e.ctrl e.object bs).canSt e.ctrl).held)

/-- Reception and errors (R332, R335, R342 to R346): a frame goes to the first object that matches, whose payload it replaces; a controller that
takes no part, and an FD frame without FD_EN, change nothing; a remote frame is seen and not answered; an error is counted and told in LEC,
and by its kind moves TEC or REC of a controller that drives the bus; recovery ends with both counts 0. -/
def Claim.CanReceptionAndErrors : Prop :=
  ∀ (s : State) (k : Fin 4) (f : CanFrame) (kind : CanErrorKind) (prim : Bool),
    (s.canTakesPart k = false → exec (.canFrameRx k f) s = .next s ∧ exec (.canRemoteFrame k f) s = .next s ∧
      ∀ tx, exec (.canError k kind tx prim) s = .next s) ∧
    (f.id.getLsbD 30 = true → s.bit (Fld.CAN_CTRL_FD_EN k) = false → exec (.canFrameRx k f) s = .next s) ∧
    (s.canTakesPart k = true → (f.id.getLsbD 30 = true → s.bit (Fld.CAN_CTRL_FD_EN k) = true) →
      ((List.range 128).find? (fun m => (s.canGoodRx k).canMatches k m f.id) = none → exec (.canFrameRx k f) s = .next (s.canGoodRx k)) ∧
      (∀ m, (List.range 128).find? (fun m => (s.canGoodRx k).canMatches k m f.id) = some m →
        exec (.canFrameRx k f) s = .next ((s.canGoodRx k).canStore k m f))) ∧
    (s.get (Fld.CAN_STAT_REC k) = 0 → s.canGoodRx k = s) ∧
    (s.get (Fld.CAN_CTRL_MODE k) = 1 → s.bit (Fld.CAN_STAT_PAIR_SILENT k) = false →
      (0 < s.get (Fld.CAN_STAT_REC k) → s.get (Fld.CAN_STAT_REC k) ≤ 127 →
        s.canGoodRx k = s.canCounts k (s.get (Fld.CAN_STAT_TEC k)) (s.get (Fld.CAN_STAT_REC k) - 1)) ∧
      (127 < s.get (Fld.CAN_STAT_REC k) → ∃ n, 119 ≤ n ∧ n ≤ 127 ∧ s.canGoodRx k = s.draw.2.canCounts k (s.get (Fld.CAN_STAT_TEC k)) n)) ∧
    (∀ m : Fin 128, s.bit (Fld.CAN_OBJ_CTRL_NEW k m) = false → s.canRinged k m = false → f.data.length ≤ 64 →
      (s.canStore k m f).bit (Fld.CAN_OBJ_CTRL_NEW k m) = true ∧ (s.canStore k m f).get (Fld.CAN_OBJ_STAT_RX_LEN k m) = f.data.length ∧
      ((s.canStore k m f).canBytes k m).take f.data.length = f.data ∧
      sparseGet (fun _ => 0) ((s.canStore k m f).canSt k).rxId m.val = f.id) ∧
    (s.canTakesPart k = true → exec (.canRemoteFrame k f) s = .next (s.putBit (Fld.CAN_EVENT_RTR_SEEN k) true)) ∧
    (s.canTakesPart k = true → ∃ u, u = (s.put (Fld.CAN_EVENT_LEC k) (lecCode kind)).bump (errField k kind) ∧
      (s.canDrives k = false → (s.canSt k).attempt = none → ∀ tx, exec (.canError k kind tx prim) s = .next u) ∧
      (s.canDrives k = true → exec (.canError k kind false prim) s = .next
        (u.canCounts k (s.get (Fld.CAN_STAT_TEC k)) (s.get (Fld.CAN_STAT_REC k) + if prim then 8 else 1))) ∧
      (s.canDrives k = true → kind ≠ .ack → s.get (Fld.CAN_STAT_TEC k) + 8 ≤ 255 → exec (.canError k kind true prim) s = .next
        ((u.canCounts k (s.get (Fld.CAN_STAT_TEC k) + 8) (s.get (Fld.CAN_STAT_REC k))).stopAttempt k)) ∧
      (s.canDrives k = true → kind ≠ .ack → 255 < s.get (Fld.CAN_STAT_TEC k) + 8 → exec (.canError k kind true prim) s = .next
        (((u.canCounts k (s.get (Fld.CAN_STAT_TEC k) + 8) (s.get (Fld.CAN_STAT_REC k))).stopAttempt k).canGoesBusOff k))) ∧
    (s.get (Fld.CAN_STAT_STATE k) = 3 → exec (.canRecoveryDone k) s = .next
      ((((s.put (Fld.CAN_STAT_STATE k) 0).canCounts k 0 0).putBit (Fld.CAN_EVENT_RECOVERED k) true).fall Src.CAN_BUS_OFF k 0)) ∧
    (s.get (Fld.CAN_STAT_STATE k) ≠ 3 → exec (.canRecoveryDone k) s = .next s)

/-- Writes to a controller's registers (R334, R337, R338, R342, R344): bit timing while MODE is OFF (0b11 acts as OFF, R343) alone,
and CFG_REFUSED else; RECOVER starts
the recovery of a controller that is bus-off; a survey object refuses every write of the host; TXREQ makes a ready object PENDING, CANCEL is on
its way to the engine, and one write with both takes neither; a closed gate answers an error. -/
def Claim.CanRegisterWrites : Prop :=
  ∀ (s : State) (k : Fin 4) (m : Fin 128) (v : Word),
    (s.get (Fld.GATE_CTRL_STATE (40 + k)) ≠ 0 → ∀ reg oreg, ∀ c ∈ [Instr.canRecover k v, .canTimingWrite k reg v, .canObjWrite k m oreg v,
      .txreq k m v, .cancel k m v], exec c s = .next { s with bus := .error }) ∧
    (s.get (Fld.GATE_CTRL_STATE (40 + k)) = 0 →
      (s.get (Fld.CAN_CTRL_MODE k) = 0 ∨ s.get (Fld.CAN_CTRL_MODE k) = 3 → exec (.canTimingWrite k .nbt v) s = .next (s.regStore (Reg.CAN_NBT k) v) ∧
        exec (.canTimingWrite k .dbt v) s = .next (s.regStore (Reg.CAN_DBT k) v)) ∧
      (s.get (Fld.CAN_CTRL_MODE k) ≠ 0 → s.get (Fld.CAN_CTRL_MODE k) ≠ 3 → ∀ r ∈ [CanTimingReg.nbt, .dbt],
        exec (.canTimingWrite k r v) s = .next (s.putBit (Fld.CAN_EVENT_CFG_REFUSED k) true)) ∧
      exec (.canTimingWrite k .tdc v) s = .next (s.regStore (Reg.CAN_TDC k) v) ∧
      exec (.canTimingWrite k .ctrl v) s = exec (.canRecover k v) s ∧
      (s.get (Fld.CAN_STAT_STATE k) = 2 → (Fld.CAN_CTRL_RECOVER k).on v = true → (Fld.CAN_CTRL_MODE k).ext v = 1 →
        exec (.canRecover k v) s = .next ((s.regStore (Reg.CAN_CTRL k) v).put (Fld.CAN_STAT_STATE k) 3)) ∧
      (s.get (Fld.CAN_STAT_STATE k) ≠ 2 → (Fld.CAN_CTRL_MODE k).ext v = 1 → exec (.canRecover k v) s = .next (s.regStore (Reg.CAN_CTRL k) v)) ∧
      (s.bit (Fld.CAN_OBJ_CTRL_SURVEY k m) = true → ∀ oreg, ∀ c ∈ [Instr.canObjWrite k m oreg v, .txreq k m v, .cancel k m v],
        exec c s = .next (s.putBit (Fld.CAN_EVENT_CFG_REFUSED k) true)) ∧
      (s.bit (Fld.CAN_OBJ_CTRL_SURVEY k m) = false →
        exec (.canObjWrite k m .id v) s = .next (s.regStore (Reg.CAN_OBJ_ID k m) v) ∧
        exec (.canObjWrite k m .mask v) s = .next (s.regStore (Reg.CAN_OBJ_MASK k m) v) ∧
        (∀ w, s.canDataWritable k m = true → exec (.canObjWrite k m (.data w) v) s = .next (s.regStore (Reg.CAN_OBJ_DATA k m w.val) v)) ∧
        (∀ w, s.canDataWritable k m = false → exec (.canObjWrite k m (.data w) v) s = .next s) ∧
        ((Fld.CAN_OBJ_CTRL_TXREQ k m).on v = true → (Fld.CAN_OBJ_CTRL_CANCEL k m).on v = true →
          exec (.txreq k m v) s = .next s ∧ exec (.cancel k m v) s = .next s ∧ exec (.canObjWrite k m .ctrl v) s = .next s) ∧
        ((Fld.CAN_OBJ_CTRL_TXREQ k m).on v = true → (Fld.CAN_OBJ_CTRL_CANCEL k m).on v = false →
          exec (.txreq k m v) s = .next ((s.regStore (Reg.CAN_OBJ_CTRL k m) v).canTxreq k m)) ∧
        ((Fld.CAN_OBJ_CTRL_TXREQ k m).on v = false → (Fld.CAN_OBJ_CTRL_CANCEL k m).on v = true → ∃ t,
          exec (.cancel k m v) s = .next t ∧ t.regs = (s.regStore (Reg.CAN_OBJ_CTRL k m) v).regs ∧ (t.canSt k).cancels.contains m.val = true))) ∧
    (s.txState k m = Tx.PENDING ∨ s.txState k m = Tx.ATTEMPT ∨ s.bit (Fld.CAN_OBJ_CTRL_ENABLE k m) = false ∨
      s.bit (Fld.CAN_OBJ_CTRL_DIR k m) = false ∨ s.bit (Fld.CAN_OBJ_CTRL_RING k m) = true → s.canTxreq k m = s) ∧
    (s.txState k m ≠ Tx.PENDING → s.txState k m ≠ Tx.ATTEMPT → s.bit (Fld.CAN_OBJ_CTRL_ENABLE k m) = true →
      s.bit (Fld.CAN_OBJ_CTRL_DIR k m) = true → s.bit (Fld.CAN_OBJ_CTRL_RING k m) = false →
      canLengthOk (s.getReg (Reg.CAN_OBJ_ID k m)) (s.get (Fld.CAN_OBJ_CTRL_LENGTH k m)) = true →
      canFormatOk (s.getReg (Reg.CAN_OBJ_ID k m)) = true → s.canTxreq k m = s.put (Fld.CAN_OBJ_CTRL_TX_STATE k m) 1)

/-- CAN attempts and cancels, survey objects, reception, errors, and register writes: what the parts say, taken together. -/
def Obligations.CanControllers : Prop := Claim.CanTransmission ∧ Claim.CanSurveyObjects ∧ Claim.CanReceptionAndErrors ∧ Claim.CanRegisterWrites
end

