-- ==== Sys2Proof/Laws/Sparse.lean ====
section
/-! SUPPORT. Sparse tables: what a write leaves at each key, and that writes keep the canonical form. -/
namespace Sys2Proof.Machine

variable {β : Type}

theorem sparseGet_erase_same (f : Nat → β) (m : List (Nat × β)) (k : Nat) : sparseGet f (sparseErase m k) k = f k := by
  induction m with
  | nil => rfl
  | cons p m ih =>
    unfold sparseErase at ih ⊢
    by_cases h : p.1 = k
    · simpa [h] using ih
    · simpa [h, sparseGet] using ih

theorem sparseGet_erase_ne (f : Nat → β) (m : List (Nat × β)) {k j : Nat} (h : j ≠ k) :
    sparseGet f (sparseErase m k) j = sparseGet f m j := by
  induction m with
  | nil => rfl
  | cons p m ih =>
    unfold sparseErase at ih ⊢
    by_cases hk : p.1 = k
    · have hj : p.1 ≠ j := fun e => h (e.symm.trans hk)
      simpa [hk, sparseGet, hj, Ne.symm h] using ih
    · by_cases hj : p.1 = j
      · subst hj; simp [hk, sparseGet]
      · simpa [hk, hj, sparseGet] using ih

theorem sparseGet_insert_same (f : Nat → β) (m : List (Nat × β)) (k : Nat) (v : β) : sparseGet f (sparseInsert m k v) k = v := by
  induction m with
  | nil => simp [sparseInsert, sparseGet]
  | cons p m ih =>
    unfold sparseInsert
    split
    · simp [sparseGet]
    · split
      · simp [sparseGet]
      · rename_i h1 h2
        have : p.1 ≠ k := fun e => h2 e.symm
        simpa [sparseGet, this] using ih

theorem sparseGet_insert_ne (f : Nat → β) (m : List (Nat × β)) {k j : Nat} (v : β) (h : j ≠ k) :
    sparseGet f (sparseInsert m k v) j = sparseGet f m j := by
  induction m with
  | nil => simp [sparseInsert, sparseGet, Ne.symm h]
  | cons p m ih =>
    unfold sparseInsert
    split
    · simp [sparseGet, Ne.symm h]
    · split
      · rename_i h2
        subst h2
        simp [sparseGet, Ne.symm h]
      · by_cases hj : p.1 = j
        · simp [sparseGet, hj]
        · simpa [sparseGet, hj] using ih

/-- A read of the key written gives the value written. -/
theorem sparseGet_set_same [DecidableEq β] (f : Nat → β) (m : List (Nat × β)) (k : Nat) (v : β) : sparseGet f (sparseSet f m k v) k = v := by
  unfold sparseSet
  split
  · rename_i h
    rw [sparseGet_erase_same, h]
  · exact sparseGet_insert_same f m k v

/-- A write leaves every other key alone. -/
theorem sparseGet_set_ne [DecidableEq β] (f : Nat → β) (m : List (Nat × β)) {k j : Nat} (v : β) (h : j ≠ k) :
    sparseGet f (sparseSet f m k v) j = sparseGet f m j := by
  unfold sparseSet
  split
  · exact sparseGet_erase_ne f m h
  · exact sparseGet_insert_ne f m v h

theorem sparseGet_set [DecidableEq β] (f : Nat → β) (m : List (Nat × β)) (k j : Nat) (v : β) :
    sparseGet f (sparseSet f m k v) j = if j = k then v else sparseGet f m j := by
  split
  · rename_i h; rw [h]; exact sparseGet_set_same f m k v
  · rename_i h; exact sparseGet_set_ne f m v h

/-- The canonical form, as keys in order and entries that differ from the default. -/
theorem sparseWf_iff [DecidableEq β] (f : Nat → β) (m : List (Nat × β)) :
    sparseWf f m = true ↔ m.Pairwise (fun p q => p.1 < q.1) ∧ ∀ p ∈ m, p.2 ≠ f p.1 := by
  have hs : ∀ m : List (Nat × β), sparseSorted m = true ↔ m.Pairwise (fun p q => p.1 < q.1) := by
    intro m
    induction m with
    | nil => simp [sparseSorted]
    | cons p m ih =>
      cases m with
      | nil => simp [sparseSorted]
      | cons q m =>
        simp only [sparseSorted, Bool.and_eq_true, decide_eq_true_eq, ih, List.pairwise_cons]
        constructor
        · rintro ⟨h, h1, h2⟩
          refine ⟨?_, h1, h2⟩
          intro a ha
          rcases List.mem_cons.1 ha with rfl | ha
          · exact h
          · exact lt_trans h (h1 a ha)
        · rintro ⟨h, h1, h2⟩
          exact ⟨h q (by simp), h1, h2⟩
  simp [sparseWf, hs]

theorem sparseWf_filter [DecidableEq β] (f : Nat → β) (m : List (Nat × β)) (c : Nat × β → Bool) (h : sparseWf f m = true) :
    sparseWf f (m.filter c) = true := by
  rw [sparseWf_iff] at h ⊢
  exact ⟨h.1.filter c, fun p hp => h.2 p (List.mem_filter.1 hp).1⟩

theorem sparseWf_erase [DecidableEq β] (f : Nat → β) (m : List (Nat × β)) (k : Nat) (h : sparseWf f m = true) : sparseWf f (sparseErase m k) = true :=
  sparseWf_filter f m _ h

theorem mem_sparseInsert (m : List (Nat × β)) (k : Nat) (v : β) (p : Nat × β) (h : p ∈ sparseInsert m k v) : p = (k, v) ∨ p ∈ m := by
  induction m with
  | nil => simpa [sparseInsert] using h
  | cons q m ih =>
    unfold sparseInsert at h
    split at h
    · simpa using h
    · split at h
      · rcases List.mem_cons.1 h with h | h
        · exact Or.inl h
        · exact Or.inr (List.mem_cons_of_mem _ h)
      · rcases List.mem_cons.1 h with h | h
        · exact Or.inr (by rw [h]; exact List.mem_cons_self)
        · rcases ih h with h | h
          · exact Or.inl h
          · exact Or.inr (List.mem_cons_of_mem _ h)

theorem sparseWf_insert [DecidableEq β] (f : Nat → β) (m : List (Nat × β)) (k : Nat) (v : β) (hv : v ≠ f k) (h : sparseWf f m = true) :
    sparseWf f (sparseInsert m k v) = true := by
  rw [sparseWf_iff] at h ⊢
  refine ⟨?_, ?_⟩
  · have h1 := h.1
    clear h hv
    induction m with
    | nil => simp [sparseInsert]
    | cons q m ih =>
      rw [List.pairwise_cons] at h1
      unfold sparseInsert
      split
      · rename_i hk
        rw [List.pairwise_cons, List.pairwise_cons]
        refine ⟨?_, h1⟩
        intro a ha
        rcases List.mem_cons.1 ha with rfl | ha
        · exact hk
        · exact lt_trans hk (h1.1 a ha)
      · split
        · rename_i hk
          rw [List.pairwise_cons]
          exact ⟨fun a ha => by simpa [hk] using h1.1 a ha, h1.2⟩
        · rename_i hk1 hk2
          rw [List.pairwise_cons]
          refine ⟨?_, ih h1.2⟩
          intro a ha
          rcases mem_sparseInsert m k v a ha with rfl | ha
          · show q.1 < k
            omega
          · exact h1.1 a ha
  · intro p hp
    rcases mem_sparseInsert m k v p hp with rfl | hp
    · exact hv
    · exact h.2 p hp

/-- A write keeps the canonical form. -/
theorem sparseWf_set [DecidableEq β] (f : Nat → β) (m : List (Nat × β)) (k : Nat) (v : β) (h : sparseWf f m = true) :
    sparseWf f (sparseSet f m k v) = true := by
  unfold sparseSet
  split
  · exact sparseWf_erase f m k h
  · rename_i hv; exact sparseWf_insert f m k v hv h

end Sys2Proof.Machine
end

