-- ==== Sys2Proof/Laws/Lane.lean ====
section
/-! SUPPORT. Instructions of a lane: what a command of a lane that issues does, said once for all of them. -/
namespace Sys2Proof.Machine

/-- An instruction of a lane that issues: its effect on that lane, and what the lane's end brings. -/
theorem laneOp_of_issues {s : State} {c : Fin 16} {w : Lane} {x l} (op : LaneOp) (h : laneIssues s c w x l) :
    s.laneOp c.val w op = s.laneDone c.val w (l.after (laneEffect l (s.laneEnv c.val x) op)) := by
  obtain ⟨h1, h2, h3, h4⟩ := h
  subst h3
  simp [State.laneOp, h1, State.laneIssue, h2, h4]

/-- A lane that issues is running. -/
theorem laneIssues_running {s : State} {c : Fin 16} {w : Lane} {x l} (h : laneIssues s c w x l) : l.fin = .running := by
  obtain ⟨h1, h2, h3, h4⟩ := h
  subst h3
  simp [State.laneRuns] at h1
  exact h1.1.2

/-- A lane that runs on changes nothing but itself. -/
theorem laneDone_running {s : State} {c : Fin 16} {w : Lane} {m : LaneState} (h : m.fin = .running) :
    s.laneDone c.val w m = laneAlone s c w m := by simp [State.laneDone, h, laneAlone]

/-- A register written with its tag (R124). -/
theorem laneWrites_setReg (l : LaneState) (d : BitVec 5) (v : DWord) (t : Nibble) (n : Nat) :
    laneWrites l { (l.next.setReg d v t) with cycles := l.cycles + n } d v t n := by
  have tn : ∀ k : BitVec 5, d ≠ k → ¬ d.toNat = k.toNat := fun k h h' => h (BitVec.eq_of_toNat_eq h')
  refine ⟨?_, ?_, ?_, rfl, ?_⟩
  · intro k
    by_cases hd : d = 0 <;> by_cases hk : k = 0 <;> by_cases hkd : k = d <;>
      simp_all [LaneState.setReg, LaneState.setTag, LaneState.next, LaneState.reg, sparseGet_set, BitVec.toNat_inj]
  · intro k
    by_cases hd : d = 0 <;> by_cases hk : k = 0 <;> by_cases hkd : k = d <;>
      simp_all [LaneState.setReg, LaneState.setTag, LaneState.next, LaneState.tag, sparseGet_set, BitVec.toNat_inj]
  · simp only [LaneState.setReg, LaneState.setTag]; split <;> rfl
  · simp only [LaneState.setReg, LaneState.setTag]; split <;> rfl

theorem LaneState.fin_next_setReg (l : LaneState) (d : BitVec 5) (v : DWord) (t : Nibble) : (l.next.setReg d v t).fin = l.fin := by
  simp only [LaneState.setReg, LaneState.setTag]; split <;> rfl

/-- An instruction whose effect is one register written: the command answers the lane with that register and nothing else changed. -/
theorem lane_result {s : State} {c : Fin 16} {w : Lane} {x l} (op : LaneOp) (d v t n v' t' n') (h : laneIssues s c w x l)
    (e : laneEffect l (s.laneEnv c.val x) op = .ok (l.next.setReg d v t) n) (hv : v = v') (ht : t = t') (hn : n = n') :
    ∃ m, Host.Outcome.next (s.laneOp c.val w op) = (.next (laneAlone s c w m) : Host.Outcome State Fault Refusal) ∧ laneWrites l m d v' t' n' := by
  subst hv ht hn
  refine ⟨_, ?_, laneWrites_setReg l d v t n⟩
  rw [laneOp_of_issues op h, e]
  simp only [LaneState.after]
  rw [laneDone_running]
  simp [LaneState.fin_next_setReg, laneIssues_running h]

end Sys2Proof.Machine
end

