-- ==== Sys2Proof/Laws/State.lean ====
section
/-! SUPPORT. What each plain update of the state leaves in each field: one lemma per field per update, so that no proof unfolds a record
update. -/
namespace Sys2Proof.Machine

variable (s : State)

/-! ### setReg -/

@[simp] theorem State.setReg_pending (a : Nat) (v : BitVec 32) : (s.setReg a v).pending = s.pending := rfl
@[simp] theorem State.setReg_mode (a : Nat) (v : BitVec 32) : (s.setReg a v).mode = s.mode := rfl
@[simp] theorem State.setReg_core (a : Nat) (v : BitVec 32) : (s.setReg a v).core = s.core := rfl
@[simp] theorem State.setReg_rst (a : Nat) (v : BitVec 32) : (s.setReg a v).rst = s.rst := rfl
@[simp] theorem State.setReg_gates (a : Nat) (v : BitVec 32) : (s.setReg a v).gates = s.gates := rfl
@[simp] theorem State.setReg_load (a : Nat) (v : BitVec 32) : (s.setReg a v).load = s.load := rfl
@[simp] theorem State.setReg_store (a : Nat) (v : BitVec 32) : (s.setReg a v).store = s.store := rfl
@[simp] theorem State.setReg_banks (a : Nat) (v : BitVec 32) : (s.setReg a v).banks = s.banks := rfl
@[simp] theorem State.setReg_chambers (a : Nat) (v : BitVec 32) : (s.setReg a v).chambers = s.chambers := rfl
@[simp] theorem State.setReg_inst (a : Nat) (v : BitVec 32) : (s.setReg a v).inst = s.inst := rfl
@[simp] theorem State.setReg_tasks (a : Nat) (v : BitVec 32) : (s.setReg a v).tasks = s.tasks := rfl
@[simp] theorem State.setReg_seq (a : Nat) (v : BitVec 32) : (s.setReg a v).seq = s.seq := rfl
@[simp] theorem State.setReg_sig (a : Nat) (v : BitVec 32) : (s.setReg a v).sig = s.sig := rfl
@[simp] theorem State.setReg_ls (a : Nat) (v : BitVec 32) : (s.setReg a v).ls = s.ls := rfl
@[simp] theorem State.setReg_olc (a : Nat) (v : BitVec 32) : (s.setReg a v).olc = s.olc := rfl
@[simp] theorem State.setReg_frc (a : Nat) (v : BitVec 32) : (s.setReg a v).frc = s.frc := rfl
@[simp] theorem State.setReg_pair (a : Nat) (v : BitVec 32) : (s.setReg a v).pair = s.pair := rfl
@[simp] theorem State.setReg_time (a : Nat) (v : BitVec 32) : (s.setReg a v).time = s.time := rfl
@[simp] theorem State.setReg_drips (a : Nat) (v : BitVec 32) : (s.setReg a v).drips = s.drips := rfl
@[simp] theorem State.setReg_caps (a : Nat) (v : BitVec 32) : (s.setReg a v).caps = s.caps := rfl
@[simp] theorem State.setReg_isl (a : Nat) (v : BitVec 32) : (s.setReg a v).isl = s.isl := rfl
@[simp] theorem State.setReg_factory (a : Nat) (v : BitVec 32) : (s.setReg a v).factory = s.factory := rfl
@[simp] theorem State.setReg_cal (a : Nat) (v : BitVec 32) : (s.setReg a v).cal = s.cal := rfl
@[simp] theorem State.setReg_fl (a : Nat) (v : BitVec 32) : (s.setReg a v).fl = s.fl := rfl
@[simp] theorem State.setReg_bb (a : Nat) (v : BitVec 32) : (s.setReg a v).bb = s.bb := rfl
@[simp] theorem State.setReg_can (a : Nat) (v : BitVec 32) : (s.setReg a v).can = s.can := rfl
@[simp] theorem State.setReg_sump (a : Nat) (v : BitVec 32) : (s.setReg a v).sump = s.sump := rfl
@[simp] theorem State.setReg_fls (a : Nat) (v : BitVec 32) : (s.setReg a v).fls = s.fls := rfl
@[simp] theorem State.setReg_sec (a : Nat) (v : BitVec 32) : (s.setReg a v).sec = s.sec := rfl
@[simp] theorem State.setReg_tp (a : Nat) (v : BitVec 32) : (s.setReg a v).tp = s.tp := rfl
@[simp] theorem State.setReg_pwr (a : Nat) (v : BitVec 32) : (s.setReg a v).pwr = s.pwr := rfl
@[simp] theorem State.setReg_upd (a : Nat) (v : BitVec 32) : (s.setReg a v).upd = s.upd := rfl
@[simp] theorem State.setReg_sram (a : Nat) (v : BitVec 32) : (s.setReg a v).sram = s.sram := rfl
@[simp] theorem State.setReg_guardWaits (a : Nat) (v : BitVec 32) : (s.setReg a v).guardWaits = s.guardWaits := rfl
@[simp] theorem State.setReg_out (a : Nat) (v : BitVec 32) : (s.setReg a v).out = s.out := rfl
@[simp] theorem State.setReg_bus (a : Nat) (v : BitVec 32) : (s.setReg a v).bus = s.bus := rfl
@[simp] theorem State.setReg_freeCtr (a : Nat) (v : BitVec 32) : (s.setReg a v).freeCtr = s.freeCtr := rfl

/-! ### put -/

@[simp] theorem State.put_pending (f : RegField) (v : Nat) : (s.put f v).pending = s.pending := rfl
@[simp] theorem State.put_mode (f : RegField) (v : Nat) : (s.put f v).mode = s.mode := rfl
@[simp] theorem State.put_core (f : RegField) (v : Nat) : (s.put f v).core = s.core := rfl
@[simp] theorem State.put_rst (f : RegField) (v : Nat) : (s.put f v).rst = s.rst := rfl
@[simp] theorem State.put_gates (f : RegField) (v : Nat) : (s.put f v).gates = s.gates := rfl
@[simp] theorem State.put_load (f : RegField) (v : Nat) : (s.put f v).load = s.load := rfl
@[simp] theorem State.put_store (f : RegField) (v : Nat) : (s.put f v).store = s.store := rfl
@[simp] theorem State.put_banks (f : RegField) (v : Nat) : (s.put f v).banks = s.banks := rfl
@[simp] theorem State.put_chambers (f : RegField) (v : Nat) : (s.put f v).chambers = s.chambers := rfl
@[simp] theorem State.put_inst (f : RegField) (v : Nat) : (s.put f v).inst = s.inst := rfl
@[simp] theorem State.put_tasks (f : RegField) (v : Nat) : (s.put f v).tasks = s.tasks := rfl
@[simp] theorem State.put_seq (f : RegField) (v : Nat) : (s.put f v).seq = s.seq := rfl
@[simp] theorem State.put_sig (f : RegField) (v : Nat) : (s.put f v).sig = s.sig := rfl
@[simp] theorem State.put_ls (f : RegField) (v : Nat) : (s.put f v).ls = s.ls := rfl
@[simp] theorem State.put_olc (f : RegField) (v : Nat) : (s.put f v).olc = s.olc := rfl
@[simp] theorem State.put_frc (f : RegField) (v : Nat) : (s.put f v).frc = s.frc := rfl
@[simp] theorem State.put_pair (f : RegField) (v : Nat) : (s.put f v).pair = s.pair := rfl
@[simp] theorem State.put_time (f : RegField) (v : Nat) : (s.put f v).time = s.time := rfl
@[simp] theorem State.put_drips (f : RegField) (v : Nat) : (s.put f v).drips = s.drips := rfl
@[simp] theorem State.put_caps (f : RegField) (v : Nat) : (s.put f v).caps = s.caps := rfl
@[simp] theorem State.put_isl (f : RegField) (v : Nat) : (s.put f v).isl = s.isl := rfl
@[simp] theorem State.put_factory (f : RegField) (v : Nat) : (s.put f v).factory = s.factory := rfl
@[simp] theorem State.put_cal (f : RegField) (v : Nat) : (s.put f v).cal = s.cal := rfl
@[simp] theorem State.put_fl (f : RegField) (v : Nat) : (s.put f v).fl = s.fl := rfl
@[simp] theorem State.put_bb (f : RegField) (v : Nat) : (s.put f v).bb = s.bb := rfl
@[simp] theorem State.put_can (f : RegField) (v : Nat) : (s.put f v).can = s.can := rfl
@[simp] theorem State.put_sump (f : RegField) (v : Nat) : (s.put f v).sump = s.sump := rfl
@[simp] theorem State.put_fls (f : RegField) (v : Nat) : (s.put f v).fls = s.fls := rfl
@[simp] theorem State.put_sec (f : RegField) (v : Nat) : (s.put f v).sec = s.sec := rfl
@[simp] theorem State.put_tp (f : RegField) (v : Nat) : (s.put f v).tp = s.tp := rfl
@[simp] theorem State.put_pwr (f : RegField) (v : Nat) : (s.put f v).pwr = s.pwr := rfl
@[simp] theorem State.put_upd (f : RegField) (v : Nat) : (s.put f v).upd = s.upd := rfl
@[simp] theorem State.put_sram (f : RegField) (v : Nat) : (s.put f v).sram = s.sram := rfl
@[simp] theorem State.put_guardWaits (f : RegField) (v : Nat) : (s.put f v).guardWaits = s.guardWaits := rfl
@[simp] theorem State.put_out (f : RegField) (v : Nat) : (s.put f v).out = s.out := rfl
@[simp] theorem State.put_bus (f : RegField) (v : Nat) : (s.put f v).bus = s.bus := rfl
@[simp] theorem State.put_freeCtr (f : RegField) (v : Nat) : (s.put f v).freeCtr = s.freeCtr := rfl

/-! ### putBit -/

@[simp] theorem State.putBit_pending (f : RegField) (b : Bool) : (s.putBit f b).pending = s.pending := rfl
@[simp] theorem State.putBit_mode (f : RegField) (b : Bool) : (s.putBit f b).mode = s.mode := rfl
@[simp] theorem State.putBit_core (f : RegField) (b : Bool) : (s.putBit f b).core = s.core := rfl
@[simp] theorem State.putBit_rst (f : RegField) (b : Bool) : (s.putBit f b).rst = s.rst := rfl
@[simp] theorem State.putBit_gates (f : RegField) (b : Bool) : (s.putBit f b).gates = s.gates := rfl
@[simp] theorem State.putBit_load (f : RegField) (b : Bool) : (s.putBit f b).load = s.load := rfl
@[simp] theorem State.putBit_store (f : RegField) (b : Bool) : (s.putBit f b).store = s.store := rfl
@[simp] theorem State.putBit_banks (f : RegField) (b : Bool) : (s.putBit f b).banks = s.banks := rfl
@[simp] theorem State.putBit_chambers (f : RegField) (b : Bool) : (s.putBit f b).chambers = s.chambers := rfl
@[simp] theorem State.putBit_inst (f : RegField) (b : Bool) : (s.putBit f b).inst = s.inst := rfl
@[simp] theorem State.putBit_tasks (f : RegField) (b : Bool) : (s.putBit f b).tasks = s.tasks := rfl
@[simp] theorem State.putBit_seq (f : RegField) (b : Bool) : (s.putBit f b).seq = s.seq := rfl
@[simp] theorem State.putBit_sig (f : RegField) (b : Bool) : (s.putBit f b).sig = s.sig := rfl
@[simp] theorem State.putBit_ls (f : RegField) (b : Bool) : (s.putBit f b).ls = s.ls := rfl
@[simp] theorem State.putBit_olc (f : RegField) (b : Bool) : (s.putBit f b).olc = s.olc := rfl
@[simp] theorem State.putBit_frc (f : RegField) (b : Bool) : (s.putBit f b).frc = s.frc := rfl
@[simp] theorem State.putBit_pair (f : RegField) (b : Bool) : (s.putBit f b).pair = s.pair := rfl
@[simp] theorem State.putBit_time (f : RegField) (b : Bool) : (s.putBit f b).time = s.time := rfl
@[simp] theorem State.putBit_drips (f : RegField) (b : Bool) : (s.putBit f b).drips = s.drips := rfl
@[simp] theorem State.putBit_caps (f : RegField) (b : Bool) : (s.putBit f b).caps = s.caps := rfl
@[simp] theorem State.putBit_isl (f : RegField) (b : Bool) : (s.putBit f b).isl = s.isl := rfl
@[simp] theorem State.putBit_factory (f : RegField) (b : Bool) : (s.putBit f b).factory = s.factory := rfl
@[simp] theorem State.putBit_cal (f : RegField) (b : Bool) : (s.putBit f b).cal = s.cal := rfl
@[simp] theorem State.putBit_fl (f : RegField) (b : Bool) : (s.putBit f b).fl = s.fl := rfl
@[simp] theorem State.putBit_bb (f : RegField) (b : Bool) : (s.putBit f b).bb = s.bb := rfl
@[simp] theorem State.putBit_can (f : RegField) (b : Bool) : (s.putBit f b).can = s.can := rfl
@[simp] theorem State.putBit_sump (f : RegField) (b : Bool) : (s.putBit f b).sump = s.sump := rfl
@[simp] theorem State.putBit_fls (f : RegField) (b : Bool) : (s.putBit f b).fls = s.fls := rfl
@[simp] theorem State.putBit_sec (f : RegField) (b : Bool) : (s.putBit f b).sec = s.sec := rfl
@[simp] theorem State.putBit_tp (f : RegField) (b : Bool) : (s.putBit f b).tp = s.tp := rfl
@[simp] theorem State.putBit_pwr (f : RegField) (b : Bool) : (s.putBit f b).pwr = s.pwr := rfl
@[simp] theorem State.putBit_upd (f : RegField) (b : Bool) : (s.putBit f b).upd = s.upd := rfl
@[simp] theorem State.putBit_sram (f : RegField) (b : Bool) : (s.putBit f b).sram = s.sram := rfl
@[simp] theorem State.putBit_guardWaits (f : RegField) (b : Bool) : (s.putBit f b).guardWaits = s.guardWaits := rfl
@[simp] theorem State.putBit_out (f : RegField) (b : Bool) : (s.putBit f b).out = s.out := rfl
@[simp] theorem State.putBit_bus (f : RegField) (b : Bool) : (s.putBit f b).bus = s.bus := rfl
@[simp] theorem State.putBit_freeCtr (f : RegField) (b : Bool) : (s.putBit f b).freeCtr = s.freeCtr := rfl

/-! ### putAll -/

theorem State.putAll_nil : s.putAll [] = s := rfl

theorem State.putAll_cons (p : RegField × Nat) (l : List (RegField × Nat)) : s.putAll (p :: l) = (s.put p.1 p.2).putAll l := rfl

/-- Several fields change the register file alone. -/
theorem State.putAll_regs_only (l : List (RegField × Nat)) : s.putAll l = { s with regs := (s.putAll l).regs } := by
  induction l generalizing s with
  | nil => rfl
  | cons p l ih => rw [State.putAll_cons, ih]; rfl

/-! ### putAll, field by field -/

@[simp] theorem State.putAll_pending (l : List (RegField × Nat)) : (s.putAll l).pending = s.pending := by rw [State.putAll_regs_only]
@[simp] theorem State.putAll_mode (l : List (RegField × Nat)) : (s.putAll l).mode = s.mode := by rw [State.putAll_regs_only]
@[simp] theorem State.putAll_core (l : List (RegField × Nat)) : (s.putAll l).core = s.core := by rw [State.putAll_regs_only]
@[simp] theorem State.putAll_rst (l : List (RegField × Nat)) : (s.putAll l).rst = s.rst := by rw [State.putAll_regs_only]
@[simp] theorem State.putAll_gates (l : List (RegField × Nat)) : (s.putAll l).gates = s.gates := by rw [State.putAll_regs_only]
@[simp] theorem State.putAll_load (l : List (RegField × Nat)) : (s.putAll l).load = s.load := by rw [State.putAll_regs_only]
@[simp] theorem State.putAll_store (l : List (RegField × Nat)) : (s.putAll l).store = s.store := by rw [State.putAll_regs_only]
@[simp] theorem State.putAll_banks (l : List (RegField × Nat)) : (s.putAll l).banks = s.banks := by rw [State.putAll_regs_only]
@[simp] theorem State.putAll_chambers (l : List (RegField × Nat)) : (s.putAll l).chambers = s.chambers := by rw [State.putAll_regs_only]
@[simp] theorem State.putAll_inst (l : List (RegField × Nat)) : (s.putAll l).inst = s.inst := by rw [State.putAll_regs_only]
@[simp] theorem State.putAll_tasks (l : List (RegField × Nat)) : (s.putAll l).tasks = s.tasks := by rw [State.putAll_regs_only]
@[simp] theorem State.putAll_seq (l : List (RegField × Nat)) : (s.putAll l).seq = s.seq := by rw [State.putAll_regs_only]
@[simp] theorem State.putAll_sig (l : List (RegField × Nat)) : (s.putAll l).sig = s.sig := by rw [State.putAll_regs_only]
@[simp] theorem State.putAll_ls (l : List (RegField × Nat)) : (s.putAll l).ls = s.ls := by rw [State.putAll_regs_only]
@[simp] theorem State.putAll_olc (l : List (RegField × Nat)) : (s.putAll l).olc = s.olc := by rw [State.putAll_regs_only]
@[simp] theorem State.putAll_frc (l : List (RegField × Nat)) : (s.putAll l).frc = s.frc := by rw [State.putAll_regs_only]
@[simp] theorem State.putAll_pair (l : List (RegField × Nat)) : (s.putAll l).pair = s.pair := by rw [State.putAll_regs_only]
@[simp] theorem State.putAll_time (l : List (RegField × Nat)) : (s.putAll l).time = s.time := by rw [State.putAll_regs_only]
@[simp] theorem State.putAll_drips (l : List (RegField × Nat)) : (s.putAll l).drips = s.drips := by rw [State.putAll_regs_only]
@[simp] theorem State.putAll_caps (l : List (RegField × Nat)) : (s.putAll l).caps = s.caps := by rw [State.putAll_regs_only]
@[simp] theorem State.putAll_isl (l : List (RegField × Nat)) : (s.putAll l).isl = s.isl := by rw [State.putAll_regs_only]
@[simp] theorem State.putAll_factory (l : List (RegField × Nat)) : (s.putAll l).factory = s.factory := by rw [State.putAll_regs_only]
@[simp] theorem State.putAll_cal (l : List (RegField × Nat)) : (s.putAll l).cal = s.cal := by rw [State.putAll_regs_only]
@[simp] theorem State.putAll_fl (l : List (RegField × Nat)) : (s.putAll l).fl = s.fl := by rw [State.putAll_regs_only]
@[simp] theorem State.putAll_bb (l : List (RegField × Nat)) : (s.putAll l).bb = s.bb := by rw [State.putAll_regs_only]
@[simp] theorem State.putAll_can (l : List (RegField × Nat)) : (s.putAll l).can = s.can := by rw [State.putAll_regs_only]
@[simp] theorem State.putAll_sump (l : List (RegField × Nat)) : (s.putAll l).sump = s.sump := by rw [State.putAll_regs_only]
@[simp] theorem State.putAll_fls (l : List (RegField × Nat)) : (s.putAll l).fls = s.fls := by rw [State.putAll_regs_only]
@[simp] theorem State.putAll_sec (l : List (RegField × Nat)) : (s.putAll l).sec = s.sec := by rw [State.putAll_regs_only]
@[simp] theorem State.putAll_tp (l : List (RegField × Nat)) : (s.putAll l).tp = s.tp := by rw [State.putAll_regs_only]
@[simp] theorem State.putAll_pwr (l : List (RegField × Nat)) : (s.putAll l).pwr = s.pwr := by rw [State.putAll_regs_only]
@[simp] theorem State.putAll_upd (l : List (RegField × Nat)) : (s.putAll l).upd = s.upd := by rw [State.putAll_regs_only]
@[simp] theorem State.putAll_sram (l : List (RegField × Nat)) : (s.putAll l).sram = s.sram := by rw [State.putAll_regs_only]
@[simp] theorem State.putAll_guardWaits (l : List (RegField × Nat)) : (s.putAll l).guardWaits = s.guardWaits := by rw [State.putAll_regs_only]
@[simp] theorem State.putAll_out (l : List (RegField × Nat)) : (s.putAll l).out = s.out := by rw [State.putAll_regs_only]
@[simp] theorem State.putAll_bus (l : List (RegField × Nat)) : (s.putAll l).bus = s.bus := by rw [State.putAll_regs_only]
@[simp] theorem State.putAll_freeCtr (l : List (RegField × Nat)) : (s.putAll l).freeCtr = s.freeCtr := by rw [State.putAll_regs_only]

/-! ### bump -/

@[simp] theorem State.bump_pending (f : RegField) : (s.bump f).pending = s.pending := by unfold State.bump; split <;> rfl
@[simp] theorem State.bump_mode (f : RegField) : (s.bump f).mode = s.mode := by unfold State.bump; split <;> rfl
@[simp] theorem State.bump_core (f : RegField) : (s.bump f).core = s.core := by unfold State.bump; split <;> rfl
@[simp] theorem State.bump_rst (f : RegField) : (s.bump f).rst = s.rst := by unfold State.bump; split <;> rfl
@[simp] theorem State.bump_gates (f : RegField) : (s.bump f).gates = s.gates := by unfold State.bump; split <;> rfl
@[simp] theorem State.bump_load (f : RegField) : (s.bump f).load = s.load := by unfold State.bump; split <;> rfl
@[simp] theorem State.bump_store (f : RegField) : (s.bump f).store = s.store := by unfold State.bump; split <;> rfl
@[simp] theorem State.bump_banks (f : RegField) : (s.bump f).banks = s.banks := by unfold State.bump; split <;> rfl
@[simp] theorem State.bump_chambers (f : RegField) : (s.bump f).chambers = s.chambers := by unfold State.bump; split <;> rfl
@[simp] theorem State.bump_inst (f : RegField) : (s.bump f).inst = s.inst := by unfold State.bump; split <;> rfl
@[simp] theorem State.bump_tasks (f : RegField) : (s.bump f).tasks = s.tasks := by unfold State.bump; split <;> rfl
@[simp] theorem State.bump_seq (f : RegField) : (s.bump f).seq = s.seq := by unfold State.bump; split <;> rfl
@[simp] theorem State.bump_sig (f : RegField) : (s.bump f).sig = s.sig := by unfold State.bump; split <;> rfl
@[simp] theorem State.bump_ls (f : RegField) : (s.bump f).ls = s.ls := by unfold State.bump; split <;> rfl
@[simp] theorem State.bump_olc (f : RegField) : (s.bump f).olc = s.olc := by unfold State.bump; split <;> rfl
@[simp] theorem State.bump_frc (f : RegField) : (s.bump f).frc = s.frc := by unfold State.bump; split <;> rfl
@[simp] theorem State.bump_pair (f : RegField) : (s.bump f).pair = s.pair := by unfold State.bump; split <;> rfl
@[simp] theorem State.bump_time (f : RegField) : (s.bump f).time = s.time := by unfold State.bump; split <;> rfl
@[simp] theorem State.bump_drips (f : RegField) : (s.bump f).drips = s.drips := by unfold State.bump; split <;> rfl
@[simp] theorem State.bump_caps (f : RegField) : (s.bump f).caps = s.caps := by unfold State.bump; split <;> rfl
@[simp] theorem State.bump_isl (f : RegField) : (s.bump f).isl = s.isl := by unfold State.bump; split <;> rfl
@[simp] theorem State.bump_factory (f : RegField) : (s.bump f).factory = s.factory := by unfold State.bump; split <;> rfl
@[simp] theorem State.bump_cal (f : RegField) : (s.bump f).cal = s.cal := by unfold State.bump; split <;> rfl
@[simp] theorem State.bump_fl (f : RegField) : (s.bump f).fl = s.fl := by unfold State.bump; split <;> rfl
@[simp] theorem State.bump_bb (f : RegField) : (s.bump f).bb = s.bb := by unfold State.bump; split <;> rfl
@[simp] theorem State.bump_can (f : RegField) : (s.bump f).can = s.can := by unfold State.bump; split <;> rfl
@[simp] theorem State.bump_sump (f : RegField) : (s.bump f).sump = s.sump := by unfold State.bump; split <;> rfl
@[simp] theorem State.bump_fls (f : RegField) : (s.bump f).fls = s.fls := by unfold State.bump; split <;> rfl
@[simp] theorem State.bump_sec (f : RegField) : (s.bump f).sec = s.sec := by unfold State.bump; split <;> rfl
@[simp] theorem State.bump_tp (f : RegField) : (s.bump f).tp = s.tp := by unfold State.bump; split <;> rfl
@[simp] theorem State.bump_pwr (f : RegField) : (s.bump f).pwr = s.pwr := by unfold State.bump; split <;> rfl
@[simp] theorem State.bump_upd (f : RegField) : (s.bump f).upd = s.upd := by unfold State.bump; split <;> rfl
@[simp] theorem State.bump_sram (f : RegField) : (s.bump f).sram = s.sram := by unfold State.bump; split <;> rfl
@[simp] theorem State.bump_guardWaits (f : RegField) : (s.bump f).guardWaits = s.guardWaits := by unfold State.bump; split <;> rfl
@[simp] theorem State.bump_out (f : RegField) : (s.bump f).out = s.out := by unfold State.bump; split <;> rfl
@[simp] theorem State.bump_bus (f : RegField) : (s.bump f).bus = s.bus := by unfold State.bump; split <;> rfl
@[simp] theorem State.bump_freeCtr (f : RegField) : (s.bump f).freeCtr = s.freeCtr := by unfold State.bump; split <;> rfl

/-! ### bumpBy -/

@[simp] theorem State.bumpBy_pending (f : RegField) (n : Nat) : (s.bumpBy f n).pending = s.pending := rfl
@[simp] theorem State.bumpBy_mode (f : RegField) (n : Nat) : (s.bumpBy f n).mode = s.mode := rfl
@[simp] theorem State.bumpBy_core (f : RegField) (n : Nat) : (s.bumpBy f n).core = s.core := rfl
@[simp] theorem State.bumpBy_rst (f : RegField) (n : Nat) : (s.bumpBy f n).rst = s.rst := rfl
@[simp] theorem State.bumpBy_gates (f : RegField) (n : Nat) : (s.bumpBy f n).gates = s.gates := rfl
@[simp] theorem State.bumpBy_load (f : RegField) (n : Nat) : (s.bumpBy f n).load = s.load := rfl
@[simp] theorem State.bumpBy_store (f : RegField) (n : Nat) : (s.bumpBy f n).store = s.store := rfl
@[simp] theorem State.bumpBy_banks (f : RegField) (n : Nat) : (s.bumpBy f n).banks = s.banks := rfl
@[simp] theorem State.bumpBy_chambers (f : RegField) (n : Nat) : (s.bumpBy f n).chambers = s.chambers := rfl
@[simp] theorem State.bumpBy_inst (f : RegField) (n : Nat) : (s.bumpBy f n).inst = s.inst := rfl
@[simp] theorem State.bumpBy_tasks (f : RegField) (n : Nat) : (s.bumpBy f n).tasks = s.tasks := rfl
@[simp] theorem State.bumpBy_seq (f : RegField) (n : Nat) : (s.bumpBy f n).seq = s.seq := rfl
@[simp] theorem State.bumpBy_sig (f : RegField) (n : Nat) : (s.bumpBy f n).sig = s.sig := rfl
@[simp] theorem State.bumpBy_ls (f : RegField) (n : Nat) : (s.bumpBy f n).ls = s.ls := rfl
@[simp] theorem State.bumpBy_olc (f : RegField) (n : Nat) : (s.bumpBy f n).olc = s.olc := rfl
@[simp] theorem State.bumpBy_frc (f : RegField) (n : Nat) : (s.bumpBy f n).frc = s.frc := rfl
@[simp] theorem State.bumpBy_pair (f : RegField) (n : Nat) : (s.bumpBy f n).pair = s.pair := rfl
@[simp] theorem State.bumpBy_time (f : RegField) (n : Nat) : (s.bumpBy f n).time = s.time := rfl
@[simp] theorem State.bumpBy_drips (f : RegField) (n : Nat) : (s.bumpBy f n).drips = s.drips := rfl
@[simp] theorem State.bumpBy_caps (f : RegField) (n : Nat) : (s.bumpBy f n).caps = s.caps := rfl
@[simp] theorem State.bumpBy_isl (f : RegField) (n : Nat) : (s.bumpBy f n).isl = s.isl := rfl
@[simp] theorem State.bumpBy_factory (f : RegField) (n : Nat) : (s.bumpBy f n).factory = s.factory := rfl
@[simp] theorem State.bumpBy_cal (f : RegField) (n : Nat) : (s.bumpBy f n).cal = s.cal := rfl
@[simp] theorem State.bumpBy_fl (f : RegField) (n : Nat) : (s.bumpBy f n).fl = s.fl := rfl
@[simp] theorem State.bumpBy_bb (f : RegField) (n : Nat) : (s.bumpBy f n).bb = s.bb := rfl
@[simp] theorem State.bumpBy_can (f : RegField) (n : Nat) : (s.bumpBy f n).can = s.can := rfl
@[simp] theorem State.bumpBy_sump (f : RegField) (n : Nat) : (s.bumpBy f n).sump = s.sump := rfl
@[simp] theorem State.bumpBy_fls (f : RegField) (n : Nat) : (s.bumpBy f n).fls = s.fls := rfl
@[simp] theorem State.bumpBy_sec (f : RegField) (n : Nat) : (s.bumpBy f n).sec = s.sec := rfl
@[simp] theorem State.bumpBy_tp (f : RegField) (n : Nat) : (s.bumpBy f n).tp = s.tp := rfl
@[simp] theorem State.bumpBy_pwr (f : RegField) (n : Nat) : (s.bumpBy f n).pwr = s.pwr := rfl
@[simp] theorem State.bumpBy_upd (f : RegField) (n : Nat) : (s.bumpBy f n).upd = s.upd := rfl
@[simp] theorem State.bumpBy_sram (f : RegField) (n : Nat) : (s.bumpBy f n).sram = s.sram := rfl
@[simp] theorem State.bumpBy_guardWaits (f : RegField) (n : Nat) : (s.bumpBy f n).guardWaits = s.guardWaits := rfl
@[simp] theorem State.bumpBy_out (f : RegField) (n : Nat) : (s.bumpBy f n).out = s.out := rfl
@[simp] theorem State.bumpBy_bus (f : RegField) (n : Nat) : (s.bumpBy f n).bus = s.bus := rfl
@[simp] theorem State.bumpBy_freeCtr (f : RegField) (n : Nat) : (s.bumpBy f n).freeCtr = s.freeCtr := rfl

/-! ### bumpWrap -/

@[simp] theorem State.bumpWrap_pending (f : RegField) : (s.bumpWrap f).pending = s.pending := rfl
@[simp] theorem State.bumpWrap_mode (f : RegField) : (s.bumpWrap f).mode = s.mode := rfl
@[simp] theorem State.bumpWrap_core (f : RegField) : (s.bumpWrap f).core = s.core := rfl
@[simp] theorem State.bumpWrap_rst (f : RegField) : (s.bumpWrap f).rst = s.rst := rfl
@[simp] theorem State.bumpWrap_gates (f : RegField) : (s.bumpWrap f).gates = s.gates := rfl
@[simp] theorem State.bumpWrap_load (f : RegField) : (s.bumpWrap f).load = s.load := rfl
@[simp] theorem State.bumpWrap_store (f : RegField) : (s.bumpWrap f).store = s.store := rfl
@[simp] theorem State.bumpWrap_banks (f : RegField) : (s.bumpWrap f).banks = s.banks := rfl
@[simp] theorem State.bumpWrap_chambers (f : RegField) : (s.bumpWrap f).chambers = s.chambers := rfl
@[simp] theorem State.bumpWrap_inst (f : RegField) : (s.bumpWrap f).inst = s.inst := rfl
@[simp] theorem State.bumpWrap_tasks (f : RegField) : (s.bumpWrap f).tasks = s.tasks := rfl
@[simp] theorem State.bumpWrap_seq (f : RegField) : (s.bumpWrap f).seq = s.seq := rfl
@[simp] theorem State.bumpWrap_sig (f : RegField) : (s.bumpWrap f).sig = s.sig := rfl
@[simp] theorem State.bumpWrap_ls (f : RegField) : (s.bumpWrap f).ls = s.ls := rfl
@[simp] theorem State.bumpWrap_olc (f : RegField) : (s.bumpWrap f).olc = s.olc := rfl
@[simp] theorem State.bumpWrap_frc (f : RegField) : (s.bumpWrap f).frc = s.frc := rfl
@[simp] theorem State.bumpWrap_pair (f : RegField) : (s.bumpWrap f).pair = s.pair := rfl
@[simp] theorem State.bumpWrap_time (f : RegField) : (s.bumpWrap f).time = s.time := rfl
@[simp] theorem State.bumpWrap_drips (f : RegField) : (s.bumpWrap f).drips = s.drips := rfl
@[simp] theorem State.bumpWrap_caps (f : RegField) : (s.bumpWrap f).caps = s.caps := rfl
@[simp] theorem State.bumpWrap_isl (f : RegField) : (s.bumpWrap f).isl = s.isl := rfl
@[simp] theorem State.bumpWrap_factory (f : RegField) : (s.bumpWrap f).factory = s.factory := rfl
@[simp] theorem State.bumpWrap_cal (f : RegField) : (s.bumpWrap f).cal = s.cal := rfl
@[simp] theorem State.bumpWrap_fl (f : RegField) : (s.bumpWrap f).fl = s.fl := rfl
@[simp] theorem State.bumpWrap_bb (f : RegField) : (s.bumpWrap f).bb = s.bb := rfl
@[simp] theorem State.bumpWrap_can (f : RegField) : (s.bumpWrap f).can = s.can := rfl
@[simp] theorem State.bumpWrap_sump (f : RegField) : (s.bumpWrap f).sump = s.sump := rfl
@[simp] theorem State.bumpWrap_fls (f : RegField) : (s.bumpWrap f).fls = s.fls := rfl
@[simp] theorem State.bumpWrap_sec (f : RegField) : (s.bumpWrap f).sec = s.sec := rfl
@[simp] theorem State.bumpWrap_tp (f : RegField) : (s.bumpWrap f).tp = s.tp := rfl
@[simp] theorem State.bumpWrap_pwr (f : RegField) : (s.bumpWrap f).pwr = s.pwr := rfl
@[simp] theorem State.bumpWrap_upd (f : RegField) : (s.bumpWrap f).upd = s.upd := rfl
@[simp] theorem State.bumpWrap_sram (f : RegField) : (s.bumpWrap f).sram = s.sram := rfl
@[simp] theorem State.bumpWrap_guardWaits (f : RegField) : (s.bumpWrap f).guardWaits = s.guardWaits := rfl
@[simp] theorem State.bumpWrap_out (f : RegField) : (s.bumpWrap f).out = s.out := rfl
@[simp] theorem State.bumpWrap_bus (f : RegField) : (s.bumpWrap f).bus = s.bus := rfl
@[simp] theorem State.bumpWrap_freeCtr (f : RegField) : (s.bumpWrap f).freeCtr = s.freeCtr := rfl

/-! ### setGate -/

@[simp] theorem State.setGate_pending (b : Nat) (g : Gate) : (s.setGate b g).pending = s.pending := rfl
@[simp] theorem State.setGate_mode (b : Nat) (g : Gate) : (s.setGate b g).mode = s.mode := rfl
@[simp] theorem State.setGate_regs (b : Nat) (g : Gate) : (s.setGate b g).regs = s.regs := rfl
@[simp] theorem State.setGate_core (b : Nat) (g : Gate) : (s.setGate b g).core = s.core := rfl
@[simp] theorem State.setGate_rst (b : Nat) (g : Gate) : (s.setGate b g).rst = s.rst := rfl
@[simp] theorem State.setGate_load (b : Nat) (g : Gate) : (s.setGate b g).load = s.load := rfl
@[simp] theorem State.setGate_store (b : Nat) (g : Gate) : (s.setGate b g).store = s.store := rfl
@[simp] theorem State.setGate_banks (b : Nat) (g : Gate) : (s.setGate b g).banks = s.banks := rfl
@[simp] theorem State.setGate_chambers (b : Nat) (g : Gate) : (s.setGate b g).chambers = s.chambers := rfl
@[simp] theorem State.setGate_inst (b : Nat) (g : Gate) : (s.setGate b g).inst = s.inst := rfl
@[simp] theorem State.setGate_tasks (b : Nat) (g : Gate) : (s.setGate b g).tasks = s.tasks := rfl
@[simp] theorem State.setGate_seq (b : Nat) (g : Gate) : (s.setGate b g).seq = s.seq := rfl
@[simp] theorem State.setGate_sig (b : Nat) (g : Gate) : (s.setGate b g).sig = s.sig := rfl
@[simp] theorem State.setGate_ls (b : Nat) (g : Gate) : (s.setGate b g).ls = s.ls := rfl
@[simp] theorem State.setGate_olc (b : Nat) (g : Gate) : (s.setGate b g).olc = s.olc := rfl
@[simp] theorem State.setGate_frc (b : Nat) (g : Gate) : (s.setGate b g).frc = s.frc := rfl
@[simp] theorem State.setGate_pair (b : Nat) (g : Gate) : (s.setGate b g).pair = s.pair := rfl
@[simp] theorem State.setGate_time (b : Nat) (g : Gate) : (s.setGate b g).time = s.time := rfl
@[simp] theorem State.setGate_drips (b : Nat) (g : Gate) : (s.setGate b g).drips = s.drips := rfl
@[simp] theorem State.setGate_caps (b : Nat) (g : Gate) : (s.setGate b g).caps = s.caps := rfl
@[simp] theorem State.setGate_isl (b : Nat) (g : Gate) : (s.setGate b g).isl = s.isl := rfl
@[simp] theorem State.setGate_factory (b : Nat) (g : Gate) : (s.setGate b g).factory = s.factory := rfl
@[simp] theorem State.setGate_cal (b : Nat) (g : Gate) : (s.setGate b g).cal = s.cal := rfl
@[simp] theorem State.setGate_fl (b : Nat) (g : Gate) : (s.setGate b g).fl = s.fl := rfl
@[simp] theorem State.setGate_bb (b : Nat) (g : Gate) : (s.setGate b g).bb = s.bb := rfl
@[simp] theorem State.setGate_can (b : Nat) (g : Gate) : (s.setGate b g).can = s.can := rfl
@[simp] theorem State.setGate_sump (b : Nat) (g : Gate) : (s.setGate b g).sump = s.sump := rfl
@[simp] theorem State.setGate_fls (b : Nat) (g : Gate) : (s.setGate b g).fls = s.fls := rfl
@[simp] theorem State.setGate_sec (b : Nat) (g : Gate) : (s.setGate b g).sec = s.sec := rfl
@[simp] theorem State.setGate_tp (b : Nat) (g : Gate) : (s.setGate b g).tp = s.tp := rfl
@[simp] theorem State.setGate_pwr (b : Nat) (g : Gate) : (s.setGate b g).pwr = s.pwr := rfl
@[simp] theorem State.setGate_upd (b : Nat) (g : Gate) : (s.setGate b g).upd = s.upd := rfl
@[simp] theorem State.setGate_sram (b : Nat) (g : Gate) : (s.setGate b g).sram = s.sram := rfl
@[simp] theorem State.setGate_guardWaits (b : Nat) (g : Gate) : (s.setGate b g).guardWaits = s.guardWaits := rfl
@[simp] theorem State.setGate_out (b : Nat) (g : Gate) : (s.setGate b g).out = s.out := rfl
@[simp] theorem State.setGate_bus (b : Nat) (g : Gate) : (s.setGate b g).bus = s.bus := rfl
@[simp] theorem State.setGate_freeCtr (b : Nat) (g : Gate) : (s.setGate b g).freeCtr = s.freeCtr := rfl

/-! ### emit -/

@[simp] theorem State.emit_pending (o : Out) : (s.emit o).pending = s.pending := by unfold State.emit; split <;> rfl
@[simp] theorem State.emit_mode (o : Out) : (s.emit o).mode = s.mode := by unfold State.emit; split <;> rfl
@[simp] theorem State.emit_regs (o : Out) : (s.emit o).regs = s.regs := by unfold State.emit; split <;> rfl
@[simp] theorem State.emit_core (o : Out) : (s.emit o).core = s.core := by unfold State.emit; split <;> rfl
@[simp] theorem State.emit_rst (o : Out) : (s.emit o).rst = s.rst := by unfold State.emit; split <;> rfl
@[simp] theorem State.emit_gates (o : Out) : (s.emit o).gates = s.gates := by unfold State.emit; split <;> rfl
@[simp] theorem State.emit_load (o : Out) : (s.emit o).load = s.load := by unfold State.emit; split <;> rfl
@[simp] theorem State.emit_store (o : Out) : (s.emit o).store = s.store := by unfold State.emit; split <;> rfl
@[simp] theorem State.emit_banks (o : Out) : (s.emit o).banks = s.banks := by unfold State.emit; split <;> rfl
@[simp] theorem State.emit_chambers (o : Out) : (s.emit o).chambers = s.chambers := by unfold State.emit; split <;> rfl
@[simp] theorem State.emit_inst (o : Out) : (s.emit o).inst = s.inst := by unfold State.emit; split <;> rfl
@[simp] theorem State.emit_tasks (o : Out) : (s.emit o).tasks = s.tasks := by unfold State.emit; split <;> rfl
@[simp] theorem State.emit_seq (o : Out) : (s.emit o).seq = s.seq := by unfold State.emit; split <;> rfl
@[simp] theorem State.emit_sig (o : Out) : (s.emit o).sig = s.sig := by unfold State.emit; split <;> rfl
@[simp] theorem State.emit_ls (o : Out) : (s.emit o).ls = s.ls := by unfold State.emit; split <;> rfl
@[simp] theorem State.emit_olc (o : Out) : (s.emit o).olc = s.olc := by unfold State.emit; split <;> rfl
@[simp] theorem State.emit_frc (o : Out) : (s.emit o).frc = s.frc := by unfold State.emit; split <;> rfl
@[simp] theorem State.emit_time (o : Out) : (s.emit o).time = s.time := by unfold State.emit; split <;> rfl
@[simp] theorem State.emit_drips (o : Out) : (s.emit o).drips = s.drips := by unfold State.emit; split <;> rfl
@[simp] theorem State.emit_caps (o : Out) : (s.emit o).caps = s.caps := by unfold State.emit; split <;> rfl
@[simp] theorem State.emit_isl (o : Out) : (s.emit o).isl = s.isl := by unfold State.emit; split <;> rfl
@[simp] theorem State.emit_factory (o : Out) : (s.emit o).factory = s.factory := by unfold State.emit; split <;> rfl
@[simp] theorem State.emit_cal (o : Out) : (s.emit o).cal = s.cal := by unfold State.emit; split <;> rfl
@[simp] theorem State.emit_fl (o : Out) : (s.emit o).fl = s.fl := by unfold State.emit; split <;> rfl
@[simp] theorem State.emit_bb (o : Out) : (s.emit o).bb = s.bb := by unfold State.emit; split <;> rfl
@[simp] theorem State.emit_can (o : Out) : (s.emit o).can = s.can := by unfold State.emit; split <;> rfl
@[simp] theorem State.emit_sump (o : Out) : (s.emit o).sump = s.sump := by unfold State.emit; split <;> rfl
@[simp] theorem State.emit_fls (o : Out) : (s.emit o).fls = s.fls := by unfold State.emit; split <;> rfl
@[simp] theorem State.emit_sec (o : Out) : (s.emit o).sec = s.sec := by unfold State.emit; split <;> rfl
@[simp] theorem State.emit_tp (o : Out) : (s.emit o).tp = s.tp := by unfold State.emit; split <;> rfl
@[simp] theorem State.emit_pwr (o : Out) : (s.emit o).pwr = s.pwr := by unfold State.emit; split <;> rfl
@[simp] theorem State.emit_upd (o : Out) : (s.emit o).upd = s.upd := by unfold State.emit; split <;> rfl
@[simp] theorem State.emit_sram (o : Out) : (s.emit o).sram = s.sram := by unfold State.emit; split <;> rfl
@[simp] theorem State.emit_guardWaits (o : Out) : (s.emit o).guardWaits = s.guardWaits := by unfold State.emit; split <;> rfl
@[simp] theorem State.emit_bus (o : Out) : (s.emit o).bus = s.bus := by unfold State.emit; split <;> rfl
@[simp] theorem State.emit_freeCtr (o : Out) : (s.emit o).freeCtr = s.freeCtr := by unfold State.emit; split <;> rfl

/-! ### draw -/

@[simp] theorem State.draw_pending : s.draw.2.pending = s.pending := rfl
@[simp] theorem State.draw_mode : s.draw.2.mode = s.mode := rfl
@[simp] theorem State.draw_regs : s.draw.2.regs = s.regs := rfl
@[simp] theorem State.draw_core : s.draw.2.core = s.core := rfl
@[simp] theorem State.draw_rst : s.draw.2.rst = s.rst := rfl
@[simp] theorem State.draw_gates : s.draw.2.gates = s.gates := rfl
@[simp] theorem State.draw_load : s.draw.2.load = s.load := rfl
@[simp] theorem State.draw_store : s.draw.2.store = s.store := rfl
@[simp] theorem State.draw_banks : s.draw.2.banks = s.banks := rfl
@[simp] theorem State.draw_chambers : s.draw.2.chambers = s.chambers := rfl
@[simp] theorem State.draw_inst : s.draw.2.inst = s.inst := rfl
@[simp] theorem State.draw_tasks : s.draw.2.tasks = s.tasks := rfl
@[simp] theorem State.draw_seq : s.draw.2.seq = s.seq := rfl
@[simp] theorem State.draw_sig : s.draw.2.sig = s.sig := rfl
@[simp] theorem State.draw_ls : s.draw.2.ls = s.ls := rfl
@[simp] theorem State.draw_olc : s.draw.2.olc = s.olc := rfl
@[simp] theorem State.draw_frc : s.draw.2.frc = s.frc := rfl
@[simp] theorem State.draw_pair : s.draw.2.pair = s.pair := rfl
@[simp] theorem State.draw_time : s.draw.2.time = s.time := rfl
@[simp] theorem State.draw_drips : s.draw.2.drips = s.drips := rfl
@[simp] theorem State.draw_caps : s.draw.2.caps = s.caps := rfl
@[simp] theorem State.draw_isl : s.draw.2.isl = s.isl := rfl
@[simp] theorem State.draw_factory : s.draw.2.factory = s.factory := rfl
@[simp] theorem State.draw_cal : s.draw.2.cal = s.cal := rfl
@[simp] theorem State.draw_fl : s.draw.2.fl = s.fl := rfl
@[simp] theorem State.draw_bb : s.draw.2.bb = s.bb := rfl
@[simp] theorem State.draw_can : s.draw.2.can = s.can := rfl
@[simp] theorem State.draw_sump : s.draw.2.sump = s.sump := rfl
@[simp] theorem State.draw_fls : s.draw.2.fls = s.fls := rfl
@[simp] theorem State.draw_sec : s.draw.2.sec = s.sec := rfl
@[simp] theorem State.draw_tp : s.draw.2.tp = s.tp := rfl
@[simp] theorem State.draw_pwr : s.draw.2.pwr = s.pwr := rfl
@[simp] theorem State.draw_upd : s.draw.2.upd = s.upd := rfl
@[simp] theorem State.draw_sram : s.draw.2.sram = s.sram := rfl
@[simp] theorem State.draw_guardWaits : s.draw.2.guardWaits = s.guardWaits := rfl
@[simp] theorem State.draw_out : s.draw.2.out = s.out := rfl
@[simp] theorem State.draw_bus : s.draw.2.bus = s.bus := rfl

/-- A draw moves on to the next free value. -/
@[simp] theorem State.draw_freeCtr : s.draw.2.freeCtr = s.freeCtr + 1 := rfl

end Sys2Proof.Machine
end

