-- ==== Sys2Proof/Laws/Regs.lean ====
section
/-! SUPPORT. Registers and their fields: what a write leaves in the register, in its fields, in every other register and field, and that
the register file keeps its canonical form. -/
namespace Sys2Proof.Machine

variable (s : State)

/-- The field lies within a register. -/
def RegField.fits (f : RegField) : Prop := f.lo + f.width ≤ 32

/-- Two fields share no bit: different registers, or one wholly below the other. -/
def RegField.apart (f g : RegField) : Prop := f.addr ≠ g.addr ∨ f.lo + f.width ≤ g.lo ∨ g.lo + g.width ≤ f.lo

@[simp] theorem State.getReg_setReg_same (a : Nat) (v : BitVec 32) : (s.setReg a v).getReg a = v :=
  sparseGet_set_same regReset s.regs a v

theorem State.getReg_setReg_ne {a b : Nat} (v : BitVec 32) (h : b ≠ a) : (s.setReg a v).getReg b = s.getReg b :=
  sparseGet_set_ne regReset s.regs v h

theorem State.getReg_setReg (a b : Nat) (v : BitVec 32) : (s.setReg a v).getReg b = if b = a then v else s.getReg b :=
  sparseGet_set regReset s.regs a b v

/-- A register write keeps the register file's canonical form. -/
theorem State.setReg_regsWf (a : Nat) (v : BitVec 32) (h : s.regsWf = true) : (s.setReg a v).regsWf = true :=
  sparseWf_set regReset s.regs a v h

theorem State.put_regsWf (f : RegField) (v : Nat) (h : s.regsWf = true) : (s.put f v).regsWf = true := s.setReg_regsWf _ _ h

theorem State.putBit_regsWf (f : RegField) (b : Bool) (h : s.regsWf = true) : (s.putBit f b).regsWf = true := s.setReg_regsWf _ _ h

theorem State.putAll_regsWf (l : List (RegField × Nat)) (h : s.regsWf = true) : (s.putAll l).regsWf = true := by
  induction l generalizing s with
  | nil => exact h
  | cons p l ih => exact ih _ (s.put_regsWf p.1 p.2 h)

theorem State.bump_regsWf (f : RegField) (h : s.regsWf = true) : (s.bump f).regsWf = true := by
  unfold State.bump
  split
  · exact s.put_regsWf _ _ h
  · exact h

/-- Bit `i` of a field's ones. -/
theorem RegField.getLsbD_mask (f : RegField) (i : Nat) :
    f.mask.getLsbD i = (decide (i < 32) && decide (f.lo ≤ i) && decide (i < f.lo + f.width)) := by
  rw [RegField.mask, BitVec.getLsbD_ofNat, Nat.testBit_shiftLeft, Nat.testBit_two_pow_sub_one]
  by_cases h1 : i < 32 <;> by_cases h2 : f.lo ≤ i <;> by_cases h3 : i < f.lo + f.width <;> simp [h1, h2, h3] <;> omega

/-- Bit `i` of a word in which a field was replaced. -/
theorem RegField.getLsbD_ins (f : RegField) (w : BitVec 32) (v i : Nat) :
    (f.ins w v).getLsbD i
      = if f.lo ≤ i ∧ i < f.lo + f.width ∧ i < 32 then v.testBit (i - f.lo) else w.getLsbD i := by
  simp only [RegField.ins, BitVec.getLsbD_or, BitVec.getLsbD_and, BitVec.getLsbD_not, RegField.getLsbD_mask, BitVec.getLsbD_ofNat,
    Nat.testBit_shiftLeft, Nat.testBit_mod_two_pow]
  by_cases h1 : i < 32
  · by_cases h2 : f.lo ≤ i <;> by_cases h3 : i < f.lo + f.width <;> simp [h1, h2, h3] <;> omega
  · have h : w.getLsbD i = false := BitVec.getLsbD_of_ge w i (by omega)
    simp [h1, h]

/-- Bit `i` of the number a field holds. -/
theorem RegField.testBit_ext (f : RegField) (w : BitVec 32) (i : Nat) :
    (f.ext w).testBit i = (decide (i < f.width) && w.getLsbD (f.lo + i)) := by
  rw [RegField.ext, Nat.testBit_mod_two_pow, Nat.testBit_shiftRight]
  rfl

/-- The field reads what was put, modulo its width. -/
theorem RegField.ext_ins (f : RegField) (hf : f.fits) (w : BitVec 32) (v : Nat) : f.ext (f.ins w v) = v % 2 ^ f.width := by
  apply Nat.eq_of_testBit_eq
  intro i
  rw [RegField.testBit_ext, RegField.getLsbD_ins, Nat.testBit_mod_two_pow]
  unfold RegField.fits at hf
  by_cases h : i < f.width
  · have h1 : f.lo ≤ f.lo + i := by omega
    have h2 : f.lo + i < f.lo + f.width := by omega
    have h3 : f.lo + i < 32 := by omega
    simp [h, h3]
  · simp [h]

/-- A field that shares no bit with the one put keeps its value. -/
theorem RegField.ext_ins_apart (f g : RegField) (h : f.lo + f.width ≤ g.lo ∨ g.lo + g.width ≤ f.lo) (w : BitVec 32) (v : Nat) :
    g.ext (f.ins w v) = g.ext w := by
  apply Nat.eq_of_testBit_eq
  intro i
  rw [RegField.testBit_ext, RegField.testBit_ext, RegField.getLsbD_ins]
  by_cases hi : i < g.width
  · rw [if_neg]
    omega
  · simp [hi]

/-- A field reads what was put, modulo its width. -/
theorem State.get_put_same (f : RegField) (hf : f.fits) (v : Nat) : (s.put f v).get f = v % 2 ^ f.width := by
  unfold State.get State.put
  rw [State.getReg_setReg_same, RegField.ext_ins f hf]

/-- A put leaves every other field alone. -/
theorem State.get_put_apart (f g : RegField) (h : f.apart g) (v : Nat) : (s.put f v).get g = s.get g := by
  unfold State.get State.put
  by_cases ha : g.addr = f.addr
  · rw [ha, State.getReg_setReg_same, RegField.ext_ins_apart f g (h.resolve_left (fun e => e ha.symm))]
  · rw [State.getReg_setReg_ne s _ ha]

/-- A put leaves every other register alone. -/
theorem State.getReg_put_ne (f : RegField) (v : Nat) {b : Nat} (h : b ≠ f.addr) : (s.put f v).getReg b = s.getReg b :=
  s.getReg_setReg_ne _ h

/-- Several puts leave alone every register that none of them names. -/
theorem State.getReg_putAll_ne (l : List (RegField × Nat)) {b : Nat} (h : ∀ p ∈ l, b ≠ p.1.addr) :
    (s.putAll l).getReg b = s.getReg b := by
  induction l generalizing s with
  | nil => rfl
  | cons p l ih =>
    rw [State.putAll_cons, ih _ (fun q hq => h q (List.mem_cons_of_mem _ hq)), State.getReg_put_ne s _ _ (h p List.mem_cons_self)]

/-- Several puts leave alone every field that shares no bit with any of theirs. -/
theorem State.get_putAll_apart (l : List (RegField × Nat)) (g : RegField) (h : ∀ p ∈ l, p.1.apart g) :
    (s.putAll l).get g = s.get g := by
  induction l generalizing s with
  | nil => rfl
  | cons p l ih =>
    rw [State.putAll_cons, ih _ (fun q hq => h q (List.mem_cons_of_mem _ hq)), State.get_put_apart s _ _ (h p List.mem_cons_self)]

/-- A saturating counter leaves every other register alone. -/
theorem State.getReg_bump_ne (f : RegField) {b : Nat} (h : b ≠ f.addr) : (s.bump f).getReg b = s.getReg b := by
  unfold State.bump
  split
  · exact s.getReg_put_ne f _ h
  · rfl

/-- A saturating counter counts by one and stops at all ones. -/
theorem State.get_bump_same (f : RegField) (hf : f.fits) : (s.bump f).get f = min (s.get f + 1) (2 ^ f.width - 1) := by
  have hb : s.get f < 2 ^ f.width := Nat.mod_lt _ (Nat.two_pow_pos _)
  unfold State.bump
  split
  · rw [State.get_put_same s f hf, Nat.mod_eq_of_lt (by assumption)]
    omega
  · omega

/-- A gate reads what was set. -/
@[simp] theorem State.gate_setGate_same (b : Nat) (g : Gate) : (s.setGate b g).gate b = g :=
  sparseGet_set_same _ s.gates b g

theorem State.gate_setGate_ne {b c : Nat} (g : Gate) (h : c ≠ b) : (s.setGate b g).gate c = s.gate c :=
  sparseGet_set_ne _ s.gates g h

end Sys2Proof.Machine
end

