-- ==== Sys2Proof/Laws/Memory.lean ====
section
/-! SUPPORT. The memories: host SRAM and the retention host area, the instance store and the Flowstone MRAM keep their canonical form
(`Memory.wf`) under every operation that writes them, and have it after reset. -/
namespace Sys2Proof.Machine

variable (s t : State)

/-- A state with the same three memories is in canonical form as well. -/
theorem Memory.wf_congr (h1 : t.sram = s.sram) (h2 : t.inst.words = s.inst.words) (h3 : t.fls.mram = s.fls.mram) :
    Memory.wf t = Memory.wf s := by
  unfold Memory.wf; rw [h1, h2, h3]

theorem Memory.wf_iff : Memory.wf s = true ↔ sparseWf (fun _ => (0 : Byte)) s.sram = true ∧ sparseWf (fun _ => (0 : DWord)) s.inst.words = true ∧
    sparseWf flsDefault s.fls.mram = true := by
  simp [Memory.wf, and_assoc]

/-- Reset lists nothing in any memory. -/
theorem Memory.wf_reset : Memory.wf State.reset = true := by decide

theorem State.setSramByte_wf (a : Nat) (b : Byte) (h : Memory.wf s = true) : Memory.wf (s.setSramByte a b) = true := by
  rw [Memory.wf_iff] at h ⊢
  exact ⟨sparseWf_set _ _ a b h.1, h.2⟩

/-- Bytes written to host SRAM or the retention host area. -/
theorem State.sramWrite_wf (a : Nat) (bs : List Byte) (h : Memory.wf s = true) : Memory.wf (s.sramWrite a bs) = true := by
  induction bs generalizing s a with
  | nil => exact h
  | cons b bs ih => exact ih _ _ (s.setSramByte_wf a b h)

/-- A descriptor written. -/
theorem State.setDesc_wf (a : Nat) (d : Descriptor) (h : Memory.wf s = true) : Memory.wf (s.setDesc a d) = true := s.sramWrite_wf a _ h

/-- A word written to the instance store. -/
theorem State.setInstWord_wf (a o : Nat) (w : DWord) (h : Memory.wf s = true) : Memory.wf (s.setInstWord a o w) = true := by
  rw [Memory.wf_iff] at h ⊢
  exact ⟨h.1, sparseWf_set _ _ _ w h.2.1, h.2.2⟩

/-- Words written one after the other. -/
theorem State.setInstWords_wf {α : Type} (l : List α) (a : α → Nat) (o : α → Nat) (w : α → DWord) (h : Memory.wf s = true) :
    Memory.wf (l.foldl (fun u p => u.setInstWord (a p) (o p) (w p)) s) = true := by
  induction l generalizing s with
  | nil => exact h
  | cons p l ih => exact ih _ (s.setInstWord_wf _ _ _ h)

/-- An area takes the initial values of a survey (R130). -/
theorem State.initArea_wf (g : Survey) (a : Nat) (h : Memory.wf s = true) : Memory.wf (s.initArea g a) = true := by
  unfold State.initArea
  apply State.setInstWords_wf
  rw [Memory.wf_iff] at h ⊢
  exact ⟨h.1, sparseWf_filter _ _ _ h.2.1, h.2.2⟩

/-- Bytes written to Flowstone MRAM. -/
theorem mramWrite_wf (m : List (Nat × Byte)) (k : Nat) (bs : List Byte) (h : sparseWf flsDefault m = true) :
    sparseWf flsDefault (mramWrite m k bs) = true := by
  induction bs generalizing m k with
  | nil => exact h
  | cons b bs ih => exact ih _ _ (sparseWf_set _ _ k b h)

theorem State.flsWrite_wf (k : Nat) (bs : List Byte) (h : Memory.wf s = true) : Memory.wf (s.flsWrite k bs) = true := by
  rw [Memory.wf_iff] at h ⊢
  exact ⟨h.1, h.2.1, mramWrite_wf _ k bs h.2.2⟩

/-- A module-level reset keeps the retention host area or, at power-on, nothing of SRAM; the instance store and Flowstone stay. -/
theorem State.afterReset_wf (por : Bool) (h : Memory.wf s = true) : Memory.wf (s.afterReset por) = true := by
  rw [Memory.wf_iff] at h ⊢
  refine ⟨?_, h.2.1, h.2.2⟩
  cases por
  · exact sparseWf_filter _ _ _ h.1
  · rfl

/-! ### Bytes -/

theorem State.sramByte_setSramByte (a : Nat) (b : Byte) (x : Nat) : (s.setSramByte a b).sramByte x = if x = a then b else s.sramByte x :=
  sparseGet_set _ s.sram a x b

/-- Bytes outside those written read as before. -/
theorem State.sramByte_sramWrite_apart (a : Nat) (bs : List Byte) (x : Nat) (h : x < a ∨ a + bs.length ≤ x) :
    (s.sramWrite a bs).sramByte x = s.sramByte x := by
  induction bs generalizing s a with
  | nil => rfl
  | cons b bs ih =>
    rw [List.length_cons] at h
    rw [State.sramWrite, ih _ _ (by omega), State.sramByte_setSramByte, if_neg (by omega)]

/-- A word of the instance store reads what was written, and every other word as before. -/
theorem State.instWord_setInstWord (a o b p : Nat) (w : DWord) :
    (s.setInstWord a o w).instWord b p = if instKey b p = instKey a o then w else s.instWord b p :=
  sparseGet_set _ s.inst.words _ _ w

end Sys2Proof.Machine
end

