-- ==== Sys2Proof/Laws/Records.lean ====
section
/-! SUPPORT. What a Flowstone record and a Sump occurrence can change (R376, R381, R389, R391): registers, gates, the Sump, the recorder and
the outputs, and nothing else; the canonical forms stay. -/
namespace Sys2Proof.Machine

/-- From `s` to `t` nothing but registers, gates, the Sump, the recorder and the outputs changes. -/
def reported (s t : State) : Prop :=
  { t with regs := s.regs, gates := s.gates, sump := s.sump, fls := s.fls, out := s.out } = s ∧
    (s.regsWf = true → t.regsWf = true) ∧ (Memory.wf s = true → Memory.wf t = true)

theorem reported_refl (s : State) : reported s s := ⟨rfl, id, id⟩

theorem reported_trans {s t u : State} (h : reported s t) (k : reported t u) : reported s u := by
  refine ⟨?_, fun w => k.2.1 (h.2.1 w), fun w => k.2.2 (h.2.2 w)⟩
  rw [← h.1]
  conv_rhs => rw [← k.1]

variable (s : State)

theorem reported_put (f : RegField) (v : Nat) : reported s (s.put f v) := ⟨rfl, s.put_regsWf f v, id⟩

theorem reported_putBit (f : RegField) (b : Bool) : reported s (s.putBit f b) := ⟨rfl, s.putBit_regsWf f b, id⟩

theorem reported_putAll (l : List (RegField × Nat)) : reported s (s.putAll l) := by
  induction l generalizing s with
  | nil => exact reported_refl s
  | cons p l ih => exact reported_trans (reported_put s p.1 p.2) (ih _)

theorem reported_bump (f : RegField) : reported s (s.bump f) := by
  unfold State.bump
  split
  · exact reported_put s _ _
  · exact reported_refl s

theorem reported_flsWrite (k : Nat) (bs : List Byte) : reported s (s.flsWrite k bs) := ⟨rfl, id, s.flsWrite_wf k bs⟩

theorem reported_lostRun (n : Nat) : reported s { s with fls := { s.fls with lostRun := n } } := ⟨rfl, id, id⟩

/-- An entry added to the recorder's queue, or lost (R389, R391). -/
theorem reported_flsAdd (e : FlsEntry) : reported s (s.flsAdd e).1 := by
  unfold State.flsAdd
  split
  · exact ⟨rfl, id, id⟩
  · extract_lets s1 s2 s3
    exact reported_trans (reported_bump s _ : reported s s1) (reported_trans (reported_putBit s1 _ _ : reported s1 s2)
      (reported_trans (reported_flsWrite s2 _ _ : reported s2 s3) (reported_lostRun s3 _)))

/-- A record queued, merged into the newest as a repeat, or lost (R389 to R391). -/
theorem reported_flsQueueRecord (type key : Nat) (body : List Byte) (forced : Bool) :
    reported s (s.flsQueueRecord type key body forced).1 := by
  unfold State.flsQueueRecord
  extract_lets stamp r
  clear_value r
  split
  · split
    · exact ⟨rfl, id, id⟩
    · exact reported_flsAdd s _
  · split
    · split <;> exact reported_flsAdd s _
    · exact reported_flsAdd s _

theorem reported_sumpFlag (src inst sub : Nat) (forced : Bool) : reported s (s.sumpFlag src inst sub forced) := by
  unfold State.sumpFlag
  dsimp only
  have h := reported_trans (reported_putBit s (Fld.SUMP_SRC_FLAG src) true) (reported_bump _ (Fld.SUMP_CNT_COUNT src))
  split
  · exact h
  · exact reported_trans h (reported_putAll _ _)

theorem reported_gateRequest (b : Nat) : reported s (s.gateRequest b) := by
  unfold State.gateRequest
  dsimp only
  split
  · exact reported_refl s
  · exact reported_trans (t := s.setGate b _) ⟨rfl, id, id⟩ (reported_put _ _ _)

theorem reported_gateRequestOuter (b : Nat) : reported s (s.gateRequestOuter b) := by
  unfold State.gateRequestOuter
  split
  · split
    · exact ⟨rfl, id, id⟩
    · exact reported_refl s
  · exact reported_gateRequest s b

theorem reported_sumpModule (src : Nat) : reported s (s.sumpModule src) := by
  unfold State.sumpModule
  extract_lets take sev
  split
  · exact ⟨rfl, id, id⟩
  · split
    · exact ⟨rfl, id, id⟩
    · exact reported_refl s

/-- The reactions of an occurrence (R381). -/
theorem reported_sumpReact (src inst : Nat) : reported s (s.sumpReact src inst) := by
  unfold State.sumpReact
  dsimp only
  have h1 : ∀ u : State, reported u (if u.bit (Fld.SUMP_SRC_NMI src) = true then u.emit (.nmi (u.get Fld.SUMP_CTRL_ROUTE) src) else u) := by
    intro u
    split
    · exact ⟨rfl, id, id⟩
    · exact reported_refl u
  have h2 : ∀ u : State, reported u (if u.bit (Fld.SUMP_SRC_BLOCK_RESET src) = true then
      (match sumpGate src inst with
      | some b => u.gateRequestOuter b
      | none => u) else u) := by
    intro u
    split
    · split
      · exact reported_gateRequestOuter u _
      · exact reported_refl u
    · exact reported_refl u
  refine reported_trans (h1 s) (reported_trans (h2 _) ?_)
  generalize hu : (if (if s.bit (Fld.SUMP_SRC_NMI src) = true then _ else s).bit (Fld.SUMP_SRC_BLOCK_RESET src) = true then _ else _ : State) = u
  clear hu
  split
  · exact reported_sumpModule u src
  · exact reported_refl u

theorem reported_sump (x : SumpState) : reported s { s with sump := x } := ⟨rfl, id, id⟩

theorem reported_sumpMerge (src inst sub : Nat) (forced : Bool) : reported s (s.sumpMerge src inst sub forced) := by
  unfold State.sumpMerge
  extract_lets s1 s2
  have h1 : reported s s1 := reported_putBit s _ _
  have h2 : reported s s2 := by
    show reported s (if _ then _ else _)
    split
    · exact reported_trans h1 (reported_putAll s1 _)
    · exact h1
  split
  · exact h1
  · split
    · exact reported_trans h2 (reported_putBit s2 _ _)
    · exact h2

theorem reported_sumpNote (src inst sub : Nat) (forced : Bool) : reported s (s.sumpNote src inst sub forced) := by
  unfold State.sumpNote
  extract_lets u x s1
  have h : reported s s1 := reported_trans (reported_sump s _ : reported s u) (reported_sump u x)
  exact reported_trans h (reported_trans (reported_sumpFlag s1 src inst sub forced) (reported_sumpReact _ src inst))

theorem reported_sumpRecord (src : Nat) (forced : Bool) : reported s (s.sumpRecord src forced).1 := by
  unfold State.sumpRecord
  dsimp only
  split
  · exact reported_flsQueueRecord s _ _ _ _
  · exact reported_refl s

/-- An occurrence of a Sump source with its flag, reactions and record (R376, R381, R382, R391). -/
theorem reported_sumpOccur (src inst sub : Nat) (forced : Bool) : reported s (s.sumpOccur src inst sub forced) := by
  unfold State.sumpOccur
  split
  · exact reported_refl s
  · split
    · exact reported_sumpMerge s src inst sub forced
    · have hr := reported_trans (reported_sumpNote s src inst sub forced) (reported_sumpRecord _ src forced)
      revert hr
      generalize (s.sumpNote src inst sub forced).sumpRecord src forced = q
      obtain ⟨u, lost⟩ := q
      intro hr
      dsimp only at hr ⊢
      split
      · split
        · exact reported_trans hr (reported_sumpMerge u _ _ _ _)
        · exact reported_trans hr (reported_trans (reported_sumpNote u _ _ _ _) (reported_sumpRecord _ _ _))
      · exact hr

/-- A record of a chapter's own type (R391). -/
theorem reported_record (type key : Nat) (items : List (Nat × Nat)) : reported s (s.record type key items) := by
  unfold State.record
  have hr := reported_flsQueueRecord s type key (recordBody items) false
  revert hr
  generalize s.flsQueueRecord type key (recordBody items) false = q
  obtain ⟨u, lost⟩ := q
  intro hr
  dsimp only at hr ⊢
  split
  · exact reported_trans hr (reported_sumpOccur u _ _ _ _)
  · exact hr

/-- A level source's condition that ceases (R376). -/
theorem reported_fall (src inst sub : Nat) : reported s (s.fall src inst sub) := by
  unfold State.fall State.sumpFall
  extract_lets key held x s1
  exact reported_trans (reported_sump s _ : reported s s1) (reported_putBit s1 _ _)

theorem reported_sumpRise (src inst sub : Nat) : reported s (s.sumpRise src inst sub) := by
  unfold State.sumpRise
  extract_lets key held x s1
  split
  · exact reported_refl s
  · exact reported_trans (reported_sump s _ : reported s s1) (reported_trans (reported_putBit s1 _ _) (reported_sumpOccur _ _ _ _ _))

/-- A source of another severity than 7 raised changes no more than its occurrence does (R380). -/
theorem State.raise_eq_occur (src inst sub : Nat) (h : (s.sumpOccur src inst sub false).get (Fld.SUMP_SRC_SEVERITY src) ≠ 7) :
    s.raise src inst sub = s.sumpOccur src inst sub false := by
  unfold State.raise State.sumpOccurFixed
  dsimp only
  split
  · rename_i hn
    unfold State.sumpOccur
    rw [if_pos hn]
  · split
    · rfl
    · unfold State.sumpFixed
      rw [if_neg h]

/-- What is reported leaves the mode, the queue and the other parts alone. -/
theorem reported.mode {s t : State} (h : reported s t) : t.mode = s.mode := by
  have e := congrArg State.mode h.1
  exact e

theorem reported.pending {s t : State} (h : reported s t) : t.pending = s.pending := by
  have e := congrArg State.pending h.1
  exact e

theorem reported.rst {s t : State} (h : reported s t) : t.rst = s.rst := by
  have e := congrArg State.rst h.1
  exact e

theorem reported.core {s t : State} (h : reported s t) : t.core = s.core := by
  have e := congrArg State.core h.1
  exact e

theorem reported.pair {s t : State} (h : reported s t) : t.pair = s.pair := by
  have e := congrArg State.pair h.1
  exact e

theorem reported.chambers {s t : State} (h : reported s t) : t.chambers = s.chambers := by
  have e := congrArg State.chambers h.1
  exact e

theorem reported.sram {s t : State} (h : reported s t) : t.sram = s.sram := by
  have e := congrArg State.sram h.1
  exact e

end Sys2Proof.Machine
end

