-- ==== Sys2Proof/Laws/Units.lean ====
section
/-! SUPPORT. The numbered units (chambers, tasks, islands and their channels, drip units, captures, CAN controllers): each reads what was set,
every other as before, and the other fields of the state stay. -/
namespace Sys2Proof.Machine

variable (s : State)

/-! ### setChamber -/

@[simp] theorem State.chamber_setChamber_same (k : Nat) (x : Chamber) : (s.setChamber k x).chamber k = x := sparseGet_set_same _ s.chambers k x

theorem State.chamber_setChamber (k j : Nat) (x : Chamber) : (s.setChamber k x).chamber j = if j = k then x else s.chamber j := sparseGet_set _ s.chambers k j x

@[simp] theorem State.setChamber_getReg (k : Nat) (x : Chamber) (a : Nat) : (s.setChamber k x).getReg a = s.getReg a := rfl
@[simp] theorem State.setChamber_get (k : Nat) (x : Chamber) (r : RegField) : (s.setChamber k x).get r = s.get r := rfl
@[simp] theorem State.setChamber_bit (k : Nat) (x : Chamber) (r : RegField) : (s.setChamber k x).bit r = s.bit r := rfl
@[simp] theorem State.setChamber_pending (k : Nat) (x : Chamber) : (s.setChamber k x).pending = s.pending := rfl
@[simp] theorem State.setChamber_mode (k : Nat) (x : Chamber) : (s.setChamber k x).mode = s.mode := rfl
@[simp] theorem State.setChamber_regs (k : Nat) (x : Chamber) : (s.setChamber k x).regs = s.regs := rfl
@[simp] theorem State.setChamber_core (k : Nat) (x : Chamber) : (s.setChamber k x).core = s.core := rfl
@[simp] theorem State.setChamber_rst (k : Nat) (x : Chamber) : (s.setChamber k x).rst = s.rst := rfl
@[simp] theorem State.setChamber_gates (k : Nat) (x : Chamber) : (s.setChamber k x).gates = s.gates := rfl
@[simp] theorem State.setChamber_load (k : Nat) (x : Chamber) : (s.setChamber k x).load = s.load := rfl
@[simp] theorem State.setChamber_store (k : Nat) (x : Chamber) : (s.setChamber k x).store = s.store := rfl
@[simp] theorem State.setChamber_banks (k : Nat) (x : Chamber) : (s.setChamber k x).banks = s.banks := rfl
@[simp] theorem State.setChamber_inst (k : Nat) (x : Chamber) : (s.setChamber k x).inst = s.inst := rfl
@[simp] theorem State.setChamber_tasks (k : Nat) (x : Chamber) : (s.setChamber k x).tasks = s.tasks := rfl
@[simp] theorem State.setChamber_seq (k : Nat) (x : Chamber) : (s.setChamber k x).seq = s.seq := rfl
@[simp] theorem State.setChamber_sig (k : Nat) (x : Chamber) : (s.setChamber k x).sig = s.sig := rfl
@[simp] theorem State.setChamber_ls (k : Nat) (x : Chamber) : (s.setChamber k x).ls = s.ls := rfl
@[simp] theorem State.setChamber_olc (k : Nat) (x : Chamber) : (s.setChamber k x).olc = s.olc := rfl
@[simp] theorem State.setChamber_frc (k : Nat) (x : Chamber) : (s.setChamber k x).frc = s.frc := rfl
@[simp] theorem State.setChamber_pair (k : Nat) (x : Chamber) : (s.setChamber k x).pair = s.pair := rfl
@[simp] theorem State.setChamber_time (k : Nat) (x : Chamber) : (s.setChamber k x).time = s.time := rfl
@[simp] theorem State.setChamber_drips (k : Nat) (x : Chamber) : (s.setChamber k x).drips = s.drips := rfl
@[simp] theorem State.setChamber_caps (k : Nat) (x : Chamber) : (s.setChamber k x).caps = s.caps := rfl
@[simp] theorem State.setChamber_isl (k : Nat) (x : Chamber) : (s.setChamber k x).isl = s.isl := rfl
@[simp] theorem State.setChamber_cal (k : Nat) (x : Chamber) : (s.setChamber k x).cal = s.cal := rfl
@[simp] theorem State.setChamber_fl (k : Nat) (x : Chamber) : (s.setChamber k x).fl = s.fl := rfl
@[simp] theorem State.setChamber_bb (k : Nat) (x : Chamber) : (s.setChamber k x).bb = s.bb := rfl
@[simp] theorem State.setChamber_can (k : Nat) (x : Chamber) : (s.setChamber k x).can = s.can := rfl
@[simp] theorem State.setChamber_sump (k : Nat) (x : Chamber) : (s.setChamber k x).sump = s.sump := rfl
@[simp] theorem State.setChamber_fls (k : Nat) (x : Chamber) : (s.setChamber k x).fls = s.fls := rfl
@[simp] theorem State.setChamber_sec (k : Nat) (x : Chamber) : (s.setChamber k x).sec = s.sec := rfl
@[simp] theorem State.setChamber_tp (k : Nat) (x : Chamber) : (s.setChamber k x).tp = s.tp := rfl
@[simp] theorem State.setChamber_pwr (k : Nat) (x : Chamber) : (s.setChamber k x).pwr = s.pwr := rfl
@[simp] theorem State.setChamber_upd (k : Nat) (x : Chamber) : (s.setChamber k x).upd = s.upd := rfl
@[simp] theorem State.setChamber_sram (k : Nat) (x : Chamber) : (s.setChamber k x).sram = s.sram := rfl
@[simp] theorem State.setChamber_guardWaits (k : Nat) (x : Chamber) : (s.setChamber k x).guardWaits = s.guardWaits := rfl
@[simp] theorem State.setChamber_out (k : Nat) (x : Chamber) : (s.setChamber k x).out = s.out := rfl
@[simp] theorem State.setChamber_bus (k : Nat) (x : Chamber) : (s.setChamber k x).bus = s.bus := rfl
@[simp] theorem State.setChamber_freeCtr (k : Nat) (x : Chamber) : (s.setChamber k x).freeCtr = s.freeCtr := rfl

/-! ### setTask -/

@[simp] theorem State.task_setTask_same (k : Nat) (x : TaskState) : (s.setTask k x).task k = x := sparseGet_set_same _ s.tasks k x

theorem State.task_setTask (k j : Nat) (x : TaskState) : (s.setTask k x).task j = if j = k then x else s.task j := sparseGet_set _ s.tasks k j x

@[simp] theorem State.setTask_getReg (k : Nat) (x : TaskState) (a : Nat) : (s.setTask k x).getReg a = s.getReg a := rfl
@[simp] theorem State.setTask_get (k : Nat) (x : TaskState) (r : RegField) : (s.setTask k x).get r = s.get r := rfl
@[simp] theorem State.setTask_bit (k : Nat) (x : TaskState) (r : RegField) : (s.setTask k x).bit r = s.bit r := rfl
@[simp] theorem State.setTask_pending (k : Nat) (x : TaskState) : (s.setTask k x).pending = s.pending := rfl
@[simp] theorem State.setTask_mode (k : Nat) (x : TaskState) : (s.setTask k x).mode = s.mode := rfl
@[simp] theorem State.setTask_regs (k : Nat) (x : TaskState) : (s.setTask k x).regs = s.regs := rfl
@[simp] theorem State.setTask_core (k : Nat) (x : TaskState) : (s.setTask k x).core = s.core := rfl
@[simp] theorem State.setTask_rst (k : Nat) (x : TaskState) : (s.setTask k x).rst = s.rst := rfl
@[simp] theorem State.setTask_gates (k : Nat) (x : TaskState) : (s.setTask k x).gates = s.gates := rfl
@[simp] theorem State.setTask_load (k : Nat) (x : TaskState) : (s.setTask k x).load = s.load := rfl
@[simp] theorem State.setTask_store (k : Nat) (x : TaskState) : (s.setTask k x).store = s.store := rfl
@[simp] theorem State.setTask_banks (k : Nat) (x : TaskState) : (s.setTask k x).banks = s.banks := rfl
@[simp] theorem State.setTask_chambers (k : Nat) (x : TaskState) : (s.setTask k x).chambers = s.chambers := rfl
@[simp] theorem State.setTask_inst (k : Nat) (x : TaskState) : (s.setTask k x).inst = s.inst := rfl
@[simp] theorem State.setTask_seq (k : Nat) (x : TaskState) : (s.setTask k x).seq = s.seq := rfl
@[simp] theorem State.setTask_sig (k : Nat) (x : TaskState) : (s.setTask k x).sig = s.sig := rfl
@[simp] theorem State.setTask_ls (k : Nat) (x : TaskState) : (s.setTask k x).ls = s.ls := rfl
@[simp] theorem State.setTask_olc (k : Nat) (x : TaskState) : (s.setTask k x).olc = s.olc := rfl
@[simp] theorem State.setTask_frc (k : Nat) (x : TaskState) : (s.setTask k x).frc = s.frc := rfl
@[simp] theorem State.setTask_pair (k : Nat) (x : TaskState) : (s.setTask k x).pair = s.pair := rfl
@[simp] theorem State.setTask_time (k : Nat) (x : TaskState) : (s.setTask k x).time = s.time := rfl
@[simp] theorem State.setTask_drips (k : Nat) (x : TaskState) : (s.setTask k x).drips = s.drips := rfl
@[simp] theorem State.setTask_caps (k : Nat) (x : TaskState) : (s.setTask k x).caps = s.caps := rfl
@[simp] theorem State.setTask_isl (k : Nat) (x : TaskState) : (s.setTask k x).isl = s.isl := rfl
@[simp] theorem State.setTask_cal (k : Nat) (x : TaskState) : (s.setTask k x).cal = s.cal := rfl
@[simp] theorem State.setTask_fl (k : Nat) (x : TaskState) : (s.setTask k x).fl = s.fl := rfl
@[simp] theorem State.setTask_bb (k : Nat) (x : TaskState) : (s.setTask k x).bb = s.bb := rfl
@[simp] theorem State.setTask_can (k : Nat) (x : TaskState) : (s.setTask k x).can = s.can := rfl
@[simp] theorem State.setTask_sump (k : Nat) (x : TaskState) : (s.setTask k x).sump = s.sump := rfl
@[simp] theorem State.setTask_fls (k : Nat) (x : TaskState) : (s.setTask k x).fls = s.fls := rfl
@[simp] theorem State.setTask_sec (k : Nat) (x : TaskState) : (s.setTask k x).sec = s.sec := rfl
@[simp] theorem State.setTask_tp (k : Nat) (x : TaskState) : (s.setTask k x).tp = s.tp := rfl
@[simp] theorem State.setTask_pwr (k : Nat) (x : TaskState) : (s.setTask k x).pwr = s.pwr := rfl
@[simp] theorem State.setTask_upd (k : Nat) (x : TaskState) : (s.setTask k x).upd = s.upd := rfl
@[simp] theorem State.setTask_sram (k : Nat) (x : TaskState) : (s.setTask k x).sram = s.sram := rfl
@[simp] theorem State.setTask_guardWaits (k : Nat) (x : TaskState) : (s.setTask k x).guardWaits = s.guardWaits := rfl
@[simp] theorem State.setTask_out (k : Nat) (x : TaskState) : (s.setTask k x).out = s.out := rfl
@[simp] theorem State.setTask_bus (k : Nat) (x : TaskState) : (s.setTask k x).bus = s.bus := rfl
@[simp] theorem State.setTask_freeCtr (k : Nat) (x : TaskState) : (s.setTask k x).freeCtr = s.freeCtr := rfl

/-! ### setIsland -/

@[simp] theorem State.island_setIsland_same (k : Nat) (x : Island) : (s.setIsland k x).island k = x := sparseGet_set_same _ s.isl k x

theorem State.island_setIsland (k j : Nat) (x : Island) : (s.setIsland k x).island j = if j = k then x else s.island j := sparseGet_set _ s.isl k j x

@[simp] theorem State.setIsland_getReg (k : Nat) (x : Island) (a : Nat) : (s.setIsland k x).getReg a = s.getReg a := rfl
@[simp] theorem State.setIsland_get (k : Nat) (x : Island) (r : RegField) : (s.setIsland k x).get r = s.get r := rfl
@[simp] theorem State.setIsland_bit (k : Nat) (x : Island) (r : RegField) : (s.setIsland k x).bit r = s.bit r := rfl
@[simp] theorem State.setIsland_pending (k : Nat) (x : Island) : (s.setIsland k x).pending = s.pending := rfl
@[simp] theorem State.setIsland_mode (k : Nat) (x : Island) : (s.setIsland k x).mode = s.mode := rfl
@[simp] theorem State.setIsland_regs (k : Nat) (x : Island) : (s.setIsland k x).regs = s.regs := rfl
@[simp] theorem State.setIsland_core (k : Nat) (x : Island) : (s.setIsland k x).core = s.core := rfl
@[simp] theorem State.setIsland_rst (k : Nat) (x : Island) : (s.setIsland k x).rst = s.rst := rfl
@[simp] theorem State.setIsland_gates (k : Nat) (x : Island) : (s.setIsland k x).gates = s.gates := rfl
@[simp] theorem State.setIsland_load (k : Nat) (x : Island) : (s.setIsland k x).load = s.load := rfl
@[simp] theorem State.setIsland_store (k : Nat) (x : Island) : (s.setIsland k x).store = s.store := rfl
@[simp] theorem State.setIsland_banks (k : Nat) (x : Island) : (s.setIsland k x).banks = s.banks := rfl
@[simp] theorem State.setIsland_chambers (k : Nat) (x : Island) : (s.setIsland k x).chambers = s.chambers := rfl
@[simp] theorem State.setIsland_inst (k : Nat) (x : Island) : (s.setIsland k x).inst = s.inst := rfl
@[simp] theorem State.setIsland_tasks (k : Nat) (x : Island) : (s.setIsland k x).tasks = s.tasks := rfl
@[simp] theorem State.setIsland_seq (k : Nat) (x : Island) : (s.setIsland k x).seq = s.seq := rfl
@[simp] theorem State.setIsland_sig (k : Nat) (x : Island) : (s.setIsland k x).sig = s.sig := rfl
@[simp] theorem State.setIsland_ls (k : Nat) (x : Island) : (s.setIsland k x).ls = s.ls := rfl
@[simp] theorem State.setIsland_olc (k : Nat) (x : Island) : (s.setIsland k x).olc = s.olc := rfl
@[simp] theorem State.setIsland_frc (k : Nat) (x : Island) : (s.setIsland k x).frc = s.frc := rfl
@[simp] theorem State.setIsland_pair (k : Nat) (x : Island) : (s.setIsland k x).pair = s.pair := rfl
@[simp] theorem State.setIsland_time (k : Nat) (x : Island) : (s.setIsland k x).time = s.time := rfl
@[simp] theorem State.setIsland_drips (k : Nat) (x : Island) : (s.setIsland k x).drips = s.drips := rfl
@[simp] theorem State.setIsland_caps (k : Nat) (x : Island) : (s.setIsland k x).caps = s.caps := rfl
@[simp] theorem State.setIsland_cal (k : Nat) (x : Island) : (s.setIsland k x).cal = s.cal := rfl
@[simp] theorem State.setIsland_fl (k : Nat) (x : Island) : (s.setIsland k x).fl = s.fl := rfl
@[simp] theorem State.setIsland_bb (k : Nat) (x : Island) : (s.setIsland k x).bb = s.bb := rfl
@[simp] theorem State.setIsland_can (k : Nat) (x : Island) : (s.setIsland k x).can = s.can := rfl
@[simp] theorem State.setIsland_sump (k : Nat) (x : Island) : (s.setIsland k x).sump = s.sump := rfl
@[simp] theorem State.setIsland_fls (k : Nat) (x : Island) : (s.setIsland k x).fls = s.fls := rfl
@[simp] theorem State.setIsland_sec (k : Nat) (x : Island) : (s.setIsland k x).sec = s.sec := rfl
@[simp] theorem State.setIsland_tp (k : Nat) (x : Island) : (s.setIsland k x).tp = s.tp := rfl
@[simp] theorem State.setIsland_pwr (k : Nat) (x : Island) : (s.setIsland k x).pwr = s.pwr := rfl
@[simp] theorem State.setIsland_upd (k : Nat) (x : Island) : (s.setIsland k x).upd = s.upd := rfl
@[simp] theorem State.setIsland_sram (k : Nat) (x : Island) : (s.setIsland k x).sram = s.sram := rfl
@[simp] theorem State.setIsland_guardWaits (k : Nat) (x : Island) : (s.setIsland k x).guardWaits = s.guardWaits := rfl
@[simp] theorem State.setIsland_out (k : Nat) (x : Island) : (s.setIsland k x).out = s.out := rfl
@[simp] theorem State.setIsland_bus (k : Nat) (x : Island) : (s.setIsland k x).bus = s.bus := rfl
@[simp] theorem State.setIsland_freeCtr (k : Nat) (x : Island) : (s.setIsland k x).freeCtr = s.freeCtr := rfl

/-! ### setDrip -/

@[simp] theorem State.drip_setDrip_same (k : Nat) (x : Drip) : (s.setDrip k x).drip k = x := sparseGet_set_same _ s.drips k x

theorem State.drip_setDrip (k j : Nat) (x : Drip) : (s.setDrip k x).drip j = if j = k then x else s.drip j := sparseGet_set _ s.drips k j x

@[simp] theorem State.setDrip_getReg (k : Nat) (x : Drip) (a : Nat) : (s.setDrip k x).getReg a = s.getReg a := rfl
@[simp] theorem State.setDrip_get (k : Nat) (x : Drip) (r : RegField) : (s.setDrip k x).get r = s.get r := rfl
@[simp] theorem State.setDrip_bit (k : Nat) (x : Drip) (r : RegField) : (s.setDrip k x).bit r = s.bit r := rfl
@[simp] theorem State.setDrip_pending (k : Nat) (x : Drip) : (s.setDrip k x).pending = s.pending := rfl
@[simp] theorem State.setDrip_mode (k : Nat) (x : Drip) : (s.setDrip k x).mode = s.mode := rfl
@[simp] theorem State.setDrip_regs (k : Nat) (x : Drip) : (s.setDrip k x).regs = s.regs := rfl
@[simp] theorem State.setDrip_core (k : Nat) (x : Drip) : (s.setDrip k x).core = s.core := rfl
@[simp] theorem State.setDrip_rst (k : Nat) (x : Drip) : (s.setDrip k x).rst = s.rst := rfl
@[simp] theorem State.setDrip_gates (k : Nat) (x : Drip) : (s.setDrip k x).gates = s.gates := rfl
@[simp] theorem State.setDrip_load (k : Nat) (x : Drip) : (s.setDrip k x).load = s.load := rfl
@[simp] theorem State.setDrip_store (k : Nat) (x : Drip) : (s.setDrip k x).store = s.store := rfl
@[simp] theorem State.setDrip_banks (k : Nat) (x : Drip) : (s.setDrip k x).banks = s.banks := rfl
@[simp] theorem State.setDrip_chambers (k : Nat) (x : Drip) : (s.setDrip k x).chambers = s.chambers := rfl
@[simp] theorem State.setDrip_inst (k : Nat) (x : Drip) : (s.setDrip k x).inst = s.inst := rfl
@[simp] theorem State.setDrip_tasks (k : Nat) (x : Drip) : (s.setDrip k x).tasks = s.tasks := rfl
@[simp] theorem State.setDrip_seq (k : Nat) (x : Drip) : (s.setDrip k x).seq = s.seq := rfl
@[simp] theorem State.setDrip_sig (k : Nat) (x : Drip) : (s.setDrip k x).sig = s.sig := rfl
@[simp] theorem State.setDrip_ls (k : Nat) (x : Drip) : (s.setDrip k x).ls = s.ls := rfl
@[simp] theorem State.setDrip_olc (k : Nat) (x : Drip) : (s.setDrip k x).olc = s.olc := rfl
@[simp] theorem State.setDrip_frc (k : Nat) (x : Drip) : (s.setDrip k x).frc = s.frc := rfl
@[simp] theorem State.setDrip_pair (k : Nat) (x : Drip) : (s.setDrip k x).pair = s.pair := rfl
@[simp] theorem State.setDrip_time (k : Nat) (x : Drip) : (s.setDrip k x).time = s.time := rfl
@[simp] theorem State.setDrip_caps (k : Nat) (x : Drip) : (s.setDrip k x).caps = s.caps := rfl
@[simp] theorem State.setDrip_isl (k : Nat) (x : Drip) : (s.setDrip k x).isl = s.isl := rfl
@[simp] theorem State.setDrip_cal (k : Nat) (x : Drip) : (s.setDrip k x).cal = s.cal := rfl
@[simp] theorem State.setDrip_fl (k : Nat) (x : Drip) : (s.setDrip k x).fl = s.fl := rfl
@[simp] theorem State.setDrip_bb (k : Nat) (x : Drip) : (s.setDrip k x).bb = s.bb := rfl
@[simp] theorem State.setDrip_can (k : Nat) (x : Drip) : (s.setDrip k x).can = s.can := rfl
@[simp] theorem State.setDrip_sump (k : Nat) (x : Drip) : (s.setDrip k x).sump = s.sump := rfl
@[simp] theorem State.setDrip_fls (k : Nat) (x : Drip) : (s.setDrip k x).fls = s.fls := rfl
@[simp] theorem State.setDrip_sec (k : Nat) (x : Drip) : (s.setDrip k x).sec = s.sec := rfl
@[simp] theorem State.setDrip_tp (k : Nat) (x : Drip) : (s.setDrip k x).tp = s.tp := rfl
@[simp] theorem State.setDrip_pwr (k : Nat) (x : Drip) : (s.setDrip k x).pwr = s.pwr := rfl
@[simp] theorem State.setDrip_upd (k : Nat) (x : Drip) : (s.setDrip k x).upd = s.upd := rfl
@[simp] theorem State.setDrip_sram (k : Nat) (x : Drip) : (s.setDrip k x).sram = s.sram := rfl
@[simp] theorem State.setDrip_guardWaits (k : Nat) (x : Drip) : (s.setDrip k x).guardWaits = s.guardWaits := rfl
@[simp] theorem State.setDrip_out (k : Nat) (x : Drip) : (s.setDrip k x).out = s.out := rfl
@[simp] theorem State.setDrip_bus (k : Nat) (x : Drip) : (s.setDrip k x).bus = s.bus := rfl
@[simp] theorem State.setDrip_freeCtr (k : Nat) (x : Drip) : (s.setDrip k x).freeCtr = s.freeCtr := rfl

/-! ### setCap -/

@[simp] theorem State.cap_setCap_same (k : Nat) (x : CapState) : (s.setCap k x).cap k = x := sparseGet_set_same _ s.caps k x

theorem State.cap_setCap (k j : Nat) (x : CapState) : (s.setCap k x).cap j = if j = k then x else s.cap j := sparseGet_set _ s.caps k j x

@[simp] theorem State.setCap_getReg (k : Nat) (x : CapState) (a : Nat) : (s.setCap k x).getReg a = s.getReg a := rfl
@[simp] theorem State.setCap_get (k : Nat) (x : CapState) (r : RegField) : (s.setCap k x).get r = s.get r := rfl
@[simp] theorem State.setCap_bit (k : Nat) (x : CapState) (r : RegField) : (s.setCap k x).bit r = s.bit r := rfl
@[simp] theorem State.setCap_pending (k : Nat) (x : CapState) : (s.setCap k x).pending = s.pending := rfl
@[simp] theorem State.setCap_mode (k : Nat) (x : CapState) : (s.setCap k x).mode = s.mode := rfl
@[simp] theorem State.setCap_regs (k : Nat) (x : CapState) : (s.setCap k x).regs = s.regs := rfl
@[simp] theorem State.setCap_core (k : Nat) (x : CapState) : (s.setCap k x).core = s.core := rfl
@[simp] theorem State.setCap_rst (k : Nat) (x : CapState) : (s.setCap k x).rst = s.rst := rfl
@[simp] theorem State.setCap_gates (k : Nat) (x : CapState) : (s.setCap k x).gates = s.gates := rfl
@[simp] theorem State.setCap_load (k : Nat) (x : CapState) : (s.setCap k x).load = s.load := rfl
@[simp] theorem State.setCap_store (k : Nat) (x : CapState) : (s.setCap k x).store = s.store := rfl
@[simp] theorem State.setCap_banks (k : Nat) (x : CapState) : (s.setCap k x).banks = s.banks := rfl
@[simp] theorem State.setCap_chambers (k : Nat) (x : CapState) : (s.setCap k x).chambers = s.chambers := rfl
@[simp] theorem State.setCap_inst (k : Nat) (x : CapState) : (s.setCap k x).inst = s.inst := rfl
@[simp] theorem State.setCap_tasks (k : Nat) (x : CapState) : (s.setCap k x).tasks = s.tasks := rfl
@[simp] theorem State.setCap_seq (k : Nat) (x : CapState) : (s.setCap k x).seq = s.seq := rfl
@[simp] theorem State.setCap_sig (k : Nat) (x : CapState) : (s.setCap k x).sig = s.sig := rfl
@[simp] theorem State.setCap_ls (k : Nat) (x : CapState) : (s.setCap k x).ls = s.ls := rfl
@[simp] theorem State.setCap_olc (k : Nat) (x : CapState) : (s.setCap k x).olc = s.olc := rfl
@[simp] theorem State.setCap_frc (k : Nat) (x : CapState) : (s.setCap k x).frc = s.frc := rfl
@[simp] theorem State.setCap_pair (k : Nat) (x : CapState) : (s.setCap k x).pair = s.pair := rfl
@[simp] theorem State.setCap_time (k : Nat) (x : CapState) : (s.setCap k x).time = s.time := rfl
@[simp] theorem State.setCap_drips (k : Nat) (x : CapState) : (s.setCap k x).drips = s.drips := rfl
@[simp] theorem State.setCap_isl (k : Nat) (x : CapState) : (s.setCap k x).isl = s.isl := rfl
@[simp] theorem State.setCap_cal (k : Nat) (x : CapState) : (s.setCap k x).cal = s.cal := rfl
@[simp] theorem State.setCap_fl (k : Nat) (x : CapState) : (s.setCap k x).fl = s.fl := rfl
@[simp] theorem State.setCap_bb (k : Nat) (x : CapState) : (s.setCap k x).bb = s.bb := rfl
@[simp] theorem State.setCap_can (k : Nat) (x : CapState) : (s.setCap k x).can = s.can := rfl
@[simp] theorem State.setCap_sump (k : Nat) (x : CapState) : (s.setCap k x).sump = s.sump := rfl
@[simp] theorem State.setCap_fls (k : Nat) (x : CapState) : (s.setCap k x).fls = s.fls := rfl
@[simp] theorem State.setCap_sec (k : Nat) (x : CapState) : (s.setCap k x).sec = s.sec := rfl
@[simp] theorem State.setCap_tp (k : Nat) (x : CapState) : (s.setCap k x).tp = s.tp := rfl
@[simp] theorem State.setCap_pwr (k : Nat) (x : CapState) : (s.setCap k x).pwr = s.pwr := rfl
@[simp] theorem State.setCap_upd (k : Nat) (x : CapState) : (s.setCap k x).upd = s.upd := rfl
@[simp] theorem State.setCap_sram (k : Nat) (x : CapState) : (s.setCap k x).sram = s.sram := rfl
@[simp] theorem State.setCap_guardWaits (k : Nat) (x : CapState) : (s.setCap k x).guardWaits = s.guardWaits := rfl
@[simp] theorem State.setCap_out (k : Nat) (x : CapState) : (s.setCap k x).out = s.out := rfl
@[simp] theorem State.setCap_bus (k : Nat) (x : CapState) : (s.setCap k x).bus = s.bus := rfl
@[simp] theorem State.setCap_freeCtr (k : Nat) (x : CapState) : (s.setCap k x).freeCtr = s.freeCtr := rfl

/-! ### setCan -/

@[simp] theorem State.canSt_setCan_same (k : Nat) (x : CanState) : (s.setCan k x).canSt k = x := sparseGet_set_same _ s.can k x

theorem State.canSt_setCan (k j : Nat) (x : CanState) : (s.setCan k x).canSt j = if j = k then x else s.canSt j := sparseGet_set _ s.can k j x

@[simp] theorem State.setCan_getReg (k : Nat) (x : CanState) (a : Nat) : (s.setCan k x).getReg a = s.getReg a := rfl
@[simp] theorem State.setCan_get (k : Nat) (x : CanState) (r : RegField) : (s.setCan k x).get r = s.get r := rfl
@[simp] theorem State.setCan_bit (k : Nat) (x : CanState) (r : RegField) : (s.setCan k x).bit r = s.bit r := rfl
@[simp] theorem State.setCan_pending (k : Nat) (x : CanState) : (s.setCan k x).pending = s.pending := rfl
@[simp] theorem State.setCan_mode (k : Nat) (x : CanState) : (s.setCan k x).mode = s.mode := rfl
@[simp] theorem State.setCan_regs (k : Nat) (x : CanState) : (s.setCan k x).regs = s.regs := rfl
@[simp] theorem State.setCan_core (k : Nat) (x : CanState) : (s.setCan k x).core = s.core := rfl
@[simp] theorem State.setCan_rst (k : Nat) (x : CanState) : (s.setCan k x).rst = s.rst := rfl
@[simp] theorem State.setCan_gates (k : Nat) (x : CanState) : (s.setCan k x).gates = s.gates := rfl
@[simp] theorem State.setCan_load (k : Nat) (x : CanState) : (s.setCan k x).load = s.load := rfl
@[simp] theorem State.setCan_store (k : Nat) (x : CanState) : (s.setCan k x).store = s.store := rfl
@[simp] theorem State.setCan_banks (k : Nat) (x : CanState) : (s.setCan k x).banks = s.banks := rfl
@[simp] theorem State.setCan_chambers (k : Nat) (x : CanState) : (s.setCan k x).chambers = s.chambers := rfl
@[simp] theorem State.setCan_inst (k : Nat) (x : CanState) : (s.setCan k x).inst = s.inst := rfl
@[simp] theorem State.setCan_tasks (k : Nat) (x : CanState) : (s.setCan k x).tasks = s.tasks := rfl
@[simp] theorem State.setCan_seq (k : Nat) (x : CanState) : (s.setCan k x).seq = s.seq := rfl
@[simp] theorem State.setCan_sig (k : Nat) (x : CanState) : (s.setCan k x).sig = s.sig := rfl
@[simp] theorem State.setCan_ls (k : Nat) (x : CanState) : (s.setCan k x).ls = s.ls := rfl
@[simp] theorem State.setCan_olc (k : Nat) (x : CanState) : (s.setCan k x).olc = s.olc := rfl
@[simp] theorem State.setCan_frc (k : Nat) (x : CanState) : (s.setCan k x).frc = s.frc := rfl
@[simp] theorem State.setCan_pair (k : Nat) (x : CanState) : (s.setCan k x).pair = s.pair := rfl
@[simp] theorem State.setCan_time (k : Nat) (x : CanState) : (s.setCan k x).time = s.time := rfl
@[simp] theorem State.setCan_drips (k : Nat) (x : CanState) : (s.setCan k x).drips = s.drips := rfl
@[simp] theorem State.setCan_caps (k : Nat) (x : CanState) : (s.setCan k x).caps = s.caps := rfl
@[simp] theorem State.setCan_isl (k : Nat) (x : CanState) : (s.setCan k x).isl = s.isl := rfl
@[simp] theorem State.setCan_cal (k : Nat) (x : CanState) : (s.setCan k x).cal = s.cal := rfl
@[simp] theorem State.setCan_fl (k : Nat) (x : CanState) : (s.setCan k x).fl = s.fl := rfl
@[simp] theorem State.setCan_bb (k : Nat) (x : CanState) : (s.setCan k x).bb = s.bb := rfl
@[simp] theorem State.setCan_sump (k : Nat) (x : CanState) : (s.setCan k x).sump = s.sump := rfl
@[simp] theorem State.setCan_fls (k : Nat) (x : CanState) : (s.setCan k x).fls = s.fls := rfl
@[simp] theorem State.setCan_sec (k : Nat) (x : CanState) : (s.setCan k x).sec = s.sec := rfl
@[simp] theorem State.setCan_tp (k : Nat) (x : CanState) : (s.setCan k x).tp = s.tp := rfl
@[simp] theorem State.setCan_pwr (k : Nat) (x : CanState) : (s.setCan k x).pwr = s.pwr := rfl
@[simp] theorem State.setCan_upd (k : Nat) (x : CanState) : (s.setCan k x).upd = s.upd := rfl
@[simp] theorem State.setCan_sram (k : Nat) (x : CanState) : (s.setCan k x).sram = s.sram := rfl
@[simp] theorem State.setCan_guardWaits (k : Nat) (x : CanState) : (s.setCan k x).guardWaits = s.guardWaits := rfl
@[simp] theorem State.setCan_out (k : Nat) (x : CanState) : (s.setCan k x).out = s.out := rfl
@[simp] theorem State.setCan_bus (k : Nat) (x : CanState) : (s.setCan k x).bus = s.bus := rfl
@[simp] theorem State.setCan_freeCtr (k : Nat) (x : CanState) : (s.setCan k x).freeCtr = s.freeCtr := rfl

/-! ### setChan -/

/-- A channel reads what was set, and every other channel of every island as before. -/
theorem State.chan_setChan (n m : Nat) (c : IslChan) : (s.setChan n c).chan m = if m = n then c else s.chan m := by
  unfold State.chan State.setChan
  rw [State.island_setIsland]
  by_cases hi : m / 8 = n / 8
  · rw [if_pos hi, hi]
    refine (sparseGet_set _ (s.island (n / 8)).chans (n % 8) (m % 8) c).trans ?_
    by_cases hj : m % 8 = n % 8
    · rw [if_pos hj, if_pos (by omega)]
    · rw [if_neg hj, if_neg (by omega)]
  · rw [if_neg hi, if_neg (fun e => hi (by rw [e]))]

@[simp] theorem State.setChan_getReg (n : Nat) (c : IslChan) (a : Nat) : (s.setChan n c).getReg a = s.getReg a := rfl
@[simp] theorem State.setChan_get (n : Nat) (c : IslChan) (r : RegField) : (s.setChan n c).get r = s.get r := rfl
@[simp] theorem State.setChan_bit (n : Nat) (c : IslChan) (r : RegField) : (s.setChan n c).bit r = s.bit r := rfl

end Sys2Proof.Machine
end

