-- ==== Sys2Proof/WellFormed.lean ====
section
/-! DEFINITION. Which commands a sender can form: the ranges that an operand's type does not give by itself. The meanings are total all
the same; a statement that needs a range says so. -/
namespace Sys2Proof

/-- A register access is aligned and lies in the register blocks (R10, R463). (DESIGN CHOICE, log entry 9.) -/
def regAddrWf (a : Word) : Bool := a.toNat % 4 == 0 && decide (0x40000000 ≤ a.toNat) && decide (a.toNat < 0x40150000)

/-- An access of one of the six initiators: at most 64 bytes for a host core and 256 for the others (R370), inside the 32-bit address
space; only host cores fetch, and the others are privileged (R364); a write and an atomic carry the bytes they write.
(DESIGN CHOICE, log entries 9, 80.) -/
def accessWf (a : Access) : Bool :=
  decide (1 ≤ a.len) && decide (a.len ≤ if a.initiator ≤ 2 then 64 else 256) && decide (a.addr.toNat + a.len ≤ 2 ^ 32)
    && decide (1 ≤ a.initiator) && decide (a.initiator ≤ 6) && (decide (a.initiator ≤ 2) || (a.privileged && decide (a.kind ≠ .fetch)))
    && (decide (a.kind = .read ∨ a.kind = .fetch) || decide (a.data.length = a.len))

/-- A CAN frame carries 0 to 8 bytes, or one of the lengths of CAN FD up to 64 (R335). (DESIGN CHOICE, log entry 9.) -/
def canFrameWf (f : CanFrame) : Bool := [0, 1, 2, 3, 4, 5, 6, 7, 8, 12, 16, 20, 24, 32, 48, 64].contains f.data.length

/-- A backbone frame has a header and an FCS (R318). (DESIGN CHOICE, log entry 9.) -/
def bbFrameWf (f : BbFrame) : Bool := decide (18 ≤ f.wire.length)

/-- A Lifeline header names one of the two lanes, and its fields fit their bytes (R219, R220). (DESIGN CHOICE, log entry 9.) -/
def llHeaderWf (h : LLHeader) : Bool :=
  decide (h.lane < 2) && decide (h.protoMajor < 256) && decide (h.protoMinor < 256) && decide (h.type < 256) && decide (h.txTime < 2 ^ 64)
    && decide (h.length ≤ 8192)

/-- The commands a sender can form. (DESIGN CHOICE, log entry 9.) -/
def Instr.wf : Instr → Bool
  | .registerWrite a _ => regAddrWf a
  | .lsDbgHostAccess a _ _ => regAddrWf a
  | .guardRuleWrite a _ _ => regAddrWf a
  | .snapshotRead a => regAddrWf a
  | .hostAccess a => accessWf a
  | .dap a => accessWf a && decide (a.initiator = 3)
  | .canFrameRx _ f => canFrameWf f
  | .canRemoteFrame _ f => canFrameWf f
  | .bbFrameRx _ f => bbFrameWf f
  | .hello h _ => llHeaderWf h
  | .llStatus h _ => llHeaderWf h
  | .image h _ => llHeaderWf h
  | .outcome h _ => llHeaderWf h
  | .journal h _ => llHeaderWf h
  | .duplex h _ => llHeaderWf h
  | .command h _ => llHeaderWf h
  | .ack h _ => llHeaderWf h
  | .llTime h _ => llHeaderWf h
  | .bulk h _ => llHeaderWf h
  | .departure h => llHeaderWf h
  | .relinquish f => llHeaderWf f.hdr && decide (f.source < 256)
  | _ => true

end Sys2Proof
end

