-- ==== Sys2Proof/Tests/Slice0.lean ====
section
/-! SUPPORT. Tests of the model, all decided by the kernel: for every statement of the certificates with hypotheses a state and operands
that meet them, clause by clause (test_witness_<statement or part>), the worked examples of the spec (test_example_…), words of block code
written out from its formats (test_block_…), and commands that no sender can form (test_wf_…). -/
namespace Sys2Proof.Machine.Tests
open Sys2Proof Sys2Proof.Machine

set_option Elab.async false

/-- Its header before the CRC. -/
def header0 : SurveyHeader := ⟨0x56525553, 1, 0, 2048, 0x7400, 0, 7, 6, 4, 1, 3, 1, 0, 10, 3, 64, 0, 0, [], 0⟩

/-- Its trailer before the CRC. -/
def trailer0 : SurveyTrailer := ⟨0x47495353, 0, 0x1234, 0, 0, 0, 0, 0, true, true, true⟩

/-- A survey with one task of 1 ms on one chamber that passes every check of R117. -/
def survey0 : Survey where
  header := { header0 with crc := 0x6479ef08 }
  dir := [⟨1, 0, 0, 448, 32, true, true⟩, ⟨2, 0, 0, 512, 24, true, true⟩, ⟨3, 0, 0, 576, 64, true, true⟩, ⟨4, 0, 0, 640, 48, true, true⟩, ⟨6, 0, 0, 704, 16, true, true⟩,
    ⟨7, 0, 0, 768, 48, true, true⟩, ⟨8, 0, 0, 832, 96, true, true⟩, ⟨9, 0, 0, 960, 16, true, true⟩, ⟨0xC, 0, 0, 1024, 16, true, true⟩, ⟨0xD, 0, 0, 1088, 16, true, true⟩]
  trailer := { trailer0 with crc := 0x43b20464 }
  digest := 0x1234
  tasks := [⟨0, 0, 4, 0, 0, 1, 8⟩]
  slots := [⟨0, 0, 0, 25000, 100, 0, 0, 64⟩]
  code := [⟨0, 0, [0, 0, 0, 0]⟩]
  fabric := [⟨1, 0, 0xFF, 0, 1, 1, 0, 0, 0⟩, ⟨2, 0, 0, 1, 0, 1, 0, 0xF800, 1⟩, ⟨3, 0, 0xFF, 0, 18, 1, 0, 0, 32⟩]
  triggers := []
  frameSlots := [⟨0, 1, 1, 0, 50000, -1000, 0, 0, 0⟩]
  drips := [⟨0, 0, 0, 0, 1000000⟩, ⟨1, 2, 0, 0, 1000000⟩]
  signals := [⟨1, 0, 3, 1, 0, 0, false, true, 0, 0, 0, 0⟩, ⟨2, 4, 0, 0, 0, 4, false, false, 0, 0, 0, 0⟩, ⟨3, 8, 2, 0, 0, 0, true, false, 1, 0, 0, 0⟩]
  layout := [⟨0, 64, 0, 0, 0, 0⟩]
  variants := []
  migration := []
  canMap := [⟨0, 0, true, 0, 0x123, 0, 8, false, 0⟩]
  ringSlots := [⟨0, 0, 0, 0, true, 4⟩, ⟨1, 1, 0, 0, false, 4⟩]
  initValues := []

/-- The state after reset, out of reset, in a mode, with some fields of registers. -/
def at0 (m : Mode) (l : List (RegField × Nat)) : State :=
  State.putAll { State.reset with mode := m, rst := { State.reset.rst with inReset := false } } l

/-- A module that runs `survey0`. -/
def running (l : List (RegField × Nat)) : State :=
  State.putAll { at0 .run [(Fld.SVY_BANK_STATE 0, 3), (Fld.SEQ_STAT_RUNNING, 1), (Fld.SEQ_TASK_STAT_STATE 0, 1), (Fld.PWR_STAT_HOLDUP_FULL, 1),
      (Fld.GAL_TASK_INST_HI_END 0, 64)] with
    banks := [(0, ⟨some survey0⟩)] } l

/-- A lane of that module's chamber 0 before an instruction. -/
def lane0 : LaneState :=
  { LaneState.reset with g := [(1, 0x100000), (2, 7), (3, 0xFFFFFFFFFFFFFFFF), (4, 8)], fin := .running, pc := 0 }

/-- An execution of task 0 in chamber 0. -/
def exec0 : Execution := ⟨0, 0, 0, false, 0, 64, 0, 0, 64, 100, 0, 0, false, 0⟩

/-- That module while chamber 0 executes. -/
def executing (l : List (RegField × Nat)) : State :=
  (running ((Fld.GAL_CH_STAT_STATE 0, Ch.EXECUTING) :: l)).setChamber 0
    { Chamber.reset with main := lane0, checker := lane0, exec := some exec0 }

/-- What holds of the next state an outcome answers. -/
def nextIs (o : Host.Outcome State Fault Refusal) (p : State → Bool) : Bool :=
  match o with
  | .next t => p t
  | _ => false

/-! ### Registers, modes, supply, resets -/

theorem test_witness_StepRunsFrontCommand :
    ({ State.reset with pending := [.porAssert, .pinRelease] } : State).pending = .porAssert :: [.pinRelease] := rfl

theorem test_witness_StepKeepsCanonicalForm :
    State.reset.regsWf = true ∧ Memory.wf State.reset = true ∧ step State.reset = .next State.reset.tick := ⟨by decide, by decide, rfl⟩

theorem test_witness_RegisterAccessWidth : (0x40000001 : Word).toNat % 4 ≠ 0 := by decide

theorem test_witness_ResetCounters : (at0 .run []).rst.inReset = false ∧ State.reset.rst.inReset = true ∧ (at0 .run []).mode ≠ .hibernate ∧
    (at0 .run []).rst.wdtRunning = true := by decide

theorem test_witness_StatusAndConversions_StatusPrecedence : tagFirst Tag.FORCED Tag.GOOD = Tag.FORCED ∧ tagFirst Tag.GOOD Tag.FORCED = Tag.FORCED ∧
    tagFirst Tag.HELD Tag.STALE = Tag.STALE ∧ propagate Tag.SIMULATED Tag.INIT = Tag.INIT ∧ (0 : Nibble) ≠ 7 ∧ (8 : Nat) ≠ 9 := by decide

/-- A register with plain read-write bits (BB_CTRL), a clamped one, a reserved offset, a block behind a closed gate. -/
theorem test_witness_RegisterWrites :
    Reg.BB_CTRL % 4 = 0 ∧
    (at0 .run [(Fld.GATE_CTRL_STATE 44, 0)]).regDenied Reg.BB_CTRL false = false ∧ (regFind Reg.BB_CTRL).isSome = true ∧ clamped Reg.BB_CTRL = false ∧
    clamped Reg.TIME_RATE = true ∧ clamped Reg.PAIR_CTRL = true ∧ regFind 0x4000FFFC = none ∧ (at0 .run []).regDenied 0x4000FFFC false = false ∧
    0x4000FFFC % 4 = 0 ∧ (at0 .run []).regDenied Reg.BB_CTRL false = true ∧ ownEffect Reg.BB_CTRL = false ∧ (at0 .run []).tpConfigLocked Reg.BB_CTRL = false ∧
   ownEffect 0x4000FFFC = false ∧ (at0 .run []).tpConfigLocked 0x4000FFFC = false := by decide

/-- A drip unit that the survey owns and one it does not, a ring locked and free, a breakpoint at a debug level and below it, a perturbation
configuration locked by its kind, and a register that commands something. -/
theorem test_witness_RegisterWrites_conditions :
    let tp := at0 .service [(Fld.GATE_CTRL_STATE 49, 0), (Fld.TP_STAT_ACTIVE, 1)]
    (at0 .run [(Fld.DRIP_CTRL_SURVEY 0, 1)]).bit (Fld.DRIP_CTRL_SURVEY 0) = true ∧ (at0 .run []).bit (Fld.DRIP_CTRL_SURVEY 0) = false ∧
    (at0 .run [(Fld.GATE_CTRL_STATE 46, 0)]).get (Fld.GATE_CTRL_STATE 46) = 0 ∧ (at0 .run [(Fld.RING_LOCK_LOCK, 1)]).bit Fld.RING_LOCK_LOCK = true ∧
    2 ≤ (at0 .run [(Fld.SEC_STATUS_DBG_LEVEL, 2)]).get Fld.SEC_STATUS_DBG_LEVEL ∧ tp.get (Fld.GATE_CTRL_STATE 49) = 0 ∧ Reg.TP_LL % 4 = 0 ∧
    Reg.TP_LL ≠ Reg.TP_CMD ∧ tp.tpConfigLocked Reg.TP_LL = true ∧ (at0 .run []).regDenied Reg.RST_SW false = false := by decide

theorem test_witness_BusAccesses_SnapshotReadLatches :
    (regFind Reg.IDENT_IDCODE).isSome = true ∧ (at0 .run []).regShown Reg.IDENT_IDCODE = none ∧ freeMask Reg.IDENT_IDCODE = 0 ∧
    (at0 .run []).regLatch Reg.IDENT_IDCODE = at0 .run [] ∧ regFind 0x4000FFFC = none := by decide

/-- The modes that a mode command acts in, out of a SYNCED pair and in one. -/
theorem test_witness_ModeCommands :
    let hold := { running [] with mode := .hold }
    let serv := at0 .service []
    let eng := at0 .run [(Fld.SEC_STATUS_ENG_SESSION, 1)]
    hold.core.modeReq = none ∧ hold.ll ≠ .synced ∧ hold.ll ≠ .linked ∧ hold.mode = .hold ∧ hold.surveyVerified = true ∧ hold.bit Fld.PAIR_STAT_YIELDED = false ∧
    serv.core.modeReq = none ∧ serv.ll ≠ .synced ∧ serv.mode = .service ∧ eng.mode = .run ∧ eng.bit Fld.SEC_STATUS_ENG_SESSION = true ∧
    eng.ll ≠ .synced ∧ (at0 .load []).mode ≠ .hold ∧ (at0 .load []).mode ≠ .run ∧ (at0 .load []).mode ≠ .service ∧
    (at0 .run []).bit Fld.SEC_STATUS_ENG_SESSION = false ∧ (at0 .hold []).surveyVerified = false := by decide

theorem test_witness_ModeCommands_ModeCommandsInPair :
    let lead := at0 .run [(Fld.PAIR_STAT_LL_STATE, 3), (Fld.PAIR_STAT_ROLE, 1)]
    let shadow := at0 .service [(Fld.PAIR_STAT_LL_STATE, 3), (Fld.PAIR_STAT_ROLE, 2)]
    let waits := { at0 .run [] with core := { CoreState.reset with modeReq := some ⟨.service, 4, none⟩ } }
    lead.mode = .run ∧ lead.ll = .synced ∧ lead.role = .lead ∧ lead.core.modeReq = none ∧ shadow.mode = .service ∧ shadow.ll = .synced ∧
    shadow.role = .shadow ∧ waits.core.modeReq = some ⟨.service, 4, none⟩ ∧ waits.ll ≠ .synced := by decide

theorem test_witness_ModeTransitions_ModeTransitionTakesEffect :
    let r : ModeReq := ⟨.hold, 4, none⟩
    let s : State := { running [] with core := { CoreState.reset with modeReq := some r } }
    let far : ModeReq := ⟨.hold, 4, some 9⟩
    s.core.modeReq = some r ∧ r.target ≠ .hibernate ∧ s.modeDue r = true ∧ modeAllowed s.mode r.target = true ∧ modeAllowed .load r.target = false ∧
    s.modeDue far = false ∧ s.bit Fld.SEQ_STAT_RUNNING = true ∧ (at0 .hold []).bit Fld.SEQ_STAT_RUNNING = false := by decide

theorem test_witness_FrontPanelAndInsertion_FrontPanelButtons :
    let s : State := { at0 .service [(Fld.ISL_CH_CFG_MODE 1, chAI)] with core := { CoreState.reset with page := 4 } }
    s.mode ≠ .hibernate ∧ s.mode = .service ∧ 4 ≤ s.core.page ∧ s.aiPages[s.core.page - 4]? = some 1 ∧ s.pageCount ≤ s.core.page + 1 ∧
    (at0 .run []).core.page + 1 < (at0 .run []).pageCount ∧ (at0 .run []).core.mainPath = .on ∧ s.core.mainPath = .on ∧ (at0 .hibernate []).mode = .hibernate ∧ (at0 .run []).core.page < 4 := by decide

theorem test_witness_FrontPanelAndInsertion_InsertionSequence :
    let at' (p : MainPath) : State := { State.reset with core := { CoreState.reset with mainPath := p, porHeld := true, extracted := true } }
    (at' .absent).core.mainPath = .absent ∧ (at' .debouncing).core.mainPath = .debouncing ∧ (at' .ramping).core.mainPath = .ramping ∧
    (at' .absent).core.porHeld = true ∧ (at' .absent).core.extracted = true := by decide

theorem test_witness_SupplyAndDataSave :
    let off : State := { at0 .run [] with core := { CoreState.reset with interrupted := true } }
    (at0 .run []).core.interrupted = false ∧ (at0 .run []).rst.inReset = false ∧ (at0 .run []).mode ≠ .hibernate ∧ off.core.interrupted = true ∧
    off.rst.inReset = false ∧ 1679 < 1680 ∧ (at0 .run []).bit Fld.PWR_STAT_ON_HOLDUP = false ∧
    (at0 .run [(Fld.PWR_STAT_ON_HOLDUP, 1)]).bit Fld.PWR_STAT_ON_HOLDUP = true ∧ (at0 .run []).core.mainPath = .on ∧
    (at0 .run []).core.extracted = false ∧ (at0 .run []).load.leaving = none := by decide

/-- In HIBERNATE, in reset, with the record of the interruption in the write queue, with a LOAD that waits for the reserve, withdrawn. -/
theorem test_witness_SupplyAndDataSave_others :
    let r : FlsRecord := ⟨0x11, 7, 0, 0, 0, 0, false, false, [0, 0, 0, 0], none⟩
    let q : State := { at0 .run [] with
      core := { CoreState.reset with interrupted := true, interruptSeq := some 7 }
      fls := { State.reset.fls with queue := [.record r] } }
    let w : State := { at0 .load [] with load := { LoadState.reset with leaving := some .hold } }
    let out : State := { at0 .run [] with core := { CoreState.reset with mainPath := .absent, extracted := true } }
    (at0 .hibernate []).mode = .hibernate ∧ (at0 .hibernate []).rst.inReset = false ∧ (at0 .hibernate []).core.interrupted = false ∧
    (at0 .hibernate []).core.mainPath = .on ∧ (at0 .hibernate []).core.extracted = false ∧
    State.reset.rst.inReset = true ∧ State.reset.core.interrupted = false ∧ State.reset.core.mainPath = .on ∧ State.reset.core.extracted = false ∧
    q.core.interrupted = true ∧ q.core.interruptSeq = some r.seq.toNat ∧ .record r ∈ q.fls.queue ∧ 1680 ≤ 1680 ∧
    w.bit Fld.PWR_STAT_ON_HOLDUP = false ∧ w.load.leaving = some .hold ∧ w.mode = .load ∧ out.core.mainPath ≠ .on ∧ out.core.extracted = true := by
  decide

theorem test_witness_ResetEpisodes :
    (at0 .run []).rst.inReset = false ∧ (at0 .run []).rst.wdtRunning = true ∧ Fld.RST_SW_REQ.on (0x5EB00000 ||| Fld.RST_SW_REQ.mask) = true ∧
    Fld.RST_SW_KEY.ext (Fld.RST_SW_KEY.ins Fld.RST_SW_REQ.mask 0x5EB0) = 0x5EB0 ∧ Fld.RST_SW_REQ.on (Fld.RST_SW_KEY.ins Fld.RST_SW_REQ.mask 0x5EB0) = true ∧
    (at0 .run [(Fld.SEC_STATUS_DBG_LEVEL, 3)]).get Fld.SEC_STATUS_DBG_LEVEL = 3 ∧ (39 < 40 ∨ 140 < 39) ∧ State.reset.rst.inReset = true ∧
    Fld.RST_SW_REQ.on Fld.RST_SW_REQ.mask = true ∧ Fld.RST_SW_KEY.ext Fld.RST_SW_REQ.mask ≠ 0x5EB0 ∧ Fld.RST_SW_REQ.on 0 = false ∧
    State.reset.time.cycles < 16 ∧ 16 ≤ ({ State.reset with time := { State.reset.time with cycles := 16 } } : State).time.cycles ∧
    (State.reset.put Fld.RST_CAUSE_FIRST 4).get Fld.RST_CAUSE_FIRST = 4 := by decide

theorem test_witness_ResetReleaseAndCause_ResetRelease :
    State.reset.core.porHeld = false ∧ State.reset.rst.inReset = true ∧ State.reset.rst.asserted = 0 ∧ State.reset.sec.erasePending = false ∧
    ({ State.reset with rst := { ResetState.reset with asserted := 4 } } : State).rst.asserted ≠ 0 := by decide

theorem test_witness_WatchdogKickLogic :
    let armed : State := { at0 .run [(Fld.WDT_CTRL_ENABLE, 1)] with rst := { ResetState.reset with inReset := false, wdtArmed := true } }
    (at0 .run []).rst.wdtArmed = false ∧ Fld.WDT_KICK_CODE.ext 0xA5 = 0xA5 ∧ Fld.WDT_KICK_CODE.ext 0x5A = 0x5A ∧ Fld.WDT_KICK_CODE.ext 0 ≠ 0xA5 ∧
    Fld.WDT_KICK_CODE.ext 0 ≠ 0x5A ∧ armed.rst.wdtArmed = true ∧ armed.rst.wdtRunning = true ∧ armed.bit Fld.RST_LOCK_LOCK = false ∧
    armed.bit Fld.WDT_CTRL_ENABLE = true ∧ Fld.WDT_CTRL_ENABLE.on 0 = false ∧ Fld.WDT_CTRL_ENABLE.on Fld.WDT_CTRL_ENABLE.mask = true := by decide

theorem test_witness_Clocks_ReferenceSwitching :
    let s := at0 .run [(Fld.CLK_STAT_REF_STRAP, 1)]
    let lost := at0 .run [(Fld.CLK_STAT_REF_STRAP, 1), (Fld.CLK_STAT_REF_ACTIVE, 1)]
    let good := at0 .run [(Fld.CLK_STAT_REF_STRAP, 1), (Fld.CLK_STAT_BASE_OK, 1)]
    let moving : State := { s with rst := { s.rst with refMoving := some 1 } }
    s.rst.inReset = false ∧ s.get Fld.CLK_STAT_REF_STRAP = 1 ∧ s.rst.refWanted = true ∧ s.get Fld.CLK_STAT_REF_ACTIVE = 0 ∧
    moving.rst.refMoving = some 1 ∧ lost.get Fld.CLK_STAT_REF_STRAP = 1 ∧ lost.get Fld.CLK_STAT_REF_ACTIVE = 1 ∧
    Fld.CLK_CTRL_REF_RESTORE.on Fld.CLK_CTRL_REF_RESTORE.mask = true ∧ good.get Fld.CLK_STAT_REF_STRAP = 1 ∧ good.bit Fld.CLK_STAT_BASE_OK = true ∧
    good.get Fld.CLK_STAT_REF_ACTIVE = 0 ∧ s.bit s.strapOkField = false ∧ s.rst.refMoving ≠ some 1 ∧ s.mode ≠ .load ∧
    (at0 .load [(Fld.CLK_STAT_REF_STRAP, 1)]).load.step < 5 ∧ State.reset.rst.inReset = true ∧ (at0 .run []).get Fld.CLK_STAT_REF_STRAP = 0 := by decide

/-- The boundaries of a monitor's window: 1 % of 4,000 counts either way. -/
theorem test_witness_Clocks_ClockMonitors :
    let s := at0 .run []
    let skip : State := { s with rst := { s.rst with monSkip := 1, monBad := 1 } }
    skip.rst.monSkip.getLsbD 0 = true ∧ s.rst.monSkip.getLsbD 0 = false ∧ monOut 0 (s.get Fld.CLK_STAT_SQZ_RATIO) 8000 = false ∧
    monOut 0 (s.get Fld.CLK_STAT_SQZ_RATIO) 8080 = false ∧ monOut 0 (s.get Fld.CLK_STAT_SQZ_RATIO) 8081 = true ∧
    s.rst.monBad.getLsbD 0 = false ∧ skip.rst.monBad.getLsbD 0 = true ∧ s.rst.inReset = false := by decide

theorem test_witness_BlockResets :
    let open' := (at0 .run [(Fld.GATE_CTRL_STATE 16, 0)]).setGate 16 ⟨true, false, false, none, false⟩
    let drain (q : Bool) (st : Nat) := (at0 .run [(Fld.GATE_CTRL_STATE 16, st)]).setGate 16 ⟨true, true, q, some 3, false⟩
    let req := (Fld.GATE_CTRL_REQ 16).mask
    let rel := (Fld.GATE_CTRL_RELEASE 16).mask
    (Fld.GATE_CTRL_REQ 16).on req = true ∧ (Fld.GATE_CTRL_RELEASE 16).on req = false ∧ open'.rst.inReset = false ∧
    (open'.gate 16).released = true ∧ (open'.gate 16).resetting = false ∧ open'.bit (Fld.GATE_CTRL_QUIESCE 16) = false ∧
    (Fld.GATE_CTRL_QUIESCE 16).on req = false ∧ ((drain false 1).gate 16).resetting = true ∧ ((drain false 1).gate 16).quiesced = false ∧
    (drain false 1).get (Fld.GATE_CTRL_STATE 16) = 1 ∧ ((drain false 1).gate 16).outstanding = some 3 ∧ (drain false 2).get (Fld.GATE_CTRL_STATE 16) = 2 ∧
    (drain false 3).get (Fld.GATE_CTRL_STATE 16) = 3 ∧ ((drain true 1).gate 16).quiesced = true ∧ ((at0 .run []).gate 16).released = false ∧
    (Fld.GATE_CTRL_REQ 16).on (req ||| rel) = true ∧ (Fld.GATE_CTRL_RELEASE 16).on (req ||| rel) = true ∧
    (Fld.GATE_CTRL_RELEASE 16).on rel = true ∧ (Fld.GATE_CTRL_REQ 16).on rel = false ∧ (at0 .run []).rst.inReset = false ∧
    (at0 .run []).mode ≠ .load := by decide

/-! ### LOAD, on-line change, forces, power states -/

/-- A module in LOAD at a step, with firmware candidates. -/
def loading (step : Nat) (l : List FwCandidate) (f : List (RegField × Nat)) : State :=
  { at0 .load f with load := { LoadState.reset with step := step, candidates := l } }

theorem test_witness_LoadSteps_StoreLayout :
    storeRegionAt 0x0FFF = some .header1 ∧ storeRegionAt 0x10000 = some .header2 ∧ storeRegionAt 0x0021FFFF = some .forceTable ∧
    storeRegionAt 0x00220000 = some .reservedLow ∧ storeRegionAt 0x06FFFFFF = some .firmware ∧ storeRegionAt 0x0B000000 = some .area1 ∧
    storeRegionAt 0x0FFFFFFF = some .reservedHigh ∧ storeRegionAt 0x10000000 = none ∧ surveyImageAt 1 = 0x0B010000 := by decide

set_option maxRecDepth 20000 in
theorem test_witness_LoadSteps_LoadFirmwareToScrub :
    let h : StoreHeader := ⟨0x43415652, 1, 0, 0, 500, 10, 0, 0xF59718E6⟩
    let c : StoreContents := { StoreContents.erased with header0 := h, sfdpOk := true }
    let stale : StoreContents := { c with firmware := [⟨1, 0, 1, 64, [], [], true⟩] }
    let old : State := { loading 4 [.store, .slot 0] [] with sec := { State.reset.sec with counters := [(0, 1)] } }
    (loading 4 [.store, .slot 0] []).mode = .load ∧ (loading 4 [.store, .slot 0] []).load.step = 4 ∧
    (loading 4 [.store, .slot 0] []).load.candidates = .store :: [.slot 0] ∧ ([.slot 0] : List FwCandidate) ≠ [] ∧
    (loading 4 [.store] []).load.candidates = [.store] ∧ (loading 4 [.store] []).load.hold = false ∧ storeHeader c = some h ∧ c.sfdpOk = true ∧
    State.candidateFresh { loading 4 [.store] [] with store := c } .store = true ∧ State.candidateFresh { old with store := stale } .store = false ∧
    State.candidateFresh { loading 4 [.store] [] with store := StoreContents.erased } .store = true ∧
    storeHeader StoreContents.erased = none ∧ (loading 5 [] []).load.step = 5 ∧ (1 : BitVec 16).getLsbD 0 = true ∧
    (loading 4 [.store] []).bit Fld.PWR_STAT_HOLDUP_FULL = false ∧ (loading 4 [.store] [(Fld.PWR_STAT_HOLDUP_FULL, 1)]).bit Fld.PWR_STAT_HOLDUP_FULL = true := by
  decide

theorem test_witness_LoadSteps_LoadGeneration :
    let own : State := { loading 8 [] [] with load := { LoadState.reset with step := 8, ownGen := some 1 } }
    (loading 6 [] []).mode = .load ∧ (loading 6 [] []).load.step = 6 ∧ (loading 6 [] []).linked = false ∧ own.mode = .load ∧ own.load.step = 8 ∧
    own.load.resolved = false ∧ own.linked = false ∧ own.load.ownGen = some 1 ∧ (loading 8 [] []).load.ownGen = none ∧
    (loading 8 [] []).load.hold = false ∧ (loading 8 [] []).bit Fld.PWR_STAT_HOLDUP_FULL = false ∧
    (loading 8 [] [(Fld.PWR_STAT_HOLDUP_FULL, 1)]).bit Fld.PWR_STAT_HOLDUP_FULL = true := by decide

set_option maxRecDepth 4000 in
/-- `survey0` passes every check of R117; with another MAGIC the first check fails. -/
theorem test_witness_SurveyLoadAndBanks_SurveyLoad :
    let s0 := loading 8 [] [(Fld.SEC_SVY_KEY_PRESENT 0, 1)]
    let s : State := { s0 with
      load := { s0.load with resolved := true, ownGen := some 0 }
      store := { s0.store with area0 := { GenArea.erased with surveyLength := 2048 } } }
    let bad : Survey := { survey0 with header := { survey0.header with magic := 0 } }
    let olc := { running [(Fld.OLC_STAT_STATE, Olc.LOADING)] with olc := { OlcState.reset with bank := 1 } }
    s.mode = .load ∧ s.load.step = 8 ∧ s.load.resolved = true ∧ s.surveyFault survey0 (s.area (s.load.ownGen.getD 0)).surveyLength false = none ∧
    s.load.hold = false ∧ s.surveyFault bad (s.area (s.load.ownGen.getD 0)).surveyLength false = some (1, 0, 0) ∧ olc.mode ≠ .load ∧
    olc.olcState = Olc.LOADING ∧ (1 : Fin 2).val = olc.olc.bank ∧ (1 : Fin 2).val ≠ olc.get Fld.SEQ_STAT_ACTIVE_BANK ∧
    olc.surveyFault bad (olc.area olc.olc.targetArea).surveyLength true = some (1, 0, 0) := by decide +kernel

theorem test_witness_SurveyLoadAndBanks_SurveyBanks :
    (running []).get (Fld.SVY_BANK_STATE 0) = 3 ∧ (running []).get (Fld.SVY_BANK_STATE 1) ≠ 3 ∧ (running []).inPair = false := by decide

theorem test_witness_LoadExitAndStart :
    let s (ll st : Nat) := { loading 11 [] [(Fld.PWR_STAT_HOLDUP_FULL, 1), (Fld.PAIR_STAT_LL_STATE, ll)] with
      load := { LoadState.reset with step := 11, startPolicy := st }
      pair := { PairState.reset with partnerMode := .run, partnerSurveyOk := true } }
    let starts := { running [(Fld.SEQ_STAT_RUNNING, 0)] with
      mode := .load
      core := { CoreState.reset with startPending := true } }
    (s 0 0).mode = .load ∧ (s 0 0).load.step = 11 ∧ (s 0 0).load.hold = false ∧ (s 0 0).bit Fld.PWR_STAT_HOLDUP_FULL = true ∧
    (s 0 0).load.wakeLoad = false ∧ (s 0 0).linked = false ∧ (s 0 0).load.startPolicy = 0 ∧ (s 0 1).load.startPolicy ≠ 0 ∧ (s 2 0).linked = true ∧
    (s 2 0).partnerRuns = true ∧ (s 2 0).slot = 0 ∧ (at0 .load []).bit Fld.PWR_STAT_HOLDUP_FULL = false ∧ starts.mode = .load ∧
    starts.core.startPending = true ∧ starts.activeSurvey = some survey0 ∧ starts.bit Fld.SEQ_STAT_RUNNING = false ∧
    (running []).bit Fld.SEQ_STAT_RUNNING = true := by decide

/-- `survey0` with a migration map from itself. -/
def survey1 : Survey := { survey0 with
  header := { survey0.header with buildId := 8, parentBuildId := 7, flags := 4 }
  migration := [⟨0, 0, 8, 0, 8, 8⟩] }

/-- A module that runs `survey0` and changes to `survey1`. -/
def changing (st : Nat) (f : List (RegField × Nat)) : State :=
  { running ((Fld.OLC_STAT_STATE, st) :: f) with
    olc := { OlcState.reset with survey := some survey1, bank := 1, swapAt := 8000000, agreed := true, seeding := [0] }
    banks := [(0, ⟨some survey0⟩), (1, ⟨some survey1⟩)] }

theorem test_witness_OnlineChange_ChangeAdmission :
    let s := { running [] with load := { LoadState.reset with ownGen := some 0 } }
    let p : State := { running [(Fld.PAIR_STAT_LL_STATE, 3), (Fld.PAIR_STAT_ROLE, 1)] with
      load := { LoadState.reset with ownGen := some 0 }
      store := { s.store with area0 := { GenArea.erased with generation := 1 } } }
    s.olcRefusal 0 (hasMigration survey1) survey1.header.parentBuildId = some 0xB ∧ (changing Olc.ARMED []).olcState ≠ Olc.IDLE ∧
    s.olcState = Olc.IDLE ∧ hasMigration survey0 = false ∧ s.ll ≠ .synced ∧ s.olc.asking = none ∧
    ({ s with olc := { s.olc with asking := some (1, survey1, false) } } : State).olc.asking.isSome = true ∧
    p.ll = .synced ∧ p.olcRefusal 0xFFFFFFFFF (hasMigration survey1) survey1.header.parentBuildId = none ∧
    { s with store := { s.store with area0 := { GenArea.erased with generation := 1 } } }.olcRefusal 0xFFFFFFFFF (hasMigration survey1)
      survey1.header.parentBuildId = none := by decide

theorem test_witness_OnlineChange_ChangeSteps :
    let never : Survey := { survey1 with header := { survey1.header with hyperTicks := 0 } }
    let lost : State := { changing Olc.MIGRATED [] with olc := { (changing Olc.MIGRATED []).olc with survey := some never } }
    let mig := Fld.OLC_CTRL_MIGRATE.mask
    let arm := Fld.OLC_CTRL_ARM.mask
    let abort := Fld.OLC_CTRL_ABORT.mask
    (changing Olc.WRITING []).olc.survey = some survey1 ∧ (changing Olc.WRITING []).olcState = Olc.WRITING ∧ Fld.OLC_CTRL_MIGRATE.on mig = true ∧
    Fld.OLC_CTRL_ARM.on mig = false ∧ Fld.OLC_CTRL_ABORT.on mig = false ∧ (changing Olc.VERIFIED []).olcState = Olc.VERIFIED ∧
    mappedWords survey1 ≠ [] ∧ (changing Olc.MIGRATING []).olcState = Olc.MIGRATING ∧ (changing Olc.MIGRATING []).seq.journals = [] ∧
    (changing Olc.MIGRATING []).olc.queue = [] ∧ (changing Olc.MIGRATING []).inst.ue = [] ∧
    (changing Olc.MIGRATING []).sweepNext survey1 false = some 0 ∧ (changing Olc.MIGRATING []).sweepNext survey1 false ≠ some 1 ∧
    ((changing Olc.MIGRATING []).sweepNext survey1 true).isSome = true ∧
    ({ changing Olc.MIGRATING [] with seq := { SeqState.reset with commit := some ⟨0, 0, 0, 0, 0, 0⟩ } } : State).seq.commit ≠ none ∧
    Fld.OLC_CTRL_MIGRATE.on arm = false ∧ Fld.OLC_CTRL_ARM.on arm = true ∧ Fld.OLC_CTRL_ABORT.on arm = false ∧
    (changing Olc.MIGRATED []).olcState = Olc.MIGRATED ∧ (changing Olc.MIGRATED []).ll ≠ .synced ∧
    (((changing Olc.MIGRATED []).regStore Reg.OLC_CTRL arm).swapInstant survey1).isSome = true ∧ (changing Olc.MIGRATED []).olc.agreed = true ∧
    (changing Olc.MIGRATED []).swapBlocked survey1 = false ∧ ((changing Olc.MIGRATED []).swapInstant survey1).isSome = true ∧
    (changing Olc.MIGRATED [(Fld.GAL_CH_STAT_STATE 0, Ch.FAILED)]).swapBlocked survey1 = true ∧
    lost.olc.survey = some never ∧ lost.olcState = Olc.MIGRATED ∧ lost.swapBlocked never = false ∧ lost.swapInstant never = none ∧
    (changing Olc.MIGRATED []).olc.swapAt ≠ 0 ∧ Fld.OLC_CTRL_MIGRATE.on abort = false ∧ Fld.OLC_CTRL_ARM.on abort = false ∧
    Fld.OLC_CTRL_ABORT.on abort = true ∧ (changing Olc.ARMED []).olcState = Olc.ARMED := by decide

theorem test_witness_OnlineChange_SwapAtS :
    let s := changing Olc.ARMED [(Fld.SVY_BANK_STATE 1, 2)]
    s.olcState = Olc.ARMED ∧ s.activeSurvey = some survey0 ∧ s.otherSurvey = some survey1 ∧ s.get (Fld.SVY_BANK_STATE s.olc.bank) = 2 ∧
    (changing Olc.ARMED []).get (Fld.SVY_BANK_STATE 1) ≠ 2 ∧ 0 ∈ s.olc.seeding ∧ 1 ∉ s.olc.seeding ∧ s.swapBlocked survey1 = false ∧
    (changing Olc.ARMED [(Fld.SVY_BANK_STATE 1, 2), (Fld.GAL_CH_STAT_STATE 0, Ch.FAILED)]).swapBlocked survey1 = true := by decide

theorem test_witness_StatusAndConversions_MigrationConversions :
    let e (c a b : Nat) : MigrationEntry := ⟨0, 0, 1, c, a, b⟩
    (e 0 8 8).conv = 0 ∧ (e 2 1 8).conv = 2 ∧ 0 < (e 2 1 8).oldWidth ∧ (e 2 1 8).oldWidth < (e 2 1 8).newWidth ∧ (e 5 8 1).conv = 5 ∧
    0 < (e 5 8 1).newWidth ∧ (e 5 8 1).newWidth < (e 5 8 1).oldWidth ∧ f32IsNan (BitVec.ofNat 32 0x7FC00000) = true ∧ (e 4 4 4).conv = 4 ∧
    (e 3 4 4).conv = 3 := by decide

/-- A session, a force entry and one that waits. -/
def forcing (l : List (RegField × Nat)) : State :=
  let e : ForceEntry := ⟨2, 5, 2, 0, 0, false, 0⟩
  { running ((Fld.SEC_STATUS_ENG_SESSION, 1) :: l) with frc := ⟨[e], [(0, .write ⟨3, 6, 2, 0, 0, false, 0⟩)]⟩ }

theorem test_witness_Forcing_ForceCommands :
    let s := (forcing []).setReg Reg.FRC_ID 2
    let both := Fld.FRC_CMD_WRITE.mask ||| Fld.FRC_CMD_CLEAR.mask
    Fld.FRC_CMD_WRITE.on both = true ∧ Fld.FRC_CMD_CLEAR.on both = true ∧ (1 : Word).toNat % 16 = 1 ∧ s.forcesClosed = false ∧
    (s.put Fld.FRC_MODE_POINT 2).forceCandidate.isSome = true ∧ s.ll ≠ .synced ∧ (running []).forcesClosed = true ∧ (2 : Word).toNat % 16 = 2 ∧
    (s.forcesAhead.any fun x => x.id == (s.getReg Reg.FRC_ID).toNat) = true ∧ (4 : Word).toNat % 16 = 4 ∧
    (running []).frc.entries[(running []).get Fld.FRC_SEL_INDEX]? = none ∧ s.frc.entries[s.get Fld.FRC_SEL_INDEX]?.isSome = true ∧
    (8 : Word).toNat % 16 = 8 := by decide

theorem test_witness_Forcing_ForceTableChanges :
    let f : ForceEntry := ⟨3, 6, 2, 0, 0, false, 0⟩
    (forcing []).frc.waiting = [(0, .write f)] ∧ (forcing []).reached 0 = true ∧ (∀ c ∈ (running []).frc.waiting, (running []).reached c.1 = false) ∧
    (running []).reached 1 = false ∧ (running [(Fld.FRC_STAT_STORE_PENDING, 1)]).bit Fld.FRC_STAT_STORE_PENDING = true ∧
    ((forcing []).frc.entries.Pairwise fun x y => x.id < y.id) := by decide

theorem test_witness_PowerStates_SqueezeRatios :
    let s (r : Option Nat) : State := { at0 .run [] with rst := { ResetState.reset with inReset := false, ratioReq := r } }
    let held := at0 .run [(Fld.PWR_STAT_RATIO_DROOP, 2), (Fld.PWR_SQZ_CFG_HOLD_US, 10)]
    let past : State := { held with time := { held.time with cycles := 4000 } }
    (s none).rst.ratioReq = none ∧ (s (some 0)).rst.ratioReq = some 0 ∧ 0 = (s (some 0)).get Fld.PWR_STAT_RATIO ∧ (s (some 2)).rst.ratioReq = some 2 ∧
    2 ≠ (s (some 2)).get Fld.PWR_STAT_RATIO ∧ 2 < 3 ∧ 713 ≤ 713 ∧ 689 < 690 ∧ 690 ≤ 712 ∧
    (s none).get Fld.PWR_STAT_RATIO_DROOP = 0 ∧ held.get Fld.PWR_STAT_RATIO_DROOP ≠ 0 ∧
    held.time.cycles < held.pwr.droopAt + 400 * held.get Fld.PWR_SQZ_CFG_HOLD_US ∧
    past.get Fld.PWR_STAT_RATIO_DROOP ≠ 0 ∧ past.pwr.droopAt + 400 * past.get Fld.PWR_SQZ_CFG_HOLD_US ≤ past.time.cycles := by decide

theorem test_witness_PowerStates_HoldupAndHibernate :
    let low : State := { at0 .run [] with core := { CoreState.reset with inputLow := true } }
    let run := at0 .run [(Fld.PWR_STAT_HOLDUP_FULL, 1)]
    let full : State := { run with fls := { run.fls with optime := 205 } }
    let v := Fld.PWR_HIB_CMD_KEY.ins Fld.PWR_HIB_CMD_ENTER.mask 0x4842
    let due : State := { at0 .hold [] with core := { CoreState.reset with modeReq := some ⟨.hibernate, 4, none⟩ } }
    low.core.inputLow = true ∧ (at0 .run []).core.inputLow = false ∧ (at0 .run []).bit Fld.PWR_STAT_ON_HOLDUP = false ∧
    full.bit Fld.PWR_STAT_HOLDUP_FULL = true ∧ full.pwr.fullAt + 205 ≤ full.fls.optime.toNat ∧ (at0 .run []).fls.optime.toNat < (at0 .run []).pwr.fullAt + 205 ∧
    Fld.PWR_HIB_CMD_ENTER.on 0 = false ∧ Fld.PWR_HIB_CMD_ENTER.on v = true ∧ Fld.PWR_HIB_CMD_KEY.ext v = 0x4842 ∧ (at0 .hold []).mode = .hold ∧
    (at0 .hold []).hibRefusers = [] ∧ (at0 .hold []).ll = .down ∧ (at0 .hold []).core.modeReq = none ∧
    (at0 .hold [(Fld.SEC_STATUS_DBG_LEVEL, 1)]).hibRefusers = 4 :: [] ∧ (at0 .hold []).hibDue = false ∧ due.hibDue = true ∧ due.hibRefusers = [] := by
  decide

theorem test_witness_WakingUp_Waking :
    let s (n : Nat) (l : List Nat) : State := { at0 .hibernate [] with pwr := { PwrState.reset with
      attempt := n
      failed := l
      retention := some ⟨[(Reg.PWR_WAKE_CFG, Fld.PWR_WAKE_CFG_LIFELINE.mask)], 0, 0, false, true⟩ } }
    (s 0 []).mode = .hibernate ∧ (s 0 []).pwr.attempt = 0 ∧ (s 0 []).wakeEnabled (.lifeline 0) = true ∧ (s 0 []).wakeEnabled (.can 0) = false ∧
    (s 1 []).pwr.attempt ≠ 0 ∧ (s 1 []).pwr.failed.length < (s 1 []).pwr.attempt ∧ (s 1 []).pwr.attempt < 4 ∧ 1 ≤ (s 1 [2]).pwr.attempt ∧
    (s 1 [2]).pwr.failed.length = (s 1 [2]).pwr.attempt ∧ (s 4 [1, 1, 1]).pwr.failed.length < (s 4 [1, 1, 1]).pwr.attempt ∧
    4 ≤ (s 4 [1, 1, 1]).pwr.attempt := by decide

theorem test_witness_WakingUp_WakeFailStall :
    let s : State := { State.reset with pwr := { PwrState.reset with wakeFailed := true } }
    s.pwr.wakeFailed = true ∧ s.rst.inReset = true := by decide

/-! ### Lanes -/

/-- Chamber 0 executes with another state of its main lane, in chamber state `st`. -/
def withLane (l : LaneState) (f : List (RegField × Nat)) : State :=
  (executing f).setChamber 0 { Chamber.reset with main := l, checker := lane0, exec := some exec0 }

theorem test_witness_LaneArithmetic_LaneIssues : (executing []).laneRuns 0 .main = true ∧ ((executing []).chamber 0).exec = some exec0 ∧
    ((executing []).chamber 0).lane .main = lane0 ∧ fetchTrap ((executing []).chamber 0) exec0 lane0.pc = none ∧
    (executing []).laneRuns 0 .checker = true ∧ (running []).laneRuns 0 .main = false := by decide

theorem test_witness_LaneFloatResults : (fpu .fdiv 0 0).1 = 0x7FC00000 ∧ f32IsNan (fpu .fdiv 0 0).1 = true ∧
    (fpu .fadd 0 0).1.extractLsb' 23 8 = 0 ∧ FpuFn.fdiv ∈ [FpuFn.fadd, .fsub, .fmul, .fdiv] := by decide

theorem test_witness_LaneControl_LaneSystemOperations : (lane0.reg 1).truncate 4 ≠ (7 : Nibble) ∧ (lane0.reg 2).truncate 4 = (7 : Nibble) := by decide

theorem test_witness_LaneControl_LaneJumpsAndBranches : lane0.reg 1 = lane0.reg 1 ∧ lane0.reg 1 ≠ lane0.reg 2 ∧ (lane0.reg 3).toInt < (lane0.reg 1).toInt ∧
    (lane0.reg 1).toNat < (lane0.reg 3).toNat ∧ ({ lane0 with tags := [(1, 8)] } : LaneState).tag 1 = 8 ∧ (lane0.tag 1).getLsbD 3 = false := by decide

/-- Addresses at the ends of the areas: SCRATCH from 0x100000 to 0x1DFFFF, INPUT below it, OUTPUT from 0x1F0000. -/
theorem test_witness_LaneMemory_LaneLoadsAndStores :
    let at' (a : Nat) : Nat := ((0 : DWord) + BitVec.ofNat 64 a).toNat
    (lane0.reg 1 + (0 : BitVec 16).signExtend 64).toNat = 0x100000 ∧ at' 0x1DFFF8 % 8 = 0 ∧ at' 0x1DFFF8 < 0x1E0000 ∧ at' 0x1DFFF8 / 8 ∉ lane0.workUe ∧
    0x100000 ≤ at' 0x1DFFF8 ∧ at' 0x0FFFF8 < 0x100000 ∧ at' 0x0FFFF8 % 8 = 0 ∧ at' 0x1F0000 % 8 = 0 ∧ 0x1F0000 ≤ at' 0x1F0000 ∧ at' 0x1FFFF8 < 0x200000 := by
  decide

theorem test_witness_LaneMemory_LaneInstanceAccesses :
    let j : LaneState := { lane0 with journal := [(8, 5)] }
    (withLane j []).laneRuns 0 .main = true ∧ (lane0.reg 4 + (0 : BitVec 16).signExtend 64).toNat = 8 ∧
    ((withLane j []).laneEnv 0 exec0).winLo ≤ 8 ∧ 8 < ((withLane j []).laneEnv 0 exec0).winHi ∧
    (j.journal.any fun e => e.1 == 8 / 8 * 8) = true ∧ (lane0.journal.any fun e => e.1 == 8 / 8 * 8) = false ∧
    j.instBlocked ((withLane j []).laneEnv 0 exec0) 8 = none ∧ lane0.instBlocked ((executing []).laneEnv 0 exec0) 8 = none ∧
    lane0.journal.length < 16384 ∧ 8 % 8 = 0 := by decide

theorem test_witness_LaneRingsAndTraps_LaneRingSlots :
    let q : Descriptor := ⟨1, 2, 3, 4⟩
    let s := (executing []).setChamber 0 { Chamber.reset with
      main := lane0
      checker := lane0
      exec := some exec0
      rx := [(1, [q])]
      free := [(0, 1)] }
    (s.laneEnv 0 exec0).slotOk 1 false = true ∧ (s.laneEnv 0 exec0).slotOk 0 true = true ∧ (s.laneEnv 0 exec0).slotOk 1 true = false ∧ (s.laneEnv 0 exec0).slotOk 0 false = false ∧
    lane0.quadUe ((s.laneEnv 0 exec0).rxBase 1 + 32 * lane0.polled 1) = false ∧ lane0.quadUe 0x100000 = false ∧
    ({ lane0 with workUe := [(s.laneEnv 0 exec0).rxBase 1 / 8] } : LaneState).quadUe ((s.laneEnv 0 exec0).rxBase 1) = true ∧
    ({ lane0 with workUe := [0x100000 / 8] } : LaneState).quadUe 0x100000 = true ∧ (lane0.reg 2).toNat % 32 ≠ 0 ∧
    ((s.laneEnv 0 exec0).rx 1)[lane0.polled 1]? = some q ∧ (((executing []).laneEnv 0 exec0).rx 1)[lane0.polled 1]? = none ∧
    (lane0.reg 1).toNat = 0x100000 ∧ 0x100000 % 32 = 0 ∧ ((executing []).laneEnv 0 exec0).free 0 ≤ (lane0.puts 0).length ∧
    (lane0.puts 0).length < (s.laneEnv 0 exec0).free 0 ∧ (∀ j, j < 4 → 0x100000 / 8 + j ∉ lane0.workUe) := by decide

theorem test_witness_LaneRingsAndTraps_LaneTraps :
    let far : LaneState := { lane0 with pc := 64 }
    let odd : LaneState := { lane0 with pc := 62 }
    (running []).laneRuns 0 .main = false ∧ (withLane far []).laneRuns 0 .main = true ∧ (withLane odd []).laneRuns 0 .main = true ∧
    exec0.segBase + exec0.segBytes ≤ far.pc ∧ exec0.segBase ≤ odd.pc ∧ odd.pc < exec0.segBase + exec0.segBytes ∧ odd.pc % 4 ≠ 0 ∧
    decodeBlock 0xFFFFFFFF = none ∧ (lane0.reg 2).toNat % 8 ≠ 0 ∧ (0x1E0000 : Nat) % 8 = 0 ∧ 0x1EFFF8 < 0x1F0000 ∧ (0 : Nat) < 0x100000 ∧
    ((executing []).laneEnv 0 exec0).winHi ≤ 64 := by decide

/-- A full journal without an entry for address 0. -/
theorem test_witness_LaneRingsAndTraps_LaneTraps_journal : (List.replicate 16384 ((8 : Nat), (0 : DWord))).length = 16384 ∧
    ∀ e ∈ List.replicate 16384 ((8 : Nat), (0 : DWord)), e.1 ≠ 0 :=
  ⟨List.length_replicate, fun e h => by rw [List.eq_of_mem_replicate h]; decide⟩

/-! ### Task cycles -/

/-- Chamber 0 in a state, with an execution and its lanes ended at `pc`. -/
def ended (st : Nat) (reexec : Bool) (m k : LaneEnd) (f : List (RegField × Nat)) : State :=
  (running ((Fld.GAL_CH_STAT_STATE 0, st) :: f)).setChamber 0 { Chamber.reset with
    main := { lane0 with fin := m }
    checker := { lane0 with fin := k }
    exec := some { exec0 with reexec := reexec }
    mmDone := true }

/-- That module with the transfers into chamber 0's INPUT over, its START come. -/
def inputsIn (s : State) : State :=
  { s.setTask 0 { TaskState.reset with moved := [0] } with time := { s.time with cycles := 400000 } }

theorem test_witness_ExecutionAndComparison_ExecutionsBegin :
    let s := running [(Fld.GAL_CH_STAT_STATE 0, Ch.IDLE), (Fld.GATE_CTRL_STATE 0, 0)]
    let fixed := (ended Ch.RECOVERING false (.ended 0) (.ended 0) []).setTask 0 { TaskState.reset with outcomeFixed := true }
    let deferred := (running [(Fld.GAL_CH_STAT_STATE 0, Ch.EXECUTING)]).setGate 0 ⟨true, false, false, none, true⟩
    (s.execEntry 0 0).isSome = true ∧ s.mayExecute 0 0 = true ∧ 0 ∉ (s.task 0).equal ∧ 0 ∉ (s.task 0).mism ∧ (running []).mayExecute 0 0 = false ∧
    ((ended Ch.RECOVERING false (.ended 0) (.ended 0) []).chamber 0).exec = some exec0 ∧
    (ended Ch.RECOVERING false (.ended 0) (.ended 0) []).chState 0 = Ch.RECOVERING ∧ ((running []).gate 0).resetting = false ∧
    (fixed.chamber 0).mmDone = true ∧ (fixed.task 0).outcomeFixed = true ∧ (deferred.gate 0).deferred = true ∧ 2 ≤ deferred.chState 0 ∧
    deferred.chState 0 ≤ 4 ∧ (deferred.setChState 0 Ch.IDLE).chState 0 < 2 ∧ s.mode ≠ .hold ∧ s.chState 0 ≠ Ch.FAILED ∧ 0 ∈ s.tasksOn 0 ∧
    s.taskHeld 0 = false ∧ (at0 .hold []).mode = .hold ∧ (running [(Fld.GAL_CH_STAT_STATE 0, Ch.FAILED)]).chState 0 = Ch.FAILED ∧
    (∀ u ∈ (running [(Fld.SEQ_TASK_STAT_STATE 0, 2)]).tasksOn 0, (running [(Fld.SEQ_TASK_STAT_STATE 0, 2)]).taskHeld u = true) ∧
    (∀ e, s.execEntry 0 0 = some e → s.startDue 0 0 e.2.start = false) ∧
    ((s.execEntry 0 0).any fun e => (inputsIn s).startDue 0 0 e.2.start) = true ∧ (inputsIn s).execEntry 0 0 = s.execEntry 0 0 ∧
    (inputsIn s).mayExecute 0 0 = true ∧ 0 ∉ ((inputsIn s).task 0).equal ∧ 0 ∉ ((inputsIn s).task 0).mism ∧
    (fixed.setTask 0 { TaskState.reset with t0 := 1 }).presentCycle exec0 = false := by decide

/-- Uncorrectable errors: of a word of code in the execution that begins, of a staging word in one lane at the comparison (R121, R190). -/
theorem test_memory_errors :
    let s := inputsIn (running [(Fld.GAL_CH_STAT_STATE 0, Ch.IDLE), (Fld.GATE_CTRL_STATE 0, 0)])
    nextIs (execExecutionStart 0 0 [.code 3, .work .main 5, .inst 2] s) (fun t =>
      (t.chamber 0).codeUe == [3] && (t.chamber 0).main.workUe == [5] && (t.chamber 0).checker.workUe == [] && t.inst.ue == [2]) = true ∧
    nextIs (execComparison 0 [.work .main 0x3E000] (ended Ch.COMPARING false (.ended 8) (.ended 8) [])) (fun t =>
      ((t.stagingRead 0 0 0x1F0000).2.bit (Fld.SUMP_SRC_FLAG Src.STAGING_UE))) = true := by decide

theorem test_witness_ExecutionAndComparison_ComparisonOutcomes :
    let s := ended Ch.COMPARING false (.ended 8) (.ended 8) []
    let m : LaneState := { lane0 with fin := .ended 8 }
    let k : LaneState := { lane0 with fin := .ended 8, sig := 1 }
    let t : LaneState := { lane0 with fin := .trapped 1 0 0 }
    (s.chamber 0).exec = some exec0 ∧ s.bit (Fld.LS_DBG_CTRL_HALTED 0) = false ∧ s.ls.injectLeft = 0 ∧ s.chState 0 = Ch.COMPARING ∧
    (running []).chState 0 ≠ Ch.COMPARING ∧ compareCause m m false = 0 ∧ (s.task 0).outcomeFixed = false ∧ compareCause m k false ≠ 0 ∧
    ((ended Ch.COMPARING true (.ended 8) (.ended 8) []).chamber 0).exec = some { exec0 with reexec := true } ∧ compareCause t t false = 0 ∧
    t.fin = .trapped 1 0 0 ∧ (1 ≤ 8 ∨ 1 = 0xB) ∧ (s.task 0).holdPending = none ∧ s.get (Fld.SEQ_TASK_STAT_STATE 0) = 1 := by decide

theorem test_witness_CommitAndOutcomes_CommitOfJournals :
    let j : ReadyJournal := ⟨0, 0, 0, 0, 0, 0⟩
    let s := { (running []).setTask 0 { TaskState.reset with equal := [0] } with seq := { SeqState.reset with ready := [j] } }
    let early := { running [] with seq := { SeqState.reset with ready := [j] } }
    let busy := { executing [] with seq := { SeqState.reset with commit := some j } }
    j ∈ s.seq.ready ∧ s.seq.commit = none ∧ s.committable j = true ∧ j.task = 0 ∧ j.chamber = 0 ∧ (∀ q ∈ s.seq.ready, q = j) ∧
    early.seq.commit = none ∧ (∀ q ∈ early.seq.ready, early.committable q = false) ∧ busy.seq.commit = some j ∧ j.task ≠ 1 ∧ busy.olc.survey = none ∧
    (busy.chamber 0).main.journalUe = [] ∧ ((busy.chamber 0).main.journal.map fun e => e.1 / 8).Nodup := by decide

theorem test_witness_CommitAndOutcomes_CycleOutcomesAndEmit :
    let t (x : TaskState) := (running []).setTask 0 x
    let eq := t { TaskState.reset with equal := [0] }
    let rec' := t { TaskState.reset with equal := [0], mism := [0] }
    let skip := t { TaskState.reset with mism := [0] }
    let hold := t { TaskState.reset with standing := some .committed, holdPending := some 5 }
    eq.allEqual 0 = true ∧ (eq.task 0).badEnd = false ∧ (eq.task 0).mism = [] ∧ (rec'.task 0).mism ≠ [] ∧ rec'.allEqual 0 = true ∧
    (∃ e ∈ (running []).entriesOf 0, e.chamber ∉ ((running []).task 0).equal ∧ e.chamber ∉ ((running []).task 0).mism) ∧
    (∀ e ∈ skip.entriesOf 0, e.chamber ∈ (skip.task 0).equal ∨ e.chamber ∈ (skip.task 0).mism) ∧ skip.allEqual 0 = false ∧
    (at0 .run []).bit Fld.SEQ_STAT_RUNNING = false ∧ eq.bit Fld.SEQ_STAT_RUNNING = true ∧ eq.mode = .run ∧ eq.taskRunning 0 = true ∧
    (eq.task 0).outcomeFixed = false ∧ eq.role = .solo ∧ (eq.task 0).standing = none ∧ (hold.task 0).standing.isSome = true ∧
    (hold.task 0).holdPending = some 5 ∧ (hold.task 0).holdEffective = none ∧ 0 ∉ hold.olc.tail := by decide

theorem test_witness_FreezeAndFabric :
    let f : FabricEntry := ⟨1, 0, 0xFF, 0, 1, 1, 0, 0, 0⟩
    let e : TaskEntry := ⟨0, 0, 4, 0, 0, 1, 8⟩
    let s := running [(Fld.GATE_CTRL_STATE 0, 0)]
    let two : State := { s.setTask 0 { TaskState.reset with t0 := 1000000 } with
      banks := [(0, ⟨some { survey0 with fabric := { f with beats := 2 } :: survey0.fabric }⟩)] }
    s.activeSurvey = some survey0 ∧ s.pair.watchLeft = 0 ∧ (running [(Fld.SEQ_STAT_RUNNING, 0)]).bit Fld.SEQ_STAT_RUNNING = false ∧
    (survey0.tasks.find? fun e => e.task == 1) = none ∧ s.bit Fld.SEQ_STAT_RUNNING = true ∧ (survey0.tasks.find? fun e => e.task == 0) = some e ∧
    s.get (Fld.SEQ_TASK_STAT_STATE 0) ≠ 0 ∧ 0 < e.periodTicks ∧ e.phaseTicks * 250000 ≤ s.nowNs ∧
    ((s.fabricFor 0).find? fun p => p.2 == f && !(s.task 0).moved.contains p.1) = some (0, f) ∧
    ((s.fabricFor 0).find? fun p => p.2 == { f with beats := 2 } && !(s.task 0).moved.contains p.1) = none ∧ f.srcPort = 0 ∧
    f.dstPort = 0 + 1 ∧ f.anchor = 1 ∧ s.mode = .run ∧ s.taskRunning 0 = true ∧ s.get (Fld.GATE_CTRL_STATE 0) = 0 ∧ (s.chamber 0).exec = none ∧
    s.waitsFor (0, f) = false ∧
    two.waitsFor (1, f) = true ∧
    ((two.fabricFor 0).find? fun p => p.2 == f && !(two.task 0).moved.contains p.1) = some (1, f) := by decide

theorem test_witness_TaskHoldsAndStatistics :
    let hold := (Fld.SEQ_TASK_CTRL_HOLD_REQ 0).mask
    let res := (Fld.SEQ_TASK_CTRL_RESUME 0).mask
    let clr := (Fld.SEQ_TASK_CTRL_CLR_STATS 0).mask
    let s (r l st : Nat) := running [(Fld.PAIR_STAT_ROLE, r), (Fld.PAIR_STAT_LL_STATE, l), (Fld.SEQ_TASK_STAT_STATE 0, st)]
    let later := (s 0 0 3).setTask 0 { TaskState.reset with resumeEffective := some 5 }
    let leak := { running [] with ls := ⟨0, 0, [0], none⟩ }
    2 ≤ ([(Fld.SEQ_TASK_CTRL_RESUME 0), Fld.SEQ_TASK_CTRL_HOLD_REQ 0, Fld.SEQ_TASK_CTRL_CLR_STATS 0].filter fun f => f.on (hold ||| res)).length ∧
    (Fld.SEQ_TASK_CTRL_HOLD_REQ 0).on hold = true ∧ (Fld.SEQ_TASK_CTRL_RESUME 0).on hold = false ∧ (Fld.SEQ_TASK_CTRL_CLR_STATS 0).on hold = false ∧
    (s 0 0 1).ll ≠ .synced ∧ (s 0 0 1).taskRunning 0 = true ∧ (s 1 3 1).ll = .synced ∧ (s 1 3 1).role = .lead ∧ (s 2 3 1).role = .shadow ∧
    (s 0 0 2).taskRunning 0 = false ∧ (Fld.SEQ_TASK_CTRL_RESUME 0).on res = true ∧ (Fld.SEQ_TASK_CTRL_HOLD_REQ 0).on res = false ∧
    (Fld.SEQ_TASK_CTRL_CLR_STATS 0).on res = false ∧ (s 0 0 2).get (Fld.SEQ_TASK_STAT_STATE 0) = 2 ∧ (s 0 0 2).taskBlocked 0 = false ∧
    (s 0 0 3).get (Fld.SEQ_TASK_STAT_STATE 0) = 3 ∧ ((s 0 0 3).task 0).resumeEffective = none ∧ (later.task 0).resumeEffective = some 5 ∧ later.nowNs < 5 ∧ (Fld.SEQ_TASK_CTRL_CLR_STATS 0).on clr = true ∧ (Fld.SEQ_TASK_CTRL_HOLD_REQ 0).on clr = false ∧
    Fld.GAL_CTRL_CLR_STATS.on Fld.GAL_CTRL_CLR_STATS.mask = true ∧ 0 ∉ (running []).ls.leaking ∧ 0 ∈ leak.ls.leaking := by decide

theorem test_witness_DebuggingChambers :
    let bp := executing [(Fld.LS_DBG_BP_ENABLE 0 2, 1), (Fld.SEC_STATUS_DBG_LEVEL, 2)]
    let lead := executing [(Fld.PAIR_STAT_ROLE, 1)]
    let halted := executing [(Fld.LS_DBG_CTRL_HALTED 0, 1), (Fld.SEC_STATUS_DBG_LEVEL, 2)]
    let w : ReplayWrite := ⟨0, 0, 0⟩
    let queued := halted.setChamber 0 { halted.chamber 0 with replay := [w] }
    let reads := executing [(Fld.SEC_STATUS_DBG_LEVEL, 1), (Fld.LS_DBG_SEL_SPACE, 3)]
    let writes := executing [(Fld.SEC_STATUS_DBG_LEVEL, 2), (Fld.LS_DBG_SEL_WRITE, 1), (Fld.LS_DBG_CTRL_HALTED 0, 1)]
    bp.chState 0 = Ch.EXECUTING ∧ bp.bit (Fld.LS_DBG_CTRL_HALTED 0) = false ∧
    ((List.range 4).find? fun x => bp.bit (Fld.LS_DBG_BP_ENABLE 0 x) && bp.get (Fld.LS_DBG_BP_PC_WORD 0 x) == (bp.chamber 0).main.pc / 4) = some 2 ∧
    bp.role ≠ .lead ∧ 2 ≤ bp.get Fld.SEC_STATUS_DBG_LEVEL ∧ lead.role = .lead ∧
    (Fld.LS_DBG_CTRL_HALT_REQ 0).on (Fld.LS_DBG_CTRL_HALT_REQ 0).mask = true ∧ (Fld.LS_DBG_CTRL_RESUME 0).on (Fld.LS_DBG_CTRL_HALT_REQ 0).mask = false ∧
    (Fld.LS_DBG_CTRL_STEP 0).on (Fld.LS_DBG_CTRL_HALT_REQ 0).mask = false ∧ (Fld.LS_DBG_CTRL_STEP 0).on (Fld.LS_DBG_CTRL_STEP 0).mask = true ∧
    (Fld.LS_DBG_CTRL_RESUME 0).on (Fld.LS_DBG_CTRL_RESUME 0).mask = true ∧ (halted.chamber 0).replay = [] ∧
    (halted.chamber 0).stopDeferred = false ∧ halted.bit (Fld.LS_DBG_CTRL_HALTED 0) = true ∧ (halted.chamber 0).exec = some exec0 ∧
    (decodeBlock ((halted.chamber 0).codeWord 0)).isSome = true ∧ (queued.chamber 0).replay = w :: [] ∧ queued.ls.waiting = none ∧
    reads.bit Fld.LS_DBG_SEL_WRITE = false ∧ reads.get Fld.LS_DBG_SEL_CHAMBER = 0 ∧
    (reads.dbgValue 0 (reads.get Fld.LS_DBG_SEL_SPACE) (reads.getReg Reg.LS_DBG_ADDR).toNat).isSome = true ∧ 1 ≤ reads.get Fld.SEC_STATUS_DBG_LEVEL ∧
    (executing []).get Fld.SEC_STATUS_DBG_LEVEL < 1 ∧ writes.bit Fld.LS_DBG_SEL_WRITE = true ∧
    writes.dbgWriteOk 0 ⟨writes.get Fld.LS_DBG_SEL_SPACE, writes.getReg Reg.LS_DBG_ADDR, 0⟩ = true ∧ lead.dbgWriteOk 0 w = false ∧
    Fld.LS_INJECT_ARM.on Fld.LS_INJECT_ARM.mask = true ∧ (at0 .hold [(Fld.SEC_STATUS_LIFECYCLE, 1)]).tpAllowed = true ∧ (running []).tpAllowed = false := by
  decide

/-! ### Host, guards, Sump, Flowstone, time -/

/-- A host read of `len` bytes. -/
def access (init addr len : Nat) (k : AccessKind) : Access := ⟨init, k, true, BitVec.ofNat 32 addr, len, List.replicate len 1⟩

theorem test_witness_HostAndGuards_HostAccessesThroughGuards :
    let s := at0 .run [(Fld.GUARD_CTRL_ENABLE 0, 0), (Fld.GUARD_CTRL_ENABLE 9, 0), (Fld.GUARD_CTRL_ENABLE 10, 0), (Fld.GUARD_CTRL_ENABLE 12, 0)]
    let act (u : Nat) := s.putAll [(Fld.GUARD_CTRL_ENABLE u, 1), (Fld.GUARD_CTRL_BG u, 0)]
    let tap : State := { s with core := { CoreState.reset with cover := true } }
    let w := access 1 0x01080000 4 .write
    w.initiator ≠ 3 ∧ (act 0).initiatorCheck w ≠ none ∧ s.initiatorCheck (access 1 0xF0000000 4 .write) = none ∧ targetOf 0xF0000000 = none ∧
    (act 9).initiatorCheck w = none ∧ targetOf 0x01080000 = some 9 ∧ (act 9).guardCheck 9 w ≠ none ∧ s.accessPasses w = true ∧ w.kind = .write ∧
    s.accessPasses (access 1 0x01080000 4 .read) = true ∧ targetOf 0x70000000 = some 12 ∧ s.accessPasses (access 1 0x70000000 4 .write) = true ∧
    targetOf 0x40000000 = some 10 ∧ s.accessPasses (access 1 0x40000000 2 .write) = true ∧ (access 3 0x01080000 4 .read).initiator = 3 ∧
    s.tapEnabled = false ∧ tap.tapEnabled = true ∧ tap.get Fld.SEC_STATUS_DBG_LEVEL < 1 := by decide

theorem test_witness_HostAndGuards_GuardMatching :
    let s := at0 .run [(Fld.GUARD_CTRL_ENABLE 0, 0), (Fld.GUARD_CTRL_ENABLE 9, 1), (Fld.GUARD_CTRL_BG 9, 0)]
    guardMatch (s.guardRegions 9) 0 = none ∧ s.bit (Fld.GUARD_CTRL_ENABLE 0) = false ∧ s.guardCheck 9 (access 1 0x01080000 4 .write) ≠ none := by decide

theorem test_witness_HostAndGuards_GuardRuleChanges :
    let a := Reg.GUARD_CTRL 9
    let s := at0 .run []
    let w : State := { s with guardWaits := [⟨9, a, 1⟩] }
    let locked := at0 .run [(Fld.GUARD_LOCK_LOCK, 1)]
    (guardRule a).map (fun r => r.guard) = some 9 ∧ guardExists 9 = true ∧ (guardRule a).map (fun r => s.guardLocked r) = some false ∧
    (guardRule a).map (fun r => locked.guardLocked r) = some true ∧ (∀ x ∈ s.guardWaits, x.guard ≠ 9) ∧ w.guardWaits = [⟨9, a, 1⟩] ∧
    (guardRule (Reg.GUARD_CTRL 6)).map (fun r => guardExists r.guard) = some false := by decide

theorem test_witness_SumpAndFlowstone_SumpOccurrences :
    let s := at0 .run []
    let held := { s with sump := ⟨[(Src.PWR_HOLDUP, [0])], none, []⟩ }
    let clear := (Fld.SUMP_SRC_FLAG Src.RST_BAD_KEY).mask
    let force := (Fld.SUMP_SRC_FORCE Src.RST_BAD_KEY).mask
    let strong := at0 .run [(Fld.SUMP_LOCK_LOCK, 1), (Fld.SUMP_SRC_MODULE_RESET Src.RST_BAD_KEY, 1)]
    let test := at0 .run [(Fld.SUMP_LOCK_LOCK, 1), (Fld.SEC_STATUS_LIFECYCLE, 1)]
    let reset : State := { s with sump := ⟨[], some (Src.RST_BAD_KEY, 0), []⟩ }
    let twice := s.raise Src.RST_BAD_KEY 0 0
    let late : State := { reset with time := { s.time with cycles := 8000 }, fls := { s.fls with queue := [.repeatAt 0] } }
    sumpSource 10 = none ∧ (sumpSource Src.RST_BAD_KEY).map (fun p => p.2) = some false ∧ Src.RST_BAD_KEY < 240 ∧ Src.RST_BAD_KEY ≠ Src.FLS_OVERFLOW ∧
    s.get (Fld.SUMP_SRC_SEVERITY Src.RST_BAD_KEY) ≠ 7 ∧ (sumpSource Src.PWR_HOLDUP).map (fun p => p.2) = some true ∧
    0 ∈ sparseGet (fun _ => []) held.sump.levels Src.PWR_HOLDUP ∧ 0 ∉ sparseGet (fun _ => []) s.sump.levels Src.PWR_HOLDUP ∧
    s.get (Fld.SUMP_SRC_SEVERITY Src.PWR_HOLDUP) ≠ 7 ∧ strong.bit Fld.SUMP_LOCK_LOCK = true ∧ (Fld.SUMP_SRC_FORCE Src.RST_BAD_KEY).on force = true ∧
    (Fld.SUMP_SRC_FLAG Src.RST_BAD_KEY).on force = false ∧ strong.tpAllowed = false ∧ strong.bit (Fld.SUMP_SRC_MODULE_RESET Src.RST_BAD_KEY) = true ∧
    test.tpAllowed = true ∧ (Fld.SUMP_SRC_FORCE Src.RST_BAD_KEY).on clear = false ∧ (Fld.SUMP_SRC_FLAG Src.RST_BAD_KEY).on clear = true ∧
    s.sump.moduleReset = none ∧ Src.RST_BAD_KEY < 256 ∧ reset.sump.moduleReset = some (Src.RST_BAD_KEY, 0) ∧ s.sumpSeen Src.RST_BAD_KEY = false ∧
    twice.sumpSeen Src.RST_BAD_KEY = true ∧ 0 + 8000 ≤ late.time.cycles ∧ late.fls.queue ≠ [] ∧ reset.time.cycles < 0 + 8000 ∧ reset.fls.queue = [] ∧
    reset.rst.inReset = false := by decide

/-- Two occurrences of one source in one CLK_PER cycle count as one, and the detail word records the lower instance (R382). -/
theorem test_sump_same_cycle :
    let s := ((at0 .run []).raise Src.CHAMBER_RELOCATED 5 0).raise Src.CHAMBER_RELOCATED 3 0
    s.get (Fld.SUMP_CNT_COUNT Src.CHAMBER_RELOCATED) = 1 ∧ s.get (Fld.SUMP_DETAIL_INSTANCE Src.CHAMBER_RELOCATED) = 3 := by decide

theorem test_witness_SumpAndFlowstone_FlowstoneRecorder :
    let s := at0 .run [(Fld.FLS_WTYPE_TYPE, 0x80), (Fld.FLS_WTYPE_LEN, 4)]
    let q := (s.record 0x11 0 [(4, 0)]).fls.queue
    let t : State := { s with fls := { s.fls with queue := q } }
    let full : State := { s with fls := { s.fls with queue := List.replicate 64 (.repeatAt 0) } }
    let go := Fld.FLS_WCMD_GO.mask
    let erase := Fld.FLS_CTRL_KEY.ins Fld.FLS_CTRL_ERASE.mask 0x4552
    s.fls.queue = [] ∧ q.length = 1 ∧ 1 ∉ t.fls.ue ++ [] ∧ 2 ∉ t.fls.ue ++ [] ∧ t.fls.queue ≠ [] ∧ 2 ∈ t.fls.ue ++ [2] ∧ t.fls.lostRun = 0 ∧ t.fls.goWaiting = false ∧ t.headOff + 256 ≤ 16711680 ∧
    Fld.FLS_WCMD_GO.on 0 = false ∧ Fld.FLS_WCMD_GO.on go = true ∧ (at0 .run [(Fld.FLS_WTYPE_LEN, 0)]).get Fld.FLS_WTYPE_LEN = 0 ∧ 2 < s.get Fld.FLS_WTYPE_TYPE ∧
    0 < s.get Fld.FLS_WTYPE_LEN ∧ s.get Fld.FLS_WTYPE_LEN < 63 ∧ 64 ≤ full.fls.queue.length ∧ Fld.FLS_CTRL_ERASE.on erase = true ∧
    Fld.FLS_CTRL_KEY.ext erase = 0x4552 ∧ (at0 .run [(Fld.SEC_STATUS_LIFECYCLE, 1)]).get Fld.SEC_STATUS_LIFECYCLE = 1 ∧
    s.get Fld.SEC_STATUS_LIFECYCLE ≠ 1 ∧ s.get Fld.SEC_STATUS_LIFECYCLE ≠ 3 ∧ s.fls.seeking = none ∧
    ({ s with fls := { s.fls with seeking := some 1 } } : State).fls.seeking = some 1 ∧ s.mode ≠ .hibernate ∧ (at0 .hibernate []).mode = .hibernate := by
  decide

/-- Time stands in reset; it goes on in RUN, with a slew to work off. -/
theorem test_witness_TimeAndDrips_ClockCycleOnEmptyQueue :
    let s := at0 .run []
    let slew : State := { s with time := { s.time with slewRem := 4294967296, nanoseconds := 999999999 } }
    s.pending = [] ∧ State.reset.rst.inReset = true ∧ s.rst.inReset = false ∧ s.mode ≠ .hibernate ∧ s.time.nanoseconds < 1000000000 ∧
    s.time.frac < 2 ^ 32 ∧ s.time.seconds + 1 < 2 ^ 48 ∧ s.getReg Reg.TIME_RATE = 0 ∧ s.time.slewRem = 0 ∧ slew.getReg Reg.TIME_RATE = 0 ∧
    0 < slew.time.slewRem ∧ slew.time.nanoseconds < 1000000000 := by decide

theorem test_witness_TimeAndDrips_TimeSteering :
    let sub := Fld.TIME_CMD_SRC.ins Fld.TIME_CMD_SUBMIT.mask 1
    let step := Fld.TIME_CMD_ACCEPT_STEP.mask
    let slew := Fld.TIME_CMD_ACCEPT_SLEW.mask
    let disc := Fld.TIME_CMD_DISCARD.mask
    let s (n : Nat) := at0 .run [(Fld.TIME_STAT_STATE, n)]
    let far := (s 1).setReg Reg.TIME_ADJ_LO 0x7FFFFFFF
    let pend := at0 .run [(Fld.SEC_STATUS_ENG_SESSION, 1), (Fld.TIME_STAT_STEP_PENDING, 1)]
    let at' : State := { s 1 with time := { (s 1).time with stepAt := some (5, 7) } }
    let late : State := { s 1 with time := { (s 1).time with stepAt := some (0, 7) } }
    let lan (n : Nat) := at0 .run [(Fld.BB_CTRL_MODE, 1), (Fld.TIME_STAT_SOURCE, n)]
    Fld.TIME_CMD_SUBMIT.on sub = true ∧ Fld.TIME_CMD_ACCEPT_STEP.on sub = false ∧ Fld.TIME_CMD_ACCEPT_SLEW.on sub = false ∧
    Fld.TIME_CMD_DISCARD.on sub = false ∧ Fld.TIME_CMD_SRC.ext sub = 1 ∧ (s 3).get Fld.TIME_STAT_STATE = 3 ∧ (s 0).get Fld.TIME_STAT_STATE = 0 ∧
    (s 0).time.seqRan = false ∧ (s 1).get Fld.TIME_STAT_STATE = 1 ∧ (s 1).adjOffset.natAbs ≤ (s 1).jumpNs ∧
    (s 1).bit Fld.TIME_STAT_STEP_PENDING = false ∧ far.jumpNs < far.adjOffset.natAbs ∧ far.get Fld.TIME_STAT_STATE = 1 ∧
    Fld.TIME_CMD_ACCEPT_STEP.on step = true ∧ Fld.TIME_CMD_SUBMIT.on step = false ∧ Fld.TIME_CMD_ACCEPT_SLEW.on step = false ∧
    Fld.TIME_CMD_DISCARD.on step = false ∧ (s 1).session = false ∧ pend.session = true ∧ pend.bit Fld.TIME_STAT_STEP_PENDING = true ∧
    pend.bit Fld.SEQ_STAT_RUNNING = false ∧ pend.ll ≠ .synced ∧ Fld.TIME_CMD_ACCEPT_SLEW.on slew = true ∧ Fld.TIME_CMD_SUBMIT.on slew = false ∧
    Fld.TIME_CMD_ACCEPT_STEP.on slew = false ∧ Fld.TIME_CMD_DISCARD.on slew = false ∧ Fld.TIME_CMD_DISCARD.on disc = true ∧
    Fld.TIME_CMD_SUBMIT.on disc = false ∧ Fld.TIME_CMD_ACCEPT_STEP.on disc = false ∧ Fld.TIME_CMD_ACCEPT_SLEW.on disc = false ∧
    (s 1).time.stepAt = none ∧ at'.time.stepAt = some (5, 7) ∧ at'.nowNs < 5 ∧ (late.time.stepAt = some (0, 7) ∧ 0 ≤ late.nowNs) ∧ (lan 1).get Fld.BB_CTRL_MODE = 1 ∧ (lan 1).get Fld.TIME_STAT_SOURCE = 1 ∧
    (lan 2).get Fld.TIME_STAT_SOURCE = 2 ∧ (s 1).get Fld.BB_CTRL_MODE ≠ 1 := by decide

theorem test_witness_TimeAndDrips_DripsAndCaptures :
    let s := at0 .run [(Fld.DRIP_CTRL_ARMED 0, 1)]
    let surv := at0 .run [(Fld.DRIP_CTRL_SURVEY 0, 1)]
    let per (n : Nat) := at0 .run [(Fld.DRIP_PER_LO_PER 0, n)]
    let far := at0 .run [(Fld.DRIP_TGT_LO_TGT 0, 0x7FFFFFFF)]
    let arm := (Fld.DRIP_CTRL_ARM 0).mask
    let dis := (Fld.DRIP_CTRL_DISARM 0).mask
    let cap (o : Option Bool) := (at0 .run [(Fld.CAP_CFG_EDGE 0, 1), (Fld.CAP_STAT_VALID 0, 1)]).setCap 0 ⟨o, 0⟩
    s.bit (Fld.DRIP_CTRL_ARMED 0) = true ∧ ((s.time.lin.truncate 40 - (s.drip 0).target : BitVec 40)).toNat < 2 ^ 39 ∧ (s.drip 0).period = 0 ∧
    ((s.setDrip 0 ⟨5, 1000, true⟩).drip 0).period ≠ 0 ∧ ((s.setDrip 0 ⟨5, 1000, true⟩).drip 0).late = true ∧ surv.bit (Fld.DRIP_CTRL_ARMED 0) = false ∧
    (Fld.DRIP_CTRL_ARM 0).on arm = true ∧ (Fld.DRIP_CTRL_DISARM 0).on arm = false ∧ surv.bit (Fld.DRIP_CTRL_SURVEY 0) = true ∧
    (per 999).bit (Fld.DRIP_CTRL_SURVEY 0) = false ∧ (per 999).dripPeriod 0 ≠ 0 ∧ (per 999).dripPeriod 0 < 1000 ∧ 1000 ≤ (per 1000).dripPeriod 0 ∧
    (per 1000).dripPeriod 0 < 2 ^ 39 ∧ far.dripPeriod 0 = 0 ∧
    2 ^ 39 ≤ ((far.time.lin.truncate 40 - BitVec.ofNat 40 (far.dripTarget 0) : BitVec 40)).toNat ∧ (Fld.DRIP_CTRL_DISARM 0).on dis = true ∧
    (Fld.DRIP_CTRL_ARM 0).on dis = false ∧ ((cap none).cap 0).level = none ∧ ((cap (some true)).cap 0).level = some true ∧
    ((cap (some false)).cap 0).level = some (!true) ∧ (cap (some false)).get (Fld.CAP_CFG_EDGE 0) % 2 = 1 ∧
    (cap (some false)).bit (Fld.CAP_STAT_VALID 0) = true ∧ (cap (some true)).get (Fld.CAP_CFG_EDGE 0) < 2 := by decide

/-! ### Security, updates, perturbation -/

theorem test_witness_LifecycleAndKeys :
    let mk : State := at0 .recovery [(⟨Reg.SEC_SYS_KEY, 2, 1⟩, 1), (⟨Reg.SEC_SYS_KEY, 4, 1⟩, 1), (Fld.SEC_SVY_KEY_PRESENT 0, 1),
      (Fld.SEC_SVY_KEY_PRESENT 1, 1)]
    let go (n : Nat) := Fld.SEC_LC_CMD_KEY.ins (Fld.SEC_LC_CMD_TARGET.ins Fld.SEC_LC_CMD_GO.mask n) 0x4C43
    let prov (n : Nat) := Fld.SEC_PROV_KEY.ins (Fld.SEC_PROV_ITEM.ins Fld.SEC_PROV_GO.mask n) 0x5052
    let rev (n : Nat) := Fld.SEC_REVOKE_KEY.ins (Fld.SEC_REVOKE_TARGET.ins Fld.SEC_REVOKE_GO.mask n) 0x5256
    let erase : State := { mk with sec := { mk.sec with erasePending := true } }
    (List.range 4).any (fun n => mk.lifecycleAllowed n) = true ∧ mk.lifecycleAllowed 0 = false ∧ Fld.SEC_LC_CMD_GO.on (go 1) = true ∧
    Fld.SEC_LC_CMD_KEY.ext (go 1) = 0x4C43 ∧ mk.lifecycleAllowed (Fld.SEC_LC_CMD_TARGET.ext (go 1)) = true ∧ mk.rst.inReset = false ∧
    mk.lifecycleAllowed (Fld.SEC_LC_CMD_TARGET.ext (go 0)) = false ∧ Fld.SEC_PROV_GO.on (prov 8) = true ∧ Fld.SEC_PROV_KEY.ext (prov 8) = 0x5052 ∧
    mk.provisionAllowed (Fld.SEC_PROV_ITEM.ext (prov 8)) = true ∧ mk.provisionAllowed (Fld.SEC_PROV_ITEM.ext (prov 0)) = false ∧
    Fld.SEC_REVOKE_GO.on (rev 0) = true ∧ Fld.SEC_REVOKE_KEY.ext (rev 0) = 0x5256 ∧
    (List.range 16).any (fun n => mk.revokeAllowed (Fld.SEC_REVOKE_TARGET.ext (rev n))) = true ∧
    (List.range 16).any (fun n => !mk.revokeAllowed (Fld.SEC_REVOKE_TARGET.ext (rev n))) = true ∧ mk.sec.erasePending = false ∧
    erase.sec.erasePending = true ∧ erase.rst.inReset = false ∧ mk.core.cover = false ∧
    ({ mk with core := { mk.core with cover := true } } : State).core.cover = true := by decide

/-- The test access port with the cover open, in the lifecycle FIELD, and with an answer being decided. -/
def tapped (req : Option (Nat × AuthVerdict)) (f : List (RegField × Nat)) : State :=
  let s := at0 .run ((Fld.SEC_STATUS_LIFECYCLE, 2) :: f)
  { s with
    core := { s.core with cover := true }
    sec := { s.sec with request := req } }

theorem test_witness_TestAccess_TestAccessPort :
    let s := tapped none []
    let v : AuthVerdict := ⟨true, true, true⟩
    let w : AuthVerdict := ⟨false, false, false⟩
    let lock := tapped none [(Fld.SEC_STATUS_LOCKOUT, 1)]
    let dbg := tapped none [(Fld.SEC_STATUS_DBG_LEVEL, 3)]
    (at0 .run []).core.cover = false ∧ s.core.cover = true ∧ s.mode ≠ .hibernate ∧ s.boundaryGranted = false ∧ ({ dbg with mode := .hold } : State).boundaryGranted = true ∧
    lock.bit Fld.SEC_STATUS_LOCKOUT = true ∧ lock.get Fld.SEC_AUTH_CNT_LOCKOUT_S = 0 ∧
    (tapped none [(Fld.SEC_AUTH_CNT_LOCKOUT_S, 600)]).get Fld.SEC_AUTH_CNT_LOCKOUT_S ≠ 0 ∧ s.bit Fld.SEC_STATUS_LOCKOUT = false ∧ s.sec.request = none ∧ (tapped (some (2, v)) []).sec.request = some (2, v) ∧
    s.get Fld.SEC_STATUS_LIFECYCLE = 2 ∧ v.signed = true ∧ v.fieldKey = true ∧ w.signed = false ∧
    ({ s with sec := { s.sec with nonce := some 1 } } : State).nonceValid = true := by decide

theorem test_witness_TestAccess_EngineeringSession : (at0 .run [(Fld.SEC_STATUS_ENG_SESSION, 1)]).bit Fld.SEC_STATUS_ENG_SESSION = true ∧
    (at0 .run []).bit Fld.SEC_STATUS_ENG_SESSION = false := by decide

/-- An update manager whose gate is open, at a stage. -/
def staging (st : Nat) (f : List (RegField × Nat)) : State := at0 .run ((Fld.GATE_CTRL_STATE 48, 0) :: (Fld.UPD_STAT_STAGE, st) :: f)

/-- A FULL capsule that passes every check in DEVELOPMENT, its CRCs computed by zlib. -/
def capsule0 : Capsule where
  magic := 0x53504143
  format := 1
  component := 0
  members := 8
  length := 1024
  manifestCount := 1
  sectionCount := 4
  buildId := 5
  headerCrc := 0x9b589126
  images := [⟨1, 0, 1, 64, [(1, 0x100)], [], true⟩, ⟨2, 0, 1, 64, [], [], true⟩, ⟨4, 0, 1, 64, [], [], true⟩, ⟨5, 0, 1, 64, [], [], true⟩]
  trailer := { trailer0 with crc := 0x43b20464 }
  readUe := false

set_option maxRecDepth 20000 in
/-- What each of the first checks of R443 finds (R441, R423, R425). -/
theorem test_capsule_checks :
    let s := staging 2 [(Fld.SEC_STATUS_LIFECYCLE, 1)]
    let field := staging 2 [(Fld.SEC_STATUS_LIFECYCLE, 2)]
    let old : State := { s with sec := { s.sec with counters := [(0, 1)] } }
    s.capsuleCheck capsule0 false = 0 ∧ s.capsuleCheck { capsule0 with buildId := 6 } false = 2 ∧ s.capsuleCheck { capsule0 with readUe := true } false = 3 ∧
    field.capsuleCheck { capsule0 with trailer := { capsule0.trailer with iv := 1 } } false = 3 ∧ old.capsuleCheck capsule0 false = 4 := by decide +kernel

set_option maxRecDepth 20000 in
theorem test_witness_UpdatesAndFirmware_CapsuleStaging :
    let c := capsule0
    let recov : State := { staging 0 [] with mode := .hibernate }
    (at0 .run []).get (Fld.GATE_CTRL_STATE 48) ≠ 0 ∧ (staging 0 []).get (Fld.GATE_CTRL_STATE 48) = 0 ∧
    Fld.UPD_CMD_BEGIN.on (Fld.UPD_CMD_BEGIN.mask ||| Fld.UPD_CMD_WRITE.mask) = true ∧
    Fld.UPD_CMD_WRITE.on (Fld.UPD_CMD_BEGIN.mask ||| Fld.UPD_CMD_WRITE.mask) = true ∧ recov.beginRefusal false ≠ none ∧
    (staging 0 [(Fld.SEC_STATUS_ENG_SESSION, 1)]).beginRefusal false = none ∧ (staging 0 []).get Fld.UPD_STAT_STAGE ≠ 1 ∧
    (staging 1 []).get Fld.UPD_STAT_STAGE = 1 ∧ (staging 1 []).upd.received + (staging 1 []).get Fld.UPD_XFER_LEN_LEN ≤ 0x3FF0000 ∧
    (∀ a ∈ updBursts ((staging 1 []).getReg Reg.UPD_XFER_ADDR).toNat ((staging 1 []).get Fld.UPD_XFER_LEN_LEN), (staging 1 []).ringPasses a = true) ∧
    0x3FF0000 < ({ staging 1 [(Fld.UPD_XFER_LEN_LEN, 64)] with upd := { UpdState.reset with received := 0x3FF0000 } } : State).upd.received + 64 ∧
    (staging 2 []).get Fld.UPD_STAT_STAGE = 2 ∧ (staging 2 []).capsuleCheck { c with magic := 0 } false ≠ 0 ∧ (staging 2 []).upd.loader = false ∧
    (staging 2 [(Fld.SEC_STATUS_LIFECYCLE, 1)]).capsuleCheck c false = 0 := by
  decide +kernel

set_option maxRecDepth 20000 in
theorem test_witness_UpdatesAndFirmware_FirmwareHealth :
    let ok := Fld.UPD_HEALTH_KEY.ins Fld.UPD_HEALTH_CONFIRM.mask 0x4F4B
    let s := staging 0 [(Fld.UPD_STAT_TENTATIVE, 1), (Fld.UPD_HEALTH_OPEN, 1)]
    let back : State := { s with upd := { s.upd with fallback := some 0 } }
    s.get Fld.UPD_STAT_RUN_SLOT < 2 ∧ (at0 .run []).get (Fld.GATE_CTRL_STATE 48) ≠ 0 ∧ Fld.UPD_HEALTH_CONFIRM.on 0 = false ∧
    s.get (Fld.GATE_CTRL_STATE 48) = 0 ∧ Fld.UPD_HEALTH_CONFIRM.on ok = true ∧ Fld.UPD_HEALTH_KEY.ext ok = 0x4F4B ∧
    s.bit Fld.UPD_STAT_TENTATIVE = true ∧ s.mode = .run ∧ s.upd.fallback = none ∧ (at0 .run []).bit Fld.UPD_HEALTH_OPEN = false ∧
    s.bit Fld.UPD_HEALTH_OPEN = true ∧ s.get Fld.UPD_HEALTH_REMAIN_S = 0 ∧ (staging 0 [(Fld.UPD_HEALTH_REMAIN_S, 600)]).get Fld.UPD_HEALTH_REMAIN_S ≠ 0 ∧ back.upd.fallback ≠ none ∧ back.get Fld.OLC_STAT_STATE < 6 ∧ back.bit Fld.UPD_STAT_ISL_BUSY = false ∧
    back.rst.inReset = false ∧ (at0 .recovery []).mode = .recovery ∧ (at0 .recovery []).upd.slot0.intact = false ∧ s.mode ≠ .recovery ∧
    capsule0.component = 0 ∧ (at0 .recovery [(Fld.SEC_STATUS_LIFECYCLE, 1)]).capsuleCheck capsule0 true = 0 := by decide +kernel

theorem test_witness_Perturbation :
    let start := Fld.TP_CMD_KEY.ins (Fld.TP_CMD_START.mask ||| 1) 0x5450
    let stop := Fld.TP_CMD_KEY.ins Fld.TP_CMD_STOP.mask 0x5450
    let s (l : Nat) := at0 .service [(Fld.GATE_CTRL_STATE 49, 0), (Fld.SEC_STATUS_LIFECYCLE, l)]
    let wait : State := { s 1 with tp := { (s 1).tp with waiting := [5], starts := [[5]] } }
    (at0 .run []).get (Fld.GATE_CTRL_STATE 49) ≠ 0 ∧ (s 1).get (Fld.GATE_CTRL_STATE 49) = 0 ∧ Fld.TP_CMD_KEY.ext 0 ≠ 0x5450 ∧
    Fld.TP_CMD_KEY.ext start = 0x5450 ∧ Fld.TP_CMD_START.on start = true ∧ Fld.TP_CMD_STOP.on start = false ∧ (s 2).tpAllowed = false ∧
    (s 1).tpAllowed = true ∧ Fld.TP_CMD_STOP.on stop = true ∧ Fld.TP_CMD_START.on stop = false ∧ 5 ∈ wait.tp.waiting ∧ 0 ∉ wait.tp.waiting ∧
    wait.tpRecordQueued 5 = false ∧ wait.get (Fld.SUMP_SRC_SEVERITY Src.TP_ACTIVE) ≠ 7 ∧ (s 1).tp.starts = [] ∧ wait.tp.starts = [5] :: [] := by decide

/-- Starts that no reason refuses, and one for each reason. -/
theorem test_witness_Perturbation_starts :
    let s := at0 .service [(Fld.GATE_CTRL_STATE 49, 0), (Fld.SEC_STATUS_LIFECYCLE, 1), (Fld.TP_SQZ_RATIO, 1)]
    let kinds := tpKinds (Fld.TP_CMD_KEY.ins 0x20 0x5450)
    let busy : State := { s with tp := { s.tp with waiting := kinds } }
    (kinds ≠ [] ∧ (∀ j ∈ kinds, s.tpActive j = false ∧ j ∉ s.tp.waiting ∧ s.tpConfigOk j = true)) ∧ (s.tpRecords kinds).2 = false ∧
    (∃ j ∈ kinds, busy.tpActive j = true ∨ j ∈ busy.tp.waiting) ∧ (List.range 6).any (fun j => !s.tpConfigOk j) = true := by decide

/-! ### Islands and channels -/

/-- The link of island 0 with its gate open, in a state. -/
def linked0 (x : Island) (f : List (RegField × Nat)) : State := (running ((Fld.GATE_CTRL_STATE 16, 0) :: f)).setIsland 0 x

/-- Channel 0 in a state, on an island whose outputs run. -/
def chan0 (c : IslChan) (f : List (RegField × Nat)) : State := linked0 { Island.reset with run := true, chans := [(0, c)] } f

theorem test_witness_IslandLinks_IslandFrames :
    let s := linked0 Island.reset []
    let f : DownFrame := ⟨false, true, false, 0, 0, [0x0000002], [], 0, []⟩
    let w (k : Nat) : BitVec 32 := BitVec.ofNat 32 (k * 256 + 4)
    let got : Island := { Island.reset with frame := some f }
    let trig (k : Nat) (lost silent : Bool) := linked0 { Island.reset with trigs := [w k], lost := lost, silent := silent } [(Fld.ISL_CH_CFG_MODE 2, 1)]
    let lat (lost : Bool) : State := { trig 0 lost false with
      banks := [(0, ⟨some { survey0 with
        triggers := [⟨0, 4, 0, 0, 0⟩]
        signals := [⟨1, 0, 3, 1, 0, 0, true, false, 2, 0, 0, 0⟩] }⟩)] }
    s.linkOpen 0 = true ∧ s.tpActive 2 = false ∧ (running [(Fld.GATE_CTRL_STATE 16, 2)]).linkOpen 0 = false ∧
    ((linked0 got []).island 0).frame = some f ∧ ((linked0 got []).island 0).spoiled = false ∧ frameArrives [0, 0] (downBytes f) = true ∧
    ((linked0 got []).island 0).silent = false ∧ ((linked0 got []).island 0).restarting = false ∧ (s.kind2 0).getLsbD 0 = false ∧
    ((linked0 { got with silent := true, goodRun := 9 } []).island 0).goodRun < 10 ∧ (s.island 0).frame = none ∧
    (lat false).chMode 2 = chDI ∧ (lat false).modeFromSurvey 2 = chDI ∧ s.heldTrigger 0 2 4 = none ∧ (trig 2 false false).heldTrigger 0 2 4 = some (w 2) ∧
    ((trig 2 false true).island 0).silent = true ∧ (4 : BitVec 8).getLsbD 2 = true ∧ s.surveyLatches 0 4 = false ∧ (lat false).surveyLatches 0 4 = true ∧
    frameOver ((lat false).island 0).awaitedAt (lat false).nowNs = false ∧ (lat false).heldTrigger 0 0 4 = some (w 0) ∧
    ({ lat false with isl := [] } : State).heldTrigger 0 0 4 = none ∧ ((lat false).island 0).lost = false ∧ ((lat true).island 0).lost = true ∧
    (lat true).leadHas 2 = false ∧ ((lat true).inputSignal 2).isSome = true := by decide +kernel

/-- A frame with one byte disturbed has a wrong CRC. -/
theorem test_witness_IslandLinks_IslandFrames_disturbed :
    let f : DownFrame := ⟨false, true, false, 0, 0, [], [], 0, []⟩
    frameArrives [1] (downBytes f) = false ∧ frameArrives [1] (upBytes ((linked0 Island.reset []).upFrame 0 0 [])) = false := by decide +kernel

theorem test_witness_IslandLinks_IslandUpstream :
    let s := linked0 Island.reset []
    let x (y : Island) := linked0 y [(Fld.ISL_CH_CFG_MODE 0, 2), (Fld.ISL_CH_CFG_SAFE 0, 0)]
    (running [(Fld.GATE_CTRL_STATE 16, 2)]).linkOpen 0 = false ∧ ((x { Island.reset with restarting := true }).island 0).restarting = true ∧
    s.inPair = false ∧ s.linkOpen 0 = true ∧ (s.island 0).restarting = false ∧ s.tpActive 2 = false ∧ s.bit (Fld.ISL_STAT_LINK_UP 0) = false ∧
    ((x { Island.reset with lost := true }).island 0).lost = true ∧ (s.island 0).lost = false ∧ (x Island.reset).chMode 0 = chDO ∧
    (x Island.reset).get (Fld.ISL_CH_CFG_SAFE 0) = 0 := by decide

theorem test_witness_DigitalOutputs_FieldSupply :
    let s (n : Nat) := linked0 { Island.reset with supply := n } [(Fld.ISL_CH_CFG_MODE 0, 2), (Fld.ISL_CH_CFG_RESTART 0, 1)]
    ((s 0).island 0).supply = 0 ∧ ((s 1).island 0).supply = 1 ∧ ((s 2).island 0).supply = 2 ∧ ((s 3).island 0).supply = 3 ∧
    (s 0).chMode 0 = chDO ∧ (s 3).isOutput 0 = true ∧ (s 3).bit (Fld.ISL_CH_CFG_RESTART 0) = true := by decide

theorem test_witness_DigitalOutputs_DigitalOutputFaults :
    let d : List (RegField × Nat) := [(Fld.ISL_CH_CFG_MODE 0, 2), (Fld.ISL_CH_STAT_DRIVER 0, 1)]
    let s := chan0 IslChan.reset d
    let short := chan0 { IslChan.reset with short := true } d
    let off := chan0 { IslChan.reset with off := 1 } [(Fld.ISL_CH_CFG_MODE 0, 2), (Fld.ISL_CH_CFG_RETRY 0, 1)]
    let mask : State := chan0 IslChan.reset [(Fld.ISL_CH_CFG_MODE 0, 2), (Fld.ISL_CH_CFG_WIRING 0, 1), (Fld.ISL_CH_CFG_OPEN_DET 0, 1)]
    let masked : State := { mask with pair := { mask.pair with duplexIn := some ⟨1, 0⟩ } }
    let open' := chan0 IslChan.reset [(Fld.ISL_CH_CFG_MODE 0, 2), (Fld.ISL_CH_CFG_OPEN_DET 0, 1)]
    (running []).chMode 0 ≠ chDO ∧ s.chMode 0 = chDO ∧ s.bit (Fld.ISL_CH_STAT_DRIVER 0) = true ∧ (s.chan 0).short = false ∧ (s.chan 0).shed = false ∧
    (short.chan 0).short = true ∧ (chan0 IslChan.reset ((Fld.ISL_CH_STAT_LIMIT 0, 1) :: d)).bit (Fld.ISL_CH_STAT_LIMIT 0) = true ∧
    (s.chan 0).off = 0 ∧ (off.chan 0).off ≠ 0 ∧ off.get (Fld.ISL_CH_CFG_RETRY 0) ≠ 0 ∧
    (∀ j, j < 8 → (running []).chMode (8 * 0 + j) ≠ chDO ∨ (running []).bit (Fld.ISL_CH_STAT_DRIVER (8 * 0 + j)) = false) ∧
    (∀ k, k < 8 → 0 < k → s.chMode (8 * 0 + k) ≠ chDO ∨ s.bit (Fld.ISL_CH_STAT_DRIVER (8 * 0 + k)) = false) ∧
    open'.bit (Fld.ISL_CH_CFG_OPEN_DET 0) = true ∧ open'.duplex 0 = false ∧ mask.duplex 0 = true ∧ open'.chMode 0 = chDO ∧
    open'.bit (Fld.ISL_CH_STAT_DRIVER 0) = false ∧ (open'.chan 0).extDrive = false ∧ masked.driveMasked 0 = true ∧ open'.driveMasked 0 = false ∧
    open'.doDrives 0 = false ∧ (chan0 { IslChan.reset with extDrive := true } []).bit (Fld.ISL_CH_STAT_DRIVER 0) = false := by decide

theorem test_witness_AnalogueChannels :
    let ai (l b : Nat) := running [(Fld.ISL_CH_CFG_MODE 1, 3), (Fld.ISL_AN_STAT_LIMITER 1, l), (Fld.ISL_AN_STAT_CONV_BUSY 1, b)]
    let ao (w : Nat) := chan0 { IslChan.reset with out := 0x41200000 } [(Fld.ISL_CH_CFG_MODE 0, 4), (Fld.ISL_CH_CFG_WIRING 0, w)]
    let trig : State := { ai 0 0 with banks := [(0, ⟨some { survey0 with triggers := [⟨0, 2, 1, 0, 0⟩] }⟩)] }
    let up := chan0 IslChan.reset [(Fld.ISL_CH_CFG_MODE 0, 4), (Fld.ISL_AN_STAT_STEP_UP 0, 1)]
    (ai 0 0).chMode 1 = chAI ∧ (ai 0 0).duplex 1 = false ∧ (ai 0 0).get (Fld.ISL_AN_STAT_LIMITER 1) = 0 ∧ (ai 1 0).get (Fld.ISL_AN_STAT_LIMITER 1) = 1 ∧
    (ai 2 0).get (Fld.ISL_AN_STAT_LIMITER 1) = 2 ∧ (2 : BitVec 8).getLsbD 1 = true ∧ (ai 0 1).bit (Fld.ISL_AN_STAT_CONV_BUSY 1) = true ∧
    (ai 0 0).triggered 1 = false ∧ trig.triggered 1 = true ∧ (ai 0 0).bit (Fld.ISL_AN_STAT_CONV_BUSY 1) = false ∧ (ai 0 0).chMode 1 ≠ chAO ∧
    (ai 0 0).convPast 1 5 = true ∧ (chan0 { IslChan.reset with conv := some (5, 120) } []).convPast 0 1 = false ∧
    ((chan0 { IslChan.reset with conv := some (5, 120) } []).chan 0).conv = some (5, 120) ∧ (ao 1).chMode 0 = chAO ∧ (ao 1).duplex 0 = true ∧ (ao 1).bit (Fld.ISL_AN_STAT_STEP_UP 0) = false ∧ f32Eq ((ao 1).aoCurrent 0) 0 = false ∧
    (ao 1).bit (Fld.ISL_AN_STAT_CAL_DRIVE 0) = false ∧ up.bit (Fld.ISL_AN_STAT_STEP_UP 0) = true ∧ (ao 1).heldTrigger 0 1 2 = none ∧
    (linked0 { Island.reset with trigs := [0x102] } []).heldTrigger 0 1 2 = some 0x102 ∧
    f32Le 0x3F800000 (aoCommand ((ao 1).chan 0).out) = true ∧ f32Lt 0 0x3DCCCCCD = true ∧ (⟨true, true, 0⟩ : AoObservation).terminalHigh = true := by decide

/-- A module in SERVICE with channel 0 of a mode, and a reference written. -/
def calibrating (mode : Nat) (f : List (RegField × Nat)) : State :=
  { at0 .service ((Fld.ISL_CH_CFG_MODE 0, mode) :: (⟨Reg.ISL_CAL_REF, 0, 32⟩, 0x40800000) :: f) with load := { State.reset.load with step := 7 } }

theorem test_witness_CalibrationAndConfiguration_Calibration :
    let both := Fld.ISL_CAL_CMD_DRIVE_ON.mask ||| Fld.ISL_CAL_CMD_TAKE.mask
    let ao := calibrating 4 []
    let dup := calibrating 4 [(Fld.ISL_CH_CFG_WIRING 0, 1), (Fld.PAIR_STAT_LL_STATE, 2)]
    let ai := calibrating 3 []
    let avg (r : CalAverage) : State := { ai with cal := { ai.cal with averaging := some r } }
    let good : CalAverage := (⟨0, false, 0x40800000, 0, 0, 0, 0, false⟩ : CalAverage).take 0x408064C3 0x408064C3 Tag.GOOD
    Fld.ISL_CAL_CMD_DRIVE_ON.on both = true ∧ Fld.ISL_CAL_CMD_TAKE.on both = true ∧
    Fld.ISL_CAL_CMD_DRIVE_ON.mask.toNat % 16 = 2 ^ Fld.ISL_CAL_CMD_DRIVE_ON.lo ∧ Fld.ISL_CAL_CMD_DRIVE_OFF.mask.toNat % 16 = 2 ^ Fld.ISL_CAL_CMD_DRIVE_OFF.lo ∧
    Fld.ISL_CAL_CMD_TAKE.mask.toNat % 16 = 2 ^ Fld.ISL_CAL_CMD_TAKE.lo ∧ Fld.ISL_CAL_CMD_DEFAULT.mask.toNat % 16 = 2 ^ Fld.ISL_CAL_CMD_DEFAULT.lo ∧
    (running []).mode ≠ .service ∧ ao.mode = .service ∧ ao.chMode ao.calChannel = chAO ∧ ao.bit Fld.ISL_CAL_STAT_BUSY = false ∧
    (calibrating 4 [(Fld.ISL_CAL_STAT_BUSY, 1)]).bit Fld.ISL_CAL_STAT_BUSY = true ∧ dup.duplex dup.calChannel = true ∧ dup.ll ≠ .down ∧
    ao.duplex ao.calChannel = false ∧ refInRange (ao.bit Fld.ISL_CAL_SEL_POINT) (ao.getReg Reg.ISL_CAL_REF) = true ∧
    ai.calRefusal ai.calChannel (ai.bit Fld.ISL_CAL_SEL_POINT) (ai.getReg Reg.ISL_CAL_REF) = 0 ∧ ai.chMode ai.calChannel = chAI ∧
    ai.cal.averaging = none ∧ (avg good).cal.averaging = some good ∧ good.mean false = 0x408064C3 ∧
    (good.take 0x408064C3 0x408064C3 Tag.BAD_WIRE).bad = true ∧ (good.take 0x40880000 0x40880000 Tag.GOOD).unsteady = true ∧
    good.bad = false ∧ good.unsteady = false ∧ good.count ≠ 0 ∧
    (let x := calTrims good.high good.ref (good.mean false) 0 0x3F800000 0x40800000
     trimsInRange x.1 x.2.1 = true ∧ x.1 = 0xBC498600) ∧ ao.driveOf 0 = .off ∧ ai.reached 0 = true ∧ 0 ∉ ai.cal.trimStore := by decide

theorem test_witness_CalibrationAndConfiguration_ChannelConfiguration :
    let s := at0 .hold []
    let sh := at0 .hold [(Fld.PAIR_STAT_ROLE, 2), (Fld.PAIR_STAT_LL_STATE, 3)]
    let cal (c : CalState) : State := { s with cal := c }
    (at0 .run []).mode ≠ .load ∧ (at0 .run []).mode ≠ .hold ∧ (at0 .run []).mode ≠ .service ∧ s.mode = .hold ∧ sh.ll = .synced ∧ sh.role = .shadow ∧
    s.ll ≠ .synced ∧ (∀ c ∈ s.cal.cfg, s.reached c.1 = false) ∧ (cal { s.cal with cfg := [(0, 0, false, 1)] }).cal.cfg = [(0, 0, false, 1)] ∧
    s.reached 0 = true ∧ 0 ∈ (cal { s.cal with cfgStore := [0] }).cal.cfgStore ∧ 0 ∈ (cal { s.cal with trimStore := [0] }).cal.trimStore := by decide

theorem test_witness_IslandLinks_IslandUpdates :
    let go := Fld.UPD_ISL_CMD_KEY.ins Fld.UPD_ISL_CMD_GO.mask 0x4953
    let s (p : Nat) := { staging 3 [(Fld.UPD_STAT_STAGED_COMP, 3), (Fld.ISL_STAT_LINK_UP 0, 1), (Fld.UPD_ISL_STAT_PHASE, p)] with mode := .hold }
    let x (p : Nat) : State := { s p with upd := { (s p).upd with island := some (0, 1) } }
    (at0 .run []).get (Fld.GATE_CTRL_STATE 48) ≠ 0 ∧ (s 0).get (Fld.GATE_CTRL_STATE 48) = 0 ∧ Fld.UPD_ISL_CMD_GO.on go = true ∧
    Fld.UPD_ISL_CMD_KEY.ext go = 0x4953 ∧ (s 0).islUpdateOk (Fld.UPD_ISL_CMD_ISLAND.ext go) = true ∧
    (staging 3 []).islUpdateOk (Fld.UPD_ISL_CMD_ISLAND.ext go) = false ∧ (s 0).upd.island = none ∧ (x 1).upd.island = some (0, 1) ∧
    (x 1).get Fld.UPD_ISL_STAT_PHASE = 1 ∧ ({ running [(Fld.UPD_ISL_STAT_PHASE, 1)] with upd := (x 1).upd } : State).bit Fld.SEQ_STAT_RUNNING = true ∧
    (x 3).get Fld.UPD_ISL_STAT_PHASE = 3 ∧ (x 2).get Fld.UPD_ISL_STAT_PHASE ≠ 1 ∧ (x 2).get Fld.UPD_ISL_STAT_PHASE ≠ 3 := by decide

/-! ### The Lifeline and the pair -/

/-- A module with the Lifeline's gate open: its mode, role, LL_STATE, and some fields. -/
def paired (m : Mode) (r l : Nat) (f : List (RegField × Nat)) : State :=
  at0 m ((Fld.GATE_CTRL_STATE 45, 0) :: (Fld.PAIR_STAT_ROLE, r) :: (Fld.PAIR_STAT_LL_STATE, l) :: f)

/-- A frame's header of a TYPE with the number that is due and a right HDR_CRC. -/
def due (ty : Nat) : LLHeader :=
  let h : LLHeader := ⟨0, 1, 0, ty, true, .lead, true, 1, 0, 0, 0⟩
  { h with hdrCrc := crc32 (llHeaderBytes h) }

theorem test_witness_frameDue : ∀ ty ∈ [1, 3, 4, 5, 6, 7, 8, 0x0A, 0x0B, 0x0C],
    frameDue (paired .run 2 3 []) (due ty) ty ∧ frameDue (paired .run 0 2 []) (due ty) ty ∧ frameDue (paired .run 3 2 []) (due ty) ty := by
  unfold frameDue headerGood; decide +kernel

theorem test_witness_headerGood : headerGood (paired .run 2 3 []) (due 2) 2 ∧ headerGood (paired .run 0 2 []) (due 9) 9 ∧
    headerGood (paired .run 0 1 []) (due 0x0B) 0x0B ∧ headerGood (paired .run 0 1 []) (due 1) 1 := by
  unfold headerGood; decide +kernel

theorem test_witness_LifelineFrames_LifelineTraining :
    let s := paired .run 0 0 []
    let t := paired .run 0 1 [(Fld.PAIR_LANE_STATE 0, 1)]
    s.mode ≠ .hibernate ∧ (s.mode = .load → 5 ≤ s.load.step) ∧ s.get (Fld.GATE_CTRL_STATE 45) = 0 ∧ s.ll = .down ∧ s.get (Fld.PAIR_LANE_STATE 0) = 0 ∧
    (at0 .hibernate []).mode = .hibernate ∧ t.ll ≠ .down ∧ t.get (Fld.PAIR_LANE_STATE 0) ≠ 2 ∧ t.get (Fld.PAIR_LANE_STATE 0) ≠ 0 ∧
    (paired .run 0 2 []).linked = true ∧ s.linked = false ∧
    (paired .run 0 2 [(Fld.PAIR_LANE_STATE 1, 2)]).get (Fld.PAIR_LANE_STATE 0) < 2 ∧ 2 ≤ (paired .run 0 2 [(Fld.PAIR_LANE_STATE 1, 2)]).get (Fld.PAIR_LANE_STATE 1) ∧
    2 ≤ (paired .run 0 2 [(Fld.PAIR_LANE_STATE 0, 2)]).get (Fld.PAIR_LANE_STATE 0) := by decide

theorem test_witness_LifelineFrames_LifelineReception :
    let s := paired .run 0 2 []
    let late : LLHeader := { due 0x0B with frameNum := 0xFFFFFFFF }
    let f : Instr := .departure (due 0x0B)
    let lead := paired .run 1 3 []
    (paired .run 0 0 []).ll = .down ∧ s.ll ≠ .down ∧ s.get (Fld.GATE_CTRL_STATE 45) = 0 ∧ (paired .run 0 2 [(Fld.TP_STAT_ACTIVE, 1)]).tpActive 0 = true ∧
    s.tpActive 0 = false ∧ llHeaderOk { due 0x0B with hdrCrc := 0 } = false ∧ (due 2).type ≠ frameType f ∧ s.linked = true ∧
    (({ due 0x0B with frameNum := 2 } : LLHeader).frameNum - s.pair.recvNum).toNat < 2 ^ 31 ∧ 2 ^ 31 ≤ (late.frameNum - s.pair.recvNum).toNat ∧
    lead.ll = .synced ∧ lead.role ≠ .shadow ∧ lead.pair.syncAt ≤ (due 2).txTime ∧ (5 : Word).toNat < (7 : Word).toNat ∧
    s.pair.waiting = [] ∧ ({ s with pair := { s.pair with waiting := [(1, f)] } } : State).pair.waiting = [(1, f)] ∧ s.ll ≠ .synced ∧ s.role ≠ .joining ∧
    s.tp.held = [] ∧ ({ s with tp := { s.tp with held := [f] } } : State).tp.held = f :: [] := by decide +kernel

/-- A frame of LEAD's partner that does not see SYNCED, and a header good for it but out of its turn. -/
theorem test_witness_LifelineFrames_LifelineReception_headers :
    let h : LLHeader := ⟨0, 1, 0, 2, true, .shadow, false, 0, 0, 0, 0⟩
    let g : LLHeader := ⟨0, 1, 0, 0x0B, true, .lead, true, 2, 0, 0, 0⟩
    llHeaderOk { h with hdrCrc := crc32 (llHeaderBytes h) } = true ∧ h.sync = false ∧ h.type = 2 ∧
    headerGood (paired .run 0 2 []) { g with hdrCrc := crc32 (llHeaderBytes g) } (frameType (.departure g)) := by
  unfold headerGood; decide +kernel

theorem test_witness_PairMessages_HelloStatusTime :
    let t := paired .run 0 1 [(Fld.PAIR_VERSION_PROTO_MAJOR, 1)]
    let b : HelloBody := ⟨true, 1, .run, true, 1, 0, 0⟩
    let s := paired .run 2 3 []
    let tm (e : Option (Nat × Nat)) : TimeBody := ⟨0, 0, 1, e⟩
    let sent : State := { s with pair := { s.pair with timeSent := some 7 } }
    t.ll = .training ∧ t.tpActive 0 = false ∧ (due 1).protoMajor = t.get Fld.PAIR_VERSION_PROTO_MAJOR ∧
    (due 1).protoMajor ≠ (paired .run 0 1 [(Fld.PAIR_VERSION_PROTO_MAJOR, 9)]).get Fld.PAIR_VERSION_PROTO_MAJOR ∧ b.slotB ≠ (t.slot == 1) ∧
    ({ b with slotB := false } : HelloBody).slotB = (t.slot == 1) ∧ t.get (Fld.GATE_CTRL_STATE 45) = 0 ∧ s.role ≠ .solo ∧ s.pair.watchLeft = 0 ∧
    s.linked = true ∧ s.role ≠ .joining ∧ (⟨.run, .lead, 0, 0, true⟩ : StatusBody).role ≠ .joining ∧ s.pair.joinOut = false ∧ s.core.startPending = false ∧
    t.linked = false ∧ t.ll ≠ .down ∧ (tm none).echo = none ∧ (tm (some (7, 8))).echo = some (7, 8) ∧ s.pair.timeSent ≠ some 7 ∧ sent.pair.timeSent = some 7 ∧
    s.role = .shadow ∧ s.ll = .synced ∧ (100 : Int).natAbs ≤ 100 ∧ 100 < (-101 : Int).natAbs ∧
    ({ s with pair := { s.pair with badOffsets := 2 } } : State).pair.badOffsets = 2 ∧ (paired .run 3 2 []).role = .joining ∧
    (paired .run 3 2 []).pair.timeTaken = false ∧ (paired .run 0 2 []).role = .solo := by decide

theorem test_witness_PairCycleFrames :
    let s := { running [(Fld.GATE_CTRL_STATE 45, 0), (Fld.PAIR_STAT_ROLE, 2), (Fld.PAIR_STAT_LL_STATE, 3)] with tasks := [(0, { TaskState.reset with t0 := 5 })] }
    s.taskRole 0 = .shadow ∧ s.cyc 0 = 0 ∧ s.cyc 0 ≠ 1 ∧ s.awaitsOutcome 0 = true ∧ (paired .run 0 2 []).awaitsOutcome 0 = false ∧
    (paired .run 0 2 []).taskRole 0 ≠ .shadow ∧ (paired .run 3 2 []).role = .joining ∧ ((paired .run 3 2 []).task 0).t0 = 0 ∧ s.role = .shadow ∧
    (s.task 0).t0 ≠ 0 ∧ s.ll = .synced ∧ (paired .run 0 2 []).ll ≠ .synced := by decide

theorem test_witness_PairMessages_CommandsAndAnswers :
    let s := paired .run 2 3 []
    s.ll = .synced ∧ s.pair.handover = none ∧ ({ s with pair := { s.pair with handover := some 1 } } : State).pair.handover ≠ none ∧ s.role = .shadow := by
  decide

theorem test_witness_JoinAndHandover_JoinTransfer :
    let j := { running [(Fld.GATE_CTRL_STATE 45, 0), (Fld.PAIR_STAT_ROLE, 3), (Fld.PAIR_STAT_LL_STATE, 2)] with pair := { State.reset.pair with joinItems := [20] } }
    let g := { running [(Fld.GATE_CTRL_STATE 45, 0), (Fld.PAIR_STAT_LL_STATE, 2)] with pair := { State.reset.pair with joinOut := true } }
    j.role = .joining ∧ g.role ≠ .joining ∧ (at0 .run []).activeSurvey = none ∧ j.activeSurvey = some survey0 ∧ j.ll = .linked ∧
    j.pair.joinItems.contains 20 = true ∧ g.role = .solo ∧ g.pair.joinOut = true ∧ (5 : Nat) < 8 := by decide

theorem test_witness_LosingThePartner :
    let s := paired .run 2 3 []
    let rel : State := { s with pair := { s.pair with relinquishedAt := some 0 } }
    let run := { running [(Fld.PAIR_STAT_ROLE, 2), (Fld.PAIR_STAT_LL_STATE, 3)] with tasks := [(0, { TaskState.reset with t0 := 5 })] }
    (paired .run 0 0 []).ll = .down ∧ s.ll ≠ .down ∧ (paired .run 0 1 []).ll = .training ∧ s.pair.relinquishedAt = none ∧ s.inPair = true ∧
    (paired .run 0 2 []).inPair = false ∧ rel.pair.relinquishedAt = some 0 ∧ rel.nowNs - 0 ≤ rel.periodNs (rel.get Fld.SEQ_STAT_FASTEST) ∧
    run.awaitsOutcome 0 = true ∧ run.taskRunning 0 = true ∧ (run.task 0).t0 ≠ 0 ∧
    ({ s with pair := { s.pair with settling := true } } : State).pair.settling = true ∧ s.pair.settling = false := by decide

theorem test_witness_JoinAndHandover_RejoinAndHandover :
    let s := paired .run 2 3 []
    let y (n : Nat) : State := { paired .run 0 2 [(Fld.PAIR_STAT_YIELDED, 1), (Fld.PAIR_CTRL_AUTO_REJOIN, 1)] with
      pair := { State.reset.pair with partnerMode := .run, partnerSurveyOk := true, rejoins := List.replicate n 0 } }
    let h := Fld.PAIR_CTRL_HANDOVER.mask
    let r := Fld.PAIR_CTRL_REJOIN.mask
    let e : State := { s with pair := { s.pair with handover := some 0 } }
    Fld.PAIR_CTRL_HANDOVER.on h = true ∧ Fld.PAIR_CTRL_REJOIN.on h = false ∧ Fld.PAIR_CTRL_HANDOVER.on r = false ∧ Fld.PAIR_CTRL_REJOIN.on r = true ∧
    Fld.PAIR_CTRL_HANDOVER.on (h ||| r) = true ∧ Fld.PAIR_CTRL_REJOIN.on (h ||| r) = true ∧ (at0 .run []).get (Fld.GATE_CTRL_STATE 45) ≠ 0 ∧
    s.ll = .synced ∧ s.pair.handover = none ∧ (y 0).bit Fld.PAIR_STAT_YIELDED = true ∧ (y 0).bit Fld.PAIR_CTRL_AUTO_REJOIN = true ∧ (y 0).ll = .linked ∧
    (y 0).partnerRuns = true ∧ (y 0).recentRejoins.length < 3 ∧ 3 ≤ (y 3).recentRejoins.length ∧ (y 3).pair.rejoinLatched = false ∧
    ({ y 3 with pair := { (y 3).pair with rejoinLatched := true } } : State).pair.rejoinLatched = true ∧
    s.bit Fld.PAIR_STAT_YIELDED = false ∧ s.mode ≠ .hold ∧ s.get Fld.PAIR_REVERT_REMAIN_S = 0 ∧
    (paired .run 2 3 [(Fld.PAIR_REVERT_REMAIN_S, 5)]).get Fld.PAIR_REVERT_REMAIN_S ≠ 0 ∧
    e.pair.handover = some 0 ∧ e.inPair = true ∧ (BitVec.ofNat 32 e.fastestNow.1 - 0).toNat < 2 ^ 31 ∧ s.slot = 0 := by decide

/-! ### Fieldlinks, backbone, rings, CAN -/

/-- `survey0`'s frame slot. -/
def slot0 : FrameSlot := ⟨0, 1, 1, 0, 50000, -1000, 0, 0, 0⟩

/-- A ring in host SRAM: its producer and consumer kinds, and how many descriptors it holds. -/
def ringed (q pk ck occ : Nat) (f : List (RegField × Nat)) : State :=
  ((running ((Fld.GATE_CTRL_STATE 46, 0) :: (Fld.GUARD_CTRL_ENABLE 9, 0) :: (Fld.GUARD_CTRL_ENABLE 3, 0) :: (Fld.RING_CFG_ENABLE q, 1) ::
    (Fld.RING_CFG_SIZE_LOG2 q, 4) :: (Fld.RING_CFG_PROD_KIND q, pk) :: (Fld.RING_CFG_CONS_KIND q, ck) :: f)).setReg (Reg.RING_BASE q) 0x01080000).setReg
      (Reg.RING_PROD q) (BitVec.ofNat 32 occ)

theorem test_witness_Fieldlinks_FieldlinkFrames :
    let s := running [(Fld.GATE_CTRL_STATE 32, 0)]
    let f : ReplyFrame := ⟨⟨1, 1, 0x10, 0, 0, 0, []⟩, 1, 0, 0, 0, [], []⟩
    let w (r : Option (ReplyFrame × Nat)) (past : Bool) : State := { s with fl := { s.fl with waits := [⟨slot0, 0, r, past⟩] } }
    s.surveyFor slot0.task = some survey0 ∧ s.tpActive 3 = false ∧ survey0.frameSlots.contains slot0 = true ∧ s.humarSends = true ∧ flOpen s slot0.port = true ∧
    (s.task slot0.task).quiet = false ∧ slot0.kind = 1 ∧ survey0.frameSlots.contains { slot0 with station := 2 } = false ∧
    (at0 .load []).humarSends = false ∧ (running [(Fld.GATE_CTRL_STATE 32, 2)]).mode = .run ∧ flOpen (running [(Fld.GATE_CTRL_STATE 32, 2)]) 0 = false ∧
    replyValid f = true ∧ replyValid { f with head := { f.head with noise := [1] } } = false ∧ s.time.cycles + 8 < (s.task 0).t0Cyc + 50000 ∧
    (({ s with time := { s.time with cycles := 50000 } } : State).task 0).t0Cyc + 50000 ≤ 50000 + 8 ∧
    (w (some (f, 0)) false).replyOf ⟨slot0, 0, some (f, 0), false⟩ = none ∧ s.replyOf ⟨{ slot0 with deadline := 5 }, 0, some (f, 4), false⟩ = some f ∧ s.fl.waits.find? (fun w => w.answers 0 f) = none ∧
    (w none false).fl.waits.find? (fun w => w.answers 0 f) = some ⟨slot0, 0, none, false⟩ ∧
    (w (some (f, 0)) true).fl.waits.find? (fun w => w.answers 0 f) = some ⟨slot0, 0, some (f, 0), true⟩ ∧ s.taskHeld 0 = false ∧
    ({ s with mode := .hold } : State).mode = .hold := by decide +kernel

/-- A chain of one inline descriptor of four bytes. -/
def inline4 (tag code : Nat) : Descriptor := ⟨BitVec.ofNat 64 (4 + 0x70000 + code * 0x1000000 + tag * 0x100000000), 0x11223344, 0, 0⟩

theorem test_witness_Fieldlinks_FieldlinkFrames_slow :
    let f : List (RegField × Nat) := [(Fld.GATE_CTRL_STATE 32, 0), (Fld.RING_CFG_CONS_INDEX 2, 0), (Fld.RING_CFG_PROD_INDEX 2, 0)]
    let s := (ringed 2 1 3 1 f).setDesc 0x01080000 (inline4 5 0)
    let r := ringed 2 3 1 0 f
    s.ringWith (fun q => s.ringConsIs q 3 0) = some 2 ∧ s.ringChain 2 = .payload 1 (inline4 5 0) [0x44, 0x33, 0x22, 0x11] ∧ s.role ≠ .shadow ∧
    s.humarSends = true ∧ flOpen s 0 = true ∧ (s.setRole .shadow).role = .shadow ∧ r.ringWith (fun q => r.ringProdIs q 3 0) = some 2 ∧
    s.slowFits 0 4 = true ∧ ({ s with time := { s.time with cycles := 45000 } } : State).slowFits 0 4 = false ∧
    humarValid ⟨1, 1, 0x21, 0, 0, 0, []⟩ 0x21 (slowBytes 1 ⟨⟨1, 1, 0x21, 0, 0, 0, []⟩, 0, [1, 2]⟩) = true ∧
    humarValid ⟨1, 1, 0x20, 0, 0, 0, []⟩ 0x21 [] = false ∧
    s.ringWith (fun q => s.ringProdIs q 3 0) = none := by decide +kernel

theorem test_witness_Fieldlinks_FieldlinkStations :
    let s (m st : Nat) := running [(Fld.FL_STN_STAT_MISSES 0 1, m), (Fld.FL_STN_STAT_STATE 0 1, st)]
    slot0.port < 8 ∧ slot0.station < 64 ∧ (s 1 2).get (Fld.FL_STN_STAT_MISSES 0 1) < 2 ∧ 2 ≤ (s 2 2).get (Fld.FL_STN_STAT_MISSES 0 1) ∧
    (s 2 2).get (Fld.FL_STN_STAT_MISSES 0 1) = 2 ∧ (s 2 2).get (Fld.FL_STN_STAT_STATE 0 1) ≠ 3 ∧
    ((s 2 2).stationMiss ⟨slot0, 0, none, false⟩).get (Fld.FL_STN_STAT_STATE 0 1) = 3 ∧
    slotSignals { survey0 with signals := [⟨7, 0, 3, 1, 0, 1, true, false, 8, 0, 5, 0⟩] } slot0 false = [⟨7, 0, 3, 1, 0, 1, true, false, 8, 0, 5, 0⟩] := by
  decide +kernel

theorem test_witness_Fieldlinks_FieldlinkTopology :
    let s (l r t : Nat) := running [(Fld.FL_PORT_STAT_LINK 0, l), (Fld.FL_PORT_CFG_RING 0, r), (Fld.FL_PORT_STAT_TOPO 0, t)]
    (s 1 0 0).bit (Fld.FL_PORT_STAT_LINK 0) = true ∧ (s 0 0 0).bit (Fld.FL_PORT_STAT_LINK 0) = false ∧ (s 0 0 0).stationsOf 1 = [] ∧
    (s 0 1 2).stationsOf 0 ≠ [] ∧ (s 0 1 2).bit (Fld.FL_PORT_CFG_RING 0) = true ∧ (s 0 1 2).get (Fld.FL_PORT_STAT_TOPO 0) ≠ 3 ∧
    (s 0 0 0).stationsOf 0 ≠ [] ∧ (s 0 0 0).bit (Fld.FL_PORT_CFG_RING 0) = false := by decide

/-- A backbone in a mode, both ports up. -/
def bridged (m : Nat) (f : List (RegField × Nat)) : State :=
  running ((Fld.GATE_CTRL_STATE 44, 0) :: (Fld.BB_CTRL_MODE, m) :: (Fld.BB_CTRL_PORT_EN, 3) :: (Fld.BB_PORT_STAT_UP 0, 1) :: (Fld.BB_PORT_STAT_UP 1, 1) :: f)

/-- A frame to `dst` with an EtherType and a payload. -/
def frameOf (dst et : Nat) (payload : List Byte) : BbFrame := parseFrame (beBytes 6 dst ++ beBytes 6 0x020000000002 ++ beBytes 2 et ++ payload)

/-- A frame on VLAN 1. -/
def frame0 : BbFrame := frameOf 0x020000000001 0x88F8 []

/-- The same with bytes at will and no FCS. -/
def rawFrame (n : Nat) : BbFrame := ⟨List.replicate n 0⟩

theorem test_witness_BackboneReception :
    let s := bridged 0 [(Fld.BB_PVID_PVID 0, 1), (Fld.BB_VLAN_VALID 0, 1), (Fld.BB_VLAN_VID 0, 1), (Fld.BB_VLAN_MEMBER 0, 7)]
    let p := bridged 1 []
    let t : BbFrame := frame0.withTrailer 0 10
    let seen : State := (p.prpCheck frame0.src 0).2
    let site := (bridged 0 []).getReg Reg.BB_WAKE_SITE
    (running [(Fld.BB_CTRL_PORT_EN, 0)]).bbUp 0 = false ∧ s.bbUp 0 = true ∧ (rawFrame 2001).length > 2000 ∧
    (rawFrame 63).length < 64 ∧ (rawFrame 63).pause = false ∧ frame0.pause = false ∧ 64 ≤ frame0.length ∧ frame0.length ≤ 2000 ∧
    (rawFrame 64).fcsOk = false ∧ (rawFrame 64).pause = false ∧ frame0.fcsOk = true ∧ p.bbMode ≠ 0 ∧ s.bbMode = 0 ∧
    s.wakeFrame (frameOf 0xFFFFFFFFFFFF 0x88B7 (leBytes 4 0x454B4157 ++ leBytes 4 site.toNat)) = true ∧
    s.wakeFrame frame0 = false ∧ p.bbMode = 1 ∧ frame0.prp = none ∧
    t.prp = some (0, 10 + 0) ∧ (seen.prpCheck t.src 0).1 = true ∧ (p.prpCheck t.src 0).1 = false ∧ (bridged 2 []).bbMode = 2 ∧
    (frameOf s.macBase 0x88F8 []).dst = s.macBase ∧ s.vlanOut 0 2 frame0 ≠ none ∧ s.bb.prp.length ≤ 1024 := by decide +kernel

/-- A frame that is tagged on VLAN 1 leaves untagged where its entry says so, with its FCS recomputed (R317). -/
theorem test_bb_untag :
    let s := bridged 0 [(Fld.BB_VLAN_VALID 0, 1), (Fld.BB_VLAN_VID 0, 1), (Fld.BB_VLAN_MEMBER 0, 7), (Fld.BB_VLAN_UNTAG 0, 2)]
    s.vlanOut 0 1 (frame0.tagged 0xE001) = some (frame0, true) := by decide +kernel

/-- A one-step Sync over IEEE 802.3 (R323): 1 us of residence stands in correctionField as 65,536,000. -/
theorem test_ptp_correction :
    let f := frameOf 0x011B19000000 0x88F7 (List.replicate 44 0)
    f.ptp = .oneStepSync ∧ (addCorrection f (1000 * 65536)).correction = 65536000 ∧ (addCorrection f (1000 * 65536)).fcsOk = true := by
  decide +kernel

theorem test_witness_BackboneTransmission_BackboneClock :
    let ptp (m : Nat) : BbFrame := frameOf 0x011B19000000 0x88F7 (leBytes 1 m ++ List.replicate 43 0)
    let two : BbFrame := frameOf 0x011B19000000 0x88F7 ([0, 0, 0, 0, 0, 0, 2] ++ List.replicate 37 0)
    let v6 : BbFrame := frameOf 0x011B19000000 0x86DD (List.replicate 6 0 ++ [17] ++ List.replicate 35 0 ++ [1, 63] ++ List.replicate 50 0)
    let s := bridged 0 [(Fld.BB_TC_CFG_MODE, 1)]
    s.get Fld.BB_TC_CFG_MODE = 1 ∧ (ptp 0).ptp = .oneStepSync ∧ (ptp 1).ptp = .delayReq ∧ (ptp 2).ptp = .pdelayReq ∧ two.ptp = .twoStepSync 0 ∧
    (s.bb.twoStep.filter fun e => e.1 != 0).length < 16 ∧ (ptp 8).ptp = .followUp 0 ∧
    (([(0, 5, 0)] : List (Nat × Int × Nat)).find? fun e => e.1 == 0) = some (0, 5, 0) ∧ s.time.cycles ≤ 0 + 400000 ∧
    (s.bb.twoStep.find? fun e => e.1 == 0) = none ∧ v6.ptp = .ipv6Event ∧ frame0.ptp = .none ∧ (ptp 11).ptp = .general ∧ (ptp 3).ptp = .pdelayReply ∧
    s.bbMode = 0 ∧ (bridged 0 [(Fld.BB_TC_CFG_MODE, 2)]).get Fld.BB_TC_CFG_MODE = 2 ∧ (ptp 2).isPdelay = true ∧ (ptp 0).ptpStart = some (0, 0) := by
  decide +kernel

theorem test_witness_BackboneTransmission :
    let q : BbQueued := ⟨0, false, frame0, none⟩
    let s := bridged 0 []
    let w (qs : List BbQueued) : State := { s with bb := { s.bb with queue := qs, busy := [(0, false)] } }
    (running [(Fld.BB_CTRL_PORT_EN, 0)]).bbUp q.port = false ∧ s.bbUp q.port = true ∧ q.frame.length ≤ 2000 ∧ 2000 < (rawFrame 2001).length ∧
    s.bbBusy q.port = false ∧
    (s.bb.queue.any fun r => r.port == q.port) = false ∧ s.tcOn = false ∧ q.frame.fcsOk = true ∧ (w []).bbBusy q.port = true ∧
    (w []).bbStored q.port + q.frame.length ≤ 262144 ∧
    262144 < (w [{ q with frame := rawFrame 131072 }, { q with frame := rawFrame 131072 }]).bbStored q.port + q.frame.length ∧
    s.bbNext 0 = none ∧ (w [q]).bbNext 0 = some q ∧ q.high = false ∧ q ∈ (w [q]).bb.queue ∧ (running []).ringEnabled 0 = false ∧ s.bb.held = [] ∧
    s.bbMode ≠ 1 ∧ (bridged 1 [(Fld.BB_PORT_STAT_UP 1, 0)]).bbUp 1 = false ∧ (bridged 1 []).bb.busy = [] ∧ (bridged 1 []).bb.queue = [] ∧
    s.get Fld.BB_CTRL_PORT_EN / 2 ^ 0 % 2 = 1 ∧ (running [(Fld.BB_CTRL_PORT_EN, 0)]).get Fld.BB_CTRL_PORT_EN / 2 ^ 0 % 2 ≠ 1 ∧
    s.bit (Fld.BB_PORT_STAT_UP 0) = true ∧ (running []).bit (Fld.BB_PORT_STAT_UP 0) = false := by decide +kernel

theorem test_witness_BackboneTransmission_local :
    let f (m : Nat) : List (RegField × Nat) := [(Fld.GATE_CTRL_STATE 44, 0), (Fld.BB_CTRL_MODE, m), (Fld.BB_CTRL_PORT_EN, 3), (Fld.BB_PORT_STAT_UP 0, 1)]
    let s := (ringed 2 1 2 1 (f 0)).setDesc 0x01080000 (inline4 0 0)
    let g : List (RegField × Nat) := [(Fld.BB_PVID_PVID 0, 1), (Fld.BB_VLAN_VALID 0, 1), (Fld.BB_VLAN_VID 0, 1), (Fld.BB_VLAN_MEMBER 0, 7)]
    let r := (ringed 2 2 1 0 (f 0 ++ g)).setReg (Reg.RING_BUFBASE 2) 0x01090000
    let h : State := { r with bb := { r.bb with held := [(2, 0, 0, frame0)] } }
    s.ringEnabled 2 = true ∧ s.ringConsIs 2 2 0 = true ∧ s.get (Fld.GATE_CTRL_STATE 44) = 0 ∧
    s.ringChain 2 = .payload 1 (inline4 0 0) [0x44, 0x33, 0x22, 0x11] ∧ s.bbMode ≠ 2 ∧ descCode (inline4 0 0) / 8 % 2 = 0 ∧
    ((ringed 2 1 2 1 (f 2)).setDesc 0x01080000 (inline4 0 0)).bbMode = 2 ∧ h.bb.held = [(2, 0, 0, frame0)] ∧ h.bbProduces 2 = true ∧ 0 < h.ringFree 2 ∧
    (h.bbLocalFrame 0 frame0).isSome = true ∧
    ((h.bbLocalFrame 0 frame0).any fun p => (State.bbDeliver { h with bb := { h.bb with held := [] } } 2 0 0 p.1 p.2).isSome) = true := by decide +kernel

/-- A descriptor with a buffer of 16 bytes that requests a timestamp waits for a port that sends (R327). -/
theorem test_witness_BackboneTransmission_wait :
    let d : Descriptor := ⟨descWord 16 6 9 0, 0x01090000, 0, 0⟩
    let f : List (RegField × Nat) := [(Fld.GATE_CTRL_STATE 44, 0), (Fld.BB_CTRL_MODE, 0), (Fld.BB_CTRL_PORT_EN, 3), (Fld.BB_PORT_STAT_UP 0, 1)]
    let r := (ringed 2 1 2 1 f).setDesc 0x01080000 d
    let s : State := { r with bb := { r.bb with busy := [(0, false)] } }
    s.ringEnabled 2 = true ∧ s.ringConsIs 2 2 0 = true ∧ s.ringChain 2 = .payload 1 d (s.sramRead 0x01090000 16) ∧ s.bbMode ≠ 2 ∧
    s.bbTxWaits d = true ∧ r.bbTxWaits d = false := by decide +kernel

theorem test_witness_RingIndexWrites :
    let h := ringed 2 1 1 3 []
    let x := ringed 2 3 3 3 []
    h.get (Fld.GATE_CTRL_STATE 46) = 0 ∧ h.ringEnabled 2 = true ∧ h.get (Fld.RING_CFG_PROD_KIND 2) = 1 ∧ (16 - h.ringProd 2).toNat ≤ h.ringSize 2 ∧
    (16 - h.ringCons 2).toNat ≤ h.ringSize 2 ∧ h.ringForcedFull 2 = false ∧ h.ringSize 2 < (17 - h.ringCons 2).toNat ∧
    x.get (Fld.RING_CFG_PROD_KIND 2) ≠ 1 ∧ h.get (Fld.RING_CFG_CONS_KIND 2) = 1 ∧ (3 - h.ringCons 2).toNat ≤ h.ringOcc 2 ∧
    h.ringOcc 2 < (4 - h.ringCons 2).toNat ∧ x.get (Fld.RING_CFG_CONS_KIND 2) ≠ 1 ∧ h.get (Fld.RING_CFG_PROD_KIND 2) ≠ 4 := by decide

theorem test_witness_RingConfiguration :
    let off := (running [(Fld.GATE_CTRL_STATE 46, 0)]).setReg (Reg.RING_BASE 2) 0x01080000
    let ena := (Fld.RING_CFG_ENABLE 2).mask
    let good := (Fld.RING_CFG_CONS_KIND 2).ins ((Fld.RING_CFG_PROD_KIND 2).ins ((Fld.RING_CFG_SIZE_LOG2 2).ins ena 4) 1) 4
    let irq (w : Nat) := ringed 2 4 1 3 [(Fld.RING_IRQ_ENABLE 2, 1), (Fld.RING_IRQ_WATERMARK 2, w)]
    (at0 .run []).get (Fld.GATE_CTRL_STATE 46) ≠ 0 ∧ off.get (Fld.GATE_CTRL_STATE 46) = 0 ∧ off.ringEnabled 2 = false ∧ off.bit Fld.RING_LOCK_LOCK = false ∧
    (Fld.RING_CFG_ENABLE 2).on ena = true ∧ off.ringRefused 2 ena = true ∧ (Fld.RING_CFG_ENABLE 2).on good = true ∧ off.ringRefused 2 good = false ∧
    (irq 3).ringEnabled 2 = true ∧ (Fld.RING_CFG_ENABLE 2).on 0 = false ∧ (irq 3).bit (Fld.RING_IRQ_ENABLE 2) = true ∧
    (irq 3).get (Fld.RING_CFG_CONS_KIND 2) = 1 ∧ (irq 3).get (Fld.RING_IRQ_WATERMARK 2) ≤ (irq 3).ringOcc 2 ∧ 0 < (irq 4).ringOcc 2 ∧
    (ringed 2 4 1 0 []).bit (Fld.RING_IRQ_ENABLE 2) = false := by decide

theorem test_witness_SramAndDescriptors_RingDescriptors :
    let s := ringed 2 4 1 3 []
    (running []).ringEnabled 2 = false ∧ s.ringEnabled 2 = true ∧ 0 < s.ringFree 2 ∧ (ringed 2 4 1 16 []).ringFree 2 = 0 ∧
    s.ringRefusedAt .write (s.ringAddr 2 (s.ringProd 2)) 32 = none := by decide

/-- Controller 0 in a mode, with object 3's fields. -/
def canned (m : Nat) (f : List (RegField × Nat)) : State := running ((Fld.GATE_CTRL_STATE 40, 0) :: (Fld.CAN_CTRL_MODE 0, m) :: f)

theorem test_witness_CanArbitration :
    let s := canned 1 [(Fld.CAN_OBJ_CTRL_TX_STATE 0 3, 1)]
    s.canDrives 0 = true ∧ (s.canSt 0).attempt = none ∧ (∃ i, i < 128 ∧ s.canReady 0 i = true) ∧ (canned 2 []).canDrives 0 = false ∧
    (s.setCan 0 { s.canSt 0 with attempt := some 3 }).canSt 0 ≠ s.canSt 0 :=
  ⟨by decide, by decide, ⟨3, by decide, by decide⟩, by decide, by decide⟩

theorem test_witness_CanControllers_CanTransmission :
    let s (n : Nat) := canned 1 [(Fld.CAN_OBJ_CTRL_TX_STATE 0 3, n)]
    let at' := (s 2).setCan 0 { (s 2).canSt 0 with attempt := some 3, cancels := [3] }
    let c := (s 1).setCan 0 { (s 1).canSt 0 with cancels := [3] }
    let d := (s 3).setCan 0 { (s 3).canSt 0 with cancels := [3] }
    (at'.canSt 0).attempt = some 3 ∧ ((s 1).canSt 0).attempt = none ∧ ((s 1).canSt 0).held = [] ∧ ((s 1).canSt 0).cancels.contains 3 = false ∧
    (at'.canSt 0).cancels.contains 3 = true ∧ (c.canSt 0).attempt ≠ some 3 ∧ (c.canSt 0).cancels.contains 3 = true ∧ c.txState 0 3 = Tx.PENDING ∧
    d.txState 0 3 ≠ Tx.PENDING ∧ (s 1).canTxRing 0 = none := by decide

theorem test_witness_CanControllers_CanTransmission_ring :
    let f (t : Nat) : List (RegField × Nat) := [(Fld.GATE_CTRL_STATE 40, 0), (Fld.CAN_CTRL_MODE 0, 1), (Fld.CAN_RING_TX_RING 0, 2), (Fld.CAN_RING_TX_VALID 0, 1),
      (Fld.RING_CFG_CONS_INDEX 2, 0), (Fld.CAN_OBJ_CTRL_RING 0 3, 1), (Fld.CAN_OBJ_CTRL_DIR 0 3, 1), (Fld.CAN_OBJ_CTRL_ENABLE 0 3, 1), (Fld.CAN_OBJ_CTRL_TX_STATE 0 3, t)]
    let s (t : Nat) := (ringed 2 1 4 1 (f t)).setDesc 0x01080000 (inline4 0x123 3)
    (s 0).canTxRing 0 = some 2 ∧ (s 0).ringChain 2 = .payload 1 (inline4 0x123 3) [0x44, 0x33, 0x22, 0x11] ∧ (s 0).bit (Fld.CAN_STAT_PAIR_SILENT 0) = false ∧
    descInline (inline4 0x123 3) = true ∧ descCode (inline4 0x123 3) = 3 ∧ (s 0).canRingObject 0 3 = true ∧
    canLengthOk (BitVec.ofNat 32 (descTag (inline4 0x123 3))) 4 = true ∧ canFormatOk (BitVec.ofNat 32 (descTag (inline4 0x123 3))) = true ∧ (s 1).txState 0 3 = Tx.PENDING ∧ (s 0).txState 0 3 ≠ Tx.PENDING ∧
    (s 0).txState 0 3 ≠ Tx.ATTEMPT := by decide +kernel

/-- A receive object 3 of controller 0 with one int32 signal at bit 0. -/
def canEntry : CanMapEntry := ⟨0, 3, false, 0, 0x123, 0, 4, false, 0⟩

def canSig : SignalDesc := ⟨1, 5, 0, 32, 0, 2, true, false, 4 * 3, 0, 0, 0⟩

theorem test_witness_CanControllers_CanSurveyObjects :
    let g : Survey := { survey0 with signals := [canSig] }
    let s (f : List (RegField × Nat)) := canned 1 f
    let new : List (RegField × Nat) := [(Fld.CAN_OBJ_CTRL_NEW 0 3, 1)]
    let at0 : State := State.setCan (s new) 0 { (s new).canSt 0 with rxAt := [(3, ((s new).task 0).t0Cyc)] }
    canEntry.ctrl < 4 ∧ canEntry.object < 128 ∧ canEntry.task < 16 ∧ (canSignals g canEntry)[0]? = some canSig ∧
    (canned 0 []).canTakesPart 0 = false ∧ (s []).canTakesPart 0 = true ∧ (s []).canNew canEntry = false ∧ (s new).canNew canEntry = true ∧
    (s new).get (Fld.CAN_OBJ_STAT_RX_LEN 0 3) < canEntry.length ∧
    canEntry.length ≤ (s ((Fld.CAN_OBJ_STAT_RX_LEN 0 3, 4) :: new)).get (Fld.CAN_OBJ_STAT_RX_LEN 0 3) ∧
    (at0.canSt 0).rxAt.contains (3, (at0.task 0).t0Cyc) = true ∧ (s []).mode ≠ .hold ∧ (State.reset).canOpen 0 = false ∧ (s []).canOpen 0 = true ∧
    (s []).canForced g canEntry = false ∧ canEntry.withholdBad = false ∧ (s []).bit (Fld.CAN_STAT_PAIR_SILENT 0) = false ∧
    (s [(Fld.CAN_STAT_PAIR_SILENT 0, 1)]).bit (Fld.CAN_STAT_PAIR_SILENT 0) = true ∧ (s []).txState 0 3 ≠ Tx.ATTEMPT ∧
    (s [(Fld.CAN_OBJ_CTRL_TX_STATE 0 3, 2)]).txState 0 3 = Tx.ATTEMPT := by decide +kernel

/-- Payload bytes 44 33 22 11 of a latched object make the value 0x11223344 (R338). -/
theorem test_can_latch :
    let s := ((canned 1 [(Fld.CAN_OBJ_CTRL_NEW 0 3, 1), (Fld.CAN_OBJ_STAT_RX_LEN 0 3, 4)]).setCanBytes 0 3 [0x44, 0x33, 0x22, 0x11])
    slotValue ((s.canLatchOne { survey0 with signals := [canSig] } canEntry).port20 0) = 0x11223344 := by decide +kernel

theorem test_witness_CanControllers_CanReceptionAndErrors :
    let s (rec' tec : Nat) := canned 1 [(Fld.CAN_STAT_REC 0, rec'), (Fld.CAN_STAT_TEC 0, tec)]
    let o := canned 1 [(Fld.CAN_OBJ_CTRL_ENABLE 0 3, 1), (⟨Reg.CAN_OBJ_ID 0 3, 0, 32⟩, 0x123)]
    (canned 0 []).canTakesPart 0 = false ∧ (0x40000123 : Word).getLsbD 30 = true ∧ (canned 1 []).bit (Fld.CAN_CTRL_FD_EN 0) = false ∧
    (s 0 0).canTakesPart 0 = true ∧ (0x123 : Word).getLsbD 30 = false ∧
    (List.range 128).find? (fun m => ((s 0 0).canGoodRx 0).canMatches 0 m 0x123) = none ∧
    (List.range 128).find? (fun m => (o.canGoodRx 0).canMatches 0 m 0x123) = some 3 ∧ (s 0 0).get (Fld.CAN_STAT_REC 0) = 0 ∧
    (s 0 0).get (Fld.CAN_CTRL_MODE 0) = 1 ∧ (s 0 0).bit (Fld.CAN_STAT_PAIR_SILENT 0) = false ∧ 0 < (s 127 0).get (Fld.CAN_STAT_REC 0) ∧
    (s 127 0).get (Fld.CAN_STAT_REC 0) ≤ 127 ∧ 127 < (s 128 0).get (Fld.CAN_STAT_REC 0) ∧ o.bit (Fld.CAN_OBJ_CTRL_NEW 0 3) = false ∧
    o.canRinged 0 3 = false ∧ (canned 2 []).canTakesPart 0 = true ∧ (canned 2 []).canDrives 0 = false ∧ ((canned 2 []).canSt 0).attempt = none ∧
    (s 0 0).canDrives 0 = true ∧ (s 0 247).get (Fld.CAN_STAT_TEC 0) + 8 ≤ 255 ∧ 255 < (s 0 248).get (Fld.CAN_STAT_TEC 0) + 8 ∧
    (canned 1 [(Fld.CAN_STAT_STATE 0, 3)]).get (Fld.CAN_STAT_STATE 0) = 3 := by decide

theorem test_witness_CanControllers_CanRegisterWrites :
    let s (m st : Nat) := canned m [(Fld.CAN_STAT_STATE 0, st)]
    let rec' := (Fld.CAN_CTRL_MODE 0).ins (Fld.CAN_CTRL_RECOVER 0).mask 1
    let tx := (Fld.CAN_OBJ_CTRL_TXREQ 0 3).mask
    let can := (Fld.CAN_OBJ_CTRL_CANCEL 0 3).mask
    let o (t : Nat) := canned 1 [(Fld.CAN_OBJ_CTRL_ENABLE 0 3, 1), (Fld.CAN_OBJ_CTRL_DIR 0 3, 1), (Fld.CAN_OBJ_CTRL_TX_STATE 0 3, t), (Fld.CAN_OBJ_CTRL_LENGTH 0 3, 8)]
    (at0 .run []).get (Fld.GATE_CTRL_STATE (40 + 0)) ≠ 0 ∧ (s 0 0).get (Fld.GATE_CTRL_STATE (40 + 0)) = 0 ∧ (s 0 0).get (Fld.CAN_CTRL_MODE 0) = 0 ∧
    (s 1 0).get (Fld.CAN_CTRL_MODE 0) ≠ 0 ∧ (s 1 0).get (Fld.CAN_CTRL_MODE 0) ≠ 3 ∧ (s 3 0).get (Fld.CAN_CTRL_MODE 0) = 3 ∧ (s 1 2).get (Fld.CAN_STAT_STATE 0) = 2 ∧ (Fld.CAN_CTRL_RECOVER 0).on rec' = true ∧
    (Fld.CAN_CTRL_MODE 0).ext rec' = 1 ∧ (s 1 0).get (Fld.CAN_STAT_STATE 0) ≠ 2 ∧ (canned 1 [(Fld.CAN_OBJ_CTRL_SURVEY 0 3, 1)]).bit (Fld.CAN_OBJ_CTRL_SURVEY 0 3) = true ∧
    (o 0).bit (Fld.CAN_OBJ_CTRL_SURVEY 0 3) = false ∧ (o 0).canDataWritable 0 3 = true ∧ (o 1).canDataWritable 0 3 = false ∧
    (Fld.CAN_OBJ_CTRL_TXREQ 0 3).on (tx ||| can) = true ∧ (Fld.CAN_OBJ_CTRL_CANCEL 0 3).on (tx ||| can) = true ∧ (Fld.CAN_OBJ_CTRL_TXREQ 0 3).on tx = true ∧
    (Fld.CAN_OBJ_CTRL_CANCEL 0 3).on tx = false ∧ (Fld.CAN_OBJ_CTRL_TXREQ 0 3).on can = false ∧ (Fld.CAN_OBJ_CTRL_CANCEL 0 3).on can = true ∧
    (o 1).txState 0 3 = Tx.PENDING ∧ (o 0).txState 0 3 ≠ Tx.PENDING ∧ (o 0).txState 0 3 ≠ Tx.ATTEMPT ∧ (o 0).bit (Fld.CAN_OBJ_CTRL_ENABLE 0 3) = true ∧
    (o 0).bit (Fld.CAN_OBJ_CTRL_DIR 0 3) = true ∧ (o 0).bit (Fld.CAN_OBJ_CTRL_RING 0 3) = false ∧
    canLengthOk ((o 0).getReg (Reg.CAN_OBJ_ID 0 3)) ((o 0).get (Fld.CAN_OBJ_CTRL_LENGTH 0 3)) = true ∧
    canFormatOk ((o 0).getReg (Reg.CAN_OBJ_ID 0 3)) = true := by decide

theorem test_witness_BlockCodeRoundTrip : LaneOp.wf (.load 8 1 2 3) = true ∧ LaneOp.wf (.load 3 1 2 3) = false ∧ decodeBlock 0 ≠ none := by decide

theorem test_witness_ResetReleaseAndCause_ResetCauseAndKey : Fld.RST_SW_REQ.on Fld.RST_SW_REQ.mask = true ∧ Fld.RST_SW_KEY.ext Fld.RST_SW_REQ.mask ≠ 0x5EB0 ∧
    Fld.RST_SW_REQ.on 0 = false := by decide

theorem test_witness_SramAndDescriptors_HostSramReadAfterWrite : Memory.wf State.reset = true ∧ Memory.wf (State.reset.sramWrite 0x01000000 [1, 0, 2]) = true ∧
    State.reset.sramWrite 0x01000000 [0] = State.reset := by decide

/-! ## What a sender cannot form -/

theorem test_wf_register_address : Instr.wf (.registerWrite 0x40000000 1) = true ∧ Instr.wf (.registerWrite 0x40000002 1) = false ∧
    Instr.wf (.registerWrite 0x40150000 1) = false ∧ Instr.wf (.snapshotRead 0x3FFFFFFC) = false ∧ Instr.wf (.lsDbgHostAccess 1 false 0) = false ∧
    Instr.wf (.guardRuleWrite 0x40060001 0 0) = false := by decide

theorem test_wf_access : Instr.wf (.hostAccess (access 1 0x01080000 64 .write)) = true ∧ Instr.wf (.hostAccess (access 1 0x01080000 65 .write)) = false ∧
    Instr.wf (.hostAccess (access 1 0x01080000 0 .read)) = false ∧ Instr.wf (.hostAccess (access 4 0xFFFFFFFF 2 .read)) = false ∧
    Instr.wf (.hostAccess (access 0 0x01080000 4 .read)) = false ∧ Instr.wf (.hostAccess (access 7 0x01080000 4 .read)) = false ∧
    Instr.wf (.hostAccess (access 4 0x01080000 4 .fetch)) = false ∧ Instr.wf (.hostAccess { access 4 0x01080000 4 .read with privileged := false }) = false ∧
    Instr.wf (.hostAccess { access 1 0x01080000 4 .write with data := [1] }) = false ∧ Instr.wf (.dap (access 1 0x01080000 4 .read)) = false ∧
    Instr.wf (.dap (access 3 0x01080000 4 .read)) = true := by decide

theorem test_wf_frames : Instr.wf (.canFrameRx 0 ⟨1, List.replicate 12 0⟩) = true ∧ Instr.wf (.canFrameRx 0 ⟨1, List.replicate 9 0⟩) = false ∧
    Instr.wf (.canRemoteFrame 0 ⟨1, List.replicate 65 0⟩) = false ∧ Instr.wf (.bbFrameRx 0 (rawFrame 17)) = false ∧
    Instr.wf (.bbFrameRx 0 frame0) = true ∧
    Instr.wf (.departure { due 0x0B with lane := 2 }) = false ∧ Instr.wf (.departure (due 0x0B)) = true := by decide

/-! ## Words of block code, written out from the formats of R136 and the opcodes of R137 to R140 -/

/-- ADDI G3 := G4 - 1: OP 0x01; LUI G1 := 0x8000; ANDI; SRA G2 := G5 by 63; LDW; STD; ILDW; ISTW G7; LDS; LDSX; STS; BNE back by one. -/
theorem test_block_words :
    decodeBlock 0b000001_00011_00100_1111111111111111 = some (.imm .addi 3 4 0xFFFF) ∧
    decodeBlock 0b001000_00001_00000_1000000000000000 = some (.lui 1 0x8000) ∧
    decodeBlock 0b000010_00001_00010_0000000000001111 = some (.imm .andi 1 2 15) ∧
    decodeBlock 0b000111_00010_00101_00000000_10_111111 = some (.shift .sra 2 5 63) ∧
    decodeBlock 0b100010_00011_00001_0000000000000100 = some (.load 4 3 1 4) ∧
    decodeBlock 0b100111_00011_00001_0000000000001000 = some (.store 8 3 1 8) ∧
    decodeBlock 0b101010_00110_00000_0100101000010100 = some (.iload 4 6 0 0x4A14) ∧
    decodeBlock 0b101110_00111_00000_0100101000010100 = some (.istore 4 7 0 0x4A14) ∧
    decodeBlock 0b110000_00001_00010_0000000000000000 = some (.lds false 1 2 0) ∧
    decodeBlock 0b110001_00001_00010_0000000000000000 = some (.lds true 1 2 0) ∧
    decodeBlock 0b110010_00001_00010_0000000000000000 = some (.sts 1 2 0) ∧
    decodeBlock 0b111001_00001_00010_1111111111111111 = some (.branch .ne 1 2 0xFFFF) := by decide

/-- SUB with W; MULHU; FADD; F2IT with any b; END; TOK 0x123; SETT; JR G31 (RET); RPUT slot 7; J back by one; CALL; BBAD; BOK. -/
theorem test_block_words_system :
    decodeBlock 0b000000_00001_00010_00011_1_00000_00001 = some (.alu .sub true 1 2 3) ∧
    decodeBlock 0b000000_00001_00010_00011_0_00000_10000 = some (.alu .mulhu false 1 2 3) ∧
    decodeBlock 0b010000_00001_00010_00011_000000_00000 = some (.fpu .fadd 1 2 3) ∧
    decodeBlock 0b010000_00001_00010_11111_000000_01111 = some (.fpu .f2it 1 2 31) ∧
    decodeBlock 0b011000_00000_00000_0000_000000000000 = some .endOp ∧ decodeBlock 0b011000_00000_00000_0001_000100100011 = some (.tok 0x123) ∧
    decodeBlock 0b011000_00001_00010_0011_000000000000 = some (.sett 1 2) ∧ decodeBlock 0b011000_00000_11111_0101_000000000000 = some (.jr 31) ∧
    decodeBlock 0b011000_00001_00010_1010_000000000111 = some (.rput 1 2 7) ∧
    decodeBlock 0b011001_11111111111111111111111111 = some (.jump 0x3FFFFFF) ∧ decodeBlock 0b011010_00000000000000000000000010 = some (.call 2) ∧
    decodeBlock 0b111110_00001_00000_0000000000000010 = some (.branchTag true 1 2) ∧
    decodeBlock 0b111111_00001_00000_0000000000000010 = some (.branchTag false 1 2) := by decide

/-- Reserved opcodes, FUNC, SHI type and SUB, a FUNC with bits 9:5, and BBAD with b (R137 to R140). -/
theorem test_block_illegal :
    ([0b001001_00000000000000000000000000, 0b000000_00000_00000_00000_0_00000_10101, 0b000000_00000_00000_00000_0_00001_00000,
      0b000111_00000_00000_00000000_11_000000, 0b010000_00000_00000_00000_000000_10000, 0b010000_00000_00000_00000_000001_00000,
      0b011000_00000_00000_1100_000000000000, 0b110011_00000000000000000000000000, 0b111110_00001_00001_0000000000000010] : List Word).all
        (fun w => (decodeBlock w).isNone) = true := by decide

/-! ## The spec's worked examples -/

/-- Chapter 7: the word pair that ISTW of 10.0 (and of 8.0) at instance offset 0x4A14 feeds into the signature. -/
theorem test_example_signature_words :
    let l (v : DWord) : LaneState := { LaneState.reset with g := [(7, v)] }
    let e : LaneEnv := ⟨3, 6, 0x0009C4A1, 0, false, 1000000, 0, 0x10000, 0, fun _ => 0, fun _ => false, fun _ => none, fun _ => [], fun _ => 0, fun _ => 0, fun _ => 0⟩
    (laneIStore (l 0x41200000) e 4 7 0 0x4A14 = .ok (({ l 0x41200000 with pc := (l 0).pc + 4, journal := [(0x4A10, 0x4120000000000000)] }
      : LaneState).feed [0x100000F000004A10, 0x4120000000000000]) 40) ∧
    (laneIStore (l 0x41000000) e 4 7 0 0x4A14 = .ok (({ l 0 with g := [(7, 0x41000000)], pc := (l 0).pc + 4, journal := [(0x4A10, 0x4100000000000000)] }
      : LaneState).feed [0x100000F000004A10, 0x4100000000000000]) 40) := by decide +kernel

/-- Chapter 13: with CONS at 0xFFFFFFFC the index sits in place 12, PROD 0x0D makes 17 places and is refused, 0x0C makes 16 and is taken. -/
theorem test_example_indexes_across_the_wrap :
    let s := (ringed 5 1 5 8 []).setReg (Reg.RING_CONS 5) 0xFFFFFFFC
    s.ringOcc 5 = 12 ∧ (0xFFFFFFFC : Word).toNat % s.ringSize 5 = 12 ∧
    nextIs (exec (.ringProdWrite 5 0xD) s) (fun t => t.bit Fld.RING_EVENT_PROTOCOL && t.ringProd 5 == 8) = true ∧
    nextIs (exec (.ringProdWrite 5 0xD) (s.setReg (Reg.RING_CONS 5) 3)) (fun t => t.ringOcc 5 == 10 && !t.bit Fld.RING_EVENT_PROTOCOL) = true := by decide +kernel

/-- Chapter 14: a cancel that reaches the engine after SOF is held; lost arbitration then ends CANCELLED, a completed frame SENT and late. -/
theorem test_example_cancel_race :
    let s := (canned 1 [(Fld.CAN_OBJ_CTRL_TX_STATE 0 20, 2)]).setCan 0 ⟨some 20, false, [20], [], [], []⟩
    nextIs (exec (.cancelReachesEngine 0 20) s) (fun t =>
      nextIs (exec (.canArbLost 0) t) (fun u => u.txState 0 20 == Tx.CANCELLED && u.get (Fld.CAN_OBJ_STAT_LOST_ARB 0 20) == 1) &&
      nextIs (exec (.canTxComplete 0) t) (fun u => u.txState 0 20 == Tx.SENT && u.bit (Fld.CAN_OBJ_CTRL_CANCEL_LATE 0 20))) = true ∧
    nextIs (exec (.cancelReachesEngine 0 20) ((canned 1 [(Fld.CAN_OBJ_CTRL_TX_STATE 0 20, 1)]).setCan 0 ⟨none, false, [20], [], [], []⟩))
      (fun t => t.txState 0 20 == Tx.CANCELLED && !t.bit (Fld.CAN_OBJ_CTRL_CANCEL_LATE 0 20)) = true := by decide

/-- Chapter 15: a target 1 ms ahead across the wrap waits, one 600 s ahead fires at once with LATE. -/
theorem test_example_target_across_the_wrap :
    let s : State := at0 .run []
    let at' (lo hi : Nat) : State := (State.putAll s [(Fld.DRIP_TGT_LO_TGT 40, lo), (Fld.DRIP_TGT_HI_TGT 40, hi)])
    let set (x : State) : State := { x with time := { x.time with seconds := 1099, nanoseconds := 511227776 } }
    let arm := (Fld.DRIP_CTRL_ARM 40).mask
    nextIs (exec (.dripArm 40 arm) (set (at' 0x000927C0 0))) (fun t => t.bit (Fld.DRIP_CTRL_ARMED 40) && !t.bit ⟨Reg.DRIP_PEND_HI, 8, 1⟩ &&
      nextIs (exec (.dripFire 40) { t with time := { t.time with nanoseconds := 511627777 } }) (fun u => !u.bit ⟨Reg.DRIP_PEND_HI, 8, 1⟩) &&
      nextIs (exec (.dripFire 40) { t with time := { t.time with nanoseconds := 512227776 } }) (fun u => u.bit ⟨Reg.DRIP_PEND_HI, 8, 1⟩)) = true ∧
    (set s).time.lin.toNat % 2 ^ 40 = 0xFFFFF9E580 ∧ (0xFFFFF9E580 + 600000000000) % 2 ^ 40 = 0x8BB2C35580 ∧
    nextIs (exec (.dripArm 40 arm) (set (at' 0xB2C35580 0x8B)))
      (fun t => t.bit (Fld.DRIP_CTRL_LATE 40) && t.bit ⟨Reg.DRIP_PEND_HI, 8, 1⟩) = true := by decide +kernel

/-- Chapter 16: the straddling write; no byte is written, and the guard's fault registers. -/
theorem test_example_straddling_write :
    let r (g sz base : Nat) (uw : Nat) : List (RegField × Nat) := [(⟨Reg.GUARD_RGN_BASE 9 g, 0, 32⟩, base), (Fld.GUARD_RGN_ATTR_SIZE_LOG2 9 g, sz),
      (Fld.GUARD_RGN_ATTR_ENABLE 9 g, 1), (Fld.GUARD_RGN_ATTR_SECTORS 9 g, 0xFF), (Fld.GUARD_RGN_ATTR_PR 9 g, 1), (Fld.GUARD_RGN_ATTR_PW 9 g, 1),
      (Fld.GUARD_RGN_ATTR_UR 9 g, 1), (Fld.GUARD_RGN_ATTR_UW 9 g, uw)]
    let s := at0 .run ([(Fld.GUARD_CTRL_ENABLE 0, 0), (Fld.GUARD_CTRL_ENABLE 9, 1), (Fld.GUARD_CTRL_BG 9, 1)] ++ r 2 20 0x01000000 1 ++
      r 3 19 0x01000000 1 ++ r 4 18 0x01080000 0)
    nextIs (exec (.hostAccess { access 1 0x0107FFE0 64 .write with privileged := false }) s) (fun t => t.sram == [] && t.bus == .error &&
      t.getReg (Reg.GUARD_FAULT_ADDR 9) == 0x01080000 && t.getReg (Reg.GUARD_FAULT_INFO 9) == 0x80104111) = true := by decide +kernel

/-- Chapter 3: WDT, then PIN in its episode: bits 2 and 3 with FIRST = 3, and FIRST is read-only. -/
theorem test_example_overlapping_sources :
    nextIs (exec .watchdogExpiry (at0 .run [])) (fun t => nextIs (exec .pinAccept t) (fun u => u.getReg Reg.RST_CAUSE == 0x0000300C &&
      nextIs (exec (.rstCauseClear 0x300C) u) (fun w => w.getReg Reg.RST_CAUSE == 0x00003000))) = true := by decide

/-- Chapter 22: IDENT_PARAM_A of a CZ-7400. -/
theorem test_example_ident_param_a : State.reset.getReg Reg.IDENT_PARAM_A = 0x0A481050 ∧ State.reset.get Fld.IDENT_PARAM_A_CHAMBERS = 16 := by decide

/-- A ring's descriptor stands in host SRAM as its bytes, least significant first (R327). -/
theorem test_descriptor_bytes :
    (State.reset.setDesc 0x01000000 ⟨0x0807060504030201, 0x100F0E0D0C0B0A09, 0, 0⟩).sramRead 0x01000000 17 =
      [1, 2, 3, 4, 5, 6, 7, 8, 9, 10, 11, 12, 13, 14, 15, 16, 0] := by decide

end Sys2Proof.Machine.Tests
end

section
/-! SUPPORT. What a register write does, by address: which registers take it by their access types alone (R7, R9, R468), which have a
condition (R325, R360, R428, R459), and which are commands (R464, R469). -/
namespace Sys2Proof.Machine

variable (s : State) (v : Word)

/-! ### Registers by address -/

/-- Number `d` of a row of registers 4 bytes apart. -/
theorem within_four {a b n d : Nat} (ha : a = b + 4 * d) (hd : d < n) : within a b n 4 = some d := by
  unfold within
  rw [if_pos (by omega), show (a - b) / 4 = d by omega]

theorem within_four_none {a b n : Nat} (h : a < b ∨ b + n * 4 ≤ a) : within a b n 4 = none := by
  unfold within
  rw [if_neg (by omega)]

theorem within_eq_none_iff {a b n k : Nat} : within a b n k = none ↔ ¬ (b ≤ a ∧ a < b + n * k ∧ (a - b) % k = 0) := by
  simp [within]

/-- A register without an effect of its own is none of a row of registers with one. -/
theorem within_none_of_plain {a : Nat} (h : ownEffect a = false) (b n : Nat) (hr : (b, n) ∈ ownEffectRows) : within a b n 4 = none := by
  simp only [ownEffect, Bool.or_eq_false_iff, List.any_eq_false] at h
  simpa using h.1 _ hr

theorem ne_of_plain {a : Nat} (h : ownEffect a = false) (b : Nat) (hr : (b, 1) ∈ ownEffectRows) : a ≠ b := by
  rintro rfl
  have hs : within a a 1 4 = some 0 := within_four rfl Nat.one_pos
  simpa [hs] using within_none_of_plain h a 1 hr

theorem guardRule_none_of_plain {a : Nat} (h : ownEffect a = false) : guardRule a = none := by
  simp only [ownEffect, Bool.or_eq_false_iff] at h
  simpa using h.2

/-! ### Registers whose write has no effect of its own (R7) -/

section
variable {a : Nat} (h : ownEffect a = false)
include h

theorem writeClockReset_of_plain : s.writeClockReset a v = s.regStore a v := by
  simp [State.writeClockReset, ne_of_plain h Reg.CLK_CTRL (by decide), ne_of_plain h Reg.RST_SW (by decide),
    ne_of_plain h Reg.WDT_CTRL (by decide), ne_of_plain h Reg.WDT_KICK (by decide),
    within_none_of_plain h (Reg.GATE_CTRL 0) 64 (by decide)]

theorem writePower_of_plain : s.writePower a v = s.regStore a v := by
  simp [State.writePower, ne_of_plain h Reg.PWR_SQZ_CFG (by decide), ne_of_plain h Reg.PWR_HIB_CMD (by decide)]

theorem writeSump_of_plain : s.writeSump a v = s.regStore a v := by
  simp [State.writeSump, within_none_of_plain h (Reg.SUMP_SRC 0) 256 (by decide),
    within_none_of_plain h (Reg.SUMP_DETAIL 240) 16 (by decide)]

theorem writeFlowstone_of_plain : s.writeFlowstone a v = s.regStore a v := by
  simp [State.writeFlowstone, ne_of_plain h Reg.FLS_CTRL (by decide), ne_of_plain h Reg.FLS_SEEK (by decide),
    ne_of_plain h Reg.FLS_WCMD (by decide)]

theorem writeGuard_of_plain : s.writeGuard a v = s.regStore a v := by
  simp [State.writeGuard, guardRule_none_of_plain h]

theorem writeSecurity_of_plain : s.writeSecurity a v = s.regStore a v := by
  simp [State.writeSecurity, ne_of_plain h Reg.SEC_LC_CMD (by decide), ne_of_plain h Reg.SEC_PROV (by decide),
    ne_of_plain h Reg.SEC_REVOKE (by decide)]

theorem dripTargetReg_of_plain : dripTargetReg a = none := by
  simp [dripTargetReg, within_none_of_plain h (Reg.DRIP_TGT_LO 0) 64 (by decide),
    within_none_of_plain h (Reg.DRIP_TGT_HI 0) 64 (by decide),
    within_none_of_plain h (Reg.DRIP_PER_LO 0) 64 (by decide),
    within_none_of_plain h (Reg.DRIP_PER_HI 0) 64 (by decide)]

theorem writeTime_of_plain : s.writeTime a v = s.regStore a v := by
  simp [State.writeTime, ne_of_plain h Reg.TIME_CMD (by decide), dripTargetReg_of_plain h,
    within_none_of_plain h (Reg.DRIP_CTRL 0) 64 (by decide)]

theorem writeGallery_of_plain : s.writeGallery a v = s.regStore a v := by
  simp [State.writeGallery, ne_of_plain h Reg.GAL_CTRL (by decide)]

theorem writeSurvey_of_plain : s.writeSurvey a v = s.regStore a v := by
  simp [State.writeSurvey, ne_of_plain h Reg.OLC_CTRL (by decide), ne_of_plain h Reg.FRC_CMD (by decide),
    within_none_of_plain h (Reg.SEQ_TASK_CTRL 0) 16 (by decide)]

theorem writeLockstep_of_plain : s.writeLockstep a v = s.regStore a v := by
  simp [State.writeLockstep, ne_of_plain h Reg.LS_INJECT (by decide), ne_of_plain h Reg.LS_DBG_GO (by decide),
    within_none_of_plain h (Reg.LS_DBG_CTRL 0) 16 (by decide),
    within_none_of_plain h (Reg.LS_DBG_BP 0 0) 64 (by decide)]

theorem writePair_of_plain : s.writePair a v = s.regStore a v := by
  simp [State.writePair, ne_of_plain h Reg.PAIR_CTRL (by decide)]

theorem writeIsland_of_plain : s.writeIsland a v = s.regStore a v := by
  simp [State.writeIsland, ne_of_plain h Reg.ISL_CAL_CMD (by decide),
    within_none_of_plain h (Reg.ISL_CH_CFG 0) 128 (by decide),
    within_none_of_plain h (Reg.ISL_AN_CFG 0) 128 (by decide)]

theorem writeRing_of_plain : s.writeRing a v = s.regStore a v := by
  simp [State.writeRing, within_none_of_plain h (Reg.RING_BASE 0) 128 (by decide),
    within_none_of_plain h (Reg.RING_CFG 0) 64 (by decide),
    within_none_of_plain h (Reg.RING_PROD 0) 64 (by decide),
    within_none_of_plain h (Reg.RING_CONS 0) 64 (by decide),
    within_none_of_plain h (Reg.RING_IRQ 0) 64 (by decide)]

/-- Of the registers of a controller the four of its timing and that of its ring have an effect of their own. -/
theorem canOffset_of_plain (ha : 0x40110000 ≤ a ∧ a < 0x40110100) : a % 64 ∉ [0x0, 0x4, 0x8, 0xC, 0x20] := by
  have hc : ∀ k < 4, within a (Reg.CAN_CTRL k) 4 4 = none ∧ a ≠ Reg.CAN_RING k := by
    intro k hk
    interval_cases k <;> exact ⟨within_none_of_plain h _ _ (by decide), ne_of_plain h _ (by decide)⟩
  obtain ⟨hw, hr⟩ := hc ((a - 0x40110000) / 64) (by omega)
  rw [within_eq_none_iff] at hw
  simp only [Reg.CAN_CTRL, Reg.CAN_RING] at hw hr
  simp only [List.mem_cons, List.not_mem_nil, or_false]
  omega

theorem writeCan_of_plain : s.writeCan a v = s.regStore a v := by
  unfold State.writeCan
  split
  · have ho := canOffset_of_plain h ‹_›
    simp only [List.mem_cons, List.not_mem_nil, not_or] at ho
    simp [State.writeCanCtl, ho]
  · have hc : within a 0x40111000 1536 4 = none := within_none_of_plain h _ _ (by decide)
    have hd : within a 0x40118000 8192 4 = none := within_none_of_plain h _ _ (by decide)
    rw [within_eq_none_iff] at hc
    have h1 : within a 0x40111000 512 4 = none := within_eq_none_iff.2 (by omega)
    have h2 : within a 0x40111800 512 4 = none := within_eq_none_iff.2 (by omega)
    have h3 : within a 0x40112000 512 4 = none := within_eq_none_iff.2 (by omega)
    simp [State.writeCanObj, h1, h2, h3, hd]

theorem writeUpdate_of_plain : s.writeUpdate a v = s.regStore a v := by
  simp [State.writeUpdate, ne_of_plain h Reg.UPD_CMD (by decide), ne_of_plain h Reg.UPD_HEALTH (by decide),
    ne_of_plain h Reg.UPD_ISL_CMD (by decide)]

theorem writeTestpert_of_plain (ht : s.tpConfigLocked a = false) : s.writeTestpert a v = s.regStore a v := by
  simp [State.writeTestpert, ne_of_plain h Reg.TP_CMD (by decide), ht]

/-- The write of a register without an effect of its own is what R7 gives it. -/
theorem regWrite_of_plain (ht : s.tpConfigLocked a = false) : s.regWrite a v = s.regStore a v := by
  unfold State.regWrite
  split
  · exact writeClockReset_of_plain s v h
  · exact writeClockReset_of_plain s v h
  · exact writePower_of_plain s v h
  · exact writeSump_of_plain s v h
  · exact writeFlowstone_of_plain s v h
  · exact writeGuard_of_plain s v h
  · exact writeSecurity_of_plain s v h
  · exact writeTime_of_plain s v h
  · exact writeGallery_of_plain s v h
  · exact writeSurvey_of_plain s v h
  · exact writeLockstep_of_plain s v h
  · exact writePair_of_plain s v h
  · exact writeIsland_of_plain s v h
  · exact writeRing_of_plain s v h
  · exact writeCan_of_plain s v h
  · exact writeUpdate_of_plain s v h
  · exact writeTestpert_of_plain s v h ht
  · rfl

end

/-! ### The access types of a register's bits (R7, R9) -/

/-- No bit of a register has two of the types W1C, W1S and written. -/
abbrev RegRow.typesApart (r : RegRow) : Prop := r.w1c &&& (r.rw ||| r.rwl ||| r.w1s) = 0 ∧ r.w1s &&& (r.rw ||| r.rwl) = 0

set_option maxRecDepth 10000 in
theorem regBlocks_typesApart : ∀ b ∈ regBlocks, ∀ r ∈ b.2, r.typesApart := by decide

theorem regFind_typesApart {a : Nat} {r : RegRow} (h : regFind a = some r) : r.typesApart := by
  unfold regFind at h
  split at h
  · split at h
    · cases h
    · rename_i b rows hb
      exact regBlocks_typesApart _ (List.mem_of_find?_eq_some hb) r (List.mem_of_find?_eq_some h)
  · cases h

/-- One bit of a write: `c` and `d` say W1C and W1S, `e` and `f` RW and RWL, `l` locked, `x` and `y` the bit held and the bit written. -/
theorem typedBit_eq : ∀ c d e f l x y : Bool, (c && (e || f || d)) = false → (d && (e || f)) = false →
    ((x && !(e || f && !l) || y && (e || f && !l)) && !(y && c) || y && d) =
      if c then x && !y else if d then x || y else if e || f && !l then y else x := by decide

theorem getLsbD_rowStore {r : RegRow} (hr : r.typesApart) (locked : Bool) (old w : BitVec 32) {i : Nat} (hi : i < 32) :
    (rowStore r locked old w).getLsbD i =
      if r.w1c.getLsbD i then old.getLsbD i && !w.getLsbD i
      else if r.w1s.getLsbD i then old.getLsbD i || w.getLsbD i
      else if r.rw.getLsbD i || (r.rwl.getLsbD i && !locked) then w.getLsbD i
      else old.getLsbD i := by
  have hwr : (if locked = true then r.rw else r.rw ||| r.rwl).getLsbD i = (r.rw.getLsbD i || r.rwl.getLsbD i && !locked) := by
    cases locked <;> simp
  rw [← typedBit_eq _ _ _ _ _ _ _ (by simpa using congrArg (BitVec.getLsbD · i) hr.1) (by simpa using congrArg (BitVec.getLsbD · i) hr.2), ← hwr]
  simp [rowStore, hi]

/-! ### Clamped fields (R468) -/

/-- Clamping by a table that has no field of the register. -/
theorem foldl_clamp_of_absent {a : Nat} (w : BitVec 32) (l : List (RegField × Nat × Nat)) (hl : ∀ c ∈ l, c.1.addr ≠ a) :
    l.foldl (fun v c => if c.1.addr = a then c.1.ins v (max c.2.1 (min c.2.2 (c.1.ext v))) else v) w = w := by
  induction l with
  | nil => rfl
  | cons c l ih =>
    rw [List.foldl_cons, if_neg (hl c List.mem_cons_self)]
    exact ih fun d hd => hl d (List.mem_cons_of_mem c hd)

theorem clampReg_of_not_clamped {a : Nat} (h : clamped a = false) (w : BitVec 32) : clampReg a w = w := by
  simp only [clamped, Bool.or_eq_false_iff, List.any_eq_false] at h
  obtain ⟨⟨hr, hi⟩, ht⟩ := h
  have hn : ¬ 16 > (List.range 16).findIdx (fun i => a == Reg.ISL_CTRL i) := by
    intro hlt
    obtain ⟨i, hm, he⟩ := List.findIdx_lt_length.1 (show _ < (List.range 16).length by simpa using hlt)
    exact hi i hm he
  unfold clampReg
  rw [if_neg (by simpa using hr), if_neg hn]
  exact foldl_clamp_of_absent w clampTable fun c hc => by simpa using ht c hc

theorem ext_ins_clamped (f : RegField) (hf : f.fits) {lo hi : Nat} (hlo : lo ≤ hi) (hh : hi < 2 ^ f.width) (w : BitVec 32) :
    f.ext (f.ins w (max lo (min hi (f.ext w)))) = max lo (min hi (f.ext w)) := by
  rw [RegField.ext_ins f hf]
  exact Nat.mod_eq_of_lt (by omega)

theorem clampedFieldsStoreClampedValue : Claim.ClampedFieldsStoreClampedValue := by
  refine ⟨fun w => ?_, fun w => ?_, fun w => ?_, fun w => ?_⟩
  · exact ext_ins_clamped Fld.WDT_CTRL_TIMEOUT (Nat.le_of_ble_eq_true rfl) (by decide) (by decide) w
  · exact ext_ins_clamped Fld.PAIR_CTRL_LL_LOSS_US (Nat.le_of_ble_eq_true rfl) (by decide) (by decide) w
  · exact ext_ins_clamped Fld.TP_DURATION_DURATION_S (Nat.le_of_ble_eq_true rfl) (by decide) (by decide) w
  · rw [show clampReg Reg.TIME_RATE w = BitVec.ofInt 32 (max (-500000000) (min 500000000 w.toInt)) from if_pos rfl, BitVec.toInt_ofInt]
    exact Int.bmod_eq_of_le (by omega) (by omega)

/-! ### The aligned write to an open block -/

theorem exec_registerWrite_open (addr : Word) (h4 : addr.toNat % 4 = 0) (hd : s.regDenied addr.toNat false = false) :
    exec (.registerWrite addr v) s = .next { s.regWrite addr.toNat v with bus := .done } := by
  show execRegisterWrite addr v s = _
  simp [execRegisterWrite, h4, hd, done]

theorem exec_registerWrite_refused {addr : Word} (h : addr.toNat % 4 ≠ 0 ∨ s.regDenied addr.toNat false = true) :
    exec (.registerWrite addr v) s = .next { s with bus := .error } := if_pos h

theorem registerWriteByAccessType : Claim.RegisterWriteByAccessType := by
  intro s addr v r h4 hd hp ht hr
  have hs : s.regWrite addr.toNat v = s.setReg addr.toNat (clampReg addr.toNat (rowStore r (s.rowLocked r) (s.getReg addr.toNat) v)) := by
    rw [regWrite_of_plain s v hp ht, State.regStore, hr]
  refine ⟨_, rowStore r (s.rowLocked r) (s.getReg addr.toNat) v, exec_registerWrite_open s v addr h4 hd, ?_, ?_, ?_, ?_⟩
  · rw [hs]
    exact ⟨rfl, fun b hb => s.getReg_setReg_ne _ (by simpa using hb)⟩
  · rw [hs, State.getReg_setReg_same]
  · intro hc
    rw [hs, State.getReg_setReg_same, clampReg_of_not_clamped hc]
  · intro i hi
    exact getLsbD_rowStore (regFind_typesApart hr) _ _ _ hi

/-! ### Writes of numbered registers -/

theorem regWrite_GATE_CTRL {b : Nat} (hb : b < 64) :
    s.regWrite (Reg.GATE_CTRL b) v = s.gateCtrlWrite b v fun s => s.gateRequestOuter b := by
  have hp : Reg.GATE_CTRL b / 65536 = 0x4002 := by unfold Reg.GATE_CTRL; omega
  have hw : within (Reg.GATE_CTRL b) (Reg.GATE_CTRL 0) 64 4 = some b := within_four rfl hb
  have hn : ∀ a < 0x40020100, Reg.GATE_CTRL b ≠ a := by unfold Reg.GATE_CTRL; omega
  simp [State.regWrite, hp, State.writeClockReset, hw, hn Reg.CLK_CTRL (by decide), hn Reg.RST_SW (by decide),
    hn Reg.WDT_CTRL (by decide), hn Reg.WDT_KICK (by decide)]

theorem regWrite_SUMP_SRC {n : Nat} (hn : n < 256) : s.regWrite (Reg.SUMP_SRC n) v = s.sumpSrcWrite n v := by
  have hp : Reg.SUMP_SRC n / 65536 = 0x4004 := by unfold Reg.SUMP_SRC; omega
  have hw : within (Reg.SUMP_SRC n) (Reg.SUMP_SRC 0) 256 4 = some n := within_four rfl hn
  simp [State.regWrite, hp, State.writeSump, hw]

theorem regWrite_DRIP_CTRL {d : Nat} (hd : d < 64) : s.regWrite (Reg.DRIP_CTRL d) v = s.dripCtrlWrite d v := by
  have hp : Reg.DRIP_CTRL d / 65536 = 0x4008 := by unfold Reg.DRIP_CTRL; omega
  have hw : within (Reg.DRIP_CTRL d) (Reg.DRIP_CTRL 0) 64 4 = some d := within_four rfl hd
  have hn : Reg.DRIP_CTRL d ≠ Reg.TIME_CMD := by simp only [Reg.DRIP_CTRL, Reg.TIME_CMD]; omega
  simp [State.regWrite, hp, State.writeTime, hw, hn]

theorem regWrite_SEQ_TASK_CTRL {t : Nat} (ht : t < 16) : s.regWrite (Reg.SEQ_TASK_CTRL t) v = s.seqTaskCtrlWrite t v := by
  have hp : Reg.SEQ_TASK_CTRL t / 65536 = 0x400A := by unfold Reg.SEQ_TASK_CTRL; omega
  have hw : within (Reg.SEQ_TASK_CTRL t) (Reg.SEQ_TASK_CTRL 0) 16 4 = some t := within_four rfl ht
  have hn : Reg.SEQ_TASK_CTRL t ≠ Reg.OLC_CTRL ∧ Reg.SEQ_TASK_CTRL t ≠ Reg.FRC_CMD := by
    simp only [Reg.SEQ_TASK_CTRL, Reg.OLC_CTRL, Reg.FRC_CMD]; omega
  simp [State.regWrite, hp, State.writeSurvey, hw, hn]

theorem regWrite_LS_DBG_CTRL {c : Nat} (hc : c < 16) : s.regWrite (Reg.LS_DBG_CTRL c) v = s.dbgCtrlWrite c v := by
  have hp : Reg.LS_DBG_CTRL c / 65536 = 0x400B := by unfold Reg.LS_DBG_CTRL; omega
  have hw : within (Reg.LS_DBG_CTRL c) (Reg.LS_DBG_CTRL 0) 16 4 = some c := within_four rfl hc
  have hn : Reg.LS_DBG_CTRL c ≠ Reg.LS_INJECT ∧ Reg.LS_DBG_CTRL c ≠ Reg.LS_DBG_GO := by
    simp only [Reg.LS_DBG_CTRL, Reg.LS_INJECT, Reg.LS_DBG_GO]; omega
  simp [State.regWrite, hp, State.writeLockstep, hw, hn]

/-- Breakpoints are set at CONTROL and above (R428). -/
theorem regWrite_LS_DBG_BP {c x : Nat} (hc : c < 16) (hx : x < 4) : s.regWrite (Reg.LS_DBG_BP c x) v =
    if 2 ≤ s.get Fld.SEC_STATUS_DBG_LEVEL then s.regStore (Reg.LS_DBG_BP c x) v else s := by
  have hp : Reg.LS_DBG_BP c x / 65536 = 0x400B := by unfold Reg.LS_DBG_BP; omega
  have hw : within (Reg.LS_DBG_BP c x) (Reg.LS_DBG_BP 0 0) 64 4 = some (4 * c + x) :=
    within_four (by simp only [Reg.LS_DBG_BP]; omega) (by omega)
  have hb : within (Reg.LS_DBG_BP c x) (Reg.LS_DBG_CTRL 0) 16 4 = none :=
    within_four_none (by simp only [Reg.LS_DBG_BP, Reg.LS_DBG_CTRL]; omega)
  have hn : Reg.LS_DBG_BP c x ≠ Reg.LS_INJECT ∧ Reg.LS_DBG_BP c x ≠ Reg.LS_DBG_GO := by
    simp only [Reg.LS_DBG_BP, Reg.LS_INJECT, Reg.LS_DBG_GO]; omega
  simp [State.regWrite, hp, State.writeLockstep, hw, hb, hn]

theorem regWrite_ISL_CH_CFG {n : Nat} (hn : n < 128) : s.regWrite (Reg.ISL_CH_CFG n) v = s.islCfgWrite n false v := by
  have hp : Reg.ISL_CH_CFG n / 65536 = 0x400D := by unfold Reg.ISL_CH_CFG; omega
  have hw : within (Reg.ISL_CH_CFG n) (Reg.ISL_CH_CFG 0) 128 4 = some n := within_four rfl hn
  have hc : Reg.ISL_CH_CFG n ≠ Reg.ISL_CAL_CMD := by simp only [Reg.ISL_CH_CFG, Reg.ISL_CAL_CMD]; omega
  simp [State.regWrite, hp, State.writeIsland, hw, hc]

theorem regWrite_ISL_AN_CFG {n : Nat} (hn : n < 128) : s.regWrite (Reg.ISL_AN_CFG n) v = s.islCfgWrite n true v := by
  have hp : Reg.ISL_AN_CFG n / 65536 = 0x400D := by unfold Reg.ISL_AN_CFG; omega
  have hw : within (Reg.ISL_AN_CFG n) (Reg.ISL_AN_CFG 0) 128 4 = some n := within_four rfl hn
  have hb : within (Reg.ISL_AN_CFG n) (Reg.ISL_CH_CFG 0) 128 4 = none :=
    within_four_none (by simp only [Reg.ISL_AN_CFG, Reg.ISL_CH_CFG]; omega)
  have hc : Reg.ISL_AN_CFG n ≠ Reg.ISL_CAL_CMD := by simp only [Reg.ISL_AN_CFG, Reg.ISL_CAL_CMD]; omega
  simp [State.regWrite, hp, State.writeIsland, hw, hb, hc]

/-- RING_BASE and RING_BUFBASE, the two rows of `q` from one base: a ring enabled or locked ignores the write (R325). -/
theorem regWrite_RING_BASE {n : Nat} (hn : n < 128) : s.regWrite (Reg.RING_BASE n) v =
    if s.ringEnabled (n % 64) || s.bit Fld.RING_LOCK_LOCK then s else s.regStore (Reg.RING_BASE n) v := by
  have hp : Reg.RING_BASE n / 65536 = 0x4010 := by unfold Reg.RING_BASE; omega
  have hw : within (Reg.RING_BASE n) (Reg.RING_BASE 0) 128 4 = some n := within_four rfl hn
  simp [State.regWrite, hp, State.writeRing, hw]

theorem regWrite_RING_CFG {q : Nat} (hq : q < 64) : s.regWrite (Reg.RING_CFG q) v = s.ringCfgWrite q v := by
  have hp : Reg.RING_CFG q / 65536 = 0x4010 := by unfold Reg.RING_CFG; omega
  have hw : within (Reg.RING_CFG q) (Reg.RING_CFG 0) 64 4 = some q := within_four rfl hq
  have hb : within (Reg.RING_CFG q) (Reg.RING_BASE 0) 128 4 = none :=
    within_four_none (by simp only [Reg.RING_CFG, Reg.RING_BASE]; omega)
  simp [State.regWrite, hp, State.writeRing, hw, hb]

theorem regWrite_RING_PROD {q : Nat} (hq : q < 64) : s.regWrite (Reg.RING_PROD q) v = s.ringProdWrite q v := by
  have hp : Reg.RING_PROD q / 65536 = 0x4010 := by unfold Reg.RING_PROD; omega
  have hw : within (Reg.RING_PROD q) (Reg.RING_PROD 0) 64 4 = some q := within_four rfl hq
  have hb : within (Reg.RING_PROD q) (Reg.RING_BASE 0) 128 4 = none :=
    within_four_none (by simp only [Reg.RING_PROD, Reg.RING_BASE]; omega)
  have hc : within (Reg.RING_PROD q) (Reg.RING_CFG 0) 64 4 = none :=
    within_four_none (by simp only [Reg.RING_PROD, Reg.RING_CFG]; omega)
  simp [State.regWrite, hp, State.writeRing, hw, hb, hc]

theorem regWrite_RING_CONS {q : Nat} (hq : q < 64) : s.regWrite (Reg.RING_CONS q) v = (s.ringConsWrite q v).canDeliverRing q := by
  have hp : Reg.RING_CONS q / 65536 = 0x4010 := by unfold Reg.RING_CONS; omega
  have hw : within (Reg.RING_CONS q) (Reg.RING_CONS 0) 64 4 = some q := within_four rfl hq
  have hb : within (Reg.RING_CONS q) (Reg.RING_BASE 0) 128 4 = none :=
    within_four_none (by simp only [Reg.RING_CONS, Reg.RING_BASE]; omega)
  have hc : within (Reg.RING_CONS q) (Reg.RING_CFG 0) 64 4 = none :=
    within_four_none (by simp only [Reg.RING_CONS, Reg.RING_CFG]; omega)
  have hd : within (Reg.RING_CONS q) (Reg.RING_PROD 0) 64 4 = none :=
    within_four_none (by simp only [Reg.RING_CONS, Reg.RING_PROD]; omega)
  simp [State.regWrite, hp, State.writeRing, hw, hb, hc, hd]

theorem regWrite_CAN_CTRL (k : Fin 4) : s.regWrite (Reg.CAN_CTRL k) v = s.canTimingWrite k .ctrl v := by
  fin_cases k <;> rfl

theorem regWrite_CAN_NBT (k : Fin 4) : s.regWrite (Reg.CAN_NBT k) v = s.canTimingWrite k .nbt v := by
  fin_cases k <;> rfl

theorem regWrite_CAN_DBT (k : Fin 4) : s.regWrite (Reg.CAN_DBT k) v = s.canTimingWrite k .dbt v := by
  fin_cases k <;> rfl

theorem regWrite_CAN_TDC (k : Fin 4) : s.regWrite (Reg.CAN_TDC k) v = s.canTimingWrite k .tdc v := by
  fin_cases k <;> rfl

theorem regWrite_canObject {a : Nat} (ha : 0x40111000 ≤ a ∧ a < 0x40120000) : s.regWrite a v = s.writeCanObj a v := by
  have hp : a / 65536 = 0x4011 := by omega
  have hn : ¬ (0x40110000 ≤ a ∧ a < 0x40110100) := by omega
  simp only [State.regWrite, hp, State.writeCan, hn, if_false]

theorem regWrite_CAN_OBJ_CTRL {k m : Nat} (hk : k < 4) (hm : m < 128) : s.regWrite (Reg.CAN_OBJ_CTRL k m) v = s.canObjWrite k m .ctrl v := by
  have hw : within (Reg.CAN_OBJ_CTRL k m) 0x40111000 512 4 = some (128 * k + m) :=
    within_four (by unfold Reg.CAN_OBJ_CTRL; omega) (by omega)
  rw [regWrite_canObject s v (by unfold Reg.CAN_OBJ_CTRL; omega)]
  simp only [State.writeCanObj, hw]
  rw [show (128 * k + m) / 128 = k by omega, show (128 * k + m) % 128 = m by omega]

theorem regWrite_CAN_OBJ_ID {k m : Nat} (hk : k < 4) (hm : m < 128) : s.regWrite (Reg.CAN_OBJ_ID k m) v = s.canObjWrite k m .id v := by
  have hb : within (Reg.CAN_OBJ_ID k m) 0x40111000 512 4 = none := within_four_none (by unfold Reg.CAN_OBJ_ID; omega)
  have hw : within (Reg.CAN_OBJ_ID k m) 0x40111800 512 4 = some (128 * k + m) :=
    within_four (by unfold Reg.CAN_OBJ_ID; omega) (by omega)
  rw [regWrite_canObject s v (by unfold Reg.CAN_OBJ_ID; omega)]
  simp only [State.writeCanObj, hb, hw]
  rw [show (128 * k + m) / 128 = k by omega, show (128 * k + m) % 128 = m by omega]

theorem regWrite_CAN_OBJ_MASK {k m : Nat} (hk : k < 4) (hm : m < 128) : s.regWrite (Reg.CAN_OBJ_MASK k m) v = s.canObjWrite k m .mask v := by
  have hb : within (Reg.CAN_OBJ_MASK k m) 0x40111000 512 4 = none := within_four_none (by unfold Reg.CAN_OBJ_MASK; omega)
  have hc : within (Reg.CAN_OBJ_MASK k m) 0x40111800 512 4 = none := within_four_none (by unfold Reg.CAN_OBJ_MASK; omega)
  have hw : within (Reg.CAN_OBJ_MASK k m) 0x40112000 512 4 = some (128 * k + m) :=
    within_four (by unfold Reg.CAN_OBJ_MASK; omega) (by omega)
  rw [regWrite_canObject s v (by unfold Reg.CAN_OBJ_MASK; omega)]
  simp only [State.writeCanObj, hb, hc, hw]
  rw [show (128 * k + m) / 128 = k by omega, show (128 * k + m) % 128 = m by omega]

theorem regWrite_CAN_OBJ_DATA {k m : Nat} (hk : k < 4) (hm : m < 128) (w : Fin 16) :
    s.regWrite (Reg.CAN_OBJ_DATA k m w) v = s.canObjWrite k m (.data w) v := by
  have hb : within (Reg.CAN_OBJ_DATA k m w) 0x40111000 512 4 = none := within_four_none (by unfold Reg.CAN_OBJ_DATA; omega)
  have hc : within (Reg.CAN_OBJ_DATA k m w) 0x40111800 512 4 = none := within_four_none (by unfold Reg.CAN_OBJ_DATA; omega)
  have hd : within (Reg.CAN_OBJ_DATA k m w) 0x40112000 512 4 = none := within_four_none (by unfold Reg.CAN_OBJ_DATA; omega)
  have hw : within (Reg.CAN_OBJ_DATA k m w) 0x40118000 8192 4 = some (2048 * k + 16 * m + w) :=
    within_four (by unfold Reg.CAN_OBJ_DATA; omega) (by omega)
  have hf : Fin.ofNat 16 (2048 * k + 16 * m + w) = w := Fin.ext (by simp only [Fin.ofNat]; omega)
  rw [regWrite_canObject s v (by unfold Reg.CAN_OBJ_DATA; omega)]
  simp only [State.writeCanObj, hb, hc, hd, hw, hf]
  rw [show (2048 * k + 16 * m + w) / 2048 = k by omega, show (2048 * k + 16 * m + w) / 16 % 128 = m by omega]

/-! ### The access to a block (R77, R194) -/

/-- Where host firmware's accesses are answered: no register of the debugger. -/
theorem regDenied_of_ungated {a : Nat} (hg : regGate a = none) (hl : a < 0x400B0540 ∨ 0x400B0558 ≤ a) : s.regDenied a false = false := by
  simp only [State.regDenied, hg, Bool.false_or, Bool.not_false, Bool.and_true, Bool.and_eq_false_iff, decide_eq_false_iff_not]
  omega

theorem regDenied_of_open {a b : Nat} (hg : regGate a = some b) (ho : s.get (Fld.GATE_CTRL_STATE b) = 0)
    (hl : a < 0x400B0540 ∨ 0x400B0558 ≤ a) : s.regDenied a false = false := by
  simp only [State.regDenied, hg, ho, bne_self_eq_false, Bool.false_or, Bool.not_false, Bool.and_true, Bool.and_eq_false_iff,
    decide_eq_false_iff_not]
  omega

/-- A register that is not denied stands behind an open gate. -/
theorem gate_open_of_not_denied {a b : Nat} (hd : s.regDenied a false = false) (hg : regGate a = some b) :
    s.get (Fld.GATE_CTRL_STATE b) = 0 := by
  simp only [State.regDenied, hg, Bool.or_eq_false_iff, bne_eq_false_iff_eq] at hd
  exact hd.1

theorem gated_open {b : Nat} (ho : s.get (Fld.GATE_CTRL_STATE b) = 0) (k : State → State) : s.gated b k = k s := if_pos ho

/-- A write to an address given as a number. -/
theorem exec_registerWrite_at {a : Nat} (ha : a < 2 ^ 32) (h4 : a % 4 = 0) (hd : s.regDenied a false = false) :
    exec (.registerWrite (BitVec.ofNat 32 a) v) s = .next { s.regWrite a v with bus := .done } := by
  have hn : (BitVec.ofNat 32 a).toNat = a := by rw [BitVec.toNat_ofNat, Nat.mod_eq_of_lt ha]
  have h := exec_registerWrite_open s v (BitVec.ofNat 32 a) (by rwa [hn]) (by rwa [hn])
  rwa [hn] at h

/-! ### Writes with a condition (R325, R360, R428, R459) -/

theorem dripTargetReg_eq : ∀ d : Fin 64, ∀ a ∈ [Reg.DRIP_TGT_LO d, Reg.DRIP_TGT_HI d, Reg.DRIP_PER_LO d, Reg.DRIP_PER_HI d],
    dripTargetReg a = some d.val := by decide

/-- A drip unit's target and period while the survey owns the unit (R360). -/
theorem exec_registerWrite_dripTarget (d : Fin 64) {a : Nat}
    (ha : a ∈ [Reg.DRIP_TGT_LO d, Reg.DRIP_TGT_HI d, Reg.DRIP_PER_LO d, Reg.DRIP_PER_HI d]) :
    exec (.registerWrite (BitVec.ofNat 32 a) v) s =
      .next (if s.bit (Fld.DRIP_CTRL_SURVEY d) then { s with bus := .done } else { s.regStore a v with bus := .done }) := by
  have hr := dripTargetReg_eq d a ha
  simp only [List.mem_cons, List.not_mem_nil, or_false, Reg.DRIP_TGT_LO, Reg.DRIP_TGT_HI, Reg.DRIP_PER_LO, Reg.DRIP_PER_HI] at ha
  have hp : a / 65536 = 0x4008 := by omega
  have hw : within a (Reg.DRIP_CTRL 0) 64 4 = none := within_four_none (by unfold Reg.DRIP_CTRL; omega)
  have hn : a ≠ Reg.TIME_CMD := by unfold Reg.TIME_CMD; omega
  rw [exec_registerWrite_at s v (by omega) (by omega) (regDenied_of_ungated s (by simp [regGate, hp]) (by omega))]
  simp only [State.regWrite, hp, State.writeTime, hn, hw, hr, if_false]
  split <;> rfl

/-- A ring's bases while the ring is enabled or locked (R325). -/
theorem exec_registerWrite_ringBase (q : Fin 64) (ho : s.get (Fld.GATE_CTRL_STATE 46) = 0) {a : Nat}
    (ha : a ∈ [Reg.RING_BASE q, Reg.RING_BUFBASE q]) :
    exec (.registerWrite (BitVec.ofNat 32 a) v) s =
      .next (if s.ringEnabled q = true ∨ s.bit Fld.RING_LOCK_LOCK = true then { s with bus := .done }
        else { s.regStore a v with bus := .done }) := by
  obtain ⟨n, hn, hq, rfl⟩ : ∃ n < 128, n % 64 = q.val ∧ a = Reg.RING_BASE n := by
    simp only [List.mem_cons, List.not_mem_nil, or_false] at ha
    rcases ha with rfl | rfl
    · exact ⟨q, by omega, by omega, rfl⟩
    · exact ⟨q + 64, by omega, by omega, by simp only [Reg.RING_BUFBASE, Reg.RING_BASE]; omega⟩
  have hp : Reg.RING_BASE n / 65536 = 0x4010 := by unfold Reg.RING_BASE; omega
  rw [exec_registerWrite_at s v (by unfold Reg.RING_BASE; omega) (by unfold Reg.RING_BASE; omega)
    (regDenied_of_open s (by simp [regGate, hp]) ho (by unfold Reg.RING_BASE; omega)), regWrite_RING_BASE s v hn, hq]
  simp only [Bool.or_eq_true]
  split <;> rfl

/-- A breakpoint below CONTROL (R428). -/
theorem exec_registerWrite_breakpoint (c : Fin 16) (x : Fin 4) :
    exec (.registerWrite (BitVec.ofNat 32 (Reg.LS_DBG_BP c x)) v) s =
      .next (if 2 ≤ s.get Fld.SEC_STATUS_DBG_LEVEL then { s.regStore (Reg.LS_DBG_BP c x) v with bus := .done } else { s with bus := .done }) := by
  have hp : Reg.LS_DBG_BP c x / 65536 = 0x400B := by unfold Reg.LS_DBG_BP; omega
  rw [exec_registerWrite_at s v (by unfold Reg.LS_DBG_BP; omega) (by unfold Reg.LS_DBG_BP; omega)
    (regDenied_of_ungated s (by simp [regGate, hp]) (by unfold Reg.LS_DBG_BP; omega)), regWrite_LS_DBG_BP s v c.isLt x.isLt]
  split <;> rfl

theorem tpConfigRegs_page {k a : Nat} (h : a ∈ tpConfigRegs k) : a / 65536 = 0x4013 := by
  have hall : ∀ a ∈ tpConfigRegs k, a / 65536 = 0x4013 := by
    unfold tpConfigRegs
    split <;> decide
  exact hall a h

/-- The configuration of an active perturbation (R459). -/
theorem exec_registerWrite_tpConfig {addr : Word} (ho : s.get (Fld.GATE_CTRL_STATE 49) = 0) (h4 : addr.toNat % 4 = 0)
    (hn : addr.toNat ≠ Reg.TP_CMD) (hl : s.tpConfigLocked addr.toNat = true) :
    exec (.registerWrite addr v) s = .next { s with bus := .done } := by
  have hp : addr.toNat / 65536 = 0x4013 := by
    simp only [State.tpConfigLocked, List.any_eq_true, Bool.and_eq_true, List.contains_iff_mem] at hl
    obtain ⟨k, -, -, hm⟩ := hl
    exact tpConfigRegs_page hm
  rw [exec_registerWrite_open s v addr h4 (regDenied_of_open s (by simp [regGate, hp]) ho (by omega))]
  simp [State.regWrite, hp, State.writeTestpert, hn, hl]

theorem registerWriteReservedOrDenied : Claim.RegisterWriteReservedOrDenied := by
  intro s addr v
  refine ⟨fun h4 hd hp ht hr => ?_, exec_registerWrite_refused s v, fun d a => exec_registerWrite_dripTarget s v d,
    fun q ho a => exec_registerWrite_ringBase s v q ho, exec_registerWrite_breakpoint s v, exec_registerWrite_tpConfig s v⟩
  rw [exec_registerWrite_open s v addr h4 hd, regWrite_of_plain s v hp ht, State.regStore, hr]

/-! ### Registers that command something (R464, R469) -/

/-- The write of `v` to the register at `a`, its block open, does what the command `c` does, and is answered as done. -/
def writeIsCommand (s : State) (v : Word) (a : Nat) (c : Instr) : Prop :=
  s.regDenied a false = false →
    ∃ t, exec c s = .next t ∧ exec (.registerWrite (BitVec.ofNat 32 a) v) s = .next { t with bus := .done }

variable {s v}

theorem writeIsCommand.of_regWrite {a : Nat} {c : Instr} {t : State} (ha : a < 2 ^ 32) (h4 : a % 4 = 0) (hw : s.regWrite a v = t)
    (hc : exec c s = .next t) : writeIsCommand s v a c :=
  fun hd => ⟨t, hc, by rw [exec_registerWrite_at s v ha h4 hd, hw]⟩

/-- The same for a command of a block with a gate. -/
theorem writeIsCommand.of_gated {a b : Nat} {c : Instr} {k : State → State} (ha : a < 2 ^ 32) (h4 : a % 4 = 0)
    (hg : regGate a = some b) (hw : s.regWrite a v = k s) (hc : exec c s = .next (s.gated b k)) : writeIsCommand s v a c := by
  intro hd
  rw [gated_open s (gate_open_of_not_denied s hd hg)] at hc
  exact writeIsCommand.of_regWrite ha h4 hw hc hd

theorem regGate_ring {a : Nat} (ha : 0x40100000 ≤ a ∧ a < 0x40110000) : regGate a = some 46 := by
  have hp : a / 65536 = 0x4010 := by omega
  simp [regGate, hp]

theorem regGate_CAN_CTRL (k : Fin 4) : regGate (Reg.CAN_CTRL k) = some (40 + k.val) := by
  fin_cases k <;> rfl

theorem regGate_CAN_NBT (k : Fin 4) : regGate (Reg.CAN_NBT k) = some (40 + k.val) := by
  fin_cases k <;> rfl

theorem regGate_CAN_DBT (k : Fin 4) : regGate (Reg.CAN_DBT k) = some (40 + k.val) := by
  fin_cases k <;> rfl

theorem regGate_CAN_TDC (k : Fin 4) : regGate (Reg.CAN_TDC k) = some (40 + k.val) := by
  fin_cases k <;> rfl

/-- The gate of the controller that holds a message object's control, identifier or mask register, or its data. -/
theorem regGate_canObject {a k : Nat} (hk : k < 4) (ha : 0x40111000 ≤ a ∧ a < 0x40113000 ∧ a % 0x800 / 512 = k ∨
    0x40118000 + 8192 * k ≤ a ∧ a < 0x40118000 + 8192 * (k + 1)) : regGate a = some (40 + k) := by
  have hp : a / 65536 = 0x4011 := by omega
  have hc : canOfReg a = some k := by
    unfold canOfReg
    split
    · omega
    · split
      · rw [show a % 0x800 / 512 = k by omega]
      · rw [if_pos (by omega), show (a - 0x40118000) / 8192 = k by omega]
  simp [regGate, hp, hc]

/-! ### Numbered command registers -/

theorem writeIsCommand_GATE_CTRL (b : Fin 64) : writeIsCommand s v (Reg.GATE_CTRL b) (.gateRelease b v) :=
  writeIsCommand.of_regWrite (by unfold Reg.GATE_CTRL; omega) (by unfold Reg.GATE_CTRL; omega) (regWrite_GATE_CTRL s v b.isLt) rfl

theorem writeIsCommand_SUMP_SRC (n : Fin 256) : writeIsCommand s v (Reg.SUMP_SRC n) (.sumpForce n v) :=
  writeIsCommand.of_regWrite (by unfold Reg.SUMP_SRC; omega) (by unfold Reg.SUMP_SRC; omega) (regWrite_SUMP_SRC s v n.isLt) rfl

theorem writeIsCommand_DRIP_CTRL (d : Fin 64) : writeIsCommand s v (Reg.DRIP_CTRL d) (.dripArm d v) :=
  writeIsCommand.of_regWrite (by unfold Reg.DRIP_CTRL; omega) (by unfold Reg.DRIP_CTRL; omega) (regWrite_DRIP_CTRL s v d.isLt) rfl

theorem writeIsCommand_SEQ_TASK_CTRL (t : Fin 16) : writeIsCommand s v (Reg.SEQ_TASK_CTRL t) (.taskHoldReq t v) :=
  writeIsCommand.of_regWrite (by unfold Reg.SEQ_TASK_CTRL; omega) (by unfold Reg.SEQ_TASK_CTRL; omega) (regWrite_SEQ_TASK_CTRL s v t.isLt) rfl

theorem writeIsCommand_LS_DBG_CTRL (c : Fin 16) : writeIsCommand s v (Reg.LS_DBG_CTRL c) (.dbgHaltReq c v) :=
  writeIsCommand.of_regWrite (by unfold Reg.LS_DBG_CTRL; omega) (by unfold Reg.LS_DBG_CTRL; omega) (regWrite_LS_DBG_CTRL s v c.isLt) rfl

theorem writeIsCommand_ISL_CH_CFG (n : Fin 128) : writeIsCommand s v (Reg.ISL_CH_CFG n) (.islChCfgWrite n false v) :=
  writeIsCommand.of_regWrite (by unfold Reg.ISL_CH_CFG; omega) (by unfold Reg.ISL_CH_CFG; omega) (regWrite_ISL_CH_CFG s v n.isLt) rfl

theorem writeIsCommand_ISL_AN_CFG (n : Fin 128) : writeIsCommand s v (Reg.ISL_AN_CFG n) (.islChCfgWrite n true v) :=
  writeIsCommand.of_regWrite (by unfold Reg.ISL_AN_CFG; omega) (by unfold Reg.ISL_AN_CFG; omega) (regWrite_ISL_AN_CFG s v n.isLt) rfl

theorem writeIsCommand_RING_CFG (q : Fin 64) : writeIsCommand s v (Reg.RING_CFG q) (.ringCfgWrite q v) :=
  writeIsCommand.of_gated (by unfold Reg.RING_CFG; omega) (by unfold Reg.RING_CFG; omega)
    (regGate_ring (by unfold Reg.RING_CFG; omega)) (regWrite_RING_CFG s v q.isLt) rfl

theorem writeIsCommand_RING_PROD (q : Fin 64) : writeIsCommand s v (Reg.RING_PROD q) (.ringProdWrite q v) :=
  writeIsCommand.of_gated (by unfold Reg.RING_PROD; omega) (by unfold Reg.RING_PROD; omega)
    (regGate_ring (by unfold Reg.RING_PROD; omega)) (regWrite_RING_PROD s v q.isLt) rfl

theorem writeIsCommand_RING_CONS (q : Fin 64) : writeIsCommand s v (Reg.RING_CONS q) (.ringConsWrite q v) :=
  writeIsCommand.of_gated (by unfold Reg.RING_CONS; omega) (by unfold Reg.RING_CONS; omega)
    (regGate_ring (by unfold Reg.RING_CONS; omega)) (regWrite_RING_CONS s v q.isLt) rfl

theorem writeIsCommand_CAN_OBJ_CTRL (k : Fin 4) (m : Fin 128) : writeIsCommand s v (Reg.CAN_OBJ_CTRL k m) (.canObjWrite k m .ctrl v) :=
  writeIsCommand.of_gated (by unfold Reg.CAN_OBJ_CTRL; omega) (by unfold Reg.CAN_OBJ_CTRL; omega)
    (regGate_canObject k.isLt (by unfold Reg.CAN_OBJ_CTRL; omega)) (regWrite_CAN_OBJ_CTRL s v k.isLt m.isLt) rfl

theorem writeIsCommand_CAN_OBJ_ID (k : Fin 4) (m : Fin 128) : writeIsCommand s v (Reg.CAN_OBJ_ID k m) (.canObjWrite k m .id v) :=
  writeIsCommand.of_gated (by unfold Reg.CAN_OBJ_ID; omega) (by unfold Reg.CAN_OBJ_ID; omega)
    (regGate_canObject k.isLt (by unfold Reg.CAN_OBJ_ID; omega)) (regWrite_CAN_OBJ_ID s v k.isLt m.isLt) rfl

theorem writeIsCommand_CAN_OBJ_MASK (k : Fin 4) (m : Fin 128) : writeIsCommand s v (Reg.CAN_OBJ_MASK k m) (.canObjWrite k m .mask v) :=
  writeIsCommand.of_gated (by unfold Reg.CAN_OBJ_MASK; omega) (by unfold Reg.CAN_OBJ_MASK; omega)
    (regGate_canObject k.isLt (by unfold Reg.CAN_OBJ_MASK; omega)) (regWrite_CAN_OBJ_MASK s v k.isLt m.isLt) rfl

theorem writeIsCommand_CAN_OBJ_DATA (k : Fin 4) (m : Fin 128) (w : Fin 16) : writeIsCommand s v (Reg.CAN_OBJ_DATA k m w) (.canObjWrite k m (.data w) v) :=
  writeIsCommand.of_gated (by unfold Reg.CAN_OBJ_DATA; omega) (by unfold Reg.CAN_OBJ_DATA; omega)
    (regGate_canObject k.isLt (by unfold Reg.CAN_OBJ_DATA; omega)) (regWrite_CAN_OBJ_DATA s v k.isLt m.isLt w) rfl

theorem writeIsCommand_CAN_CTRL (k : Fin 4) : writeIsCommand s v (Reg.CAN_CTRL k) (.canTimingWrite k .ctrl v) :=
  writeIsCommand.of_gated (by unfold Reg.CAN_CTRL; omega) (by unfold Reg.CAN_CTRL; omega) (regGate_CAN_CTRL k) (regWrite_CAN_CTRL s v k) rfl

theorem writeIsCommand_CAN_NBT (k : Fin 4) : writeIsCommand s v (Reg.CAN_NBT k) (.canTimingWrite k .nbt v) :=
  writeIsCommand.of_gated (by unfold Reg.CAN_NBT; omega) (by unfold Reg.CAN_NBT; omega) (regGate_CAN_NBT k) (regWrite_CAN_NBT s v k) rfl

theorem writeIsCommand_CAN_DBT (k : Fin 4) : writeIsCommand s v (Reg.CAN_DBT k) (.canTimingWrite k .dbt v) :=
  writeIsCommand.of_gated (by unfold Reg.CAN_DBT; omega) (by unfold Reg.CAN_DBT; omega) (regGate_CAN_DBT k) (regWrite_CAN_DBT s v k) rfl

theorem writeIsCommand_CAN_TDC (k : Fin 4) : writeIsCommand s v (Reg.CAN_TDC k) (.canTimingWrite k .tdc v) :=
  writeIsCommand.of_gated (by unfold Reg.CAN_TDC; omega) (by unfold Reg.CAN_TDC; omega) (regGate_CAN_TDC k) (regWrite_CAN_TDC s v k) rfl

/-- A command register that stands alone in a block without a gate. -/
theorem writeIsCommand.of_eq {a : Nat} {c : Instr} (ha : a < 2 ^ 32) (h4 : a % 4 = 0) (hc : exec c s = .next (s.regWrite a v)) :
    writeIsCommand s v a c := writeIsCommand.of_regWrite ha h4 rfl hc

theorem registerWriteIsItsCommand : Claim.RegisterWriteIsItsCommand := by
  intro s v b d q n c m k w p hp
  change writeIsCommand s v p.1 p.2
  revert p
  simp only [List.forall_mem_cons]
  exact ⟨
    -- CLK_CTRL, RST_SW, WDT_CTRL, WDT_KICK, RST_CAUSE
    .of_eq (by decide) (by decide) rfl, .of_eq (by decide) (by decide) rfl, .of_eq (by decide) (by decide) rfl,
    .of_eq (by decide) (by decide) rfl, .of_eq (by decide) (by decide) rfl,
    writeIsCommand_GATE_CTRL b,
    -- PWR_HIB_CMD
    .of_eq (by decide) (by decide) rfl,
    writeIsCommand_SUMP_SRC n,
    -- FLS_CTRL, FLS_SEEK, FLS_WCMD, SEC_LC_CMD, SEC_PROV, SEC_REVOKE, TIME_CMD
    .of_eq (by decide) (by decide) rfl, .of_eq (by decide) (by decide) rfl, .of_eq (by decide) (by decide) rfl,
    .of_eq (by decide) (by decide) rfl, .of_eq (by decide) (by decide) rfl, .of_eq (by decide) (by decide) rfl,
    .of_eq (by decide) (by decide) rfl,
    writeIsCommand_DRIP_CTRL d,
    -- GAL_CTRL, OLC_CTRL, FRC_CMD
    .of_eq (by decide) (by decide) rfl, .of_eq (by decide) (by decide) rfl, .of_eq (by decide) (by decide) rfl,
    writeIsCommand_SEQ_TASK_CTRL c,
    -- LS_INJECT
    .of_eq (by decide) (by decide) rfl,
    writeIsCommand_LS_DBG_CTRL c,
    -- PAIR_CTRL behind gate 45
    .of_gated (by decide) (by decide) rfl rfl rfl,
    -- ISL_CAL_CMD
    .of_eq (by decide) (by decide) rfl,
    writeIsCommand_ISL_CH_CFG m, writeIsCommand_ISL_AN_CFG m,
    writeIsCommand_RING_CFG q, writeIsCommand_RING_PROD q, writeIsCommand_RING_CONS q,
    -- UPD_CMD, UPD_HEALTH, UPD_ISL_CMD behind gate 48, TP_CMD behind gate 49
    .of_gated (by decide) (by decide) rfl rfl rfl, .of_gated (by decide) (by decide) rfl rfl rfl,
    .of_gated (by decide) (by decide) rfl rfl rfl, .of_gated (by decide) (by decide) rfl rfl rfl,
    writeIsCommand_CAN_CTRL k, writeIsCommand_CAN_NBT k, writeIsCommand_CAN_DBT k, writeIsCommand_CAN_TDC k,
    writeIsCommand_CAN_OBJ_CTRL k m, writeIsCommand_CAN_OBJ_ID k m, writeIsCommand_CAN_OBJ_MASK k m,
    writeIsCommand_CAN_OBJ_DATA k m w, by simp⟩

end Sys2Proof.Machine
end

section
/-! The obligations about a step and about register accesses. -/
open Sys2Proof Sys2Proof.Machine

/-- Settles O1: the step's case of a queue that is not empty. -/
theorem stepRunsFrontCommand : Obligations.StepRunsFrontCommand := by
  intro s c rest h
  simp only [step, h]

/-- Settles O5: both accesses are refused before a register is looked at. -/
theorem registerAccessWidth : Obligations.RegisterAccessWidth :=
  fun s _ _ _ v => ⟨rfl, fun h => exec_registerWrite_refused s v (Or.inl h)⟩

/-- Settles O9: writes by access type, writes that are ignored or refused, writes that are commands, clamped fields. -/
theorem registerWrites : Obligations.RegisterWrites :=
  ⟨registerWriteByAccessType, registerWriteReservedOrDenied, registerWriteIsItsCommand, clampedFieldsStoreClampedValue⟩

end

section
/-! SUPPORT. The queue of commands (log entry 3): no operation of the module writes it, one lemma per operation in the order of the model's
files. Of an operation that answers a value beside the state, or perhaps no state, the lemma speaks of the state it answers. Where a proof by
computation would have the kernel compare register files, `simp -implicitDefEqProofs` has it check the cited lemmas alone. -/
namespace Sys2Proof.Machine

/-- The command is answered with a next state, whose queue is that of `s`. -/
def keepsQueue (s : State) (o : Host.Outcome State Fault Refusal) : Prop := ∃ t, o = .next t ∧ t.pending = s.pending

variable (s : State)

@[simp] theorem keepsQueue_done (t : State) : keepsQueue s (done t) ↔ t.pending = s.pending := by simp [keepsQueue, done]

@[simp] theorem State.foldl_pending {α : Type} {f : State → α → State} (h : ∀ u x, (f u x).pending = u.pending) (l : List α) (s : State) :
    (l.foldl f s).pending = s.pending := by
  induction l generalizing s with
  | nil => rfl
  | cons x l ih => rw [List.foldl_cons, ih, h]

theorem State.foldl_fst_pending {α β : Type} {f : State × β → α → State × β} (h : ∀ p x, (f p x).1.pending = p.1.pending) (l : List α)
    (p : State × β) : (l.foldl f p).1.pending = p.1.pending := by
  induction l generalizing p with
  | nil => rfl
  | cons x l ih => rw [List.foldl_cons, ih, h]

theorem State.foldl_snd_pending {α β : Type} {f : β × State → α → β × State} (h : ∀ p x, (f p x).2.pending = p.2.pending) (l : List α)
    (p : β × State) : (l.foldl f p).2.pending = p.2.pending := by
  induction l generalizing p with
  | nil => rfl
  | cons x l ih => rw [List.foldl_cons, ih, h]

theorem State.getD_pending {o : Option State} (h : ∀ t, o = some t → t.pending = s.pending) : (o.getD s).pending = s.pending := by
  cases o with
  | none => rfl
  | some t => exact h t rfl

/-! ### Fields, records, the Sump, modes, failover -/

@[simp] theorem State.freeBytes_pending (n : Nat) : (State.freeBytes n s).2.pending = s.pending := by
  induction n generalizing s with
  | zero => rfl
  | succ n ih => simp [State.freeBytes, ih]

@[simp] theorem State.setRole_pending (r : Role) : (s.setRole r).pending = s.pending := by
  unfold State.setRole
  dsimp only
  (repeat' split) <;> simp

@[simp] theorem State.setLl_pending (l : LLState) : (s.setLl l).pending = s.pending := by simp [State.setLl]
@[simp] theorem State.emitOn_pending (lane : Nat) (f : LLFrame) : (s.emitOn lane f).pending = s.pending := rfl
@[simp] theorem State.emitBoth_pending (f : LLFrame) : (s.emitBoth f).pending = s.pending := rfl

@[simp] theorem State.flsWrite_pending (k : Nat) (bs : List Byte) : (s.flsWrite k bs).pending = s.pending :=
  (reported_flsWrite s k bs).pending

@[simp] theorem State.flsAdd_pending (e : FlsEntry) : (s.flsAdd e).1.pending = s.pending :=
  (reported_flsAdd s e).pending

@[simp] theorem State.flsQueueRecord_pending (type key : Nat) (body : List Byte) (forced : Bool) : (s.flsQueueRecord type key body forced).1.pending = s.pending :=
  (reported_flsQueueRecord s type key body forced).pending

@[simp] theorem State.gateRequest_pending (b : Nat) : (s.gateRequest b).pending = s.pending :=
  (reported_gateRequest s b).pending

@[simp] theorem State.gateRequestOuter_pending (b : Nat) : (s.gateRequestOuter b).pending = s.pending :=
  (reported_gateRequestOuter s b).pending

@[simp] theorem State.sumpFlag_pending (src inst sub : Nat) (forced : Bool) : (s.sumpFlag src inst sub forced).pending = s.pending :=
  (reported_sumpFlag s src inst sub forced).pending

@[simp] theorem State.sumpModule_pending (src : Nat) : (s.sumpModule src).pending = s.pending :=
  (reported_sumpModule s src).pending

@[simp] theorem State.sumpReact_pending (src inst : Nat) : (s.sumpReact src inst).pending = s.pending :=
  (reported_sumpReact s src inst).pending

@[simp] theorem State.sumpForget_pending (src : Nat) : (s.sumpForget src).pending = s.pending := rfl

@[simp] theorem State.sumpMerge_pending (src inst sub : Nat) (forced : Bool) : (s.sumpMerge src inst sub forced).pending = s.pending :=
  (reported_sumpMerge s src inst sub forced).pending

@[simp] theorem State.sumpNote_pending (src inst sub : Nat) (forced : Bool) : (s.sumpNote src inst sub forced).pending = s.pending :=
  (reported_sumpNote s src inst sub forced).pending

@[simp] theorem State.sumpRecord_pending (src : Nat) (forced : Bool) : (s.sumpRecord src forced).1.pending = s.pending :=
  (reported_sumpRecord s src forced).pending

@[simp] theorem State.sumpOccur_pending (src inst sub : Nat) (forced : Bool) : (s.sumpOccur src inst sub forced).pending = s.pending :=
  (reported_sumpOccur s src inst sub forced).pending

@[simp] theorem State.record_pending (type key : Nat) (items : List (Nat × Nat)) : (s.record type key items).pending = s.pending :=
  (reported_record s type key items).pending

@[simp] theorem State.requestMode_pending (target : Mode) (rank : Nat) (effective : Option (BitVec 32)) :
    (s.requestMode target rank effective).pending = s.pending := by
  unfold State.requestMode
  (repeat' split) <;> simp

@[simp] theorem State.requestHold_pending : s.requestHold.pending = s.pending := by
  unfold State.requestHold
  split <;> simp

@[simp] theorem State.freeByte_pending : s.freeByte.2.pending = s.pending := by simp [State.freeByte]

@[simp] theorem State.sumpRise_pending (src inst sub : Nat) : (s.sumpRise src inst sub).pending = s.pending :=
  (reported_sumpRise s src inst sub).pending

@[simp] theorem State.sumpFall_pending (src inst sub : Nat) : (s.sumpFall src inst sub).pending = s.pending := by simp [State.sumpFall]
@[simp] theorem State.squeezeRequest_pending : s.squeezeRequest.pending = s.pending := rfl

@[simp] theorem State.tpRestore_pending (k : Nat) : (s.tpRestore k).pending = s.pending := by
  unfold State.tpRestore
  dsimp only
  (repeat' split) <;> simp

@[simp] theorem State.tpStopKind_pending (k : Nat) : (s.tpStopKind k).pending = s.pending := by
  unfold State.tpStopKind
  split <;> simp

@[simp] theorem State.tpStopKinds_pending (ks : List Nat) : (s.tpStopKinds ks).pending = s.pending := by simp [State.tpStopKinds]

@[simp] theorem State.tpCheck_pending : s.tpCheck.pending = s.pending := by
  unfold State.tpCheck
  split <;> simp

@[simp] theorem State.yieldModule_pending : s.yieldModule.pending = s.pending := by
  unfold State.yieldModule
  split <;> simp

@[simp] theorem State.becomeSolo_pending : s.becomeSolo.pending = s.pending := by
  unfold State.becomeSolo
  split <;> simp

@[simp] theorem State.olcAbort_pending (reason : Nat) : (s.olcAbort reason).pending = s.pending := by
  unfold State.olcAbort
  dsimp only
  split <;> simp

@[simp] theorem State.olcUnanswered_pending : s.olcUnanswered.pending = s.pending := by
  unfold State.olcUnanswered
  split <;> simp

@[simp] theorem State.leaveSynced_pending : s.leaveSynced.pending = s.pending := by
  unfold State.leaveSynced
  split <;> simp

@[simp] theorem State.failover_pending (src : Nat) : (s.failover src).pending = s.pending := by simp [State.failover]

@[simp] theorem State.sumpFixed_pending (src : Nat) : (s.sumpFixed src).pending = s.pending := by
  unfold State.sumpFixed
  (repeat' split) <;> simp

@[simp] theorem State.sumpOccurFixed_pending (src inst sub : Nat) (forced : Bool) :
    (s.sumpOccurFixed src inst sub forced).pending = s.pending := by
  unfold State.sumpOccurFixed
  split <;> simp

@[simp] theorem State.raise_pending (src inst sub : Nat) : (s.raise src inst sub).pending = s.pending := by
  unfold State.raise
  split <;> simp

@[simp] theorem State.rise_pending (src inst sub : Nat) : (s.rise src inst sub).pending = s.pending := by
  unfold State.rise
  (repeat' split) <;> simp

@[simp] theorem State.fall_pending (src inst sub : Nat) : (s.fall src inst sub).pending = s.pending :=
  (reported_fall s src inst sub).pending

/-! ### Operand forms -/

@[simp] theorem State.regStore_pending (a : Nat) (v : BitVec 32) : (s.regStore a v).pending = s.pending := by
  unfold State.regStore
  split <;> simp

@[simp] theorem State.actions_pending (acts : List RegField) (refused : Option RegField) (v : BitVec 32) (k : State → State)
    (hk : ∀ s, (k s).pending = s.pending) :
    (s.actions acts refused v k).pending = s.pending := by
  unfold State.actions
  (repeat' split) <;> simp [hk]

@[simp] theorem State.gated_pending (b : Nat) (k : State → State) (hk : ∀ s, (k s).pending = s.pending) :
    (s.gated b k).pending = s.pending := by
  unfold State.gated
  split <;> simp [hk]

/-! ### Test perturbation -/

@[simp] theorem State.tpRecords_pending (ks : List Nat) : (s.tpRecords ks).1.pending = s.pending := by
  induction ks generalizing s with
  | nil => rfl
  | cons k ks ih =>
    unfold State.tpRecords
    dsimp only
    split <;> simp [ih]

@[simp] theorem State.tpRefuse_pending (reason : Nat) (v : Word) : (s.tpRefuse reason v).pending = s.pending := by simp [State.tpRefuse]

@[simp] theorem State.tpAccept_pending (ks : List Nat) (v : Word) : (s.tpAccept ks v).pending = s.pending := by
  unfold State.tpAccept
  dsimp only
  split <;> simp

@[simp] theorem State.tpStart_pending (v : Word) : (s.tpStart v).pending = s.pending := by
  unfold State.tpStart
  dsimp only
  (repeat' split) <;> simp

@[simp] theorem State.tpCmdWrite_pending (v : Word) : (s.tpCmdWrite v).pending = s.pending := by
  unfold State.tpCmdWrite
  (repeat' split) <;> simp

@[simp] theorem execTpStart_keepsQueue (v : Word) : keepsQueue s (execTpStart v s) := by simp [execTpStart]
@[simp] theorem execTpStop_keepsQueue (v : Word) : keepsQueue s (execTpStop v s) := by simp [execTpStop]

@[simp] theorem State.tpEffect_pending (k : Nat) : (s.tpEffect k).pending = s.pending := by
  unfold State.tpEffect
  (repeat' split) <;> simp

@[simp] theorem execTpKindEffect_keepsQueue (kind : Fin 6) : keepsQueue s (execTpKindEffect kind s) := by simp [execTpKindEffect]

@[simp] theorem execTpDurationExpiry_keepsQueue : keepsQueue s (execTpDurationExpiry s) := by
  unfold execTpDurationExpiry
  split <;> simp

@[simp] theorem State.tpAffect_pending (k : Nat) : (s.tpAffect k).pending = s.pending := by
  unfold State.tpAffect
  dsimp only
  (repeat' split) <;> simp

@[simp] theorem State.tpSpoil_pending (k u dir : Nat) : (s.tpSpoil k u dir).2.pending = s.pending := by
  unfold State.tpSpoil
  dsimp only
  (repeat' split) <;> simp

@[simp] theorem State.tpJitter_pending (d : Nat) : (s.tpJitter d).2.pending = s.pending := by
  unfold State.tpJitter
  dsimp only
  (repeat' split) <;> simp

/-! ### Module-level reset and clocks -/

@[simp] theorem State.afterReset_pending (por : Bool) : (s.afterReset por).pending = s.pending := rfl
@[simp] theorem State.losePower_pending : s.losePower.pending = s.pending := by simp [State.losePower]

@[simp] theorem State.resetTie_pending (n : Nat) : (s.resetTie n).pending = s.pending := by
  unfold State.resetTie
  split <;> simp

@[simp] theorem State.resetDisplaces_pending : s.resetDisplaces.pending = s.pending := by
  unfold State.resetDisplaces
  (repeat' split) <;> simp

@[simp] theorem State.assertReset_pending (src : ResetSource) (detail : List (RegField × Nat)) :
    (s.assertReset src detail).pending = s.pending := by
  unfold State.assertReset
  dsimp only
  (repeat' split) <;> simp

@[simp] theorem State.releaseSource_pending (src : ResetSource) : (s.releaseSource src).pending = s.pending := rfl
@[simp] theorem State.softReset_pending : s.softReset.pending = s.pending := by simp [State.softReset]
@[simp] theorem execPorAssert_keepsQueue : keepsQueue s (execPorAssert s) := by simp [execPorAssert]

@[simp] theorem execPorRelease_keepsQueue : keepsQueue s (execPorRelease s) := by
  unfold execPorRelease
  split <;> simp

@[simp] theorem execBorRelease_keepsQueue : keepsQueue s (execBorRelease s) := by simp [execBorRelease]
@[simp] theorem execPinAccept_keepsQueue : keepsQueue s (execPinAccept s) := by simp [execPinAccept]
@[simp] theorem execPinRelease_keepsQueue : keepsQueue s (execPinRelease s) := by simp [execPinRelease]

@[simp] theorem execWatchdogExpiry_keepsQueue : keepsQueue s (execWatchdogExpiry s) := by
  unfold execWatchdogExpiry
  split <;> simp

@[simp] theorem State.wdtRestart_pending : s.wdtRestart.pending = s.pending := by
  unfold State.wdtRestart
  dsimp only
  split <;> simp

@[simp] theorem State.kick_pending (code : Nat) : (s.kick code).pending = s.pending := by
  unfold State.kick
  (repeat' split) <;> simp

@[simp] theorem execWdtKick_keepsQueue (v : Word) : keepsQueue s (execWdtKick v s) := by simp [execWdtKick]

@[simp] theorem execKickArmTimeout_keepsQueue : keepsQueue s (execKickArmTimeout s) := by
  unfold execKickArmTimeout
  split <;> simp

@[simp] theorem State.wdtCtrlWrite_pending (v : Word) : (s.wdtCtrlWrite v).pending = s.pending := by
  unfold State.wdtCtrlWrite
  dsimp only
  (repeat' split) <;> simp

@[simp] theorem execWdtCtrlWrite_keepsQueue (v : Word) : keepsQueue s (execWdtCtrlWrite v s) := by simp [execWdtCtrlWrite]

@[simp] theorem State.rstSwWrite_pending (v : Word) : (s.rstSwWrite v).pending = s.pending := by
  unfold State.rstSwWrite
  (repeat' split) <;> simp

@[simp] theorem execRstSwReq_keepsQueue (v : Word) : keepsQueue s (execRstSwReq v s) := by simp [execRstSwReq]

@[simp] theorem execResetPulseEnd_keepsQueue (src : ResetSource) : keepsQueue s (execResetPulseEnd src s) := by
  unfold execResetPulseEnd
  split <;> simp

@[simp] theorem execDbgResetRequest_keepsQueue : keepsQueue s (execDbgResetRequest s) := by
  unfold execDbgResetRequest
  split <;> simp

@[simp] theorem execDbgResetRelease_keepsQueue : keepsQueue s (execDbgResetRelease s) := by simp [execDbgResetRelease]
@[simp] theorem execClkfRelease_keepsQueue : keepsQueue s (execClkfRelease s) := by simp [execClkfRelease]
@[simp] theorem execLockup_keepsQueue (pair kind : Fin 2) : keepsQueue s (execLockup pair kind s) := by simp [execLockup]
@[simp] theorem execRstCauseClear_keepsQueue (v : Word) : keepsQueue s (execRstCauseClear v s) := by simp [execRstCauseClear]
@[simp] theorem State.moveRef_pending (r : Nat) : (s.moveRef r).pending = s.pending := by simp [State.moveRef]

@[simp] theorem State.takeRef_pending : s.takeRef.pending = s.pending := by
  unfold State.takeRef
  dsimp only
  split <;> simp

@[simp] theorem execStrappedRefTaken_keepsQueue : keepsQueue s (execStrappedRefTaken s) := by
  unfold execStrappedRefTaken
  dsimp only
  split <;> simp

@[simp] theorem execRefSwitchDone_keepsQueue : keepsQueue s (execRefSwitchDone s) := by
  unfold execRefSwitchDone
  split <;> simp

@[simp] theorem State.refLost_pending : s.refLost.pending = s.pending := by
  unfold State.refLost
  dsimp only
  split <;> simp

@[simp] theorem execClkRefLost_keepsQueue : keepsQueue s (execClkRefLost s) := by simp [execClkRefLost]

@[simp] theorem State.clkCtrlWrite_pending (v : Word) : (s.clkCtrlWrite v).pending = s.pending := by
  unfold State.clkCtrlWrite
  dsimp only
  (repeat' split) <;> simp

@[simp] theorem execRefRestore_keepsQueue (v : Word) : keepsQueue s (execRefRestore v s) := by simp [execRefRestore]

@[simp] theorem execClkMonWindow_keepsQueue (x : Fin 6) (count : Nat) : keepsQueue s (execClkMonWindow x count s) := by
  unfold execClkMonWindow
  dsimp only
  (repeat' split) <;> simp

@[simp] theorem execPllLockLoss_keepsQueue : keepsQueue s (execPllLockLoss s) := by simp [execPllLockLoss]

@[simp] theorem execOwnOscCheck_keepsQueue (count : Nat) : keepsQueue s (execOwnOscCheck count s) := by
  unfold execOwnOscCheck
  split <;> simp

/-! ### Commands of the Sump and Flowstone -/

@[simp] theorem execSumpOccurrence_keepsQueue (n : Fin 256) (inst sub : BitVec 8) : keepsQueue s (execSumpOccurrence n inst sub s) := by
  unfold execSumpOccurrence
  split <;> simp

@[simp] theorem State.sumpForce_pending (n : Nat) : (s.sumpForce n).pending = s.pending := by
  unfold State.sumpForce
  dsimp only
  (repeat' split) <;> simp

@[simp] theorem State.sumpSrcWrite_pending (n : Nat) (v : Word) : (s.sumpSrcWrite n v).pending = s.pending := by
  unfold State.sumpSrcWrite
  (repeat' split) <;> simp

@[simp] theorem execSumpForce_keepsQueue (n : Fin 256) (v : Word) : keepsQueue s (execSumpForce n v s) := by simp [execSumpForce]

@[simp] theorem execSumpFlagClear_keepsQueue (n : Fin 256) (v : Word) : keepsQueue s (execSumpFlagClear n v s) := by
  simp [execSumpFlagClear]

@[simp] theorem execSumpModuleReset_keepsQueue : keepsQueue s (execSumpModuleReset s) := by
  unfold execSumpModuleReset
  (repeat' split) <;> simp

@[simp] theorem State.setHead_pending (seq off : Nat) : (s.setHead seq off).pending = s.pending := by simp [State.setHead]
@[simp] theorem State.setTail_pending (seq off : Nat) : (s.setTail seq off).pending = s.pending := by simp [State.setTail]

@[simp] theorem State.freeSpan_pending (n lo hi : Nat) : (State.freeSpan n s lo hi).pending = s.pending := by
  induction n generalizing s with
  | zero => rfl
  | succ n ih =>
    unfold State.freeSpan
    split <;> simp [ih]

@[simp] theorem State.writeRecord_pending (r : FlsRecord) : (s.writeRecord r).pending = s.pending := by
  unfold State.writeRecord
  dsimp only
  (repeat' split) <;> simp

@[simp] theorem State.flsTellLost_pending : s.flsTellLost.pending = s.pending := by
  unfold State.flsTellLost
  split <;> simp

@[simp] theorem State.flsHostRecord_pending : s.flsHostRecord.pending = s.pending := by simp [State.flsHostRecord]
@[simp] theorem State.flsHeadUe_pending : s.flsHeadUe.pending = s.pending := by simp [State.flsHeadUe]

@[simp] theorem State.flsDrainOne_pending : s.flsDrainOne.pending = s.pending := by
  unfold State.flsDrainOne
  dsimp only
  (repeat' split) <;> simp

@[simp] theorem execFlsRecordWrite_keepsQueue (errors : List Nat) : keepsQueue s (execFlsRecordWrite errors s) := by
  unfold execFlsRecordWrite
  split <;> simp

@[simp] theorem State.flsDrain_pending : s.flsDrain.pending = s.pending := by simp [State.flsDrain]

@[simp] theorem State.flsGo_pending (v : Word) : (s.flsGo v).pending = s.pending := by
  unfold State.flsGo
  dsimp only
  (repeat' split) <;> simp

@[simp] theorem execFlsWriteGo_keepsQueue (v : Word) : keepsQueue s (execFlsWriteGo v s) := by simp [execFlsWriteGo]

@[simp] theorem State.flsCtrlWrite_pending (v : Word) : (s.flsCtrlWrite v).pending = s.pending := by
  unfold State.flsCtrlWrite
  dsimp only
  (repeat' split) <;> simp

@[simp] theorem execFlsErase_keepsQueue (v : Word) : keepsQueue s (execFlsErase v s) := by simp [execFlsErase]
@[simp] theorem State.flsSeekWrite_pending (v : Word) : (s.flsSeekWrite v).pending = s.pending := rfl
@[simp] theorem execFlsSeek_keepsQueue (v : Word) : keepsQueue s (execFlsSeek v s) := by simp [execFlsSeek]

@[simp] theorem execFlsSeekDone_keepsQueue : keepsQueue s (execFlsSeekDone s) := by
  unfold execFlsSeekDone
  dsimp only
  (repeat' split) <;> simp

@[simp] theorem State.optimeCopyNow_pending : s.optimeCopyNow.pending = s.pending := rfl

@[simp] theorem execOptimeCopy_keepsQueue : keepsQueue s (execOptimeCopy s) := by
  unfold execOptimeCopy
  split <;> simp

/-! ### The time base -/

@[simp] theorem State.dripLate_pending (d : Nat) : (s.dripLate d).pending = s.pending := by simp [State.dripLate]

@[simp] theorem State.dripFires_pending (d : Nat) : (s.dripFires d).pending = s.pending := by
  unfold State.dripFires
  dsimp only
  (repeat' split) <;> simp

@[simp] theorem execDripFire_keepsQueue (d : Fin 64) : keepsQueue s (execDripFire d s) := by
  unfold execDripFire
  split <;> simp

@[simp] theorem State.dripSet_pending (d : Nat) (target period : BitVec 40) : (s.dripSet d target period).pending = s.pending := by
  simp [State.dripSet, apply_ite State.pending]

@[simp] theorem State.dripStop_pending (d : Nat) : (s.dripStop d).pending = s.pending := by simp [State.dripStop]

@[simp] theorem State.dripCtrlWrite_pending (d : Nat) (v : Word) : (s.dripCtrlWrite d v).pending = s.pending := by
  simp [State.dripCtrlWrite, apply_ite State.pending]

@[simp] theorem execDripArm_keepsQueue (d : Fin 64) (v : Word) : keepsQueue s (execDripArm d v s) := by simp [execDripArm]
@[simp] theorem execDripDisarm_keepsQueue (d : Fin 64) (v : Word) : keepsQueue s (execDripDisarm d v s) := by simp [execDripDisarm]

@[simp] theorem State.dripsAfterStep_pending : s.dripsAfterStep.pending = s.pending := by
  simp [State.dripsAfterStep, apply_ite State.pending]

@[simp] theorem State.stepTime_pending (ofs : Int) : (s.stepTime ofs).pending = s.pending := by simp [State.stepTime]

@[simp] theorem State.timeState_pending (st : Nat) : (s.timeState st).pending = s.pending := by
  unfold State.timeState
  dsimp only
  (repeat' split) <;> simp

@[simp] theorem State.slewBy_pending (ofs : Int) : (s.slewBy ofs).pending = s.pending := rfl
@[simp] theorem State.clearPending_pending : s.clearPending.pending = s.pending := by simp [State.clearPending]
@[simp] theorem State.refuseJump_pending (ofs : Int) : (s.refuseJump ofs).pending = s.pending := by simp [State.refuseJump]

@[simp] theorem State.submission_pending (ofs : Int) (src : Nat) : (s.submission ofs src).pending = s.pending := by
  unfold State.submission
  (repeat' split) <;> simp

@[simp] theorem State.acceptStep_pending : s.acceptStep.pending = s.pending := by
  unfold State.acceptStep
  dsimp only
  (repeat' split) <;> simp

@[simp] theorem State.timeCmdWrite_pending (v : Word) : (s.timeCmdWrite v).pending = s.pending := by
  simp -implicitDefEqProofs [State.timeCmdWrite, apply_ite State.pending]

@[simp] theorem execSubmit_keepsQueue (v : Word) : keepsQueue s (execSubmit v s) := by simp [execSubmit]
@[simp] theorem execAcceptStep_keepsQueue (v : Word) : keepsQueue s (execAcceptStep v s) := by simp [execAcceptStep]
@[simp] theorem execAcceptSlew_keepsQueue (v : Word) : keepsQueue s (execAcceptSlew v s) := by simp [execAcceptSlew]
@[simp] theorem execTimeDiscard_keepsQueue (v : Word) : keepsQueue s (execTimeDiscard v s) := by simp [execTimeDiscard]

@[simp] theorem execTimeStepInstant_keepsQueue : keepsQueue s (execTimeStepInstant s) := by
  unfold execTimeStepInstant
  dsimp only
  (repeat' split) <;> simp

@[simp] theorem execTimeHoldover_keepsQueue : keepsQueue s (execTimeHoldover s) := by
  unfold execTimeHoldover
  split <;> simp

@[simp] theorem execPtpLanChange_keepsQueue : keepsQueue s (execPtpLanChange s) := by
  unfold execPtpLanChange
  (repeat' split) <;> simp

@[simp] theorem execCaptureEdge_keepsQueue (k : Fin 16) (level : Bool) : keepsQueue s (execCaptureEdge k level s) := by
  unfold execCaptureEdge
  dsimp only
  (repeat' split) <;> simp -implicitDefEqProofs

/-! ### Updates -/

@[simp] theorem State.setFwSlot_pending (x : Nat) (f : FwSlot) : (s.setFwSlot x f).pending = s.pending := rfl

@[simp] theorem State.flashRead_pending (ue : Bool) : (s.flashRead ue).pending = s.pending := by
  unfold State.flashRead
  split <;> simp

@[simp] theorem State.updDone_pending : s.updDone.pending = s.pending := by simp [State.updDone]
@[simp] theorem State.updRefuse_pending (code : Nat) : (s.updRefuse code).pending = s.pending := by simp [State.updRefuse]
@[simp] theorem State.stagingEmpty_pending : s.stagingEmpty.pending = s.pending := rfl

@[simp] theorem State.capsuleRefused_pending (c : Capsule) (code : Nat) : (s.capsuleRefused c code).pending = s.pending := by
  simp [State.capsuleRefused, apply_ite State.pending]

@[simp] theorem State.writeSlot_pending (x : Nat) (c : Capsule) : (s.writeSlot x c).pending = s.pending := by simp [State.writeSlot]

@[simp] theorem State.capsuleVerified_pending (c : Capsule) : (s.capsuleVerified c).pending = s.pending := by
  unfold State.capsuleVerified
  dsimp only
  (repeat' split) <;> simp

@[simp] theorem execCapsuleVerified_keepsQueue (c : Capsule) : keepsQueue s (execCapsuleVerified c s) := by simp [execCapsuleVerified]

@[simp] theorem State.installStaged_pending (m : ResetSample) : (s.installStaged m).pending = s.pending := by
  unfold State.installStaged
  dsimp only
  (repeat' split) <;> simp

@[simp] theorem State.fallbackSlot_pending (x : Nat) : (s.fallbackSlot x).pending = s.pending := by simp [State.fallbackSlot]
@[simp] theorem State.retireSpent_pending : s.retireSpent.pending = s.pending := by simp [State.retireSpent, apply_ite State.pending]

@[simp] theorem State.showRunning_pending (images : List ComponentImage) : (s.showRunning images).pending = s.pending := by
  simp [State.showRunning, apply_ite State.pending]

@[simp] theorem State.healthOpen_pending : s.healthOpen.pending = s.pending := by
  unfold State.healthOpen
  split <;> simp

@[simp] theorem State.advanceCounter_pending (component secver : Nat) : (s.advanceCounter component secver).pending = s.pending := by
  unfold State.advanceCounter
  split <;> simp

@[simp] theorem State.healthConfirm_pending : s.healthConfirm.pending = s.pending := by
  unfold State.healthConfirm
  (repeat' split) <;> simp

@[simp] theorem State.updHealthWrite_pending (v : Word) : (s.updHealthWrite v).pending = s.pending := by
  unfold State.updHealthWrite
  split <;> simp

@[simp] theorem execHealthConfirm_keepsQueue (v : Word) : keepsQueue s (execHealthConfirm v s) := by simp [execHealthConfirm]
@[simp] theorem State.oweFallback_pending (x : Nat) : (s.oweFallback x).pending = s.pending := rfl

@[simp] theorem State.healthExpiry_pending : s.healthExpiry.pending = s.pending := by
  unfold State.healthExpiry
  dsimp only
  split <;> simp

@[simp] theorem execHealthWindowExpiry_keepsQueue : keepsQueue s (execHealthWindowExpiry s) := by
  unfold execHealthWindowExpiry
  split <;> simp

@[simp] theorem execFallbackReset_keepsQueue : keepsQueue s (execFallbackReset s) := by
  unfold execFallbackReset
  split <;> simp

@[simp] theorem State.recoveryWrite_pending (c : Capsule) : (s.recoveryWrite c).pending = s.pending := by
  unfold State.recoveryWrite
  dsimp only
  (repeat' split) <;> simp

@[simp] theorem execRecoveryTftpWrite_keepsQueue (c : Capsule) : keepsQueue s (execRecoveryTftpWrite c s) := by simp [execRecoveryTftpWrite]

/-! ### Chambers and tasks -/

@[simp] theorem State.setChState_pending (c st : Nat) : (s.setChState c st).pending = s.pending := by simp [State.setChState]
@[simp] theorem State.setInstWord_pending (a o : Nat) (w : DWord) : (s.setInstWord a o w).pending = s.pending := rfl

/-! ### Lanes -/

@[simp] theorem State.laneDone_pending (c : Nat) (w : Lane) (l : LaneState) : (s.laneDone c w l).pending = s.pending := by
  unfold State.laneDone
  split <;> simp

@[simp] theorem State.laneIssue_pending (c : Nat) (w : Lane) (op : LaneOp) : (s.laneIssue c w op).pending = s.pending := by
  unfold State.laneIssue
  dsimp only
  (repeat' split) <;> simp

@[simp] theorem State.laneOp_pending (c : Nat) (w : Lane) (op : LaneOp) : (s.laneOp c w op).pending = s.pending := by
  unfold State.laneOp
  split <;> simp

@[simp] theorem State.laneIllegal_pending (c : Nat) (w : Lane) (word : Word) : (s.laneIllegal c w word).pending = s.pending := by
  unfold State.laneIllegal
  dsimp only
  (repeat' split) <;> simp

/-! ### Guard units -/

@[simp] theorem State.guardPartCode_pending (part : Nat) : (s.guardPartCode part).2.pending = s.pending := by
  unfold State.guardPartCode
  split <;> simp

@[simp] theorem State.guardNote_pending (u : Nat) (a : Access) (f : GuardFinding) : (s.guardNote u a f).pending = s.pending := by
  unfold State.guardNote
  split <;> simp

@[simp] theorem State.guardFault_pending (u : Nat) (a : Access) (f : GuardFinding) : (s.guardFault u a f).pending = s.pending := by
  simp [State.guardFault]

@[simp] theorem State.unmappedAccess_pending (a : Access) : (s.unmappedAccess a).pending = s.pending := by
  unfold State.unmappedAccess
  split <;> simp

@[simp] theorem State.route_pending (a : Access) : (s.route a).2.pending = s.pending := by
  unfold State.route
  (repeat' split) <;> simp

@[simp] theorem State.guardIgnored_pending (r : GuardRule) : (s.guardIgnored r).pending = s.pending := by
  cases r <;> simp [State.guardIgnored]

@[simp] theorem State.guardTake_pending (r : GuardRule) (a : Nat) (v : Word) : (s.guardTake r a v).pending = s.pending := by
  unfold State.guardTake
  split <;> simp

@[simp] theorem State.guardRuleWrite_pending (r : GuardRule) (a : Nat) (v : Word) (outstanding : Nat) :
    (s.guardRuleWrite r a v outstanding).pending = s.pending := by
  unfold State.guardRuleWrite
  (repeat' split) <;> simp

@[simp] theorem execGuardRuleWrite_keepsQueue (addr v : Word) (outstanding : Nat) :
    keepsQueue s (execGuardRuleWrite addr v outstanding s) := by
  unfold execGuardRuleWrite
  split <;> simp

@[simp] theorem State.guardDrained_pending (u : Nat) : (s.guardDrained u).pending = s.pending := by
  unfold State.guardDrained
  (repeat' split) <;> simp

@[simp] theorem execGuardDrainEnd_keepsQueue (u : Fin 16) : keepsQueue s (execGuardDrainEnd u s) := by simp [execGuardDrainEnd]

@[simp] theorem execGuardDrainTimeout_keepsQueue (u : Fin 16) (aborted : Nat) : keepsQueue s (execGuardDrainTimeout u aborted s) := by
  unfold execGuardDrainTimeout
  split <;> simp

/-! ### Host SRAM and rings -/

@[simp] theorem State.setSramByte_pending (a : Nat) (b : Byte) : (s.setSramByte a b).pending = s.pending := rfl

@[simp] theorem State.sramWrite_pending (a : Nat) (bs : List Byte) : (s.sramWrite a bs).pending = s.pending := by
  induction bs generalizing s a with
  | nil => rfl
  | cons b bs ih => simp [State.sramWrite, ih]

@[simp] theorem State.setDesc_pending (a : Nat) (d : Descriptor) : (s.setDesc a d).pending = s.pending := by simp [State.setDesc]

@[simp] theorem State.ringService_pending (q : Nat) : (s.ringService q).pending = s.pending := by
  unfold State.ringService
  split <;> simp

@[simp] theorem State.ringProtocol_pending (q : Nat) : (s.ringProtocol q).pending = s.pending := by simp [State.ringProtocol]
@[simp] theorem State.ringDiscard_pending (q : Nat) (a : Access) : (s.ringDiscard q a).pending = s.pending := by simp [State.ringDiscard]

@[simp] theorem State.ringErrorBack_pending (a : Nat) : (s.ringErrorBack a).pending = s.pending := by
  unfold State.ringErrorBack
  split <;> simp

@[simp] theorem State.ringAdvance_pending (q : Nat) : (s.ringAdvance q).pending = s.pending := by simp [State.ringAdvance]

theorem State.ringPop_pending {q : Nat} {p : Option Descriptor × State} (h : s.ringPop q = some p) : p.2.pending = s.pending := by
  unfold State.ringPop at h
  dsimp only at h
  split at h
  · split at h <;> cases h <;> simp
  · cases h

theorem State.ringPush_pending {q : Nat} {d : Descriptor} {t : State} (h : s.ringPush q d = some t) : t.pending = s.pending := by
  unfold State.ringPush at h
  dsimp only at h
  split at h
  · split at h <;> cases h <;> simp
  · cases h

@[simp] theorem State.ringPush_getD_pending (q : Nat) (d : Descriptor) : ((s.ringPush q d).getD s).pending = s.pending :=
  s.getD_pending fun _ h => s.ringPush_pending h

@[simp] theorem State.ringNotInline_pending (q : Nat) : (s.ringNotInline q).pending = s.pending := by simp [State.ringNotInline]
@[simp] theorem State.ringDrop_pending (q : Nat) : (s.ringDrop q).pending = s.pending := by simp [State.ringDrop]

@[simp] theorem State.ringTake_pending (n q : Nat) : (State.ringTake n s q).2.pending = s.pending := by
  induction n generalizing s with
  | zero => rfl
  | succ n ih =>
    unfold State.ringTake
    split
    · rfl
    · rename_i h
      simpa [ih] using s.ringPop_pending h
    · rename_i h
      split <;> simpa [ih] using s.ringPop_pending h

@[simp] theorem State.ringPutAll_pending (q : Nat) (ds : List Descriptor) : (s.ringPutAll q ds).pending = s.pending := by
  refine State.foldl_pending (fun u d => ?_) ds s
  split <;> simp

@[simp] theorem State.ringCfgWrite_pending (q : Nat) (v : Word) : (s.ringCfgWrite q v).pending = s.pending := by
  unfold State.ringCfgWrite
  dsimp only
  (repeat' split) <;> simp

@[simp] theorem execRingCfgWrite_keepsQueue (q : Fin 64) (v : Word) : keepsQueue s (execRingCfgWrite q v s) := by simp [execRingCfgWrite]

@[simp] theorem State.ringProdWrite_pending (q : Nat) (v : Word) : (s.ringProdWrite q v).pending = s.pending := by
  unfold State.ringProdWrite
  dsimp only
  (repeat' split) <;> simp

@[simp] theorem execRingProdWrite_keepsQueue (q : Fin 64) (v : Word) : keepsQueue s (execRingProdWrite q v s) := by simp [execRingProdWrite]

@[simp] theorem State.ringConsWrite_pending (q : Nat) (v : Word) : (s.ringConsWrite q v).pending = s.pending := by
  unfold State.ringConsWrite
  (repeat' split) <;> simp

@[simp] theorem State.ringConsume_pending (q : Nat) (error : Bool) (n : Nat) : (s.ringConsume q error n).pending = s.pending := by
  induction n generalizing s with
  | zero => rfl
  | succ n ih =>
    unfold State.ringConsume
    cases error <;> simp [ih]

@[simp] theorem State.ringRefuse_pending (q n : Nat) (x : Access) : (s.ringRefuse q n x).pending = s.pending := by simp [State.ringRefuse]

theorem State.ringPushAll_pending {q : Nat} {ds : List Descriptor} {t : State} (h : s.ringPushAll q ds = some t) : t.pending = s.pending := by
  unfold State.ringPushAll at h
  split at h
  · split at h <;> cases h <;> simp
  · cases h

theorem State.ringPushBuf_pending {q code tag : Nat} {bytes : List Byte} {time : DWord} {t : State}
    (h : s.ringPushBuf q code tag bytes time = some t) : t.pending = s.pending := by
  unfold State.ringPushBuf at h
  dsimp only at h
  split at h
  · split at h
    · cases h; simp
    · simpa using State.ringPush_pending _ h
  · cases h

@[simp] theorem execRingCoalesceExpiry_keepsQueue (q : Fin 64) : keepsQueue s (execRingCoalesceExpiry q s) := by
  unfold execRingCoalesceExpiry
  split <;> simp

@[simp] theorem State.ringsReset_pending : s.ringsReset.pending = s.pending := by simp -implicitDefEqProofs [State.ringsReset]

/-! ### Executions, comparison, failure -/

@[simp] theorem State.loadCode_pending (c : Nat) (g : Option Survey) : (s.loadCode c g).pending = s.pending := by simp [State.loadCode]

@[simp] theorem State.codeFor_pending (c t : Nat) : (s.codeFor c t).pending = s.pending := by
  unfold State.codeFor
  split <;> simp

@[simp] theorem State.memErrors_pending (c t : Nat) (errors : List MemError) : (s.memErrors c t errors).pending = s.pending := rfl

@[simp] theorem State.executionStart_pending (c t : Nat) (errors : List MemError) : (s.executionStart c t errors).pending = s.pending := by
  unfold State.executionStart
  (repeat' split) <;> simp

@[simp] theorem execExecutionStart_keepsQueue (c t : Fin 16) (errors : List MemError) : keepsQueue s (execExecutionStart c t errors s) := by
  simp [execExecutionStart]

@[simp] theorem State.dropExecution_pending (c : Nat) : (s.dropExecution c).pending = s.pending := by simp [State.dropExecution]
@[simp] theorem State.gateInternal_pending (c : Nat) : (s.gateInternal c).pending = s.pending := by simp [State.gateInternal]

@[simp] theorem State.holdTask_pending (t cause : Nat) : (s.holdTask t cause).pending = s.pending := by
  unfold State.holdTask
  dsimp only
  (repeat' split) <;> simp

@[simp] theorem State.soloHold_pending (solo : Bool) (ts : List Nat) (cause : Nat) : (s.soloHold solo ts cause).pending = s.pending := by
  unfold State.soloHold
  split <;> simp

@[simp] theorem State.recordTrap_pending (c task cause pc addr : Nat) (program : Bool) :
    (s.recordTrap c task cause pc addr program).pending = s.pending := by
  unfold State.recordTrap
  split <;> simp -implicitDefEqProofs

@[simp] theorem State.failNoSpare_pending (c : Nat) : (s.failNoSpare c).pending = s.pending := by simp [State.failNoSpare]

@[simp] theorem State.relocate_pending (g : Survey) (c : Nat) (r : RelocVariant) : (s.relocate g c r).pending = s.pending := by
  simp [State.relocate]

@[simp] theorem State.yieldClaim_pending (v r : RelocVariant) : (s.yieldClaim v r).pending = s.pending := by simp [State.yieldClaim]

@[simp] theorem State.afterFailure_pending (c : Nat) : (s.afterFailure c).pending = s.pending := by
  unfold State.afterFailure
  (repeat' split) <;> simp

@[simp] theorem State.failChamber_pending (c task : Nat) (cyc : BitVec 32) : (s.failChamber c task cyc).pending = s.pending := by
  simp [State.failChamber]

@[simp] theorem State.activeBankUe_pending (x off : Nat) : (s.activeBankUe x off).pending = s.pending := by
  unfold State.activeBankUe
  dsimp only
  split <;> simp

@[simp] theorem State.useInjection_pending (c : Nat) : (s.useInjection c).2.pending = s.pending := by
  unfold State.useInjection
  dsimp only
  (repeat' split) <;> simp

@[simp] theorem State.rateUp_pending (c : Nat) : (s.rateUp c).pending = s.pending := by
  unfold State.rateUp
  dsimp only
  (repeat' split) <;> simp

@[simp] theorem State.mismatchRegs_pending (c : Nat) (x : Execution) (cause : Nat) (m k : LaneState) (flip : Bool) :
    (s.mismatchRegs c x cause m k flip).pending = s.pending := by
  simp [State.mismatchRegs]

@[simp] theorem State.mismatch_pending (c : Nat) (x : Execution) (cause : Nat) (flip : Bool) :
    (s.mismatch c x cause flip).pending = s.pending := by
  unfold State.mismatch
  dsimp only
  (repeat' split) <;> simp

@[simp] theorem State.badEndOf_pending (x : Execution) : (s.badEndOf x).pending = s.pending := by
  unfold State.badEndOf
  split <;> simp

@[simp] theorem State.programTrap_pending (c : Nat) (x : Execution) (cause pc addr : Nat) :
    (s.programTrap c x cause pc addr).pending = s.pending := by
  simp [State.programTrap]

@[simp] theorem State.instanceUe_pending (c : Nat) (x : Execution) (pc addr : Nat) : (s.instanceUe c x pc addr).pending = s.pending := by
  simp [State.instanceUe]

@[simp] theorem State.putMax_pending (f : RegField) (v : Nat) : (s.putMax f v).pending = s.pending := by
  unfold State.putMax
  split <;> simp

@[simp] theorem State.comparedEqual_pending (c : Nat) (x : Execution) : (s.comparedEqual c x).pending = s.pending := by
  unfold State.comparedEqual
  dsimp only
  split <;> simp -implicitDefEqProofs

@[simp] theorem State.comparison_pending (c : Nat) : (s.comparison c).pending = s.pending := by
  unfold State.comparison
  dsimp only
  (repeat' split) <;> simp

@[simp] theorem State.codeRefreshEnd_pending (c : Nat) (bankError : Bool) : (s.codeRefreshEnd c bankError).pending = s.pending := by
  unfold State.codeRefreshEnd
  dsimp only
  (repeat' split) <;> simp

@[simp] theorem execCodeRefreshEnd_keepsQueue (c : Fin 16) (bankError : Bool) : keepsQueue s (execCodeRefreshEnd c bankError s) := by
  simp [execCodeRefreshEnd]

@[simp] theorem State.reexecAbandon_pending (c : Nat) : (s.reexecAbandon c).pending = s.pending := by
  unfold State.reexecAbandon
  (repeat' split) <;> simp

@[simp] theorem execReexecAbandon_keepsQueue (c : Fin 16) : keepsQueue s (execReexecAbandon c s) := by simp [execReexecAbandon]

@[simp] theorem State.commitStart_pending (c t : Nat) : (s.commitStart c t).pending = s.pending := by
  unfold State.commitStart
  dsimp only
  (repeat' split) <;> simp

@[simp] theorem State.taskClrStats_pending (t : Nat) : (s.taskClrStats t).pending = s.pending := by simp [State.taskClrStats]

@[simp] theorem State.taskHoldCommand_pending (t : Nat) : (s.taskHoldCommand t).pending = s.pending := by
  unfold State.taskHoldCommand
  (repeat' split) <;> simp

@[simp] theorem State.taskResumeAt_pending (t : Nat) (boundary : Option Nat) : (s.taskResumeAt t boundary).pending = s.pending := by
  simp [State.taskResumeAt]

@[simp] theorem State.taskResumeCommand_pending (t : Nat) : (s.taskResumeCommand t).pending = s.pending := by
  unfold State.taskResumeCommand
  (repeat' split) <;> simp

@[simp] theorem State.seqTaskCtrlWrite_pending (t : Nat) (v : Word) : (s.seqTaskCtrlWrite t v).pending = s.pending := by
  unfold State.seqTaskCtrlWrite
  (repeat' split) <;> simp

@[simp] theorem execTaskHoldReq_keepsQueue (t : Fin 16) (v : Word) : keepsQueue s (execTaskHoldReq t v s) := by simp [execTaskHoldReq]
@[simp] theorem execTaskResume_keepsQueue (t : Fin 16) (v : Word) : keepsQueue s (execTaskResume t v s) := by simp [execTaskResume]
@[simp] theorem execTaskClrStats_keepsQueue (t : Fin 16) (v : Word) : keepsQueue s (execTaskClrStats t v s) := by simp [execTaskClrStats]

@[simp] theorem State.taskResumed_pending (t : Nat) : (s.taskResumed t).pending = s.pending := by
  unfold State.taskResumed
  split <;> simp

@[simp] theorem execTaskResumeBoundary_keepsQueue (t : Fin 16) : keepsQueue s (execTaskResumeBoundary t s) := by
  simp [execTaskResumeBoundary]

@[simp] theorem State.gateHeld_pending : s.gateHeld.pending = s.pending := by simp [State.gateHeld, apply_ite State.pending]
@[simp] theorem State.enterTaskHold_pending (t cause : Nat) : (s.enterTaskHold t cause).pending = s.pending := by simp [State.enterTaskHold]

@[simp] theorem State.dozeAuto_pending (was : Bool) : (s.dozeAuto was).pending = s.pending := by
  simp [State.dozeAuto, apply_ite State.pending]

@[simp] theorem State.galCtrlWrite_pending (v : Word) : (s.galCtrlWrite v).pending = s.pending := by
  unfold State.galCtrlWrite
  split <;> simp -implicitDefEqProofs

@[simp] theorem execGalClrStats_keepsQueue (v : Word) : keepsQueue s (execGalClrStats v s) := by simp [execGalClrStats]

@[simp] theorem execChamberDozeWake_keepsQueue (c : Fin 16) : keepsQueue s (execChamberDozeWake c s) := by
  unfold execChamberDozeWake
  split <;> simp

@[simp] theorem execDeferredBlockReset_keepsQueue (c : Fin 16) : keepsQueue s (execDeferredBlockReset c s) := by
  unfold execDeferredBlockReset
  dsimp only
  split <;> simp

@[simp] theorem State.mismatchLeak_pending (c : Nat) : (s.mismatchLeak c).pending = s.pending := by
  unfold State.mismatchLeak
  dsimp only
  (repeat' split) <;> simp

@[simp] theorem execMismatchLeak_keepsQueue (c : Fin 16) : keepsQueue s (execMismatchLeak c s) := by simp [execMismatchLeak]

/-! ### Debugging and injection -/

@[simp] theorem State.halt_pending (c : Nat) (bp : Option Nat) : (s.halt c bp).pending = s.pending := by simp [State.halt]

@[simp] theorem State.replayOne_pending (c : Nat) : (s.replayOne c).pending = s.pending := by
  unfold State.replayOne
  dsimp only
  (repeat' split) <;> simp

@[simp] theorem execReplayApply_keepsQueue (c : Fin 16) : keepsQueue s (execReplayApply c s) := by simp [execReplayApply]
@[simp] theorem State.replayAll_pending (c : Nat) : (s.replayAll c).pending = s.pending := by simp [State.replayAll]

@[simp] theorem State.resumeChamber_pending (c : Nat) : (s.resumeChamber c).pending = s.pending := by
  unfold State.resumeChamber
  dsimp only
  (repeat' split) <;> simp

@[simp] theorem State.resumeAll_pending : s.resumeAll.pending = s.pending := by simp [State.resumeAll]

@[simp] theorem State.laneFetch_pending (c : Nat) (w : Lane) : (s.laneFetch c w).pending = s.pending := by
  unfold State.laneFetch
  dsimp only
  (repeat' split) <;> simp

@[simp] theorem State.stepChamber_pending (c : Nat) : (s.stepChamber c).pending = s.pending := by
  unfold State.stepChamber
  split <;> simp

@[simp] theorem State.dbgCtrlWrite_pending (c : Nat) (v : Word) : (s.dbgCtrlWrite c v).pending = s.pending := by
  simp [State.dbgCtrlWrite, apply_ite State.pending]

@[simp] theorem execDbgHaltReq_keepsQueue (c : Fin 16) (v : Word) : keepsQueue s (execDbgHaltReq c v s) := by simp [execDbgHaltReq]
@[simp] theorem execDbgResume_keepsQueue (c : Fin 16) (v : Word) : keepsQueue s (execDbgResume c v s) := by simp [execDbgResume]
@[simp] theorem execDbgStep_keepsQueue (c : Fin 16) (v : Word) : keepsQueue s (execDbgStep c v s) := by simp [execDbgStep]

@[simp] theorem State.breakpointHalt_pending (c : Nat) : (s.breakpointHalt c).pending = s.pending := by
  unfold State.breakpointHalt
  dsimp only
  (repeat' split) <;> simp

@[simp] theorem execBreakpointHalt_keepsQueue (c : Fin 16) : keepsQueue s (execBreakpointHalt c s) := by simp [execBreakpointHalt]
@[simp] theorem State.dbgError_pending : s.dbgError.pending = s.pending := by simp [State.dbgError]

@[simp] theorem State.dbgReadGo_pending : s.dbgReadGo.pending = s.pending := by
  unfold State.dbgReadGo
  dsimp only
  (repeat' split) <;> simp

@[simp] theorem State.dbgWriteGo_pending : s.dbgWriteGo.pending = s.pending := by
  unfold State.dbgWriteGo
  dsimp only
  (repeat' split) <;> simp

@[simp] theorem State.dbgGo_pending : s.dbgGo.pending = s.pending := by
  unfold State.dbgGo
  split <;> simp

@[simp] theorem execDbgRead_keepsQueue : keepsQueue s (execDbgRead s) := by
  unfold execDbgRead
  split <;> simp

@[simp] theorem execDbgWrite_keepsQueue : keepsQueue s (execDbgWrite s) := by
  unfold execDbgWrite
  split <;> simp

@[simp] theorem State.lsInjectWrite_pending (v : Word) : (s.lsInjectWrite v).pending = s.pending := by
  unfold State.lsInjectWrite
  dsimp only
  (repeat' split) <;> simp

@[simp] theorem execLsInjectArm_keepsQueue (v : Word) : keepsQueue s (execLsInjectArm v s) := by simp [execLsInjectArm]

/-! ### Signals and forces -/

@[simp] theorem State.setSigPage_pending (page slot : Nat) (w : DWord) : (s.setSigPage page slot w).pending = s.pending := by
  unfold State.setSigPage
  split <;> simp

@[simp] theorem State.sigWriteIn_pending (tail : Bool) (slot : Nat) (w : DWord) : (s.sigWriteIn tail slot w).pending = s.pending := by
  unfold State.sigWriteIn
  dsimp only
  (repeat' split) <;> simp

@[simp] theorem State.sigWrite_pending (slot : Nat) (w : DWord) : (s.sigWrite slot w).pending = s.pending := by simp [State.sigWrite]

@[simp] theorem State.loadPage_pending (page : Nat) (g : Survey) : (s.loadPage page g).pending = s.pending := by
  unfold State.loadPage
  split <;> simp

@[simp] theorem State.ageSignals_pending (t : Nat) : (s.ageSignals t).pending = s.pending := by
  unfold State.ageSignals
  split
  · rfl
  · refine State.foldl_pending (fun u d => ?_) _ s
    split <;> simp

@[simp] theorem State.showForces_pending : s.showForces.pending = s.pending := by
  unfold State.showForces
  dsimp only
  split <;> simp

@[simp] theorem State.setForces_pending (l : List ForceEntry) : (s.setForces l).pending = s.pending := by simp [State.setForces]
@[simp] theorem State.frcRefuse_pending : s.frcRefuse.pending = s.pending := by simp [State.frcRefuse]

@[simp] theorem State.forceRecord_pending (c : ForceChange) (cleared : Nat) (e : BitVec 32) :
    (s.forceRecord c cleared e).pending = s.pending := by
  unfold State.forceRecord
  dsimp only
  split <;> simp

@[simp] theorem State.forceSchedule_pending (c : ForceChange) (e : BitVec 32) : (s.forceSchedule c e).pending = s.pending := by
  simp [State.forceSchedule]

@[simp] theorem State.forceAccept_pending (c : ForceChange) : (s.forceAccept c).pending = s.pending := by
  unfold State.forceAccept
  dsimp only
  (repeat' split) <;> simp

@[simp] theorem State.forceReadCmd_pending : s.forceReadCmd.pending = s.pending := by
  unfold State.forceReadCmd
  split <;> simp

@[simp] theorem State.frcCmdWrite_pending (v : Word) : (s.frcCmdWrite v).pending = s.pending := by
  unfold State.frcCmdWrite
  refine State.actions_pending s _ _ v _ fun u => ?_
  dsimp only
  (repeat' split) <;> simp

@[simp] theorem execForceWrite_keepsQueue (v : Word) : keepsQueue s (execForceWrite v s) := by simp [execForceWrite]
@[simp] theorem execForceClear_keepsQueue (v : Word) : keepsQueue s (execForceClear v s) := by simp [execForceClear]
@[simp] theorem execForceRead_keepsQueue (v : Word) : keepsQueue s (execForceRead v s) := by simp [execForceRead]
@[simp] theorem execForceClearAll_keepsQueue (v : Word) : keepsQueue s (execForceClearAll v s) := by simp [execForceClearAll]

@[simp] theorem State.forceEffect_pending : s.forceEffect.pending = s.pending := by
  unfold State.forceEffect
  dsimp only
  split <;> simp

@[simp] theorem execForceEffect_keepsQueue : keepsQueue s (execForceEffect s) := by simp [execForceEffect]

@[simp] theorem State.forceStoreWrite_pending (copies : Fin 3) : (s.forceStoreWrite copies).pending = s.pending := by
  unfold State.forceStoreWrite
  (repeat' split) <;> simp

@[simp] theorem execForceStoreWrite_keepsQueue (copies : Fin 3) : keepsQueue s (execForceStoreWrite copies s) := by
  simp [execForceStoreWrite]

@[simp] theorem State.loadForces_pending : s.loadForces.pending = s.pending := by
  unfold State.loadForces
  dsimp only
  (repeat' split) <;> simp

@[simp] theorem State.noteUnder_pending (id : Nat) (st : Nibble) : (s.noteUnder id st).pending = s.pending := rfl

@[simp] theorem State.forceFreeze_pending (d : SignalDesc) (w : DWord) : (s.forceFreeze d w).1.pending = s.pending := by
  unfold State.forceFreeze
  split <;> simp

@[simp] theorem State.forceEmit_pending (d : SignalDesc) (w : DWord) : (s.forceEmit d w).1.pending = s.pending := by
  unfold State.forceEmit
  split <;> simp

@[simp] theorem State.forceOne_pending (old layer : List (Nat × DWord × BitVec 32)) (id a : Nat) (v : BitVec 32) :
    (s.forceOne old layer id a v).1.pending = s.pending := by
  unfold State.forceOne
  split <;> simp

@[simp] theorem State.forceSource_pending (g : Survey) (table : List FabricEntry) (p c : Nat) (old layer : List (Nat × DWord × BitVec 32)) :
    (s.forceSource g table p c old layer).1.pending = s.pending := by
  refine State.foldl_fst_pending (fun acc e => ?_) _ _
  (repeat' split) <;> simp

/-! ### Island channels -/

@[simp] theorem State.setChan_pending (n : Nat) (c : IslChan) : (s.setChan n c).pending = s.pending := by simp [State.setChan]

@[simp] theorem State.driveDo_pending (n : Nat) : (s.driveDo n).pending = s.pending := by
  unfold State.driveDo
  dsimp only
  split <;> simp -implicitDefEqProofs

@[simp] theorem State.aoSharing_pending (n : Nat) : (s.aoSharing n).pending = s.pending := by simp [State.aoSharing]

@[simp] theorem State.driveAo_pending (n : Nat) : (s.driveAo n).pending = s.pending := by
  unfold State.driveAo
  dsimp only
  (repeat' split) <;> simp

@[simp] theorem State.refreshChan_pending (n : Nat) : (s.refreshChan n).pending = s.pending := by
  unfold State.refreshChan
  dsimp only
  (repeat' split) <;> simp

@[simp] theorem State.refreshIsland_pending (i : Nat) : (s.refreshIsland i).pending = s.pending := by simp [State.refreshIsland]

@[simp] theorem State.calModeChanged_pending (n : Nat) : (s.calModeChanged n).pending = s.pending := by
  unfold State.calModeChanged
  (repeat' split) <;> simp

@[simp] theorem State.chanOff_pending (n : Nat) : (s.chanOff n).pending = s.pending := by simp [State.chanOff]

@[simp] theorem State.takeMode_pending (n : Nat) : (s.takeMode n).pending = s.pending := by
  unfold State.takeMode
  dsimp only
  split <;> simp -implicitDefEqProofs

@[simp] theorem State.takeModes_pending : s.takeModes.pending = s.pending := by simp [State.takeModes]
@[simp] theorem State.modesToSwap_pending : s.modesToSwap.pending = s.pending := by simp [State.modesToSwap, apply_ite State.pending]
@[simp] theorem State.writeBlock_pending (n : Nat) (b : UserBlock) (copies : Fin 3) : (s.writeBlock n b copies).pending = s.pending := rfl

@[simp] theorem State.cfgSchedule_pending (n : Nat) (analogue : Bool) (v : Word) (e : BitVec 32) :
    (s.cfgSchedule n analogue v e).pending = s.pending := by
  simp [State.cfgSchedule]

@[simp] theorem State.islCfgWrite_pending (n : Nat) (analogue : Bool) (v : Word) : (s.islCfgWrite n analogue v).pending = s.pending := by
  unfold State.islCfgWrite
  dsimp only
  (repeat' split) <;> simp

@[simp] theorem execIslChCfgWrite_keepsQueue (n : Fin 128) (analogue : Bool) (v : Word) :
    keepsQueue s (execIslChCfgWrite n analogue v s) := by
  simp [execIslChCfgWrite]

@[simp] theorem State.cfgEffect_pending : s.cfgEffect.pending = s.pending := by simp [State.cfgEffect]
@[simp] theorem execIslCfgEffect_keepsQueue : keepsQueue s (execIslCfgEffect s) := by simp [execIslCfgEffect]

@[simp] theorem State.cfgStoreWrite_pending (n : Nat) (copies : Fin 3) : (s.cfgStoreWrite n copies).pending = s.pending := by
  unfold State.cfgStoreWrite
  (repeat' split) <;> simp

@[simp] theorem execIslCfgStoreWrite_keepsQueue (n : Fin 128) (copies : Fin 3) : keepsQueue s (execIslCfgStoreWrite n copies s) := by
  simp [execIslCfgStoreWrite]

/-! ### Islands and their links -/

@[simp] theorem State.setPort18_pending (k : Nat) (w : DWord) : (s.setPort18 k w).pending = s.pending := rfl
@[simp] theorem State.serviceStream_pending : s.serviceStream.2.pending = s.pending := by simp [State.serviceStream]

@[simp] theorem State.downstream_pending (i : Nat) : (s.downstream i).pending = s.pending := by
  unfold State.downstream
  split <;> simp

@[simp] theorem execIslDownstreamFrame_keepsQueue (i : Fin 16) : keepsQueue s (execIslDownstreamFrame i s) := by
  simp [execIslDownstreamFrame]

@[simp] theorem State.setOutSlot_pending (k : Nat) (w : DWord) : (s.setOutSlot k w).pending = s.pending := by
  unfold State.setOutSlot
  dsimp only
  (repeat' split) <;> simp

@[simp] theorem State.applyImage_pending (n : Nat) (v : BitVec 32) (bad safe : Bool) : (s.applyImage n v bad safe).pending = s.pending := by
  unfold State.applyImage
  dsimp only
  (repeat' split) <;> simp

@[simp] theorem State.frameToChan_pending (i j : Nat) (f : DownFrame) (hold : Bool) : (s.frameToChan i j f hold).pending = s.pending := by
  unfold State.frameToChan
  split <;> simp

@[simp] theorem State.validFrame_pending (i : Nat) (f : DownFrame) : (s.validFrame i f).pending = s.pending := by
  unfold State.validFrame
  dsimp only
  (repeat' split) <;> simp

@[simp] theorem State.filteredChange_pending (n : Nat) (level : Bool) (stamp : Nat) :
    (s.filteredChange n level stamp).pending = s.pending := by
  simp [State.filteredChange]

@[simp] theorem State.sampleDi_pending (n : Nat) (raw : Bool) (us : Nat) (seen : Option Nat) :
    (s.sampleDi n raw us seen).pending = s.pending := by
  unfold State.sampleDi
  dsimp only
  (repeat' split) <;> simp

@[simp] theorem State.sampleChan_pending (n : Nat) (samples : BitVec 80) (readbacks : BitVec 8) (us : Nat) :
    (s.sampleChan n samples readbacks us).pending = s.pending := by
  unfold State.sampleChan
  (repeat' split) <;> simp

@[simp] theorem State.frameSent_pending (i : Nat) (f : DownFrame) (spoiled : Bool) : (s.frameSent i f spoiled).pending = s.pending := by
  unfold State.frameSent
  (repeat' split) <;> simp

@[simp] theorem State.frameReceived_pending (i : Nat) (noise : List Byte) : (s.frameReceived i noise).pending = s.pending := by
  unfold State.frameReceived
  dsimp only
  (repeat' split) <;> simp

@[simp] theorem State.calDriveOver_pending (n : Nat) : (s.calDriveOver n).pending = s.pending := by
  unfold State.calDriveOver
  split <;> simp

@[simp] theorem State.frameEnd_pending (i : Nat) (noise : List Byte) (samples : BitVec 80) (readbacks : BitVec 8) :
    (s.frameEnd i noise samples readbacks).pending = s.pending := by
  simp [State.frameEnd]

@[simp] theorem execIslFrameEnd_keepsQueue (i : Fin 16) (noise : List Byte) (samples : BitVec 80) (readbacks : BitVec 8) :
    keepsQueue s (execIslFrameEnd i noise samples readbacks s) := by
  simp [execIslFrameEnd]

@[simp] theorem State.onTrigger_pending (i kind : Nat) (channels : BitVec 8) (f : State → State) (hf : ∀ s, (f s).pending = s.pending) :
    (s.onTrigger i kind channels f).pending = s.pending := by
  unfold State.onTrigger
  split <;> simp [hf]

@[simp] theorem State.outputApply_pending (i : Nat) (channels : BitVec 8) : (s.outputApply i channels).pending = s.pending := by
  simp [State.outputApply, apply_ite State.pending]

@[simp] theorem execIslOutputApply_keepsQueue (i : Fin 16) (channels : BitVec 8) : keepsQueue s (execIslOutputApply i channels s) := by
  simp [execIslOutputApply]

@[simp] theorem State.latched_pending (n : Nat) : (s.latched n).pending = s.pending := by simp [State.latched]
@[simp] theorem State.missLatch_pending (i n : Nat) : (s.missLatch i n).pending = s.pending := by simp [State.missLatch]

@[simp] theorem State.foundFaults_pending (i : Nat) (faults : BitVec 8) : (s.foundFaults i faults).pending = s.pending := by
  simp [State.foundFaults]

@[simp] theorem State.takeLatch_pending (i : Nat) (channels faults : BitVec 8) (currents : List (BitVec 32)) :
    (s.takeLatch i channels faults currents).pending = s.pending := by
  simp [State.takeLatch, apply_ite State.pending]

@[simp] theorem State.takeImage_pending (i : Nat) (f : Option UpFrame) : (s.takeImage i f).pending = s.pending := by
  refine (State.foldl_pending (fun u j => ?_) _ _).trans (s.setIsland_pending _ _)
  dsimp only
  (repeat' split) <;> simp

@[simp] theorem State.awaitImage_pending (i : Nat) (channels : BitVec 8) : (s.awaitImage i channels).pending = s.pending := by
  simp -implicitDefEqProofs [State.awaitImage, apply_ite State.pending]

@[simp] theorem State.inputLatch_pending (i : Nat) (channels faults : BitVec 8) (currents : List (BitVec 32)) :
    (s.inputLatch i channels faults currents).pending = s.pending := by
  simp [State.inputLatch, apply_ite State.pending]

@[simp] theorem State.ctrlRestart_pending (i : Nat) : (s.ctrlRestart i).pending = s.pending := by
  unfold State.ctrlRestart
  dsimp only
  (repeat' split) <;> simp

@[simp] theorem execIslCtrlRestart_keepsQueue (i : Fin 16) : keepsQueue s (execIslCtrlRestart i s) := by simp [execIslCtrlRestart]

@[simp] theorem State.linkGood_pending (i : Nat) : (s.linkGood i).pending = s.pending := by
  unfold State.linkGood
  dsimp only
  (repeat' split) <;> simp

@[simp] theorem State.islReport_pending (i : Nat) (f : UpFrame) : (s.islReport i f).pending = s.pending := by
  simp -implicitDefEqProofs [State.islReport]

@[simp] theorem State.upBad_pending (i : Nat) : (s.upBad i).pending = s.pending := by simp [State.upBad]

@[simp] theorem State.islUpdateEnd_pending (i phase : Nat) (old new : BitVec 32) :
    (s.islUpdateEnd i phase old new).pending = s.pending := by
  simp [State.islUpdateEnd]

@[simp] theorem State.islandsAllDone_pending : s.islandsAllDone.pending = s.pending := by
  unfold State.islandsAllDone
  split <;> simp

@[simp] theorem State.showIslandVer_pending : s.showIslandVer.pending = s.pending := by simp [State.showIslandVer]

@[simp] theorem State.islVersion_pending (i : Nat) (r : Option (Nat × Bool)) : (s.islVersion i r).pending = s.pending := by
  unfold State.islVersion
  dsimp only
  (repeat' split) <;> simp

@[simp] theorem State.upstream_pending (i : Nat) (noise : List Byte) (volts : BitVec 16) (report : Option (Nat × Bool)) :
    (s.upstream i noise volts report).pending = s.pending := by
  unfold State.upstream
  dsimp only
  (repeat' split) <;> simp

@[simp] theorem State.linkLost_pending (i : Nat) : (s.linkLost i).pending = s.pending := by
  unfold State.linkLost
  dsimp only
  (repeat' split) <;> simp

@[simp] theorem execIslLinkLost_keepsQueue (i : Fin 16) : keepsQueue s (execIslLinkLost i s) := by simp [execIslLinkLost]
@[simp] theorem State.islSilent_pending (i : Nat) : (s.islSilent i).pending = s.pending := by simp [State.islSilent]
@[simp] theorem execIslLinkSilence_keepsQueue (i : Fin 16) : keepsQueue s (execIslLinkSilence i s) := by simp [execIslLinkSilence]
@[simp] theorem execIslWatchdogExpiry_keepsQueue (i : Fin 16) : keepsQueue s (execIslWatchdogExpiry i s) := by simp [execIslWatchdogExpiry]

@[simp] theorem State.updIslCmdWrite_pending (v : Word) : (s.updIslCmdWrite v).pending = s.pending := by
  unfold State.updIslCmdWrite
  dsimp only
  (repeat' split) <;> simp

@[simp] theorem execIslandUpdateGo_keepsQueue (v : Word) : keepsQueue s (execIslandUpdateGo v s) := by simp [execIslandUpdateGo]

@[simp] theorem State.islandRestart_pending : s.islandRestart.pending = s.pending := by
  unfold State.islandRestart
  (repeat' split) <;> simp

@[simp] theorem State.islandTransferred_pending (ok : Bool) : (s.islandTransferred ok).pending = s.pending := by
  unfold State.islandTransferred
  dsimp only
  (repeat' split) <;> simp

@[simp] theorem execIslandImageTransferred_keepsQueue (ok : Bool) : keepsQueue s (execIslandImageTransferred ok s) := by
  simp [execIslandImageTransferred]

@[simp] theorem State.islandTimeout_pending : s.islandTimeout.pending = s.pending := by
  unfold State.islandTimeout
  (repeat' split) <;> simp

@[simp] theorem execIslandUpdateTimeout_keepsQueue : keepsQueue s (execIslandUpdateTimeout s) := by simp [execIslandUpdateTimeout]
@[simp] theorem State.doSwitchOff_pending (n why : Nat) : (s.doSwitchOff n why).pending = s.pending := by simp [State.doSwitchOff]

@[simp] theorem execDoCurrentLimit_keepsQueue (n : Fin 128) : keepsQueue s (execDoCurrentLimit n s) := by
  unfold execDoCurrentLimit
  dsimp only
  (repeat' split) <;> simp

@[simp] theorem execDoShortTrip_keepsQueue (n : Fin 128) : keepsQueue s (execDoShortTrip n s) := by
  unfold execDoShortTrip
  split <;> simp

@[simp] theorem execDoRetry_keepsQueue (n : Fin 128) : keepsQueue s (execDoRetry n s) := by
  unfold execDoRetry
  split <;> simp

@[simp] theorem State.showShed_pending (i : Nat) : (s.showShed i).pending = s.pending := by simp [State.showShed]

@[simp] theorem execDoRetryGood_keepsQueue (n : Fin 128) : keepsQueue s (execDoRetryGood n s) := by
  unfold execDoRetryGood
  dsimp only
  split <;> simp

@[simp] theorem State.groupShed_pending (i : Nat) : (s.groupShed i).pending = s.pending := by
  unfold State.groupShed
  split <;> simp

@[simp] theorem execGroupShed_keepsQueue (i : Fin 16) : keepsQueue s (execGroupShed i s) := by simp [execGroupShed]

@[simp] theorem execOpenLoadDetect_keepsQueue (n : Fin 128) : keepsQueue s (execOpenLoadDetect n s) := by
  unfold execOpenLoadDetect
  dsimp only
  split <;> simp

@[simp] theorem execOpenLoadClear_keepsQueue (n : Fin 128) : keepsQueue s (execOpenLoadClear n s) := by simp [execOpenLoadClear]

@[simp] theorem execExternalDriveDetect_keepsQueue (n : Fin 128) : keepsQueue s (execExternalDriveDetect n s) := by
  unfold execExternalDriveDetect
  dsimp only
  (repeat' split) <;> simp

@[simp] theorem execExternalDriveClear_keepsQueue (n : Fin 128) : keepsQueue s (execExternalDriveClear n s) := by
  simp [execExternalDriveClear]

@[simp] theorem State.setSupply_pending (i st volts : Nat) : (s.setSupply i st volts).pending = s.pending := by simp [State.setSupply]
@[simp] theorem State.supplyWarns_pending (i : Nat) : (s.supplyWarns i).pending = s.pending := by simp [State.supplyWarns]

@[simp] theorem execSupplyWarn_keepsQueue (i : Fin 16) (volts : Nat) : keepsQueue s (execSupplyWarn i volts s) := by
  unfold execSupplyWarn
  split <;> simp

@[simp] theorem execSupplyWarnEnd_keepsQueue (i : Fin 16) (volts : Nat) : keepsQueue s (execSupplyWarnEnd i volts s) := by
  unfold execSupplyWarnEnd
  split <;> simp

@[simp] theorem State.clearTrips_pending (i : Nat) : (s.clearTrips i).pending = s.pending := by simp [State.clearTrips]

@[simp] theorem State.lockout_pending (i volts : Nat) : (s.lockout i volts).pending = s.pending := by
  simp -implicitDefEqProofs [State.lockout]

@[simp] theorem execSupplyLockout_keepsQueue (i : Fin 16) (volts : Nat) : keepsQueue s (execSupplyLockout i volts s) := by
  unfold execSupplyLockout
  split <;> simp

@[simp] theorem execSupplyRecovering_keepsQueue (i : Fin 16) (volts : Nat) : keepsQueue s (execSupplyRecovering i volts s) := by
  unfold execSupplyRecovering
  split <;> simp

@[simp] theorem execSupplyRecoverFall_keepsQueue (i : Fin 16) (volts : Nat) : keepsQueue s (execSupplyRecoverFall i volts s) := by
  unfold execSupplyRecoverFall
  split <;> simp

@[simp] theorem State.awaitAck_pending (i : Nat) : (s.awaitAck i).pending = s.pending := by simp [State.awaitAck, apply_ite State.pending]

@[simp] theorem execSupplyRecovered_keepsQueue (i : Fin 16) (volts : Nat) : keepsQueue s (execSupplyRecovered i volts s) := by
  unfold execSupplyRecovered
  (repeat' split) <;> simp

@[simp] theorem State.islandLinkReset_pending (i : Nat) : (s.islandLinkReset i).pending = s.pending := by simp [State.islandLinkReset]

/-! ### Analogue channels -/

@[simp] theorem execLimiterLimit_keepsQueue (n : Fin 128) : keepsQueue s (execLimiterLimit n s) := by
  unfold execLimiterLimit
  dsimp only
  split <;> simp

@[simp] theorem State.foldback_pending (n : Nat) : (s.foldback n).pending = s.pending := by
  unfold State.foldback
  split <;> simp

@[simp] theorem execAiFoldback_keepsQueue (n : Fin 128) : keepsQueue s (execAiFoldback n s) := by simp [execAiFoldback]

@[simp] theorem execLimiterRelease_keepsQueue (n : Fin 128) : keepsQueue s (execLimiterRelease n s) := by
  unfold execLimiterRelease
  dsimp only
  split <;> simp

@[simp] theorem State.convStart_pending (n : Nat) : (s.convStart n).pending = s.pending := by simp [State.convStart]

@[simp] theorem State.convTrigger_pending (n : Nat) : (s.convTrigger n).pending = s.pending := by
  unfold State.convTrigger
  (repeat' split) <;> simp

@[simp] theorem execAiConversionStart_keepsQueue (i : Fin 16) (channels : BitVec 8) :
    keepsQueue s (execAiConversionStart i channels s) := by
  simp [execAiConversionStart, apply_ite State.pending]

@[simp] theorem execAiContinuousStart_keepsQueue (n : Fin 128) : keepsQueue s (execAiContinuousStart n s) := by
  unfold execAiContinuousStart
  split <;> simp

@[simp] theorem State.averageTakes_pending (n : Nat) (r : BitVec 32) : (s.averageTakes n r).pending = s.pending := by
  unfold State.averageTakes
  (repeat' split) <;> simp

@[simp] theorem State.convDone_pending (n : Nat) (r : BitVec 32) : (s.convDone n r).pending = s.pending := by
  unfold State.convDone
  dsimp only
  (repeat' split) <;> simp

@[simp] theorem execAiConversionDone_keepsQueue (n : Fin 128) (r : BitVec 32) : keepsQueue s (execAiConversionDone n r s) := by
  simp [execAiConversionDone]

@[simp] theorem State.aoSupervise_pending (n : Nat) (obs : AoObservation) : (s.aoSupervise n obs).pending = s.pending := by
  unfold State.aoSupervise
  dsimp only
  (repeat' split) <;> simp

@[simp] theorem execAoSupervision_keepsQueue (n : Fin 128) (obs : AoObservation) : keepsQueue s (execAoSupervision n obs s) := by
  simp [execAoSupervision]

@[simp] theorem State.stepUp_pending (n : Nat) : (s.stepUp n).pending = s.pending := by
  unfold State.stepUp
  split <;> simp

@[simp] theorem execAoStepUp_keepsQueue (n : Fin 128) : keepsQueue s (execAoStepUp n s) := by simp [execAoStepUp]

@[simp] theorem execAoStepDown_keepsQueue (n : Fin 128) : keepsQueue s (execAoStepDown n s) := by
  unfold execAoStepDown
  dsimp only
  split <;> simp

@[simp] theorem State.showCalBusy_pending : s.showCalBusy.pending = s.pending := by simp [State.showCalBusy]
@[simp] theorem State.calResult_pending (code : Nat) : (s.calResult code).pending = s.pending := by simp [State.calResult]

@[simp] theorem State.calAccept_pending (n : Nat) (high : Bool) (ref zero span lowRef : BitVec 32) :
    (s.calAccept n high ref zero span lowRef).pending = s.pending := by
  simp [State.calAccept]

@[simp] theorem State.calCompute_pending (n : Nat) (high : Bool) (ref r : BitVec 32) : (s.calCompute n high ref r).pending = s.pending := by
  unfold State.calCompute
  dsimp only
  split <;> simp

@[simp] theorem State.calTakeAt_pending (n : Nat) (high : Bool) (ref : BitVec 32) : (s.calTakeAt n high ref).pending = s.pending := by
  unfold State.calTakeAt
  dsimp only
  (repeat' split) <;> simp

@[simp] theorem State.calDriveOn_pending : s.calDriveOn.pending = s.pending := by
  unfold State.calDriveOn
  dsimp only
  (repeat' split) <;> simp

@[simp] theorem State.calDriveOff_pending (n : Nat) : (s.calDriveOff n).pending = s.pending := by
  unfold State.calDriveOff
  split <;> simp

@[simp] theorem State.calDrivesOff_pending : s.calDrivesOff.pending = s.pending := by simp [State.calDrivesOff]

@[simp] theorem State.calDefault_pending : s.calDefault.pending = s.pending := by
  unfold State.calDefault
  (repeat' split) <;> simp

@[simp] theorem State.calCmdWrite_pending (v : Word) : (s.calCmdWrite v).pending = s.pending := by
  unfold State.calCmdWrite
  (repeat' split) <;> simp

@[simp] theorem execDriveOn_keepsQueue (v : Word) : keepsQueue s (execDriveOn v s) := by simp [execDriveOn]
@[simp] theorem execDriveOff_keepsQueue (v : Word) : keepsQueue s (execDriveOff v s) := by simp [execDriveOff]
@[simp] theorem execCalTake_keepsQueue (v : Word) : keepsQueue s (execCalTake v s) := by simp [execCalTake]
@[simp] theorem execCalDefault_keepsQueue (v : Word) : keepsQueue s (execCalDefault v s) := by simp [execCalDefault]

@[simp] theorem State.calMean_pending (a : CalAverage) (up : Bool) : (s.calMean a up).2.pending = s.pending := by
  unfold State.calMean
  split <;> simp

@[simp] theorem State.calAverageDone_pending (up : Bool) : (s.calAverageDone up).pending = s.pending := by
  unfold State.calAverageDone
  dsimp only
  (repeat' split) <;> simp

@[simp] theorem execCalAverageDone_keepsQueue (up : Bool) : keepsQueue s (execCalAverageDone up s) := by simp [execCalAverageDone]
@[simp] theorem execCalDriveTimeout_keepsQueue (n : Fin 128) : keepsQueue s (execCalDriveTimeout n s) := by simp [execCalDriveTimeout]

@[simp] theorem State.takeTrims_pending (n : Nat) (zero span lowRef : BitVec 32) :
    (s.takeTrims n zero span lowRef).pending = s.pending := by
  simp [State.takeTrims]

@[simp] theorem State.calEffect_pending : s.calEffect.pending = s.pending := by simp [State.calEffect]
@[simp] theorem execCalEffect_keepsQueue : keepsQueue s (execCalEffect s) := by simp [execCalEffect]

@[simp] theorem State.calStoreWrite_pending (n : Nat) (copies : Fin 3) : (s.calStoreWrite n copies).pending = s.pending := by
  unfold State.calStoreWrite
  (repeat' split) <;> simp

@[simp] theorem execCalStoreWrite_keepsQueue (n : Fin 128) (copies : Fin 3) : keepsQueue s (execCalStoreWrite n copies s) := by
  simp [execCalStoreWrite]

/-! ### Fieldlinks -/

@[simp] theorem State.setPort19_pending (k : Nat) (w : DWord) : (s.setPort19 k w).pending = s.pending := rfl

@[simp] theorem State.flEmit_pending (p : Nat) (f : FlFrame) : (s.flEmit p f).pending = s.pending := by
  unfold State.flEmit
  dsimp only
  (repeat' split) <;> simp

@[simp] theorem State.flSend_pending (e : FrameSlot) (kind : Nat) : (s.flSend e kind).pending = s.pending := by
  unfold State.flSend
  (repeat' split) <;> simp

@[simp] theorem execFlExchangeSend_keepsQueue (e : FrameSlot) : keepsQueue s (execFlExchangeSend e s) := by simp [execFlExchangeSend]
@[simp] theorem execFlPollSend_keepsQueue (e : FrameSlot) : keepsQueue s (execFlPollSend e s) := by simp [execFlPollSend]
@[simp] theorem execFlSetSend_keepsQueue (e : FrameSlot) : keepsQueue s (execFlSetSend e s) := by simp [execFlSetSend]
@[simp] theorem State.flEvent_pending (f : RegField) (p st : Nat) : (s.flEvent f p st).pending = s.pending := by simp [State.flEvent]

@[simp] theorem State.showTopo_pending (p : Nat) : (s.showTopo p).pending = s.pending := by
  unfold State.showTopo
  dsimp only
  (repeat' split) <;> simp

@[simp] theorem State.showTopos_pending : s.showTopos.pending = s.pending := by simp [State.showTopos]
@[simp] theorem State.stationsLoad_pending : s.stationsLoad.pending = s.pending := by simp [State.stationsLoad, apply_ite State.pending]

@[simp] theorem State.flDown_pending (p : Nat) : (s.flDown p).pending = s.pending := by
  unfold State.flDown
  split <;> simp

@[simp] theorem execFlLinkDown_keepsQueue (p : Fin 8) : keepsQueue s (execFlLinkDown p s) := by simp [execFlLinkDown]

@[simp] theorem State.flLinkReport_pending (r : SgmiiReport) : (s.flLinkReport r).pending = s.pending := by
  unfold State.flLinkReport
  split <;> simp

@[simp] theorem execFlLinkUp_keepsQueue (report : SgmiiReport) : keepsQueue s (execFlLinkUp report s) := by simp [execFlLinkUp]

@[simp] theorem State.flPartner_pending (p : Nat) : (s.flPartner p).pending = s.pending := by
  unfold State.flPartner
  split <;> simp

@[simp] theorem execFlPartnerFrame_keepsQueue (p : Fin 8) : keepsQueue s (execFlPartnerFrame p s) := by simp [execFlPartnerFrame]

@[simp] theorem execRingPartnerTimeout_keepsQueue (p : Fin 8) : keepsQueue s (execRingPartnerTimeout p s) := by
  simp [execRingPartnerTimeout]

@[simp] theorem State.flLate_pending (p st : Nat) : (s.flLate p st).pending = s.pending := by simp [State.flLate]

@[simp] theorem State.replyKept_pending (p : Nat) (f : ReplyFrame) : (s.replyKept p f).pending = s.pending := by
  unfold State.replyKept
  (repeat' split) <;> simp

@[simp] theorem State.replyIn_pending (p : Nat) (f : ReplyFrame) : (s.replyIn p f).pending = s.pending := by
  unfold State.replyIn
  dsimp only
  (repeat' split) <;> simp

@[simp] theorem execReply_keepsQueue (p : Fin 8) (f : ReplyFrame) : keepsQueue s (execReply p f s) := by simp [execReply]

@[simp] theorem State.slotMissed_pending (g : Survey) (e : FrameSlot) (lost : Bool) : (s.slotMissed g e lost).pending = s.pending := by
  simp -implicitDefEqProofs [State.slotMissed]

@[simp] theorem State.stationMiss_pending (w : FlWait) : (s.stationMiss w).pending = s.pending := by
  unfold State.stationMiss
  dsimp only
  split <;> simp

@[simp] theorem State.nibbleIn_pending (p st : Nat) (x : Nibble) : (s.nibbleIn p st x).2.pending = s.pending := by
  unfold State.nibbleIn
  split <;> simp

@[simp] theorem State.slotLatched_pending (g : Survey) (e : FrameSlot) (f : ReplyFrame) : (s.slotLatched g e f).pending = s.pending := by
  simp [State.slotLatched, apply_ite State.pending]

@[simp] theorem State.stationReply_pending (e : FrameSlot) (f : ReplyFrame) : (s.stationReply e f).pending = s.pending := by
  unfold State.stationReply
  dsimp only
  (repeat' split) <;> simp -implicitDefEqProofs

@[simp] theorem State.lateOf_pending (w : FlWait) : (s.lateOf w).pending = s.pending := by
  unfold State.lateOf
  split <;> simp

@[simp] theorem State.settleStation_pending (w : FlWait) : (s.settleStation w).pending = s.pending := by
  unfold State.settleStation
  split <;> simp

@[simp] theorem State.settleImage_pending (g : Survey) (w : FlWait) : (s.settleImage g w).pending = s.pending := by
  unfold State.settleImage
  split <;> simp

@[simp] theorem State.clearSeen_pending (p : Nat) : (s.clearSeen p).pending = s.pending := by
  unfold State.clearSeen
  split <;> simp

@[simp] theorem State.flLatch_pending (t : Nat) : (s.flLatch t).pending = s.pending := by
  unfold State.flLatch
  split <;> simp

@[simp] theorem State.flSlow_pending (p : Nat) (free : Bool) : (s.flSlow p free).pending = s.pending := by
  unfold State.flSlow
  dsimp only
  (repeat' split) <;> simp

@[simp] theorem execFlSlowSend_keepsQueue (p : Fin 8) (free : Bool) : keepsQueue s (execFlSlowSend p free s) := by simp [execFlSlowSend]

@[simp] theorem State.slowReply_pending (p station : Nat) (payload : List Byte) : (s.slowReply p station payload).pending = s.pending := by
  unfold State.slowReply
  split
  · rfl
  · split
    · exact s.ringPushBuf_pending ‹_›
    · simp

@[simp] theorem State.slowIn_pending (p station : Nat) (f : SlowArrival) : (s.slowIn p station f).pending = s.pending := by
  unfold State.slowIn
  dsimp only
  (repeat' split) <;> simp

@[simp] theorem execSlowReply_keepsQueue (p : Fin 8) (station : Fin 64) (f : SlowArrival) : keepsQueue s (execSlowReply p station f s) := by
  simp [execSlowReply]

/-! ### The backbone bridge -/

@[simp] theorem State.peerDelay_pending : s.peerDelay.2.pending = s.pending := by
  unfold State.peerDelay
  split <;> simp

@[simp] theorem State.tcPass_pending (f : BbFrame) (res : Int) : (s.tcPass f res).2.pending = s.pending := by
  unfold State.tcPass
  dsimp only
  (repeat' split) <;> simp

@[simp] theorem State.bbTransmit_pending (q : BbQueued) (cut : Bool) : (s.bbTransmit q cut).pending = s.pending := by
  unfold State.bbTransmit
  dsimp only
  (repeat' split) <;> simp

@[simp] theorem State.bbEgress_pending (q : BbQueued) : (s.bbEgress q).pending = s.pending := by
  unfold State.bbEgress
  (repeat' split) <;> simp

@[simp] theorem State.bbFree_pending (p : Nat) : (s.bbFree p).pending = s.pending := by
  unfold State.bbFree
  dsimp only
  (repeat' split) <;> simp

@[simp] theorem execBbEgressTransmit_keepsQueue (port : Fin 3) : keepsQueue s (execBbEgressTransmit port s) := by
  simp [execBbEgressTransmit]

theorem State.bbDeliver_pending {q x : Nat} {lin : BitVec 64} {f : BbFrame} {tag : Option (BitVec 16)} {t : State}
    (h : s.bbDeliver q x lin f tag = some t) : t.pending = s.pending := s.ringPushBuf_pending h

@[simp] theorem State.bbHold_pending (q x : Nat) (f : BbFrame) : (s.bbHold q x f).pending = s.pending := by
  unfold State.bbHold
  split <;> simp

@[simp] theorem State.bbLocal_pending (x : Nat) (f : BbFrame) : (s.bbLocal x f).pending = s.pending := by
  unfold State.bbLocal
  split
  · split
    · split
      · split
        · simp
        · split
          · rename_i h
            exact s.bbDeliver_pending h
          · simp
      · rfl
    · rfl
  · rfl

@[simp] theorem State.bbHeldDeliver_pending : s.bbHeldDeliver.pending = s.pending := by
  unfold State.bbHeldDeliver
  split
  · rfl
  · dsimp only
    split
    · exact State.getD_pending _ fun _ h => State.bbDeliver_pending _ h
    · rfl

@[simp] theorem execBbRxHeldDeliver_keepsQueue : keepsQueue s (execBbRxHeldDeliver s) := by simp [execBbRxHeldDeliver]

@[simp] theorem State.prpCheck_pending (src : Nat) (seq : BitVec 16) : (s.prpCheck src seq).2.pending = s.pending := by
  simp [State.prpCheck]

@[simp] theorem State.prpReceive_pending (x : Nat) (f : BbFrame) : (s.prpReceive x f).pending = s.pending := by
  unfold State.prpReceive
  dsimp only
  (repeat' split) <;> simp

@[simp] theorem execPrpEntryForget_keepsQueue (src : Nat) : keepsQueue s (execPrpEntryForget src s) := by simp [execPrpEntryForget]

@[simp] theorem State.supervisionFrame_pending (src : Nat) : (s.supervisionFrame src).2.pending = s.pending := by
  simp [State.supervisionFrame]

@[simp] theorem State.prpSupervise_pending : s.prpSupervise.pending = s.pending := by
  unfold State.prpSupervise
  split <;> simp

@[simp] theorem execPrpSupervisionSend_keepsQueue : keepsQueue s (execPrpSupervisionSend s) := by simp [execPrpSupervisionSend]

@[simp] theorem State.bbForward_pending (x : Nat) (f : BbFrame) : (s.bbForward x f).pending = s.pending := by
  unfold State.bbForward
  dsimp only
  (repeat' split) <;> simp

@[simp] theorem State.bbReceive_pending (x : Nat) (f : BbFrame) : (s.bbReceive x f).pending = s.pending := by
  unfold State.bbReceive
  dsimp only
  (repeat' split) <;> simp

@[simp] theorem execBbFrameRx_keepsQueue (port : Fin 2) (f : BbFrame) : keepsQueue s (execBbFrameRx port f s) := by simp [execBbFrameRx]

@[simp] theorem State.bbLocalOut_pending (y : Nat) (f : BbFrame) (high : Bool) : (s.bbLocalOut y f high).pending = s.pending := by
  unfold State.bbLocalOut
  split <;> simp

@[simp] theorem State.bbSend_pending (f : BbFrame) (code : Nat) : (s.bbSend f code).pending = s.pending := by
  unfold State.bbSend
  (repeat' split) <;> simp

@[simp] theorem State.bbStampBack_pending (q : Nat) (d : Descriptor) : (s.bbStampBack q d).pending = s.pending := by
  unfold State.bbStampBack
  dsimp only
  (repeat' split) <;> simp

@[simp] theorem State.bbLocalTx_pending (q : Nat) : (s.bbLocalTx q).pending = s.pending := by
  unfold State.bbLocalTx
  (repeat' split) <;> simp

@[simp] theorem execBbLocalTx_keepsQueue (q : Fin 64) : keepsQueue s (execBbLocalTx q s) := by simp [execBbLocalTx]

@[simp] theorem execBbPortUp_keepsQueue (x : Fin 2) : keepsQueue s (execBbPortUp x s) := by
  unfold execBbPortUp
  split <;> simp

@[simp] theorem execBbPortDown_keepsQueue (x : Fin 2) : keepsQueue s (execBbPortDown x s) := by
  unfold execBbPortDown
  split <;> simp

@[simp] theorem execTcFollowUpTimeout_keepsQueue : keepsQueue s (execTcFollowUpTimeout s) := by simp [execTcFollowUpTimeout]
@[simp] theorem State.bbReset_pending : s.bbReset.pending = s.pending := by simp [State.bbReset]

/-! ### CAN controllers -/

@[simp] theorem State.setTx_pending (k m st : Nat) : (s.setTx k m st).pending = s.pending := by simp [State.setTx]

@[simp] theorem State.setCanBytes_pending (k m : Nat) (bs : List Byte) : (s.setCanBytes k m bs).pending = s.pending := by
  simp -implicitDefEqProofs [State.setCanBytes]

@[simp] theorem State.canCounts_pending (k tec rxe : Nat) : (s.canCounts k tec rxe).pending = s.pending := by
  unfold State.canCounts
  dsimp only
  (repeat' split) <;> simp -implicitDefEqProofs

@[simp] theorem State.canGoesBusOff_pending (k : Nat) : (s.canGoesBusOff k).pending = s.pending := by simp [State.canGoesBusOff]

@[simp] theorem State.canHeld_pending (k m : Nat) : (s.canHeld k m).pending = s.pending := by
  unfold State.canHeld
  dsimp only
  split <;> simp

@[simp] theorem State.endAttempt_pending (k m st : Nat) (late : Bool) : (s.endAttempt k m st late).pending = s.pending := by
  unfold State.endAttempt
  split <;> simp -implicitDefEqProofs

@[simp] theorem State.retryAttempt_pending (k m : Nat) : (s.retryAttempt k m).pending = s.pending := by
  unfold State.retryAttempt
  split <;> simp

@[simp] theorem State.canDeliverOne_pending (k m : Nat) : (s.canDeliverOne k m).pending = s.pending := by
  unfold State.canDeliverOne
  split
  · split
    · rfl
    · dsimp only
      split
      · rename_i h
        simp [s.ringPushAll_pending h]
      · rfl
  · rfl

@[simp] theorem State.canDeliver_pending (k : Nat) : (s.canDeliver k).pending = s.pending := by
  unfold State.canDeliver
  split <;> simp

@[simp] theorem State.canDeliverRing_pending (q : Nat) : (s.canDeliverRing q).pending = s.pending := by
  simp [State.canDeliverRing, apply_ite State.pending]

@[simp] theorem State.canStore_pending (k m : Nat) (f : CanFrame) : (s.canStore k m f).pending = s.pending := by
  unfold State.canStore
  dsimp only
  (repeat' split) <;> simp -implicitDefEqProofs

@[simp] theorem State.canGoodRx_pending (k : Nat) : (s.canGoodRx k).pending = s.pending := by
  unfold State.canGoodRx
  dsimp only
  (repeat' split) <;> simp

@[simp] theorem State.canFrameRx_pending (k : Nat) (f : CanFrame) : (s.canFrameRx k f).pending = s.pending := by
  unfold State.canFrameRx
  dsimp only
  (repeat' split) <;> simp

@[simp] theorem execCanFrameRx_keepsQueue (k : Fin 4) (f : CanFrame) : keepsQueue s (execCanFrameRx k f s) := by simp [execCanFrameRx]

@[simp] theorem execCanRemoteFrame_keepsQueue (k : Fin 4) (_f : CanFrame) : keepsQueue s (execCanRemoteFrame k _f s) := by
  unfold execCanRemoteFrame
  split <;> simp

@[simp] theorem State.canAttempt_pending (k : Nat) : (s.canAttempt k).pending = s.pending := by
  unfold State.canAttempt
  (repeat' split) <;> simp

@[simp] theorem execCanTxAttempt_keepsQueue (k : Fin 4) : keepsQueue s (execCanTxAttempt k s) := by simp [execCanTxAttempt]

@[simp] theorem State.canComplete_pending (k : Nat) : (s.canComplete k).pending = s.pending := by
  unfold State.canComplete
  split <;> simp

@[simp] theorem execCanTxComplete_keepsQueue (k : Fin 4) : keepsQueue s (execCanTxComplete k s) := by simp [execCanTxComplete]

@[simp] theorem State.canArbLost_pending (k : Nat) : (s.canArbLost k).pending = s.pending := by
  unfold State.canArbLost
  split <;> simp

@[simp] theorem execCanArbLost_keepsQueue (k : Fin 4) : keepsQueue s (execCanArbLost k s) := by simp [execCanArbLost]

@[simp] theorem State.stopAttempt_pending (k : Nat) : (s.stopAttempt k).pending = s.pending := by
  unfold State.stopAttempt
  split <;> simp

@[simp] theorem State.canError_pending (k : Nat) (kind : CanErrorKind) (transmitting primary : Bool) :
    (s.canError k kind transmitting primary).pending = s.pending := by
  unfold State.canError
  dsimp only
  (repeat' split) <;> simp

@[simp] theorem execCanError_keepsQueue (k : Fin 4) (kind : CanErrorKind) (transmitting primary : Bool) :
    keepsQueue s (execCanError k kind transmitting primary s) := by
  simp [execCanError]

@[simp] theorem State.canRecovered_pending (k : Nat) : (s.canRecovered k).pending = s.pending := by
  unfold State.canRecovered
  split <;> simp

@[simp] theorem execCanRecoveryDone_keepsQueue (k : Fin 4) : keepsQueue s (execCanRecoveryDone k s) := by simp [execCanRecoveryDone]

@[simp] theorem State.canCtrlWrite_pending (k : Nat) (v : Word) : (s.canCtrlWrite k v).pending = s.pending := by
  unfold State.canCtrlWrite
  dsimp only
  (repeat' split) <;> simp

@[simp] theorem execCanRecover_keepsQueue (k : Fin 4) (v : Word) : keepsQueue s (execCanRecover k v s) := by simp [execCanRecover]
@[simp] theorem State.canRefuse_pending (k : Nat) : (s.canRefuse k).pending = s.pending := by simp [State.canRefuse]

@[simp] theorem State.canBitTiming_pending (k a : Nat) (v : Word) : (s.canBitTiming k a v).pending = s.pending := by
  unfold State.canBitTiming
  split <;> simp

@[simp] theorem State.canTimingWrite_pending (k : Nat) (reg : CanTimingReg) (v : Word) :
    (s.canTimingWrite k reg v).pending = s.pending := by
  unfold State.canTimingWrite
  split <;> simp

@[simp] theorem execCanTimingWrite_keepsQueue (k : Fin 4) (reg : CanTimingReg) (v : Word) :
    keepsQueue s (execCanTimingWrite k reg v s) := by
  simp [execCanTimingWrite]

@[simp] theorem State.canRequest_pending (k m : Nat) (bs : List Byte) : (s.canRequest k m bs).pending = s.pending := by
  unfold State.canRequest
  (repeat' split) <;> simp

@[simp] theorem State.canTxreq_pending (k m : Nat) : (s.canTxreq k m).pending = s.pending := by
  unfold State.canTxreq
  split <;> simp

@[simp] theorem State.canCancel_pending (k m : Nat) : (s.canCancel k m).pending = s.pending := by simp [State.canCancel]

@[simp] theorem State.canObjCtrl_pending (k m : Nat) (v : Word) : (s.canObjCtrl k m v).pending = s.pending := by
  unfold State.canObjCtrl
  (repeat' split) <;> simp

@[simp] theorem State.canObjWrite_pending (k m : Nat) (reg : CanObjReg) (v : Word) : (s.canObjWrite k m reg v).pending = s.pending := by
  unfold State.canObjWrite
  (repeat' split) <;> simp

@[simp] theorem execCanObjWrite_keepsQueue (k : Fin 4) (m : Fin 128) (reg : CanObjReg) (v : Word) :
    keepsQueue s (execCanObjWrite k m reg v s) := by
  simp [execCanObjWrite]

@[simp] theorem execTxreq_keepsQueue (k : Fin 4) (m : Fin 128) (v : Word) : keepsQueue s (execTxreq k m v s) := by simp [execTxreq]
@[simp] theorem execCancel_keepsQueue (k : Fin 4) (m : Fin 128) (v : Word) : keepsQueue s (execCancel k m v s) := by simp [execCancel]

@[simp] theorem State.cancelReaches_pending (k m : Nat) : (s.cancelReaches k m).pending = s.pending := by
  unfold State.cancelReaches
  dsimp only
  (repeat' split) <;> simp -implicitDefEqProofs

@[simp] theorem execCancelReachesEngine_keepsQueue (k : Fin 4) (m : Fin 128) : keepsQueue s (execCancelReachesEngine k m s) := by
  simp [execCancelReachesEngine]

@[simp] theorem State.canRingTx_pending (k : Nat) : (s.canRingTx k).pending = s.pending := by
  unfold State.canRingTx
  dsimp only
  (repeat' split) <;> simp

@[simp] theorem execCanRingTx_keepsQueue (k : Fin 4) : keepsQueue s (execCanRingTx k s) := by simp [execCanRingTx]
@[simp] theorem execRingConsWrite_keepsQueue (q : Fin 64) (v : Word) : keepsQueue s (execRingConsWrite q v s) := by simp [execRingConsWrite]

@[simp] theorem State.canSurvey_pending (g : Survey) : (s.canSurvey g).pending = s.pending := by
  simp -implicitDefEqProofs [State.canSurvey, apply_ite State.pending]

@[simp] theorem State.setPort20_pending (k : Nat) (w : DWord) : (s.setPort20 k w).pending = s.pending := rfl

@[simp] theorem State.canLatchOne_pending (g : Survey) (e : CanMapEntry) : (s.canLatchOne g e).pending = s.pending := by
  unfold State.canLatchOne
  dsimp only
  (repeat' split) <;> simp -implicitDefEqProofs

@[simp] theorem State.canLatch_pending (t : Nat) : (s.canLatch t).pending = s.pending := by
  unfold State.canLatch
  split <;> simp

@[simp] theorem State.canPack_pending (g : Survey) (e : CanMapEntry) (held : Bool) : (s.canPack g e held).pending = s.pending := by
  unfold State.canPack
  dsimp only
  (repeat' split) <;> simp

@[simp] theorem State.canCancelAll_pending (k : Nat) : (s.canCancelAll k).pending = s.pending := by
  simp [State.canCancelAll, apply_ite State.pending]

@[simp] theorem State.canRoles_pending : s.canRoles.pending = s.pending := by simp [State.canRoles, apply_ite State.pending]

@[simp] theorem State.canReset_pending (k : Nat) : (s.canReset k).pending = s.pending := by
  simp -implicitDefEqProofs [State.canReset, apply_ite State.pending]

/-! ### Survey checks -/

@[simp] theorem State.rejectSurvey_pending (bank : Nat) (g : Survey) (f : Nat × Nat × Nat) :
    (s.rejectSurvey bank g f).pending = s.pending := by
  simp [State.rejectSurvey]

/-! ### Security and debug access -/

@[simp] theorem State.loadKey_pending (y : Nat) (fault : Bool) : (s.loadKey y fault).pending = s.pending := by
  unfold State.loadKey
  (repeat' split) <;> simp

@[simp] theorem State.loadSecurity_pending (faults : List Nat) : (s.loadSecurity faults).pending = s.pending := by
  simp -implicitDefEqProofs [State.loadSecurity]

@[simp] theorem State.setDebugLevel_pending (level : Nat) (auth : Bool) : (s.setDebugLevel level auth).pending = s.pending := by
  unfold State.setDebugLevel
  dsimp only
  (repeat' split) <;> simp

@[simp] theorem State.endDebug_pending : s.endDebug.pending = s.pending := by simp [State.endDebug]

@[simp] theorem State.authFailed_pending (level : Nat) : (s.authFailed level).pending = s.pending := by
  unfold State.authFailed
  dsimp only
  split <;> simp

@[simp] theorem State.authDecide_pending : s.authDecide.pending = s.pending := by
  unfold State.authDecide
  dsimp only
  (repeat' split) <;> simp

@[simp] theorem execAuthDecision_keepsQueue : keepsQueue s (execAuthDecision s) := by simp [execAuthDecision]

@[simp] theorem execAuthLockoutEnd_keepsQueue : keepsQueue s (execAuthLockoutEnd s) := by
  unfold execAuthLockoutEnd
  split <;> simp

@[simp] theorem State.tapShift_pending (ir : Nat) (name : String) (data : Nat) : (s.tapShift ir name data).pending = s.pending := by
  simp [State.tapShift]

@[simp] theorem State.tapBypass_pending (ir : Nat) : (s.tapBypass ir).pending = s.pending := by simp [State.tapBypass]

@[simp] theorem execBypass_keepsQueue : keepsQueue s (execBypass s) := by
  unfold execBypass
  split <;> simp

@[simp] theorem execIdcode_keepsQueue : keepsQueue s (execIdcode s) := by
  unfold execIdcode
  split <;> simp

@[simp] theorem execSecStat_keepsQueue : keepsQueue s (execSecStat s) := by
  unfold execSecStat
  split <;> simp

@[simp] theorem State.boundary_pending (ir : Nat) (name : String) : (s.boundary ir name).pending = s.pending := by
  unfold State.boundary
  split <;> simp

@[simp] theorem execExtest_keepsQueue : keepsQueue s (execExtest s) := by
  unfold execExtest
  split <;> simp

@[simp] theorem execSamplePreload_keepsQueue : keepsQueue s (execSamplePreload s) := by
  unfold execSamplePreload
  split <;> simp

@[simp] theorem State.authNonce_pending : s.authNonce.pending = s.pending := by
  unfold State.authNonce
  split <;> simp

@[simp] theorem execAuthNonce_keepsQueue : keepsQueue s (execAuthNonce s) := by
  unfold execAuthNonce
  split <;> simp

@[simp] theorem State.authResp_pending (level : Nat) (v : AuthVerdict) : (s.authResp level v).pending = s.pending := by
  unfold State.authResp
  dsimp only
  split <;> simp

@[simp] theorem execAuthResp_keepsQueue (level : Fin 4) (v : AuthVerdict) : keepsQueue s (execAuthResp level v s) := by
  unfold execAuthResp
  split <;> simp

@[simp] theorem execTapReset_keepsQueue : keepsQueue s (execTapReset s) := by simp [execTapReset]
@[simp] theorem execDebugIdleTimeout_keepsQueue : keepsQueue s (execDebugIdleTimeout s) := by simp [execDebugIdleTimeout]

@[simp] theorem State.coverOpens_pending : s.coverOpens.pending = s.pending := by
  unfold State.coverOpens
  split <;> simp

@[simp] theorem execCoverOpen_keepsQueue : keepsQueue s (execCoverOpen s) := by simp [execCoverOpen]
@[simp] theorem State.coverCloses_pending : s.coverCloses.pending = s.pending := by simp [State.coverCloses]
@[simp] theorem execCoverClose_keepsQueue : keepsQueue s (execCoverClose s) := by simp [execCoverClose]
@[simp] theorem State.lifecycleGo_pending (target : Nat) : (s.lifecycleGo target).pending = s.pending := by simp [State.lifecycleGo]

@[simp] theorem State.lcCmdWrite_pending (v : Word) : (s.lcCmdWrite v).pending = s.pending := by
  unfold State.lcCmdWrite
  dsimp only
  (repeat' split) <;> simp

@[simp] theorem execLifecycleGo_keepsQueue (v : Word) : keepsQueue s (execLifecycleGo v s) := by simp [execLifecycleGo]

@[simp] theorem State.provWrite_pending (v : Word) : (s.provWrite v).pending = s.pending := by
  unfold State.provWrite
  dsimp only
  (repeat' split) <;> simp

@[simp] theorem execProvisionGo_keepsQueue (v : Word) : keepsQueue s (execProvisionGo v s) := by simp [execProvisionGo]

@[simp] theorem State.revokeWrite_pending (v : Word) : (s.revokeWrite v).pending = s.pending := by
  unfold State.revokeWrite
  dsimp only
  (repeat' split) <;> simp

@[simp] theorem execRevokeGo_keepsQueue (v : Word) : keepsQueue s (execRevokeGo v s) := by simp [execRevokeGo]

@[simp] theorem State.eraseAll_pending (ok : Bool) : (s.eraseAll ok).pending = s.pending := by
  unfold State.eraseAll
  split <;> simp

@[simp] theorem execDecommissionEraseDone_keepsQueue (ok : Bool) : keepsQueue s (execDecommissionEraseDone ok s) := by
  simp [execDecommissionEraseDone]

@[simp] theorem execEngConnectionAttempt_keepsQueue : keepsQueue s (execEngConnectionAttempt s) := by
  unfold execEngConnectionAttempt
  split <;> simp

@[simp] theorem execTlsHandshakeFail_keepsQueue (alert : Nat) : keepsQueue s (execTlsHandshakeFail alert s) := by
  simp [execTlsHandshakeFail]

@[simp] theorem State.sessionOpen_pending (remote : Bool) (hash : Word) : (s.sessionOpen remote hash).pending = s.pending := by
  unfold State.sessionOpen
  split <;> simp

@[simp] theorem execEngSessionOpen_keepsQueue (remote : Bool) (certHash : Word) : keepsQueue s (execEngSessionOpen remote certHash s) := by
  simp [execEngSessionOpen]

/-! ### Migration -/

@[simp] theorem State.showArea_pending (a : Nat) : (s.showArea a).pending = s.pending := by simp [State.showArea]
@[simp] theorem State.setArea_pending (a : Nat) (g : GenArea) : (s.setArea a g).pending = s.pending := by simp [State.setArea]

@[simp] theorem State.programArea_pending (a : Nat) (state : Byte) : (s.programArea a state).pending = s.pending := by
  simp [State.programArea]

@[simp] theorem State.instElement_pending (a off w v : Nat) : (s.instElement a off w v).pending = s.pending := by simp [State.instElement]

@[simp] theorem State.migrateWord_pending (g : Survey) (a o : Nat) (w : DWord) : (s.migrateWord g a o w).pending = s.pending := by
  simp [State.migrateWord]

@[simp] theorem State.commitWords_pending (t0 : Nat) (l : List (Nat × DWord)) : (s.commitWords t0 l).pending = s.pending := by
  unfold State.commitWords
  dsimp only
  (repeat' split) <;> simp -implicitDefEqProofs

@[simp] theorem State.setQueue_pending (q : List (Nat × DWord)) : (s.setQueue q).pending = s.pending := by simp [State.setQueue]

/-! ### The task cycle -/

@[simp] theorem State.pairFault_pending (kind : Nat) : (s.pairFault kind).pending = s.pending := by
  unfold State.pairFault
  dsimp only
  (repeat' split) <;> simp

@[simp] theorem State.discardCycle_pending (t : Nat) : (s.discardCycle t).pending = s.pending :=
  (State.setTask_pending _ _ _).trans (State.foldl_pending (fun u _ => u.setChamber_pending _ _) _ _)

@[simp] theorem State.cycleGood_pending (t : Nat) : (s.cycleGood t).pending = s.pending := by simp [State.cycleGood]

@[simp] theorem State.cycleBad_pending (t : Nat) : (s.cycleBad t).pending = s.pending := by
  unfold State.cycleBad
  dsimp only
  split <;> simp

@[simp] theorem State.stand_pending (t : Nat) (o : CycleOutcome) : (s.stand t o).pending = s.pending := by
  unfold State.stand
  split <;> simp

@[simp] theorem State.commitStream_pending (t : Nat) : (s.commitStream t).pending = s.pending := by
  unfold State.commitStream
  dsimp only
  (repeat' split) <;> simp

@[simp] theorem State.adopt_pending (t : Nat) (own lead : CycleOutcome) : (s.adopt t own lead).pending = s.pending := by
  unfold State.adopt
  dsimp only
  (repeat' split) <;> simp

@[simp] theorem State.settle_pending (t : Nat) : (s.settle t).pending = s.pending := by
  unfold State.settle
  dsimp only
  (repeat' split) <;> simp

@[simp] theorem State.pairBreak_pending (kind : Nat) : (s.pairBreak kind).pending = s.pending := by simp [State.pairBreak]

@[simp] theorem State.streamEnds_pending (t : Nat) : (s.streamEnds t).pending = s.pending := by
  unfold State.streamEnds
  split <;> simp

@[simp] theorem State.countOutcome_pending (t : Nat) (o : CycleOutcome) : (s.countOutcome t o).pending = s.pending := by
  unfold State.countOutcome
  split <;> simp

@[simp] theorem State.noteMargin_pending (t : Nat) : (s.noteMargin t).pending = s.pending := by
  unfold State.noteMargin
  dsimp only
  split <;> simp

@[simp] theorem State.stopOverrun_pending (t c : Nat) : (s.stopOverrun t c).pending = s.pending := by
  unfold State.stopOverrun
  dsimp only
  (repeat' split) <;> simp

@[simp] theorem State.sendOutcome_pending (t : Nat) (o : CycleOutcome) (l : List (Nat × DWord)) :
    (s.sendOutcome t o l).pending = s.pending := by
  unfold State.sendOutcome
  split <;> simp

@[simp] theorem State.cycleOutcome_pending (t : Nat) : (s.cycleOutcome t).pending = s.pending := by
  unfold State.cycleOutcome
  dsimp only
  (repeat' split) <;> simp

@[simp] theorem execCycleOutcome_keepsQueue (t : Fin 16) : keepsQueue s (execCycleOutcome t s) := by simp [execCycleOutcome]
@[simp] theorem State.newCycle_pending (t t0 : Nat) : (s.newCycle t t0).pending = s.pending := by simp [State.newCycle]

@[simp] theorem State.agree_pending (c k : Nat) (equal : Bool) : (s.agree c k equal).pending = s.pending := by
  unfold State.agree
  dsimp only
  (repeat' split) <;> simp

@[simp] theorem State.putAsync_pending (c : Nat) (img : List DWord) : (s.putAsync c img).pending = s.pending := by simp [State.putAsync]

@[simp] theorem State.asyncAgree_pending (t c : Nat) (caps : List CaptureImage) : (s.asyncAgree t c caps).pending = s.pending := by
  simp [State.asyncAgree]

@[simp] theorem State.ringGive_pending (e : RingSlotEntry) (ds : List Descriptor) : (s.ringGive e ds).pending = s.pending := by
  simp [State.ringGive]

@[simp] theorem State.storeDescs_pending (q : Nat) (ds : List Descriptor) : (s.storeDescs q ds).2.pending = s.pending := by
  unfold State.storeDescs
  split <;> simp

@[simp] theorem State.topUp_pending (e : RingSlotEntry) : (s.topUp e).2.pending = s.pending := by simp [State.topUp]
@[simp] theorem State.setFree_pending (e : RingSlotEntry) (n : Nat) : (s.setFree e n).pending = s.pending := by simp [State.setFree]

@[simp] theorem State.topUps_pending (t : Nat) : (s.topUps t).2.pending = s.pending := by
  refine State.foldl_snd_pending (fun acc e => ?_) _ _
  simp

@[simp] theorem State.setImageSlot_pending (port key : Nat) (w : DWord) : (s.setImageSlot port key w).pending = s.pending := by
  unfold State.setImageSlot
  (repeat' split) <;> simp

@[simp] theorem State.emitImage_pending (t off : Nat) (beats : List (Nat × Nat × List DWord)) (asyncs : List (Nat × List DWord))
    (moved : List (Nat × List Descriptor)) (free : List (Nat × Nat)) :
    (s.emitImage t off beats asyncs moved free).pending = s.pending := by
  simp [State.emitImage, apply_ite State.pending]

@[simp] theorem State.sendImage_pending (t : Nat) (moved : List (Nat × List Descriptor)) : (s.sendImage t moved).pending = s.pending := by
  unfold State.sendImage
  split <;> simp

@[simp] theorem State.sendIslandImage_pending (i : Nat) : (s.sendIslandImage i).pending = s.pending := by
  simp [State.sendIslandImage, apply_ite State.pending]

@[simp] theorem State.islandImage_pending (i : Nat) (noise : List Byte) (volts : BitVec 16) (report : Option (Nat × Bool)) :
    (s.islandImage i noise volts report).pending = s.pending := by
  unfold State.islandImage
  dsimp only
  split <;> simp

@[simp] theorem execIslUpstreamFrame_keepsQueue (i : Fin 16) (f : UpArrival) : keepsQueue s (execIslUpstreamFrame i f s) := by
  simp [execIslUpstreamFrame]

@[simp] theorem execIslInputLatch_keepsQueue (i : Fin 16) (l : LatchEvent) : keepsQueue s (execIslInputLatch i l s) := by
  simp [execIslInputLatch]

@[simp] theorem State.watchEnd_pending (us : Nat) : (s.watchEnd us).pending = s.pending := by simp [State.watchEnd]

@[simp] theorem State.watchFreeze_pending (a b : Bool) : (s.watchFreeze a b).pending = s.pending := by
  unfold State.watchFreeze
  dsimp only
  (repeat' split) <;> simp

@[simp] theorem State.freezeAt_pending (t t0 : Nat) (cyc : BitVec 32) (caps : List CaptureImage) :
    (s.freezeAt t t0 cyc caps).pending = s.pending := by
  unfold State.freezeAt
  dsimp only
  (repeat' split) <;> simp

@[simp] theorem State.freeze_pending (t : Nat) (caps : List CaptureImage) : (s.freeze t caps).pending = s.pending := by
  unfold State.freeze
  dsimp only
  (repeat' split) <;> simp

@[simp] theorem execFreeze_keepsQueue (t : Fin 16) (captures : List CaptureImage) : keepsQueue s (execFreeze t captures s) := by
  simp [execFreeze]

@[simp] theorem State.stagingRead_pending (t c a : Nat) : (s.stagingRead t c a).2.pending = s.pending := by
  unfold State.stagingRead
  dsimp only
  (repeat' split) <;> simp

@[simp] theorem State.portRead_pending (t port key : Nat) : (s.portRead t port key).2.pending = s.pending := by
  unfold State.portRead
  (repeat' split) <;> simp

@[simp] theorem State.noteWrote_pending (t slot : Nat) : (s.noteWrote t slot).pending = s.pending := by simp [State.noteWrote]

@[simp] theorem State.tableWrite_pending (t slot : Nat) (w : DWord) (latched : Bool) :
    (s.tableWrite t slot w latched).pending = s.pending := by
  unfold State.tableWrite
  dsimp only
  (repeat' split) <;> simp

@[simp] theorem State.emitCopy_pending (t port key : Nat) (w : DWord) : (s.emitCopy t port key w).1.pending = s.pending := by
  unfold State.emitCopy
  dsimp only
  split <;> simp

@[simp] theorem State.beatWakes_pending (c : Nat) : (s.beatWakes c).pending = s.pending := by
  unfold State.beatWakes
  split <;> simp

@[simp] theorem State.portWrite_pending (t : Nat) (e : FabricEntry) (key : Nat) (w : DWord) :
    (s.portWrite t e key w).pending = s.pending := by
  unfold State.portWrite
  dsimp only
  (repeat' split) <;> simp

@[simp] theorem State.moveSlots_pending (t : Nat) (e : FabricEntry) : (s.moveSlots t e).pending = s.pending := by
  simp [State.moveSlots, apply_ite State.pending]

@[simp] theorem State.packObjects_pending (g : Survey) (t ix : Nat) (e : FabricEntry) : (s.packObjects g t ix e).pending = s.pending := by
  simp [State.packObjects, apply_ite State.pending]

@[simp] theorem State.transfer_pending (t ix : Nat) (e : FabricEntry) : (s.transfer t ix e).pending = s.pending := by
  unfold State.transfer
  dsimp only
  (repeat' split) <;> simp

@[simp] theorem State.fabricTransfer_pending (e : FabricEntry) : (s.fabricTransfer e).pending = s.pending := by
  unfold State.fabricTransfer
  (repeat' split) <;> simp

@[simp] theorem execFabricTransfer_keepsQueue (e : FabricEntry) : keepsQueue s (execFabricTransfer e s) := by simp [execFabricTransfer]

@[simp] theorem State.noteStaging_pending (c : Nat) (old new : List (Nat × DWord × BitVec 32)) :
    (s.noteStaging c old new).pending = s.pending := by
  unfold State.noteStaging
  split <;> simp

@[simp] theorem State.forceLayer_pending (c t p : Nat) (old : List (Nat × DWord × BitVec 32)) :
    (s.forceLayer c t p old).pending = s.pending := by
  unfold State.forceLayer
  dsimp only
  split <;> simp

@[simp] theorem State.compare_pending (c : Nat) (errors : List MemError) : (s.compare c errors).pending = s.pending := by
  unfold State.compare
  dsimp only
  (repeat' split) <;> simp

@[simp] theorem execComparison_keepsQueue (c : Fin 16) (errors : List MemError) : keepsQueue s (execComparison c errors s) := by
  simp [execComparison]

@[simp] theorem State.commitBegin_pending (c t : Nat) : (s.commitBegin c t).pending = s.pending := by
  unfold State.commitBegin
  dsimp only
  (repeat' split) <;> simp

@[simp] theorem execCommitStart_keepsQueue (c t : Fin 16) : keepsQueue s (execCommitStart c t s) := by simp [execCommitStart]

@[simp] theorem State.budget_pending (j : ReadyJournal) (bytes : Nat) : (s.budget j bytes).pending = s.pending := by
  unfold State.budget
  dsimp only
  (repeat' split) <;> simp

@[simp] theorem State.tickCount_pending (bytes : Nat) : (s.tickCount bytes).pending = s.pending := by simp [State.tickCount]

@[simp] theorem State.emitJournal_pending (t : Nat) (cyc : BitVec 32) (l : List (Nat × DWord)) (st : List (Nat × Nat × DWord × BitVec 32))
    (sg : List (Nat × DWord)) :
    (s.emitJournal t cyc l st sg).pending = s.pending := by
  simp [State.emitJournal]

@[simp] theorem State.sendJournal_pending (j : ReadyJournal) (l : List (Nat × DWord)) : (s.sendJournal j l).pending = s.pending := by
  unfold State.sendJournal
  split <;> simp

@[simp] theorem State.commitFaults_pending (t c : Nat) (fallback lost : Bool) : (s.commitFaults t c fallback lost).pending = s.pending := by
  unfold State.commitFaults
  (repeat' split) <;> simp

@[simp] theorem State.committed_pending (j : ReadyJournal) : (s.committed j).pending = s.pending := by
  unfold State.committed
  dsimp only
  split <;> simp

@[simp] theorem execCommitEnd_keepsQueue : keepsQueue s (execCommitEnd s) := by
  unfold execCommitEnd
  split <;> simp

@[simp] theorem State.setWindow_pending (g : Survey) (t : Nat) : (s.setWindow g t).pending = s.pending := by simp [State.setWindow]

@[simp] theorem State.holdDue_pending (t : Nat) : (s.holdDue t).pending = s.pending := by
  unfold State.holdDue
  dsimp only
  (repeat' split) <;> simp

@[simp] theorem State.enqueuePuts_pending (t : Nat) : (s.enqueuePuts t).pending = s.pending := by
  unfold State.enqueuePuts
  dsimp only
  split
  · refine (State.foldl_pending (fun u p => ?_) _ _).trans (s.setTask_pending _ _)
    split <;> simp
  · simp

@[simp] theorem State.duplexExchange_pending : s.duplexExchange.pending = s.pending := by
  unfold State.duplexExchange
  dsimp only
  split <;> simp

@[simp] theorem State.tailEnd_pending : s.tailEnd.pending = s.pending := by simp [State.tailEnd]

@[simp] theorem State.tailEmit_pending (t : Nat) : (s.tailEmit t).pending = s.pending := by
  unfold State.tailEmit
  dsimp only
  (repeat' split) <;> simp -implicitDefEqProofs

@[simp] theorem State.fastestEmit_pending : s.fastestEmit.pending = s.pending := by
  unfold State.fastestEmit
  dsimp only
  split <;> simp

@[simp] theorem State.joinTail_pending (t : Nat) : (s.joinTail t).pending = s.pending := by
  unfold State.joinTail
  split <;> simp

@[simp] theorem State.emitTask_pending (t : Nat) : (s.emitTask t).pending = s.pending := by
  unfold State.emitTask
  dsimp only
  (repeat' split) <;> simp

@[simp] theorem execEmit_keepsQueue (t : Fin 16) : keepsQueue s (execEmit t s) := by
  unfold execEmit
  split <;> simp

/-! ### Modes and the start -/

@[simp] theorem State.initArea_pending (g : Survey) (a : Nat) : (s.initArea g a).pending = s.pending := by
  simp -implicitDefEqProofs [State.initArea]

@[simp] theorem State.reinitEntries_pending (g : Survey) (a : Nat) : (s.reinitEntries g a).pending = s.pending := by
  simp -implicitDefEqProofs [State.reinitEntries]

@[simp] theorem State.setAreaTag_pending (a build : Nat) : (s.setAreaTag a build).pending = s.pending := by simp [State.setAreaTag]
@[simp] theorem State.coldStart_pending (g : Survey) : (s.coldStart g).pending = s.pending := by simp [State.coldStart]

@[simp] theorem State.chooseArea_pending (g : Survey) : (s.chooseArea g).pending = s.pending := by
  unfold State.chooseArea
  split <;> simp

@[simp] theorem State.surveyTakes_pending (g : Survey) : (s.surveyTakes g).pending = s.pending := by
  simp [State.surveyTakes, apply_ite State.pending]

@[simp] theorem State.armSurvey_pending (b : Nat) (e : DripEntry) : (s.armSurvey b e).pending = s.pending := by
  simp -implicitDefEqProofs [State.armSurvey]

@[simp] theorem State.armDrips_pending (g : Survey) (b : Nat) : (s.armDrips g b).pending = s.pending := by simp [State.armDrips]
@[simp] theorem State.disarmDrips_pending (g : Survey) : (s.disarmDrips g).pending = s.pending := by simp [State.disarmDrips]
@[simp] theorem State.startFailures_pending : s.startFailures.pending = s.pending := by simp [State.startFailures, apply_ite State.pending]

@[simp] theorem State.sequencerRuns_pending (g : Survey) (b : Nat) (first : Bool) : (s.sequencerRuns g b first).pending = s.pending := by
  simp [State.sequencerRuns, apply_ite State.pending]

@[simp] theorem State.holdChambers_pending : s.holdChambers.pending = s.pending := by simp [State.holdChambers, apply_ite State.pending]

@[simp] theorem State.startTasks_pending : s.startTasks.pending = s.pending := by
  unfold State.startTasks
  split
  · rfl
  · refine (State.foldl_pending (fun u e => ?_) _ _).trans (by split <;> simp)
    dsimp only
    split <;> simp

@[simp] theorem State.enterMode_pending (m : Mode) : (s.enterMode m).pending = s.pending := by
  simp [State.enterMode, apply_ite State.pending]

@[simp] theorem State.modeEffect_pending : s.modeEffect.pending = s.pending := by
  unfold State.modeEffect
  (repeat' split) <;> simp

@[simp] theorem State.modeCommand_pending (target : Mode) (cmd : Option (BitVec 32) → RelayCommand) :
    (s.modeCommand target cmd).pending = s.pending := by
  unfold State.modeCommand
  (repeat' split) <;> simp

@[simp] theorem State.startCommand_pending : s.startCommand.pending = s.pending := by
  unfold State.startCommand
  dsimp only
  (repeat' split) <;> simp

@[simp] theorem execStartCommand_keepsQueue : keepsQueue s (execStartCommand s) := by simp [execStartCommand]

@[simp] theorem execStopCommand_keepsQueue : keepsQueue s (execStopCommand s) := by
  unfold execStopCommand
  split <;> simp

@[simp] theorem execEnterServiceCommand_keepsQueue : keepsQueue s (execEnterServiceCommand s) := by
  unfold execEnterServiceCommand
  split <;> simp

@[simp] theorem State.leaveService_pending : s.leaveService.pending = s.pending := by
  unfold State.leaveService
  split <;> simp

@[simp] theorem execLeaveServiceCommand_keepsQueue : keepsQueue s (execLeaveServiceCommand s) := by simp [execLeaveServiceCommand]

@[simp] theorem State.sessionClose_pending : s.sessionClose.pending = s.pending := by
  unfold State.sessionClose
  split <;> simp

@[simp] theorem execEngSessionClose_keepsQueue : keepsQueue s (execEngSessionClose s) := by simp [execEngSessionClose]
@[simp] theorem execEngSessionTimeout_keepsQueue : keepsQueue s (execEngSessionTimeout s) := by simp [execEngSessionTimeout]

@[simp] theorem State.sequencerStart_pending : s.sequencerStart.pending = s.pending := by
  unfold State.sequencerStart
  (repeat' split) <;> simp

@[simp] theorem execSequencerStart_keepsQueue : keepsQueue s (execSequencerStart s) := by simp [execSequencerStart]

/-! ### The base connector -/

@[simp] theorem execPresentNLow_keepsQueue : keepsQueue s (execPresentNLow s) := by
  unfold execPresentNLow
  split <;> simp

@[simp] theorem execPresentNDebounced_keepsQueue : keepsQueue s (execPresentNDebounced s) := by
  unfold execPresentNDebounced
  split <;> simp

@[simp] theorem execMainPathOn_keepsQueue : keepsQueue s (execMainPathOn s) := by
  unfold execMainPathOn
  split <;> simp

@[simp] theorem State.leaveNow_pending : s.leaveNow.pending = s.pending := by
  unfold State.leaveNow
  (repeat' split) <;> simp

@[simp] theorem State.leaveLoad_pending (m : Mode) : (s.leaveLoad m).pending = s.pending := by
  unfold State.leaveLoad
  (repeat' split) <;> simp

@[simp] theorem State.rechargeDone_pending : s.rechargeDone.pending = s.pending := by
  unfold State.rechargeDone
  split <;> simp

@[simp] theorem execHoldupFull_keepsQueue : keepsQueue s (execHoldupFull s) := by
  unfold execHoldupFull
  split <;> simp

@[simp] theorem State.saveRecords_pending : s.saveRecords.pending = s.pending := by simp [State.saveRecords]
@[simp] theorem State.outputsStop_pending : s.outputsStop.pending = s.pending := rfl

@[simp] theorem State.commitCompletes_pending : s.commitCompletes.pending = s.pending := by
  unfold State.commitCompletes
  split <;> simp

@[simp] theorem State.saveReset_pending : s.saveReset.pending = s.pending := by simp [State.saveReset]

@[simp] theorem State.dataSave_pending : s.dataSave.pending = s.pending := by
  unfold State.dataSave
  split <;> simp

@[simp] theorem execDataSave_keepsQueue : keepsQueue s (execDataSave s) := by simp [execDataSave]

@[simp] theorem State.extract_pending : s.extract.pending = s.pending := by
  unfold State.extract
  dsimp only
  (repeat' split) <;> simp

@[simp] theorem execExtraction_keepsQueue : keepsQueue s (execExtraction s) := by simp [execExtraction]

@[simp] theorem execWithdrawalAborted_keepsQueue : keepsQueue s (execWithdrawalAborted s) := by
  unfold execWithdrawalAborted
  split <;> simp

@[simp] theorem State.interrupt_pending (vin : Nat) : (s.interrupt vin).pending = s.pending := by
  unfold State.interrupt
  dsimp only
  (repeat' split) <;> simp

@[simp] theorem execSupplyInterrupt_keepsQueue (vin : Nat) : keepsQueue s (execSupplyInterrupt vin s) := by simp [execSupplyInterrupt]

@[simp] theorem State.completeInterrupt_pending (len : Nat) : (s.completeInterrupt len).pending = s.pending := by
  unfold State.completeInterrupt
  dsimp only
  (repeat' split) <;> simp

@[simp] theorem State.inputLevel_pending (vin : Nat) : (s.inputLevel vin).pending = s.pending := by
  unfold State.inputLevel
  dsimp only
  split <;> simp

@[simp] theorem State.supplyReturns_pending (lenUs vin : Nat) : (s.supplyReturns lenUs vin).pending = s.pending := by
  unfold State.supplyReturns
  (repeat' split) <;> simp

@[simp] theorem execSupplyReturn_keepsQueue (lenUs vin : Nat) : keepsQueue s (execSupplyReturn lenUs vin s) := by simp [execSupplyReturn]
@[simp] theorem execPwrInputLow_keepsQueue (vin : Nat) : keepsQueue s (execPwrInputLow vin s) := by simp [execPwrInputLow]
@[simp] theorem execCoreRailBrownOut_keepsQueue : keepsQueue s (execCoreRailBrownOut s) := by simp [execCoreRailBrownOut]
@[simp] theorem execIoRailBrownOut_keepsQueue : keepsQueue s (execIoRailBrownOut s) := by simp [execIoRailBrownOut]
@[simp] theorem execLampTestEnd_keepsQueue : keepsQueue s (execLampTestEnd s) := by simp [execLampTestEnd]

@[simp] theorem execSelectPress_keepsQueue : keepsQueue s (execSelectPress s) := by
  unfold execSelectPress
  split <;> simp

@[simp] theorem State.buttonPoint_pending (high : Bool) (ref : BitVec 32) : (s.buttonPoint high ref).pending = s.pending := by
  unfold State.buttonPoint
  (repeat' split) <;> simp

@[simp] theorem execZeroHold_keepsQueue : keepsQueue s (execZeroHold s) := by simp [execZeroHold]
@[simp] theorem execSpanHold_keepsQueue : keepsQueue s (execSpanHold s) := by simp [execSpanHold]

/-! ### Power states -/

@[simp] theorem State.squeezeReading_pending (cause : Nat) : (s.squeezeReading cause).2.pending = s.pending := by
  unfold State.squeezeReading
  split <;> simp

@[simp] theorem State.squeezeEntry_pending (r : Nat) : (s.squeezeEntry r).pending = s.pending := by simp [State.squeezeEntry]

@[simp] theorem State.squeezeApply_pending : s.squeezeApply.pending = s.pending := by
  unfold State.squeezeApply
  dsimp only
  (repeat' split) <;> simp

@[simp] theorem execSqueezeRatioChange_keepsQueue : keepsQueue s (execSqueezeRatioChange s) := by simp [execSqueezeRatioChange]

@[simp] theorem State.droop_pending (reading : Nat) : (s.droop reading).pending = s.pending := by
  unfold State.droop
  split <;> simp

@[simp] theorem execDroopDetect_keepsQueue (reading : Nat) : keepsQueue s (execDroopDetect reading s) := by simp [execDroopDetect]

@[simp] theorem State.stepDown_pending : s.stepDown.pending = s.pending := by
  unfold State.stepDown
  split <;> simp

@[simp] theorem execSqueezeStepDown_keepsQueue : keepsQueue s (execSqueezeStepDown s) := by simp [execSqueezeStepDown]

@[simp] theorem State.setThermal_pending (r : Nat) : (s.setThermal r).pending = s.pending := by
  unfold State.setThermal
  split <;> simp

@[simp] theorem State.thermal_pending (temp : BitVec 16) : (s.thermal temp).pending = s.pending := by
  unfold State.thermal
  dsimp only
  split <;> simp

@[simp] theorem execThermalRatioChange_keepsQueue (temp : BitVec 16) : keepsQueue s (execThermalRatioChange temp s) := by
  simp [execThermalRatioChange]

@[simp] theorem State.sqzCfgWrite_pending (v : Word) : (s.sqzCfgWrite v).pending = s.pending := by
  unfold State.sqzCfgWrite
  dsimp only
  split <;> simp

@[simp] theorem State.holdupTest_pending (rideUs : Nat) : (s.holdupTest rideUs).pending = s.pending := by
  unfold State.holdupTest
  dsimp only
  (repeat' split) <;> simp

@[simp] theorem execHoldupTest_keepsQueue (rideUs : Nat) : keepsQueue s (execHoldupTest rideUs s) := by simp [execHoldupTest]
@[simp] theorem State.hibRefuse_pending (codes : List Nat) : (s.hibRefuse codes).pending = s.pending := by simp [State.hibRefuse]

@[simp] theorem State.dropHibernate_pending : s.dropHibernate.pending = s.pending := by
  unfold State.dropHibernate
  (repeat' split) <;> simp

@[simp] theorem State.tellRefusal_pending : s.tellRefusal.pending = s.pending := by
  unfold State.tellRefusal
  split <;> simp

@[simp] theorem State.hibRequest_pending (e : Option (BitVec 32)) (relayed : Bool) : (s.hibRequest e relayed).pending = s.pending := by
  unfold State.hibRequest
  dsimp only
  (repeat' split) <;> simp

@[simp] theorem State.hibCmdWrite_pending (v : Word) : (s.hibCmdWrite v).pending = s.pending := by
  unfold State.hibCmdWrite
  split <;> simp

@[simp] theorem execHibernateEnterCmd_keepsQueue (v : Word) : keepsQueue s (execHibernateEnterCmd v s) := by simp [execHibernateEnterCmd]

@[simp] theorem State.hibRecheck_pending : s.hibRecheck.pending = s.pending := by
  unfold State.hibRecheck
  split <;> simp

@[simp] theorem State.restoreRecords_pending (l : List (Nat × BitVec 32)) : (s.restoreRecords l).pending = s.pending := by
  simp -implicitDefEqProofs [State.restoreRecords]

@[simp] theorem State.domainsOff_pending (image : Retention) : (s.domainsOff image).pending = s.pending := rfl
@[simp] theorem State.hibEnter_pending : s.hibEnter.pending = s.pending := by simp [State.hibEnter]

@[simp] theorem execHibernateEntry_keepsQueue : keepsQueue s (execHibernateEntry s) := by
  unfold execHibernateEntry
  (repeat' split) <;> simp

@[simp] theorem execModeTransitionEffect_keepsQueue : keepsQueue s (execModeTransitionEffect s) := by simp [execModeTransitionEffect]

@[simp] theorem State.baseTickEffects_pending : s.baseTickEffects.pending = s.pending := by
  unfold State.baseTickEffects
  split <;> simp

@[simp] theorem execBaseTick_keepsQueue : keepsQueue s (execBaseTick s) := by simp [execBaseTick]

@[simp] theorem State.wake_pending (src : WakeSource) : (s.wake src).pending = s.pending := by
  unfold State.wake
  split <;> simp

@[simp] theorem execWake_keepsQueue (src : WakeSource) : keepsQueue s (execWake src s) := by simp [execWake]

@[simp] theorem State.wakeAttemptFail_pending (item : Nat) : (s.wakeAttemptFail item).pending = s.pending := by
  unfold State.wakeAttemptFail
  (repeat' split) <;> simp

@[simp] theorem execWakeAttemptFail_keepsQueue (item : Nat) : keepsQueue s (execWakeAttemptFail item s) := by simp [execWakeAttemptFail]

@[simp] theorem execWakeRetry_keepsQueue : keepsQueue s (execWakeRetry s) := by
  unfold execWakeRetry
  split <;> simp

@[simp] theorem execWakeFailStall_keepsQueue : keepsQueue s (execWakeFailStall s) := by
  unfold execWakeFailStall
  split <;> simp

/-! ### LOAD -/

@[simp] theorem State.takeStraps_pending (m : ResetSample) : (s.takeStraps m).pending = s.pending := by simp [State.takeStraps]

@[simp] theorem State.openFlowstone_pending (magicOk : Bool) : (s.openFlowstone magicOk).pending = s.pending := by
  unfold State.openFlowstone
  split <;> simp

@[simp] theorem State.standingConditions_pending : s.standingConditions.pending = s.pending := by
  unfold State.standingConditions
  dsimp only
  (repeat' split) <;> simp

@[simp] theorem State.recordWakeFail_pending : s.recordWakeFail.pending = s.pending := by
  unfold State.recordWakeFail
  split <;> simp

@[simp] theorem State.beginFirmware_pending (m : ResetSample) : (s.beginFirmware m).pending = s.pending := by
  unfold State.beginFirmware
  dsimp only
  (repeat' split) <;> simp

@[simp] theorem State.loadBegin_pending (m : ResetSample) : (s.loadBegin m).pending = s.pending := by
  unfold State.loadBegin
  dsimp only
  split <;> simp

@[simp] theorem execModuleResetRelease_keepsQueue (sample : ResetSample) : keepsQueue s (execModuleResetRelease sample s) := by
  unfold execModuleResetRelease
  split <;> simp

@[simp] theorem State.storeCheck_pending (proto : Option Nat) : (s.storeCheck proto).pending = s.pending := by
  unfold State.storeCheck
  dsimp only
  (repeat' split) <;> simp -implicitDefEqProofs

@[simp] theorem State.runCandidate_pending (c : FwCandidate) (iface : Nat) : (s.runCandidate c iface).pending = s.pending := by
  unfold State.runCandidate
  dsimp only
  (repeat' split) <;> simp

@[simp] theorem State.firmwareVerified_pending (passed : Bool) (failCode iface : Nat) (store : StoreContents) :
    (s.firmwareVerified passed failCode iface store).pending = s.pending := by
  unfold State.firmwareVerified
  dsimp only
  (repeat' split) <;> simp

@[simp] theorem execFirmwareCandidateVerified_keepsQueue (passed : Bool) (failCode iface : Nat) (store : StoreContents) :
    keepsQueue s (execFirmwareCandidateVerified passed failCode iface store s) := by
  simp [execFirmwareCandidateVerified]

@[simp] theorem State.comparatorFails_pending (c : Nat) : (s.comparatorFails c).pending = s.pending := by simp [State.comparatorFails]

@[simp] theorem State.scrubDone_pending (bad : BitVec 16) : (s.scrubDone bad).pending = s.pending := by
  simp [State.scrubDone, apply_ite State.pending]

@[simp] theorem execLoadScrubDone_keepsQueue (comparatorFail : BitVec 16) : keepsQueue s (execLoadScrubDone comparatorFail s) := by
  simp [execLoadScrubDone]

@[simp] theorem State.trimCopy_pending (n copy : Nat) : (s.trimCopy n copy).pending = s.pending := by simp [State.trimCopy]

@[simp] theorem State.loadUserBlock_pending (n : Nat) : (s.loadUserBlock n).pending = s.pending := by
  unfold State.loadUserBlock
  dsimp only
  (repeat' split) <;> simp

@[simp] theorem State.factoryBad_pending (n copy : Nat) : (s.factoryBad n copy).pending = s.pending := rfl

@[simp] theorem State.factoryFound_pending (r : TrimReport) : (s.factoryFound r).pending = s.pending := by
  simp -implicitDefEqProofs [State.factoryFound]

@[simp] theorem State.trimsApply_pending (r : TrimReport) : (s.trimsApply r).pending = s.pending := by
  simp [State.trimsApply, apply_ite State.pending]

@[simp] theorem State.conflictRecord_pending (gen d0 d1 : Nat) : (s.conflictRecord gen d0 d1).pending = s.pending := by
  simp [State.conflictRecord]

@[simp] theorem State.setOwn_pending (o : Option Nat) : (s.setOwn o).pending = s.pending := by simp [State.setOwn]

@[simp] theorem State.ownGeneration_pending : s.ownGeneration.pending = s.pending := by
  unfold State.ownGeneration
  dsimp only
  (repeat' split) <;> simp

@[simp] theorem State.resolve_pending (code : Nat) : (s.resolve code).pending = s.pending := by simp [State.resolve]

@[simp] theorem State.resolveOwn_pending : s.resolveOwn.pending = s.pending := by
  unfold State.resolveOwn
  split <;> simp

@[simp] theorem State.awaitFetch_pending : s.awaitFetch.pending = s.pending := rfl

@[simp] theorem State.resolveWith_pending (h : HelloBody) : (s.resolveWith h).pending = s.pending := by
  unfold State.resolveWith
  (repeat' split) <;> simp

@[simp] theorem State.resolveLinked_pending : s.resolveLinked.pending = s.pending := by
  unfold State.resolveLinked
  (repeat' split) <;> simp

@[simp] theorem State.fetched_pending (gen : Nat) (g : Survey) : (s.fetched gen g).pending = s.pending := by
  unfold State.fetched
  dsimp only
  (repeat' split) <;> simp

@[simp] theorem State.trimLoaded_pending (r : TrimReport) : (s.trimLoaded r).pending = s.pending := by
  unfold State.trimLoaded
  split <;> simp

@[simp] theorem execTrimLoadDone_keepsQueue (report : TrimReport) : keepsQueue s (execTrimLoadDone report s) := by simp [execTrimLoadDone]

@[simp] theorem State.linkWaitExpires_pending : s.linkWaitExpires.pending = s.pending := by
  unfold State.linkWaitExpires
  (repeat' split) <;> simp

@[simp] theorem execLinkWaitExpiry_keepsQueue : keepsQueue s (execLinkWaitExpiry s) := by simp [execLinkWaitExpiry]

@[simp] theorem State.bankTakes_pending (x gen : Nat) (g : Survey) (state : Nat) : (s.bankTakes x gen g state).pending = s.pending := by
  simp [State.bankTakes]

@[simp] theorem State.verifyArea_pending (a : Nat) : (s.verifyArea a).pending = s.pending := by
  unfold State.verifyArea
  split <;> simp

@[simp] theorem State.surveyLoadedAtLoad_pending (gen : Nat) (g : Survey) : (s.surveyLoadedAtLoad gen g).pending = s.pending := by
  unfold State.surveyLoadedAtLoad
  dsimp only
  split <;> simp -implicitDefEqProofs

@[simp] theorem State.wakeRestore_pending : s.wakeRestore.pending = s.pending := by
  unfold State.wakeRestore
  split <;> simp

@[simp] theorem State.wakeBad_pending : s.wakeBad.pending = s.pending := by simp [State.wakeBad]

@[simp] theorem State.takeAreas_pending : s.takeAreas.pending = s.pending := by
  unfold State.takeAreas
  split <;> simp

@[simp] theorem State.exitAlone_pending : s.exitAlone.pending = s.pending := by
  unfold State.exitAlone
  dsimp only
  split <;> simp

@[simp] theorem State.joinBegins_pending : s.joinBegins.pending = s.pending := by simp [State.joinBegins]

@[simp] theorem State.loadExit_pending : s.loadExit.pending = s.pending := by
  unfold State.loadExit
  dsimp only
  (repeat' split) <;> simp

@[simp] theorem execLoadExit_keepsQueue : keepsQueue s (execLoadExit s) := by simp [execLoadExit]

@[simp] theorem State.wakeTells_pending : s.wakeTells.pending = s.pending := by
  unfold State.wakeTells
  dsimp only
  split <;> simp

@[simp] theorem State.wakeRelease_pending (m : ResetSample) : (s.wakeRelease m).pending = s.pending := by
  unfold State.wakeRelease
  split <;> simp

@[simp] theorem execWakeResetRelease_keepsQueue (sample : ResetSample) : keepsQueue s (execWakeResetRelease sample s) := by
  simp [execWakeResetRelease]

@[simp] theorem execSurveyBankWrite_keepsQueue (bank : Fin 2) (_off : Nat) (_data : Word) :
    keepsQueue s (execSurveyBankWrite bank _off _data s) := by
  unfold execSurveyBankWrite
  split <;> simp

@[simp] theorem State.scrubError_pending (x : Nat) (ue : Bool) (off : Nat) : (s.scrubError x ue off).pending = s.pending := by
  unfold State.scrubError
  (repeat' split) <;> simp

@[simp] theorem execScrubEccError_keepsQueue (bank : Fin 2) (uncorrectable : Bool) (off : Nat) :
    keepsQueue s (execScrubEccError bank uncorrectable off s) := by
  simp [execScrubEccError]

/-! ### On-line change -/

@[simp] theorem State.setOlc_pending (st : Nat) : (s.setOlc st).pending = s.pending := by simp [State.setOlc]
@[simp] theorem State.olcRefuse_pending (reason : Nat) : (s.olcRefuse reason).pending = s.pending := by simp [State.olcRefuse]
@[simp] theorem State.bankLoading_pending (x : Nat) : (s.bankLoading x).pending = s.pending := by simp [State.bankLoading]

@[simp] theorem State.olcBegin_pending (gen : Nat) (g : Option Survey) (reuse : Bool) : (s.olcBegin gen g reuse).pending = s.pending := by
  unfold State.olcBegin
  dsimp only
  (repeat' split) <;> simp

@[simp] theorem State.olcRequest_pending (gen : Nat) (g : Survey) (reuse : Bool) : (s.olcRequest gen g reuse).pending = s.pending := by
  unfold State.olcRequest
  (repeat' split) <;> simp

@[simp] theorem execOlcRequest_keepsQueue (generation : Nat) (survey : Survey) (reuse : Bool) :
    keepsQueue s (execOlcRequest generation survey reuse s) := by
  simp [execOlcRequest]

@[simp] theorem State.olcRelayed_pending (gen : Nat) (hasMap : Bool) (parent : Nat) :
    (s.olcRelayed gen hasMap parent).pending = s.pending := by
  unfold State.olcRelayed
  split <;> simp

@[simp] theorem State.olcSurvey_pending (gen : Nat) (g : Survey) : (s.olcSurvey gen g).pending = s.pending := by
  unfold State.olcSurvey
  split <;> simp

@[simp] theorem State.dropChange_pending : s.dropChange.pending = s.pending := by simp [State.dropChange]

@[simp] theorem State.tellAbort_pending : s.tellAbort.pending = s.pending := by
  unfold State.tellAbort
  split <;> simp

@[simp] theorem State.olcAbortBoth_pending (reason : Nat) : (s.olcAbortBoth reason).pending = s.pending := by simp [State.olcAbortBoth]
@[simp] theorem State.olcPartnerRefuses_pending : s.olcPartnerRefuses.pending = s.pending := by simp [State.olcPartnerRefuses]

@[simp] theorem State.olcPartnerAccepts_pending : s.olcPartnerAccepts.pending = s.pending := by
  unfold State.olcPartnerAccepts
  split <;> simp

@[simp] theorem State.olcWritten_pending (g : Survey) (intact : Bool) : (s.olcWritten g intact).pending = s.pending := by
  unfold State.olcWritten
  split <;> simp

@[simp] theorem execOlcAreaWritten_keepsQueue (survey : Survey) (intact : Bool) : keepsQueue s (execOlcAreaWritten survey intact s) := by
  simp [execOlcAreaWritten]

@[simp] theorem State.olcCheckFailed_pending (g : Survey) (f : Nat × Nat × Nat) : (s.olcCheckFailed g f).pending = s.pending := by
  simp [State.olcCheckFailed]

@[simp] theorem State.olcCheckPassed_pending (gen : Nat) (g : Survey) : (s.olcCheckPassed gen g).pending = s.pending := by
  simp [State.olcCheckPassed]

@[simp] theorem State.olcLoaded_pending (gen : Nat) (g : Survey) : (s.olcLoaded gen g).pending = s.pending := by
  unfold State.olcLoaded
  split <;> simp

@[simp] theorem State.surveyLoaded_pending (x gen : Nat) (g : Survey) : (s.surveyLoaded x gen g).pending = s.pending := by
  unfold State.surveyLoaded
  (repeat' split) <;> simp

@[simp] theorem execSurveyLoadDone_keepsQueue (bank : Fin 2) (generation : Nat) (survey : Survey) :
    keepsQueue s (execSurveyLoadDone bank generation survey s) := by
  simp [execSurveyLoadDone]

@[simp] theorem State.initOther_pending (g : Survey) (a : Nat) : (s.initOther g a).pending = s.pending := by
  simp -implicitDefEqProofs [State.initOther]

@[simp] theorem State.sweepCheck_pending (g : Survey) : (s.sweepCheck g).pending = s.pending := by
  unfold State.sweepCheck
  dsimp only
  (repeat' split) <;> simp

@[simp] theorem State.olcMigrate_pending : s.olcMigrate.pending = s.pending := by
  unfold State.olcMigrate
  (repeat' split) <;> simp

@[simp] theorem State.sweepArea_pending (g : Survey) (ix : Nat) (ue : Bool) : (s.sweepArea g ix ue).pending = s.pending := by
  unfold State.sweepArea
  split <;> simp

@[simp] theorem State.sweepPage_pending (g : Survey) (slot : Nat) : (s.sweepPage g slot).pending = s.pending := by
  unfold State.sweepPage
  split <;> simp

@[simp] theorem State.sweepStep_pending (ix : Nat) (page ue : Bool) : (s.sweepStep ix page ue).pending = s.pending := by
  unfold State.sweepStep
  (repeat' split) <;> simp

@[simp] theorem execSweepStep_keepsQueue (index : Nat) (isPage uncorrectable : Bool) :
    keepsQueue s (execSweepStep index isPage uncorrectable s) := by
  simp [execSweepStep]

@[simp] theorem State.swapWanted_pending (x : Nat) : (s.swapWanted x).pending = s.pending := rfl

@[simp] theorem State.proposeSwap_pending (g : Survey) : (s.proposeSwap g).pending = s.pending := by
  unfold State.proposeSwap
  split <;> simp -implicitDefEqProofs

@[simp] theorem State.olcArm_pending : s.olcArm.pending = s.pending := by
  unfold State.olcArm
  (repeat' split) <;> simp

@[simp] theorem State.partnerMigrated_pending (gen digest build : Nat) : (s.partnerMigrated gen digest build).pending = s.pending := by
  unfold State.partnerMigrated
  dsimp only
  (repeat' split) <;> simp

@[simp] theorem State.swapProposed_pending (gen digest build x : Nat) : (s.swapProposed gen digest build x).pending = s.pending := by
  unfold State.swapProposed
  (repeat' split) <;> simp

@[simp] theorem State.swapAnswered_pending (x : Nat) (accepted : Bool) (reason : Nat) :
    (s.swapAnswered x accepted reason).pending = s.pending := by
  unfold State.swapAnswered
  (repeat' split) <;> simp

@[simp] theorem State.swapArms_pending (x : Nat) : (s.swapArms x).pending = s.pending := by simp [State.swapArms]
@[simp] theorem State.swapRefused_pending (reason : Nat) : (s.swapRefused reason).pending = s.pending := by simp [State.swapRefused]

@[simp] theorem State.swapAgree_pending : s.swapAgree.pending = s.pending := by
  unfold State.swapAgree
  (repeat' split) <;> simp

@[simp] theorem execSwapAgreement_keepsQueue : keepsQueue s (execSwapAgreement s) := by simp [execSwapAgreement]

@[simp] theorem State.olcAbortCmd_pending : s.olcAbortCmd.pending = s.pending := by
  unfold State.olcAbortCmd
  split <;> simp

@[simp] theorem State.olcCtrlWrite_pending (v : Word) : (s.olcCtrlWrite v).pending = s.pending := by
  unfold State.olcCtrlWrite
  (repeat' split) <;> simp

@[simp] theorem execOlcMigrate_keepsQueue (v : Word) : keepsQueue s (execOlcMigrate v s) := by simp [execOlcMigrate]
@[simp] theorem execOlcArm_keepsQueue (v : Word) : keepsQueue s (execOlcArm v s) := by simp [execOlcArm]
@[simp] theorem execOlcAbort_keepsQueue (v : Word) : keepsQueue s (execOlcAbort v s) := by simp [execOlcAbort]

@[simp] theorem State.settleForces_pending (g : Survey) : (s.settleForces g).pending = s.pending := by
  unfold State.settleForces
  dsimp only
  split <;> simp

@[simp] theorem State.relocateAtSwap_pending (g : Survey) : (s.relocateAtSwap g).pending = s.pending := by
  refine (State.foldl_pending (fun u c => ?_) _ _).trans (by simp)
  split
  · split <;> simp
  · rfl

@[simp] theorem State.chambersAtSwap_pending : s.chambersAtSwap.pending = s.pending := by
  simp [State.chambersAtSwap, apply_ite State.pending]

@[simp] theorem State.tasksAtSwap_pending (old new : Survey) (tail : List Nat) : (s.tasksAtSwap old new tail).pending = s.pending := by
  simp [State.tasksAtSwap, apply_ite State.pending]

@[simp] theorem State.changeOver_pending (old new : Survey) : (s.changeOver old new).pending = s.pending := by
  unfold State.changeOver
  dsimp only
  split <;> simp

@[simp] theorem State.swapFails_pending : s.swapFails.pending = s.pending := by simp [State.swapFails]

@[simp] theorem State.swapNow_pending : s.swapNow.pending = s.pending := by
  unfold State.swapNow
  (repeat' split) <;> simp

@[simp] theorem execSwap_keepsQueue : keepsQueue s (execSwap s) := by simp [execSwap]

@[simp] theorem State.seedEntry_pending (c : Nat) (e : FabricEntry) : (s.seedEntry c e).pending = s.pending := by
  simp -implicitDefEqProofs [State.seedEntry]

@[simp] theorem State.seedDone_pending (c : Nat) : (s.seedDone c).pending = s.pending := by
  unfold State.seedDone
  (repeat' split) <;> simp

@[simp] theorem execStagingSeedDone_keepsQueue (c : Fin 16) : keepsQueue s (execStagingSeedDone c s) := by simp [execStagingSeedDone]

/-! ### The Lifeline and the join -/

@[simp] theorem State.settleAll_pending : s.settleAll.pending = s.pending := by simp [State.settleAll]

@[simp] theorem State.laneComes_pending (x : Nat) : (s.laneComes x).pending = s.pending := by
  unfold State.laneComes
  split <;> simp

@[simp] theorem State.laneGoes_pending (x : Nat) (los : Bool) : (s.laneGoes x los).pending = s.pending := by
  unfold State.laneGoes
  (repeat' split) <;> simp

@[simp] theorem execLaneDown_keepsQueue (x : Fin 2) : keepsQueue s (execLaneDown x s) := by simp [execLaneDown]

@[simp] theorem execLaneUp_keepsQueue (x : Fin 2) : keepsQueue s (execLaneUp x s) := by
  unfold execLaneUp
  split <;> simp

@[simp] theorem State.signalDetect_pending (x : Nat) : (s.signalDetect x).pending = s.pending := by
  unfold State.signalDetect
  dsimp only
  (repeat' split) <;> simp

@[simp] theorem execLlSignalDetect_keepsQueue (x : Fin 2) : keepsQueue s (execLlSignalDetect x s) := by simp [execLlSignalDetect]
@[simp] theorem execTrainingTimeout_keepsQueue : keepsQueue s (execTrainingTimeout s) := by simp [execTrainingTimeout]

@[simp] theorem State.emitLanes_pending (least : Nat) (f : LLFrame) : (s.emitLanes least f).pending = s.pending := by
  simp -implicitDefEqProofs [State.emitLanes]

@[simp] theorem execHelloSend_keepsQueue : keepsQueue s (execHelloSend s) := by
  unfold execHelloSend
  split <;> simp

@[simp] theorem execStatusSend_keepsQueue : keepsQueue s (execStatusSend s) := by
  unfold execStatusSend
  split <;> simp

@[simp] theorem execTimeSend_keepsQueue : keepsQueue s (execTimeSend s) := by
  unfold execTimeSend
  split <;> simp

@[simp] theorem State.joinFail_pending : s.joinFail.pending = s.pending := by
  unfold State.joinFail
  split <;> simp

@[simp] theorem State.partDone_pending (p stage : Nat) : (s.partDone p stage).pending = s.pending := by simp [State.partDone]

@[simp] theorem State.takeTags_pending (v0 v1 : Bool) (b0 b1 run : Nat) : (s.takeTags v0 v1 b0 b1 run).pending = s.pending := by
  unfold State.takeTags
  dsimp only
  split <;> simp -implicitDefEqProofs

@[simp] theorem State.takeTask_pending (r : TaskRecord) : (s.takeTask r).pending = s.pending := by simp [State.takeTask]

@[simp] theorem State.takeRecord_pending (r : StateRecord) : (s.takeRecord r).pending = s.pending := by
  simp -implicitDefEqProofs [State.takeRecord]

@[simp] theorem State.takeStaging_pending (c : Nat) (l : List (Nat × DWord × BitVec 32)) : (s.takeStaging c l).pending = s.pending := by
  simp [State.takeStaging]

@[simp] theorem State.clearStaging_pending (c part : Nat) : (s.clearStaging c part).pending = s.pending := by
  unfold State.clearStaging
  split <;> simp

@[simp] theorem State.clearPage_pending (part : Nat) : (s.clearPage part).pending = s.pending := by
  unfold State.clearPage
  (repeat' split) <;> simp

@[simp] theorem State.partEnds_pending (last : Bool) (p stage : Nat) : (s.partEnds last p stage).pending = s.pending := by
  unfold State.partEnds
  split <;> simp

@[simp] theorem State.takeForces_pending (part : Nat) (last : Bool) (l : List ForceEntry) :
    (s.takeForces part last l).pending = s.pending := by
  unfold State.takeForces
  dsimp only
  split <;> simp

@[simp] theorem State.joinItem_pending (b : BulkBody) : (s.joinItem b).pending = s.pending := by
  unfold State.joinItem
  split <;> simp -implicitDefEqProofs

@[simp] theorem State.joinStream_pending (b : JournalBody) : (s.joinStream b).pending = s.pending := by
  unfold State.joinStream
  split <;> simp

@[simp] theorem State.serveJoin_pending (r : Role) : (s.serveJoin r).pending = s.pending := by
  unfold State.serveJoin
  (repeat' split) <;> simp

@[simp] theorem State.serveFetch_pending (h : HelloBody) : (s.serveFetch h).pending = s.pending := by
  unfold State.serveFetch
  (repeat' split) <;> simp

@[simp] theorem State.partnerSeen_pending (m : Mode) (r : Role) (surveyOk : Bool) : (s.partnerSeen m r surveyOk).pending = s.pending := by
  unfold State.partnerSeen
  dsimp only
  (repeat' split) <;> simp

@[simp] theorem State.becomeLinked_pending (h : LLHeader) (b : HelloBody) : (s.becomeLinked h b).pending = s.pending := by
  unfold State.becomeLinked
  dsimp only
  (repeat' split) <;> simp

@[simp] theorem State.helloTells_pending (h : LLHeader) (b : HelloBody) : (s.helloTells h b).pending = s.pending := by
  simp [State.helloTells]

@[simp] theorem State.helloIn_pending (h : LLHeader) (b : HelloBody) : (s.helloIn h b).pending = s.pending := by
  unfold State.helloIn
  (repeat' split) <;> simp

@[simp] theorem State.startWatch_pending : s.startWatch.pending = s.pending := by simp [State.startWatch]
@[simp] theorem State.forgetPartner_pending : s.forgetPartner.pending = s.pending := by simp [State.forgetPartner]

@[simp] theorem State.linkDrops_pending : s.linkDrops.pending = s.pending := by
  unfold State.linkDrops
  split <;> simp

@[simp] theorem State.llDown_pending (watch : Bool) : (s.llDown watch).pending = s.pending := by
  unfold State.llDown
  dsimp only
  (repeat' split) <;> simp

@[simp] theorem execLlLossOfSignal_keepsQueue : keepsQueue s (execLlLossOfSignal s) := by
  unfold execLlLossOfSignal
  split <;> simp

@[simp] theorem execLlSilence_keepsQueue : keepsQueue s (execLlSilence s) := by
  unfold execLlSilence
  split <;> simp

@[simp] theorem State.withdraw_pending : s.withdraw.pending = s.pending := by
  unfold State.withdraw
  dsimp only
  split <;> simp

@[simp] theorem State.relinquishIn_pending : s.relinquishIn.pending = s.pending := by
  unfold State.relinquishIn
  (repeat' split) <;> simp

@[simp] theorem execPairFaultSettle_keepsQueue : keepsQueue s (execPairFaultSettle s) := by
  unfold execPairFaultSettle
  split <;> simp

@[simp] theorem State.autoRejoin_pending : s.autoRejoin.pending = s.pending := by
  unfold State.autoRejoin
  dsimp only
  (repeat' split) <;> simp

@[simp] theorem execAutoRejoin_keepsQueue : keepsQueue s (execAutoRejoin s) := by simp [execAutoRejoin]
@[simp] theorem State.revertRestart_pending : s.revertRestart.pending = s.pending := by simp [State.revertRestart]
@[simp] theorem State.synced_pending (r : Role) (b : Nat) : (s.synced r b).pending = s.pending := by simp [State.synced]

@[simp] theorem State.joinComplete_pending : s.joinComplete.pending = s.pending := by
  unfold State.joinComplete
  (repeat' split) <;> simp

@[simp] theorem execJoinComplete_keepsQueue : keepsQueue s (execJoinComplete s) := by simp [execJoinComplete]

@[simp] theorem State.proposeHandover_pending : s.proposeHandover.pending = s.pending := by
  unfold State.proposeHandover
  split <;> simp

@[simp] theorem State.fixHandover_pending (e : BitVec 32) : (s.fixHandover e).pending = s.pending := by simp [State.fixHandover]

@[simp] theorem State.pairCtrlWrite_pending (v : Word) : (s.pairCtrlWrite v).pending = s.pending := by
  unfold State.pairCtrlWrite
  (repeat' split) <;> simp

@[simp] theorem execHandover_keepsQueue (v : Word) : keepsQueue s (execHandover v s) := by simp [execHandover]
@[simp] theorem execRejoin_keepsQueue (v : Word) : keepsQueue s (execRejoin v s) := by simp [execRejoin]

@[simp] theorem State.handoverH_pending : s.handoverH.pending = s.pending := by
  unfold State.handoverH
  (repeat' split) <;> simp

@[simp] theorem execHandoverH_keepsQueue : keepsQueue s (execHandoverH s) := by simp [execHandoverH]

@[simp] theorem execRevertProposal_keepsQueue : keepsQueue s (execRevertProposal s) := by
  unfold execRevertProposal
  split <;> simp

/-! ### The frames of the pair -/

@[simp] theorem State.takeBeat_pending (t : Nat) (b : Nat × Nat × List DWord) : (s.takeBeat t b).pending = s.pending := by
  simp [State.takeBeat]

@[simp] theorem State.takeMoved_pending (t : Nat) (m : Nat × List Descriptor) : (s.takeMoved t m).pending = s.pending := by
  unfold State.takeMoved
  split <;> simp

@[simp] theorem State.imageIn_pending (b : ImageBody) : (s.imageIn b).pending = s.pending := by
  unfold State.imageIn
  split
  · refine (State.foldl_pending (fun u p => ?_) _ _).trans
      ((State.foldl_pending (by simp) _ _).trans ((State.foldl_pending (fun u x => ?_) _ _).trans (by simp)))
    · split <;> simp
    · split <;> simp
  · rfl

@[simp] theorem State.outcomeIn_pending (b : OutcomeBody) : (s.outcomeIn b).pending = s.pending := by
  unfold State.outcomeIn
  split <;> simp

@[simp] theorem execOutcomeDeadline_keepsQueue (t : Fin 16) : keepsQueue s (execOutcomeDeadline t s) := by
  unfold execOutcomeDeadline
  split <;> simp

@[simp] theorem State.journalIn_pending (b : JournalBody) : (s.journalIn b).pending = s.pending := by
  unfold State.journalIn
  dsimp only
  (repeat' split) <;> simp

@[simp] theorem State.duplexIn_pending (b : DuplexBody) : (s.duplexIn b).pending = s.pending := by
  unfold State.duplexIn
  split <;> simp

@[simp] theorem State.answer_pending (c : RelayCommand) (ok : Bool) (e : BitVec 32) : (s.answer c ok e).pending = s.pending := by
  simp [State.answer]

@[simp] theorem State.cmdMode_pending (target : Mode) (e : Option (BitVec 32)) : (s.cmdMode target e).pending = s.pending := by
  unfold State.cmdMode
  (repeat' split) <;> simp

@[simp] theorem State.cmdStart_pending (e : Option (BitVec 32)) : (s.cmdStart e).pending = s.pending := by
  unfold State.cmdStart
  (repeat' split) <;> simp

@[simp] theorem State.cmdHibernate_pending (e : Option (BitVec 32)) : (s.cmdHibernate e).pending = s.pending := by
  unfold State.cmdHibernate
  (repeat' split) <;> simp

@[simp] theorem State.cmdHoldTask_pending (t : Nat) (e : Option (BitVec 32)) : (s.cmdHoldTask t e).pending = s.pending := by
  unfold State.cmdHoldTask
  (repeat' split) <;> simp

@[simp] theorem State.cmdResumeTask_pending (t : Nat) (b : Option Nat) : (s.cmdResumeTask t b).pending = s.pending := by
  unfold State.cmdResumeTask
  (repeat' split) <;> simp

@[simp] theorem State.cmdForce_pending (f : ForceChange) (e : Option (BitVec 32)) : (s.cmdForce f e).pending = s.pending := by
  unfold State.cmdForce
  (repeat' split) <;> simp

@[simp] theorem State.cmdConfig_pending (n : Nat) (an : Bool) (v : BitVec 32) (e : Option (BitVec 32)) :
    (s.cmdConfig n an v e).pending = s.pending := by
  unfold State.cmdConfig
  (repeat' split) <;> simp

@[simp] theorem State.cmdHandover_pending (h : BitVec 32) : (s.cmdHandover h).pending = s.pending := by
  unfold State.cmdHandover
  split <;> simp

@[simp] theorem State.commandIn_pending (c : RelayCommand) : (s.commandIn c).pending = s.pending := by
  unfold State.commandIn
  split <;> simp

@[simp] theorem State.partnerRefused_pending (c : RelayCommand) (reason : Nat) : (s.partnerRefused c reason).pending = s.pending := by
  unfold State.partnerRefused
  split <;> simp

@[simp] theorem State.ackIn_pending (b : AckBody) : (s.ackIn b).pending = s.pending := by
  unfold State.ackIn
  (repeat' split) <;> simp

@[simp] theorem State.timeFound_pending (o : Int) : (s.timeFound o).pending = s.pending := by
  unfold State.timeFound
  dsimp only
  (repeat' split) <;> simp

@[simp] theorem State.timeIn_pending (h : LLHeader) (b : TimeBody) : (s.timeIn h b).pending = s.pending := by
  unfold State.timeIn
  dsimp only
  (repeat' split) <;> simp

@[simp] theorem State.bankArrives_pending (g : Survey) : (s.bankArrives g).pending = s.pending := by
  unfold State.bankArrives
  split <;> simp

@[simp] theorem State.bulkIn_pending (b : BulkBody) : (s.bulkIn b).pending = s.pending := by
  unfold State.bulkIn
  (repeat' split) <;> simp

@[simp] theorem State.statusIn_pending (b : StatusBody) : (s.statusIn b).pending = s.pending := by
  unfold State.statusIn
  split <;> simp

@[simp] theorem State.deliver_pending (f : Instr) : (s.deliver f).pending = s.pending := by
  unfold State.deliver
  split <;> simp

@[simp] theorem State.deliverNext_pending (n : BitVec 32) (f : Instr) : (s.deliverNext n f).pending = s.pending := by
  simp [State.deliverNext]

@[simp] theorem State.deliverWaiting_pending (n : Nat) : (State.deliverWaiting n s).pending = s.pending := by
  induction n generalizing s with
  | zero => rfl
  | succ n ih =>
    unfold State.deliverWaiting
    split <;> simp [ih]

@[simp] theorem State.orderedIn_pending (n : BitVec 32) (f : Instr) : (s.orderedIn n f).pending = s.pending := by
  unfold State.orderedIn
  dsimp only
  (repeat' split) <;> simp

@[simp] theorem State.partnerSync_pending (h : LLHeader) : (s.partnerSync h).pending = s.pending := by
  unfold State.partnerSync
  dsimp only
  (repeat' split) <;> simp

@[simp] theorem State.frameIn_pending (h : LLHeader) (f : Instr) : (s.frameIn h f).pending = s.pending := by
  unfold State.frameIn
  dsimp only
  (repeat' split) <;> simp

@[simp] theorem State.llRx_pending (f : Instr) : (s.llRx f).pending = s.pending := by
  unfold State.llRx
  (repeat' split) <;> simp

@[simp] theorem execHello_keepsQueue (hdr : LLHeader) (body : HelloBody) : keepsQueue s (execHello hdr body s) := by simp [execHello]

@[simp] theorem execLlStatus_keepsQueue (hdr : LLHeader) (body : StatusBody) : keepsQueue s (execLlStatus hdr body s) := by
  simp [execLlStatus]

@[simp] theorem execImage_keepsQueue (hdr : LLHeader) (body : ImageBody) : keepsQueue s (execImage hdr body s) := by simp [execImage]

@[simp] theorem execOutcome_keepsQueue (hdr : LLHeader) (body : OutcomeBody) : keepsQueue s (execOutcome hdr body s) := by
  simp [execOutcome]

@[simp] theorem execJournal_keepsQueue (hdr : LLHeader) (body : JournalBody) : keepsQueue s (execJournal hdr body s) := by
  simp [execJournal]

@[simp] theorem execDuplex_keepsQueue (hdr : LLHeader) (body : DuplexBody) : keepsQueue s (execDuplex hdr body s) := by simp [execDuplex]

@[simp] theorem execCommand_keepsQueue (hdr : LLHeader) (body : RelayCommand) : keepsQueue s (execCommand hdr body s) := by
  simp [execCommand]

@[simp] theorem execAck_keepsQueue (hdr : LLHeader) (body : AckBody) : keepsQueue s (execAck hdr body s) := by simp [execAck]
@[simp] theorem execLlTime_keepsQueue (hdr : LLHeader) (body : TimeBody) : keepsQueue s (execLlTime hdr body s) := by simp [execLlTime]
@[simp] theorem execBulk_keepsQueue (hdr : LLHeader) (body : BulkBody) : keepsQueue s (execBulk hdr body s) := by simp [execBulk]
@[simp] theorem execDeparture_keepsQueue (hdr : LLHeader) : keepsQueue s (execDeparture hdr s) := by simp [execDeparture]
@[simp] theorem execRelinquish_keepsQueue (f : RelinquishFrame) : keepsQueue s (execRelinquish f s) := by simp [execRelinquish]

@[simp] theorem State.frameGap_pending : s.frameGap.pending = s.pending := by
  unfold State.frameGap
  split
  · rfl
  · dsimp only
    split <;> simp

@[simp] theorem execFrameGap_keepsQueue : keepsQueue s (execFrameGap s) := by simp [execFrameGap]

@[simp] theorem execTpHeldFrameDeliver_keepsQueue : keepsQueue s (execTpHeldFrameDeliver s) := by
  unfold execTpHeldFrameDeliver
  dsimp only
  (repeat' split) <;> simp

/-! ### Gates -/

@[simp] theorem State.resetBlock_pending (b : Nat) : (s.resetBlock b).pending = s.pending := by
  unfold State.resetBlock
  (repeat' split) <;> simp

@[simp] theorem State.gateInReset_pending (b : Nat) : (s.gateInReset b).pending = s.pending := by simp [State.gateInReset]

@[simp] theorem State.errorComplete_pending (b : Nat) : (s.errorComplete b).pending = s.pending := by
  unfold State.errorComplete
  split <;> simp

@[simp] theorem State.gateReleased_pending (b : Nat) : (s.gateReleased b).pending = s.pending := by
  unfold State.gateReleased
  split <;> simp

@[simp] theorem State.gateAsked_pending (b outstanding : Nat) : (s.gateAsked b outstanding).pending = s.pending := by
  unfold State.gateAsked
  dsimp only
  (repeat' split) <;> simp

@[simp] theorem State.gateCtrlWrite_pending (b : Nat) (v : Word) (ask : State → State) (hask : ∀ s, (ask s).pending = s.pending) :
    (s.gateCtrlWrite b v ask).pending = s.pending := by
  unfold State.gateCtrlWrite
  (repeat' split) <;> simp [hask]

@[simp] theorem execBlockResetRequest_keepsQueue (b : Fin 64) (v : Word) (outstanding : Nat) :
    keepsQueue s (execBlockResetRequest b v outstanding s) := by
  simp [execBlockResetRequest]

@[simp] theorem execGateRelease_keepsQueue (b : Fin 64) (v : Word) : keepsQueue s (execGateRelease b v s) := by simp [execGateRelease]

@[simp] theorem execGateDrainEnd_keepsQueue (b : Fin 64) : keepsQueue s (execGateDrainEnd b s) := by
  unfold execGateDrainEnd
  split <;> simp

@[simp] theorem execGateBlockIdle_keepsQueue (b : Fin 64) : keepsQueue s (execGateBlockIdle b s) := by
  unfold execGateBlockIdle
  split <;> simp

@[simp] theorem execGateQuiesceTimeout_keepsQueue (b : Fin 64) : keepsQueue s (execGateQuiesceTimeout b s) := by
  unfold execGateQuiesceTimeout
  split <;> simp

@[simp] theorem execGateResetRelease_keepsQueue (b : Fin 64) : keepsQueue s (execGateResetRelease b s) := by
  unfold execGateResetRelease
  split <;> simp

@[simp] theorem State.dozeAfterGate_pending (b : Nat) : (s.dozeAfterGate b).pending = s.pending := by
  unfold State.dozeAfterGate
  split <;> simp

@[simp] theorem execGateOpen_keepsQueue (b : Fin 64) : keepsQueue s (execGateOpen b s) := by
  unfold execGateOpen
  split <;> simp

/-! ### Staging -/

@[simp] theorem State.updTransferError_pending (a : Access) : (s.updTransferError a).pending = s.pending := by simp [State.updTransferError]

@[simp] theorem State.updAppend_pending : s.updAppend.pending = s.pending := by
  unfold State.updAppend
  dsimp only
  (repeat' split) <;> simp

@[simp] theorem State.updCmdWrite_pending (v : Word) : (s.updCmdWrite v).pending = s.pending := by
  unfold State.updCmdWrite
  refine State.actions_pending s _ _ v _ fun u => ?_
  dsimp only
  (repeat' split) <;> simp -implicitDefEqProofs

@[simp] theorem execUpdBegin_keepsQueue (v : Word) : keepsQueue s (execUpdBegin v s) := by simp [execUpdBegin]
@[simp] theorem execUpdWrite_keepsQueue (v : Word) : keepsQueue s (execUpdWrite v s) := by simp [execUpdWrite]
@[simp] theorem execUpdEnd_keepsQueue (v : Word) : keepsQueue s (execUpdEnd v s) := by simp [execUpdEnd]
@[simp] theorem execUpdDiscard_keepsQueue (v : Word) : keepsQueue s (execUpdDiscard v s) := by simp [execUpdDiscard]

/-! ### Register reads -/

@[simp] theorem State.regLatch_pending (a : Nat) : (s.regLatch a).pending = s.pending := by
  unfold State.regLatch
  (repeat' split) <;> simp -implicitDefEqProofs

@[simp] theorem State.regRead_pending (a : Nat) : (s.regRead a).2.pending = s.pending := by
  unfold State.regRead
  dsimp only
  (repeat' split) <;> simp

@[simp] theorem execSnapshotRead_keepsQueue (addr : Word) : keepsQueue s (execSnapshotRead addr s) := by simp [execSnapshotRead]

/-! ### Register writes -/

@[simp] theorem State.writeClockReset_pending (a : Nat) (v : Word) : (s.writeClockReset a v).pending = s.pending := by
  unfold State.writeClockReset
  (repeat' split) <;> simp

@[simp] theorem State.writePower_pending (a : Nat) (v : Word) : (s.writePower a v).pending = s.pending := by
  unfold State.writePower
  (repeat' split) <;> simp

@[simp] theorem State.writeSump_pending (a : Nat) (v : Word) : (s.writeSump a v).pending = s.pending := by
  unfold State.writeSump
  (repeat' split) <;> simp

@[simp] theorem State.writeFlowstone_pending (a : Nat) (v : Word) : (s.writeFlowstone a v).pending = s.pending := by
  unfold State.writeFlowstone
  (repeat' split) <;> simp

@[simp] theorem State.writeGuard_pending (a : Nat) (v : Word) : (s.writeGuard a v).pending = s.pending := by
  unfold State.writeGuard
  split <;> simp

@[simp] theorem State.writeSecurity_pending (a : Nat) (v : Word) : (s.writeSecurity a v).pending = s.pending := by
  unfold State.writeSecurity
  (repeat' split) <;> simp

@[simp] theorem State.writeTime_pending (a : Nat) (v : Word) : (s.writeTime a v).pending = s.pending := by
  unfold State.writeTime
  (repeat' split) <;> simp

@[simp] theorem State.writeGallery_pending (a : Nat) (v : Word) : (s.writeGallery a v).pending = s.pending := by
  unfold State.writeGallery
  split <;> simp

@[simp] theorem State.writeSurvey_pending (a : Nat) (v : Word) : (s.writeSurvey a v).pending = s.pending := by
  unfold State.writeSurvey
  (repeat' split) <;> simp

@[simp] theorem State.writeLockstep_pending (a : Nat) (v : Word) : (s.writeLockstep a v).pending = s.pending := by
  unfold State.writeLockstep
  (repeat' split) <;> simp

@[simp] theorem State.writePair_pending (a : Nat) (v : Word) : (s.writePair a v).pending = s.pending := by
  unfold State.writePair
  split <;> simp

@[simp] theorem State.writeIsland_pending (a : Nat) (v : Word) : (s.writeIsland a v).pending = s.pending := by
  unfold State.writeIsland
  (repeat' split) <;> simp

@[simp] theorem State.writeRing_pending (a : Nat) (v : Word) : (s.writeRing a v).pending = s.pending := by
  unfold State.writeRing
  (repeat' split) <;> simp

@[simp] theorem State.writeCanCtl_pending (k o a : Nat) (v : Word) : (s.writeCanCtl k o a v).pending = s.pending := by
  unfold State.writeCanCtl
  split <;> simp

@[simp] theorem State.writeCanObj_pending (a : Nat) (v : Word) : (s.writeCanObj a v).pending = s.pending := by
  unfold State.writeCanObj
  split <;> simp

@[simp] theorem State.writeCan_pending (a : Nat) (v : Word) : (s.writeCan a v).pending = s.pending := by
  unfold State.writeCan
  split <;> simp

@[simp] theorem State.writeUpdate_pending (a : Nat) (v : Word) : (s.writeUpdate a v).pending = s.pending := by
  unfold State.writeUpdate
  (repeat' split) <;> simp

@[simp] theorem State.writeTestpert_pending (a : Nat) (v : Word) : (s.writeTestpert a v).pending = s.pending := by
  unfold State.writeTestpert
  (repeat' split) <;> simp

@[simp] theorem State.regWrite_pending (a : Nat) (v : Word) : (s.regWrite a v).pending = s.pending := by
  unfold State.regWrite
  split <;> simp

@[simp] theorem execRegisterWrite_keepsQueue (addr v : Word) : keepsQueue s (execRegisterWrite addr v s) := by
  unfold execRegisterWrite
  split <;> simp

@[simp] theorem execRegisterBadAccess_keepsQueue (addr : Word) (len : Nat) (isWrite : Bool) :
    keepsQueue s (execRegisterBadAccess addr len isWrite s) := by
  simp [execRegisterBadAccess]

@[simp] theorem execSignalTableHostWrite_keepsQueue (addr v : Word) : keepsQueue s (execSignalTableHostWrite addr v s) := by
  simp [execSignalTableHostWrite]

@[simp] theorem execLsDbgHostAccess_keepsQueue (addr : Word) (isWrite : Bool) (v : Word) :
    keepsQueue s (execLsDbgHostAccess addr isWrite v s) := by
  simp [execLsDbgHostAccess]

/-! ### Host accesses -/

theorem State.sramTarget_pending {a : Access} {r : List Byte × State} (h : s.sramTarget a = some r) : r.2.pending = s.pending := by
  unfold State.sramTarget at h
  dsimp only at h
  (repeat' split at h) <;> cases h <;> simp

theorem State.registerTarget_pending {a : Access} {r : List Byte × State} (h : s.registerTarget a = some r) : r.2.pending = s.pending := by
  unfold State.registerTarget at h
  dsimp only at h
  (repeat' split at h) <;> cases h <;> simp

theorem State.instTarget_pending {a : Access} {r : List Byte × State} (h : s.instTarget a = some r) : r.2.pending = s.pending := by
  unfold State.instTarget at h
  dsimp only at h
  split at h <;> cases h
  rfl

theorem State.signalTarget_pending {a : Access} {r : List Byte × State} (h : s.signalTarget a = some r) : r.2.pending = s.pending := by
  unfold State.signalTarget at h
  dsimp only at h
  split at h <;> cases h
  rfl

theorem State.flowstoneTarget_pending {a : Access} {r : List Byte × State} (h : s.flowstoneTarget a = some r) : r.2.pending = s.pending := by
  unfold State.flowstoneTarget at h
  dsimp only at h
  (repeat' split at h) <;> cases h <;> simp

theorem State.target_pending {t : Nat} {a : Access} {r : List Byte × State} (h : s.target t a = some r) : r.2.pending = s.pending := by
  unfold State.target at h
  split at h
  · split at h <;> cases h
    rfl
  · exact s.sramTarget_pending h
  · exact s.registerTarget_pending h
  · exact s.instTarget_pending h
  · exact s.signalTarget_pending h
  · exact s.flowstoneTarget_pending h
  · cases h

theorem State.busAnswer_pending {a : Access} {r : TargetAnswer} (h : ∀ p, r = some p → p.2.pending = s.pending) :
    (s.busAnswer a r).pending = s.pending := by
  unfold State.busAnswer
  split
  · rfl
  · exact h _ rfl

@[simp] theorem State.access_pending (a : Access) : (s.access a).pending = s.pending := by
  unfold State.access
  dsimp only
  split
  · exact (State.busAnswer_pending _ fun _ h => State.target_pending _ h).trans (s.route_pending a)
  · simp

@[simp] theorem State.dapAccess_pending (a : Access) : (s.dapAccess a).pending = s.pending := by
  unfold State.dapAccess
  dsimp only
  (repeat' split) <;> simp

@[simp] theorem execDap_keepsQueue (a : Access) : keepsQueue s (execDap a s) := by simp [execDap]

@[simp] theorem execHostAccess_keepsQueue (a : Access) : keepsQueue s (execHostAccess a s) := by
  unfold execHostAccess
  split <;> simp

/-! ### The rows of block code -/

@[simp] theorem execAdd_keepsQueue (c : Fin 16) (w : Lane) (w32 : Bool) (d a b : BitVec 5) : keepsQueue s (execAdd c w w32 d a b s) := by
  simp [execAdd]

@[simp] theorem execSub_keepsQueue (c : Fin 16) (w : Lane) (w32 : Bool) (d a b : BitVec 5) : keepsQueue s (execSub c w w32 d a b s) := by
  simp [execSub]

@[simp] theorem execLand_keepsQueue (c : Fin 16) (w : Lane) (w32 : Bool) (d a b : BitVec 5) : keepsQueue s (execLand c w w32 d a b s) := by
  simp [execLand]

@[simp] theorem execLor_keepsQueue (c : Fin 16) (w : Lane) (w32 : Bool) (d a b : BitVec 5) : keepsQueue s (execLor c w w32 d a b s) := by
  simp [execLor]

@[simp] theorem execLxor_keepsQueue (c : Fin 16) (w : Lane) (w32 : Bool) (d a b : BitVec 5) : keepsQueue s (execLxor c w w32 d a b s) := by
  simp [execLxor]

@[simp] theorem execSll_keepsQueue (c : Fin 16) (w : Lane) (w32 : Bool) (d a b : BitVec 5) : keepsQueue s (execSll c w w32 d a b s) := by
  simp [execSll]

@[simp] theorem execSrl_keepsQueue (c : Fin 16) (w : Lane) (w32 : Bool) (d a b : BitVec 5) : keepsQueue s (execSrl c w w32 d a b s) := by
  simp [execSrl]

@[simp] theorem execSra_keepsQueue (c : Fin 16) (w : Lane) (w32 : Bool) (d a b : BitVec 5) : keepsQueue s (execSra c w w32 d a b s) := by
  simp [execSra]

@[simp] theorem execSlt_keepsQueue (c : Fin 16) (w : Lane) (w32 : Bool) (d a b : BitVec 5) : keepsQueue s (execSlt c w w32 d a b s) := by
  simp [execSlt]

@[simp] theorem execSltu_keepsQueue (c : Fin 16) (w : Lane) (w32 : Bool) (d a b : BitVec 5) : keepsQueue s (execSltu c w w32 d a b s) := by
  simp [execSltu]

@[simp] theorem execMin_keepsQueue (c : Fin 16) (w : Lane) (w32 : Bool) (d a b : BitVec 5) : keepsQueue s (execMin c w w32 d a b s) := by
  simp [execMin]

@[simp] theorem execMax_keepsQueue (c : Fin 16) (w : Lane) (w32 : Bool) (d a b : BitVec 5) : keepsQueue s (execMax c w w32 d a b s) := by
  simp [execMax]

@[simp] theorem execMinu_keepsQueue (c : Fin 16) (w : Lane) (w32 : Bool) (d a b : BitVec 5) : keepsQueue s (execMinu c w w32 d a b s) := by
  simp [execMinu]

@[simp] theorem execMaxu_keepsQueue (c : Fin 16) (w : Lane) (w32 : Bool) (d a b : BitVec 5) : keepsQueue s (execMaxu c w w32 d a b s) := by
  simp [execMaxu]

@[simp] theorem execMul_keepsQueue (c : Fin 16) (w : Lane) (w32 : Bool) (d a b : BitVec 5) : keepsQueue s (execMul c w w32 d a b s) := by
  simp [execMul]

@[simp] theorem execMulh_keepsQueue (c : Fin 16) (w : Lane) (w32 : Bool) (d a b : BitVec 5) : keepsQueue s (execMulh c w w32 d a b s) := by
  simp [execMulh]

@[simp] theorem execMulhu_keepsQueue (c : Fin 16) (w : Lane) (w32 : Bool) (d a b : BitVec 5) :
    keepsQueue s (execMulhu c w w32 d a b s) := by
  simp [execMulhu]

@[simp] theorem execDiv_keepsQueue (c : Fin 16) (w : Lane) (w32 : Bool) (d a b : BitVec 5) : keepsQueue s (execDiv c w w32 d a b s) := by
  simp [execDiv]

@[simp] theorem execDivu_keepsQueue (c : Fin 16) (w : Lane) (w32 : Bool) (d a b : BitVec 5) : keepsQueue s (execDivu c w w32 d a b s) := by
  simp [execDivu]

@[simp] theorem execRem_keepsQueue (c : Fin 16) (w : Lane) (w32 : Bool) (d a b : BitVec 5) : keepsQueue s (execRem c w w32 d a b s) := by
  simp [execRem]

@[simp] theorem execRemu_keepsQueue (c : Fin 16) (w : Lane) (w32 : Bool) (d a b : BitVec 5) : keepsQueue s (execRemu c w w32 d a b s) := by
  simp [execRemu]

@[simp] theorem execAddi_keepsQueue (c : Fin 16) (w : Lane) (d a : BitVec 5) (imm : BitVec 16) : keepsQueue s (execAddi c w d a imm s) := by
  simp [execAddi]

@[simp] theorem execAndi_keepsQueue (c : Fin 16) (w : Lane) (d a : BitVec 5) (imm : BitVec 16) : keepsQueue s (execAndi c w d a imm s) := by
  simp [execAndi]

@[simp] theorem execOri_keepsQueue (c : Fin 16) (w : Lane) (d a : BitVec 5) (imm : BitVec 16) : keepsQueue s (execOri c w d a imm s) := by
  simp [execOri]

@[simp] theorem execXori_keepsQueue (c : Fin 16) (w : Lane) (d a : BitVec 5) (imm : BitVec 16) : keepsQueue s (execXori c w d a imm s) := by
  simp [execXori]

@[simp] theorem execSlti_keepsQueue (c : Fin 16) (w : Lane) (d a : BitVec 5) (imm : BitVec 16) : keepsQueue s (execSlti c w d a imm s) := by
  simp [execSlti]

@[simp] theorem execSltiu_keepsQueue (c : Fin 16) (w : Lane) (d a : BitVec 5) (imm : BitVec 16) :
    keepsQueue s (execSltiu c w d a imm s) := by
  simp [execSltiu]

@[simp] theorem execShiSll_keepsQueue (c : Fin 16) (w : Lane) (d a : BitVec 5) (amount : BitVec 6) :
    keepsQueue s (execShiSll c w d a amount s) := by
  simp [execShiSll]

@[simp] theorem execShiSrl_keepsQueue (c : Fin 16) (w : Lane) (d a : BitVec 5) (amount : BitVec 6) :
    keepsQueue s (execShiSrl c w d a amount s) := by
  simp [execShiSrl]

@[simp] theorem execShiSra_keepsQueue (c : Fin 16) (w : Lane) (d a : BitVec 5) (amount : BitVec 6) :
    keepsQueue s (execShiSra c w d a amount s) := by
  simp [execShiSra]

@[simp] theorem execLui_keepsQueue (c : Fin 16) (w : Lane) (d : BitVec 5) (imm : BitVec 16) : keepsQueue s (execLui c w d imm s) := by
  simp [execLui]

@[simp] theorem execFadd_keepsQueue (c : Fin 16) (w : Lane) (d a b : BitVec 5) : keepsQueue s (execFadd c w d a b s) := by simp [execFadd]
@[simp] theorem execFsub_keepsQueue (c : Fin 16) (w : Lane) (d a b : BitVec 5) : keepsQueue s (execFsub c w d a b s) := by simp [execFsub]
@[simp] theorem execFmul_keepsQueue (c : Fin 16) (w : Lane) (d a b : BitVec 5) : keepsQueue s (execFmul c w d a b s) := by simp [execFmul]
@[simp] theorem execFdiv_keepsQueue (c : Fin 16) (w : Lane) (d a b : BitVec 5) : keepsQueue s (execFdiv c w d a b s) := by simp [execFdiv]
@[simp] theorem execFsqrt_keepsQueue (c : Fin 16) (w : Lane) (d a : BitVec 5) : keepsQueue s (execFsqrt c w d a s) := by simp [execFsqrt]
@[simp] theorem execFmin_keepsQueue (c : Fin 16) (w : Lane) (d a b : BitVec 5) : keepsQueue s (execFmin c w d a b s) := by simp [execFmin]
@[simp] theorem execFmax_keepsQueue (c : Fin 16) (w : Lane) (d a b : BitVec 5) : keepsQueue s (execFmax c w d a b s) := by simp [execFmax]
@[simp] theorem execFabs_keepsQueue (c : Fin 16) (w : Lane) (d a : BitVec 5) : keepsQueue s (execFabs c w d a s) := by simp [execFabs]
@[simp] theorem execFneg_keepsQueue (c : Fin 16) (w : Lane) (d a : BitVec 5) : keepsQueue s (execFneg c w d a s) := by simp [execFneg]
@[simp] theorem execFlt_keepsQueue (c : Fin 16) (w : Lane) (d a b : BitVec 5) : keepsQueue s (execFlt c w d a b s) := by simp [execFlt]
@[simp] theorem execFle_keepsQueue (c : Fin 16) (w : Lane) (d a b : BitVec 5) : keepsQueue s (execFle c w d a b s) := by simp [execFle]
@[simp] theorem execFeq_keepsQueue (c : Fin 16) (w : Lane) (d a b : BitVec 5) : keepsQueue s (execFeq c w d a b s) := by simp [execFeq]
@[simp] theorem execI2f_keepsQueue (c : Fin 16) (w : Lane) (d a : BitVec 5) : keepsQueue s (execI2f c w d a s) := by simp [execI2f]
@[simp] theorem execF2i_keepsQueue (c : Fin 16) (w : Lane) (d a : BitVec 5) : keepsQueue s (execF2i c w d a s) := by simp [execF2i]
@[simp] theorem execU2f_keepsQueue (c : Fin 16) (w : Lane) (d a : BitVec 5) : keepsQueue s (execU2f c w d a s) := by simp [execU2f]
@[simp] theorem execF2it_keepsQueue (c : Fin 16) (w : Lane) (d a : BitVec 5) : keepsQueue s (execF2it c w d a s) := by simp [execF2it]
@[simp] theorem execEndExec_keepsQueue (c : Fin 16) (w : Lane) : keepsQueue s (execEndExec c w s) := by simp [execEndExec]
@[simp] theorem execTok_keepsQueue (c : Fin 16) (w : Lane) (imm : BitVec 12) : keepsQueue s (execTok c w imm s) := by simp [execTok]
@[simp] theorem execGett_keepsQueue (c : Fin 16) (w : Lane) (d a : BitVec 5) : keepsQueue s (execGett c w d a s) := by simp [execGett]
@[simp] theorem execSett_keepsQueue (c : Fin 16) (w : Lane) (d a : BitVec 5) : keepsQueue s (execSett c w d a s) := by simp [execSett]
@[simp] theorem execJoint_keepsQueue (c : Fin 16) (w : Lane) (d a : BitVec 5) : keepsQueue s (execJoint c w d a s) := by simp [execJoint]
@[simp] theorem execJr_keepsQueue (c : Fin 16) (w : Lane) (a : BitVec 5) : keepsQueue s (execJr c w a s) := by simp [execJr]
@[simp] theorem execCyc_keepsQueue (c : Fin 16) (w : Lane) (d : BitVec 5) : keepsQueue s (execCyc c w d s) := by simp [execCyc]
@[simp] theorem execT0ns_keepsQueue (c : Fin 16) (w : Lane) (d : BitVec 5) : keepsQueue s (execT0ns c w d s) := by simp [execT0ns]
@[simp] theorem execFirst_keepsQueue (c : Fin 16) (w : Lane) (d : BitVec 5) : keepsQueue s (execFirst c w d s) := by simp [execFirst]

@[simp] theorem execRpoll_keepsQueue (c : Fin 16) (w : Lane) (d a : BitVec 5) (imm : BitVec 12) :
    keepsQueue s (execRpoll c w d a imm s) := by
  simp [execRpoll]

@[simp] theorem execRput_keepsQueue (c : Fin 16) (w : Lane) (d a : BitVec 5) (imm : BitVec 12) : keepsQueue s (execRput c w d a imm s) := by
  simp [execRput]

@[simp] theorem execPeriod_keepsQueue (c : Fin 16) (w : Lane) (d : BitVec 5) : keepsQueue s (execPeriod c w d s) := by simp [execPeriod]
@[simp] theorem execJ_keepsQueue (c : Fin 16) (w : Lane) (off : BitVec 26) : keepsQueue s (execJ c w off s) := by simp [execJ]
@[simp] theorem execCall_keepsQueue (c : Fin 16) (w : Lane) (off : BitVec 26) : keepsQueue s (execCall c w off s) := by simp [execCall]

@[simp] theorem execLdb_keepsQueue (c : Fin 16) (w : Lane) (d a : BitVec 5) (imm : BitVec 16) : keepsQueue s (execLdb c w d a imm s) := by
  simp [execLdb]

@[simp] theorem execLdh_keepsQueue (c : Fin 16) (w : Lane) (d a : BitVec 5) (imm : BitVec 16) : keepsQueue s (execLdh c w d a imm s) := by
  simp [execLdh]

@[simp] theorem execLdw_keepsQueue (c : Fin 16) (w : Lane) (d a : BitVec 5) (imm : BitVec 16) : keepsQueue s (execLdw c w d a imm s) := by
  simp [execLdw]

@[simp] theorem execLdd_keepsQueue (c : Fin 16) (w : Lane) (d a : BitVec 5) (imm : BitVec 16) : keepsQueue s (execLdd c w d a imm s) := by
  simp [execLdd]

@[simp] theorem execStb_keepsQueue (c : Fin 16) (w : Lane) (d a : BitVec 5) (imm : BitVec 16) : keepsQueue s (execStb c w d a imm s) := by
  simp [execStb]

@[simp] theorem execSth_keepsQueue (c : Fin 16) (w : Lane) (d a : BitVec 5) (imm : BitVec 16) : keepsQueue s (execSth c w d a imm s) := by
  simp [execSth]

@[simp] theorem execStw_keepsQueue (c : Fin 16) (w : Lane) (d a : BitVec 5) (imm : BitVec 16) : keepsQueue s (execStw c w d a imm s) := by
  simp [execStw]

@[simp] theorem execStd_keepsQueue (c : Fin 16) (w : Lane) (d a : BitVec 5) (imm : BitVec 16) : keepsQueue s (execStd c w d a imm s) := by
  simp [execStd]

@[simp] theorem execIldb_keepsQueue (c : Fin 16) (w : Lane) (d a : BitVec 5) (imm : BitVec 16) : keepsQueue s (execIldb c w d a imm s) := by
  simp [execIldb]

@[simp] theorem execIldh_keepsQueue (c : Fin 16) (w : Lane) (d a : BitVec 5) (imm : BitVec 16) : keepsQueue s (execIldh c w d a imm s) := by
  simp [execIldh]

@[simp] theorem execIldw_keepsQueue (c : Fin 16) (w : Lane) (d a : BitVec 5) (imm : BitVec 16) : keepsQueue s (execIldw c w d a imm s) := by
  simp [execIldw]

@[simp] theorem execIldd_keepsQueue (c : Fin 16) (w : Lane) (d a : BitVec 5) (imm : BitVec 16) : keepsQueue s (execIldd c w d a imm s) := by
  simp [execIldd]

@[simp] theorem execIstb_keepsQueue (c : Fin 16) (w : Lane) (d a : BitVec 5) (imm : BitVec 16) : keepsQueue s (execIstb c w d a imm s) := by
  simp [execIstb]

@[simp] theorem execIsth_keepsQueue (c : Fin 16) (w : Lane) (d a : BitVec 5) (imm : BitVec 16) : keepsQueue s (execIsth c w d a imm s) := by
  simp [execIsth]

@[simp] theorem execIstw_keepsQueue (c : Fin 16) (w : Lane) (d a : BitVec 5) (imm : BitVec 16) : keepsQueue s (execIstw c w d a imm s) := by
  simp [execIstw]

@[simp] theorem execIstd_keepsQueue (c : Fin 16) (w : Lane) (d a : BitVec 5) (imm : BitVec 16) : keepsQueue s (execIstd c w d a imm s) := by
  simp [execIstd]

@[simp] theorem execLds_keepsQueue (c : Fin 16) (w : Lane) (d a : BitVec 5) (imm : BitVec 16) : keepsQueue s (execLds c w d a imm s) := by
  simp [execLds]

@[simp] theorem execLdsx_keepsQueue (c : Fin 16) (w : Lane) (d a : BitVec 5) (imm : BitVec 16) : keepsQueue s (execLdsx c w d a imm s) := by
  simp [execLdsx]

@[simp] theorem execSts_keepsQueue (c : Fin 16) (w : Lane) (d a : BitVec 5) (imm : BitVec 16) : keepsQueue s (execSts c w d a imm s) := by
  simp [execSts]

@[simp] theorem execBeq_keepsQueue (c : Fin 16) (w : Lane) (a b : BitVec 5) (off : BitVec 16) : keepsQueue s (execBeq c w a b off s) := by
  simp [execBeq]

@[simp] theorem execBne_keepsQueue (c : Fin 16) (w : Lane) (a b : BitVec 5) (off : BitVec 16) : keepsQueue s (execBne c w a b off s) := by
  simp [execBne]

@[simp] theorem execBlt_keepsQueue (c : Fin 16) (w : Lane) (a b : BitVec 5) (off : BitVec 16) : keepsQueue s (execBlt c w a b off s) := by
  simp [execBlt]

@[simp] theorem execBge_keepsQueue (c : Fin 16) (w : Lane) (a b : BitVec 5) (off : BitVec 16) : keepsQueue s (execBge c w a b off s) := by
  simp [execBge]

@[simp] theorem execBltu_keepsQueue (c : Fin 16) (w : Lane) (a b : BitVec 5) (off : BitVec 16) : keepsQueue s (execBltu c w a b off s) := by
  simp [execBltu]

@[simp] theorem execBgeu_keepsQueue (c : Fin 16) (w : Lane) (a b : BitVec 5) (off : BitVec 16) : keepsQueue s (execBgeu c w a b off s) := by
  simp [execBgeu]

@[simp] theorem execBbad_keepsQueue (c : Fin 16) (w : Lane) (a : BitVec 5) (off : BitVec 16) : keepsQueue s (execBbad c w a off s) := by
  simp [execBbad]

@[simp] theorem execBok_keepsQueue (c : Fin 16) (w : Lane) (a : BitVec 5) (off : BitVec 16) : keepsQueue s (execBok c w a off s) := by
  simp [execBok]

@[simp] theorem execIllegalInstruction_keepsQueue (c : Fin 16) (w : Lane) (word : Word) :
    keepsQueue s (execIllegalInstruction c w word s) := by
  simp [execIllegalInstruction]

/-! ### One cycle -/

@[simp] theorem State.countDown_pending (f : RegField) : (s.countDown f).pending = s.pending := by
  unfold State.countDown
  split <;> simp

@[simp] theorem State.scrubTick_pending : s.scrubTick.pending = s.pending := by
  unfold State.scrubTick
  (repeat' split) <;> simp

@[simp] theorem State.secondTick_pending : s.secondTick.pending = s.pending := by simp [State.secondTick]

@[simp] theorem State.msTick_pending : s.msTick.pending = s.pending := by
  unfold State.msTick
  split <;> simp

@[simp] theorem State.squeezeTick_pending : s.squeezeTick.pending = s.pending := by
  unfold State.squeezeTick
  (repeat' split) <;> simp

@[simp] theorem State.tick_pending : s.tick.pending = s.pending := by simp [State.tick, apply_ite State.pending]

/-! ### A step -/

/-- Every command by its own lemma above. -/
theorem exec_keepsQueue (c : Instr) : keepsQueue s (exec c s) := by
  cases c <;> (dsimp only [exec]; simp)

end Sys2Proof.Machine
end

section
/-! The obligation about the queue. -/
open Sys2Proof Sys2Proof.Machine

/-- Settles O4: a command keeps the queue it is run on, which is the rest of the queue before the step, and a cycle keeps an empty one. -/
theorem stepTakesOneCommand : Obligations.StepTakesOneCommand := by
  intro s
  cases h : s.pending with
  | nil => exact ⟨s.tick, by simp only [step, h], by simpa using h⟩
  | cons c rest =>
    obtain ⟨t, ht, hq⟩ := exec_keepsQueue { s with pending := rest } c
    exact ⟨t, by simpa only [step, h] using ht, hq⟩

end

section
/-! SUPPORT. Status codes and propagation (R23 to R25, R133), and the conversions of a migration map (R114). -/
namespace Sys2Proof.Machine

/-! ### Status codes -/

/-- The codes in the order of R25, first to last. -/
def tagOrder : List Nibble :=
  [Tag.FORCED, Tag.SIMULATED, Tag.BAD_SUPPLY, Tag.BAD_STATION_LOST, Tag.BAD_CHANNEL_FAULT, Tag.BAD_EXTERNAL_DRIVE, Tag.BAD_WIRE,
    Tag.BAD_COMPLIANCE, Tag.BAD_HIGH_ALARM, Tag.BAD_LOW_ALARM, Tag.STALE, Tag.HELD, Tag.UNCERTAIN_RANGE, Tag.INIT, Tag.GOOD]

/-- Ranks follow the order; the two alarms of R25 share one. -/
theorem tagRank_of_tagOrder : ∀ (i : Fin 15) (x : Nibble), tagOrder[i]? = some x → tagRank x = if i.val ≤ 8 then i.val + 1 else i.val := by
  decide

theorem tagBad_of_tagOrder : ∀ (i : Fin 15) (x : Nibble), tagOrder[i]? = some x → (tagBad x = true ↔ 2 ≤ i.val ∧ i.val ≤ 9) := by
  decide

theorem tagFirst_of_le {x y : Nibble} (h : tagRank x ≤ tagRank y) : tagFirst x y = x := if_neg (Nat.not_lt.2 h)

theorem tagFirst_of_lt {x y : Nibble} (h : tagRank y < tagRank x) : tagFirst x y = y := if_pos h

/-- Of equal ranks the first stands, so the grouping of three codes does not matter. -/
theorem tagFirst_assoc (x y z : Nibble) : tagFirst (tagFirst x y) z = tagFirst x (tagFirst y z) := by
  rcases Nat.lt_or_ge (tagRank y) (tagRank x) with hxy | hxy <;> rcases Nat.lt_or_ge (tagRank z) (tagRank y) with hyz | hyz
  · rw [tagFirst_of_lt hxy, tagFirst_of_lt hyz, tagFirst_of_lt (hyz.trans hxy)]
  · rw [tagFirst_of_lt hxy, tagFirst_of_le hyz, tagFirst_of_lt hxy]
  · rw [tagFirst_of_le hxy, tagFirst_of_lt hyz]
  · rw [tagFirst_of_le hxy, tagFirst_of_le hyz, tagFirst_of_le hxy, tagFirst_of_le (hxy.trans hyz)]

theorem tagCarried_self {x : Nibble} (h : 3 ≤ tagRank x ∧ tagRank x ≤ 13) : tagCarried x = x := if_pos h

theorem tagCarried_dropped {x : Nibble} (h : ¬ (3 ≤ tagRank x ∧ tagRank x ≤ 13)) : tagCarried x = Tag.GOOD := if_neg h

theorem tagCarried_carried (x : Nibble) : tagCarried (tagCarried x) = tagCarried x := by
  by_cases h : 3 ≤ tagRank x ∧ tagRank x ≤ 13
  · rw [tagCarried_self h, tagCarried_self h]
  · rw [tagCarried_dropped h]
    rfl

/-- GOOD gives way to every code that is carried. -/
theorem tagFirst_GOOD_carried (y : Nibble) : tagFirst Tag.GOOD (tagCarried y) = tagCarried y := by
  by_cases h : 3 ≤ tagRank y ∧ tagRank y ≤ 13
  · rw [tagCarried_self h]
    exact tagFirst_of_lt (Nat.lt_succ_of_le h.2)
  · rw [tagCarried_dropped h]
    rfl

/-- What a propagation answers is carried on. -/
theorem tagCarried_propagate (x y : Nibble) : tagCarried (propagate x y) = propagate x y := by
  unfold propagate tagFirst
  split <;> exact tagCarried_carried _

theorem propagate_assoc (x y z : Nibble) : propagate (propagate x y) z = propagate x (propagate y z) := by
  show tagFirst (tagCarried (propagate x y)) (tagCarried z) = tagFirst (tagCarried x) (tagCarried (propagate y z))
  rw [tagCarried_propagate, tagCarried_propagate]
  exact tagFirst_assoc _ _ _

/-- Of the order all but FORCED and SIMULATED are carried, GOOD as itself (R133). -/
theorem tagCarried_of_tagOrder {i : Fin 15} {x : Nibble} (h : tagOrder[i]? = some x) :
    tagCarried x = if i.val < 2 then Tag.GOOD else x := by
  have hr := tagRank_of_tagOrder i x h
  by_cases hg : i.val = 14
  · obtain rfl : i = 14 := Fin.ext hg
    exact (tagCarried_dropped (by rw [hr]; decide)).trans (Option.some.inj h)
  · by_cases h2 : i.val < 2
    · rw [if_pos h2]
      exact tagCarried_dropped (by split_ifs at hr <;> omega)
    · rw [if_neg h2]
      exact tagCarried_self (by split_ifs at hr <;> omega)

theorem statusPrecedence : Claim.StatusPrecedence := by
  refine ⟨fun i j x y hx hy hij => ?_, fun x y z _ _ _ => propagate_assoc x y z⟩
  change tagOrder[i]? = some x at hx
  change tagOrder[j]? = some y at hy
  have hrx := tagRank_of_tagOrder i x hx
  have hry := tagRank_of_tagOrder j y hy
  have hle : i.val ≤ j.val := hij
  have hxy : tagRank x ≤ tagRank y := by split_ifs at hrx hry <;> omega
  refine ⟨tagFirst_of_le hxy, fun hne => ?_, ?_, tagBad_of_tagOrder i x hx⟩
  · rcases eq_or_ne i j with rfl | hij'
    · obtain rfl : x = y := Option.some.inj (hx.symm.trans hy)
      exact tagFirst_of_le le_rfl
    · have hlt : i.val ≠ j.val := Fin.val_ne_of_ne hij'
      exact tagFirst_of_lt (by split_ifs at hrx hry <;> omega)
  · rw [propagate, tagCarried_of_tagOrder hx]
    by_cases h2 : i.val < 2
    · rw [if_pos h2, if_pos h2, tagFirst_GOOD_carried, tagCarried_of_tagOrder hy]
    · rw [if_neg h2, if_neg h2, tagCarried_of_tagOrder hy, if_neg (by omega)]
      exact tagFirst_of_le hxy

/-! ### Conversions -/

/-- The signed value is the residue nearest to 0. -/
theorem signedOf_eq_bmod (w v : Nat) : signedOf w v = Int.bmod v (2 ^ (8 * w)) := by
  unfold signedOf Int.bmod
  dsimp only
  rw [← Int.natCast_mod]
  have hm : 2 ^ (8 * w) = 1 ∨ 2 ∣ 2 ^ (8 * w) := by
    rcases w with _ | w
    · exact Or.inl rfl
    · exact Or.inr (dvd_pow_self 2 (by omega))
  generalize 2 ^ (8 * w) = m at hm ⊢
  split_ifs <;> omega

theorem toElement_lt (w : Nat) (i : Int) : toElement w i < 2 ^ (8 * w) := by
  unfold toElement
  have := Int.emod_lt_of_pos i (Int.natCast_pos.2 (Nat.two_pow_pos (8 * w)))
  have := Int.emod_nonneg i (Int.natCast_ne_zero.2 (Nat.two_pow_pos (8 * w)).ne')
  omega

/-- The bytes of an integer, read as a signed value, are the integer when it fits them. -/
theorem signedOf_toElement {w : Nat} (hw : 0 < w) {i : Int} (hl : -(2 ^ (8 * w - 1)) ≤ i) (hu : i ≤ 2 ^ (8 * w - 1) - 1) :
    signedOf w (toElement w i) = i := by
  have hm : 2 ^ (8 * w) = 2 * 2 ^ (8 * w - 1) := by rw [← Nat.pow_succ']; congr 1; omega
  rw [signedOf_eq_bmod, toElement, Int.toNat_of_nonneg (Int.emod_nonneg _ (Int.natCast_ne_zero.2 (Nat.two_pow_pos _).ne')), Int.emod_bmod]
  apply Int.bmod_eq_of_le <;> rw [hm] <;> push_cast <;> omega

theorem signedOf_range {w : Nat} (hw : 0 < w) (v : Nat) : -(2 ^ (8 * w - 1)) ≤ signedOf w v ∧ signedOf w v ≤ 2 ^ (8 * w - 1) - 1 := by
  have hm : 2 ^ (8 * w) = 2 * 2 ^ (8 * w - 1) := by rw [← Nat.pow_succ']; congr 1; omega
  have hp := Nat.two_pow_pos (8 * w)
  rw [signedOf_eq_bmod]
  have hl := Int.le_bmod (x := v) hp
  have hu := Int.bmod_lt (x := v) hp
  rw [hm] at hl hu ⊢
  push_cast at hl hu ⊢
  omega

theorem migrationConversions : Claim.MigrationConversions := by
  intro e v
  refine ⟨fun h => ?_, fun h hw hlt => ?_, fun h hw hlt => ?_, fun h hn => ?_, fun h => ?_, fun hw => ⟨toElement_lt _ _, toElement_lt _ _⟩⟩
  · rcases h with h | h <;> simp [migConvert, h]
  · obtain ⟨hl, hu⟩ := signedOf_range hw v
    have hp : (2 : Int) ^ (8 * e.oldWidth - 1) ≤ 2 ^ (8 * e.newWidth - 1) := pow_le_pow_right₀ (by decide) (by omega)
    simp only [migConvert, h]
    exact signedOf_toElement (by omega) (by omega) (by omega)
  · have hp : (0 : Int) < 2 ^ (8 * e.newWidth - 1) := by positivity
    simp only [migConvert, h]
    exact signedOf_toElement hw (by omega) (by omega)
  · simp [migConvert, h, hn]
  · simp [migConvert, h]

end Sys2Proof.Machine
end

section
/-! The obligation about status codes and conversions. -/
open Sys2Proof Sys2Proof.Machine

/-- Settles O7: ranks follow the order of R25, GOOD gives way in a propagation, and each integer conversion answers a value within its element. -/
theorem statusAndConversions : Obligations.StatusAndConversions := ⟨statusPrecedence, migrationConversions⟩

end

section
/-! SUPPORT. Mode commands (R26, R27, R29): what a request for a transition does, and when each command asks for one. -/
namespace Sys2Proof.Machine

variable (s : State)

/-- With none waiting, the transition asked for waits (R27). -/
theorem requestMode_of_none (h : s.core.modeReq = none) (m : Mode) (k : Nat) (e : Option (BitVec 32)) :
    s.requestMode m k e = { s with core := { s.core with modeReq := some ⟨m, k, e⟩ } } := by
  simp [State.requestMode, h]

/-- An engineering command that finds a transition of no lower priority waiting is refused (R29). -/
theorem requestMode_refused {r : ModeReq} (h : s.core.modeReq = some r) (hr : r.rank ≤ 4) (m : Mode) (e : Option (BitVec 32)) :
    s.requestMode m 4 e = s.emit .engRefused := by
  simp [State.requestMode, h, hr]

variable (m : Mode) (cmd : Option (BitVec 32) → RelayCommand)

theorem modeCommand_alone (h : s.ll ≠ .synced) : s.modeCommand m cmd = s.requestMode m 4 none := by
  simp [State.modeCommand, h]

theorem modeCommand_shadow (h : s.ll = .synced) (hr : s.role = .shadow) :
    s.modeCommand m cmd = s.emit (.lifeline (.command (cmd none))) :=
  if_pos ⟨h, hr⟩

theorem modeCommand_lead (h : s.ll = .synced) (hr : s.role = .lead) :
    s.modeCommand m cmd = (s.requestMode m 4 (some (s.fastCount + 4))).emit (.lifeline (.command (cmd (some (s.fastCount + 4))))) := by
  simp [State.modeCommand, h, hr]

/-- Out of a SYNCED pair and with none waiting, a mode command's transition waits at rank 4 (R27, R29). -/
theorem modeCommand_waits (hl : s.ll ≠ .synced) (hn : s.core.modeReq = none) :
    s.modeCommand m cmd = { s with core := { s.core with modeReq := some ⟨m, 4, none⟩ } } := by
  rw [modeCommand_alone s m cmd hl, requestMode_of_none s hn]

/-! ### The commands, where R26 lists them -/

theorem exec_startCommand (hm : s.mode = .hold) (hv : s.surveyVerified = true) (hy : s.bit Fld.PAIR_STAT_YIELDED = false)
    (hl : s.ll ≠ .linked) : exec .startCommand s = .next (s.modeCommand .run .start) := by
  show done s.startCommand = _
  simp [State.startCommand, State.startRefused, hm, hv, hy, hl, done]

theorem exec_stopCommand (h : s.mode = .run ∨ s.mode = .service) : exec .stopCommand s = .next (s.modeCommand .hold (.mode .hold)) :=
  if_pos h

theorem exec_enterServiceCommand (hm : s.mode = .run) (he : s.session = true) :
    exec .enterServiceCommand s = .next (s.modeCommand .service (.mode .service)) :=
  if_pos ⟨hm, he⟩

theorem exec_leaveServiceCommand (h : s.mode = .service) : exec .leaveServiceCommand s = .next (s.modeCommand .run (.mode .run)) := by
  show done s.leaveService = _
  rw [State.leaveService, if_pos h, done]

theorem modeCommandsRequestTransition : Claim.ModeCommandsRequestTransition := by
  intro s hn hl
  refine ⟨fun hm hv hy hk => ?_, fun h => ?_, fun hm he => ?_, fun h => ?_⟩
  · rw [exec_startCommand s hm hv hy hk, modeCommand_waits s _ _ hl hn]
  · rw [exec_stopCommand s h, modeCommand_waits s _ _ hl hn]
  · rw [exec_enterServiceCommand s hm he, modeCommand_waits s _ _ hl hn]
  · rw [exec_leaveServiceCommand s h, modeCommand_waits s _ _ hl hn]

theorem modeCommandsElsewhereIgnored : Claim.ModeCommandsElsewhereIgnored := by
  intro s
  refine ⟨fun h => ?_, fun hr hs => if_neg (not_or.2 ⟨hr, hs⟩), fun h => if_neg ?_, fun h => ?_⟩
  · show done s.startCommand = _
    rw [State.startCommand, if_neg, done]
    rcases h with h | h <;> simp [h]
  · rcases h with h | h
    · exact fun c => h c.1
    · simp [State.session, h]
  · show done s.leaveService = _
    rw [State.leaveService, if_neg h, done]

theorem modeCommandsInPair : Claim.ModeCommandsInPair := by
  intro s hm
  refine ⟨fun hl hr hn => ?_, fun hl hr => ?_, fun r h hk hl => ?_⟩
  · rw [exec_stopCommand s hm, modeCommand_lead s _ _ hl hr, requestMode_of_none s hn]
  · rw [exec_stopCommand s hm, modeCommand_shadow s _ _ hl hr]
  · rw [exec_stopCommand s hm, modeCommand_alone s _ _ hl, requestMode_refused s h hk]

end Sys2Proof.Machine
end

section
/-! The obligation about mode commands. -/
open Sys2Proof Sys2Proof.Machine

/-- Settles O10: each command asks for its transition in the modes of R26 and leaves the state as it is in any other. -/
theorem modeCommands : Obligations.ModeCommands :=
  ⟨modeCommandsRequestTransition, modeCommandsElsewhereIgnored, modeCommandsInPair⟩

end

section
/-! SUPPORT. Register reads (R7, R349, R465): what a read answers, and the registers that it latches. -/
namespace Sys2Proof.Machine

variable {s t u : State} {as bs : List Nat}

/-! ### Changes of registers alone -/

theorem regsOnly_setReg (s : State) (a : Nat) (v : BitVec 32) : regsOnly s (s.setReg a v) [a] :=
  ⟨rfl, fun _ hb => s.getReg_setReg_ne v (by simpa using hb)⟩

theorem regsOnly.trans (h : regsOnly s t as) (k : regsOnly t u bs) : regsOnly s u (as ++ bs) := by
  refine ⟨?_, fun a ha => ?_⟩
  · rw [← h.1]
    conv_rhs => rw [← k.1]
  · rw [List.mem_append, not_or] at ha
    rw [k.2 a ha.2, h.2 a ha.1]

/-- The answer on the bus stands beside the registers. -/
theorem regsOnly.answered (h : regsOnly s t as) (b : BusResponse) :
    regsOnly s { ({ t with bus := b } : State) with bus := s.bus } as := by
  have hb := congrArg State.bus h.1
  dsimp only at hb
  rw [← hb]
  exact h

/-! ### Reads -/

variable (s)

/-- A read of a register without free bits answers its view, and latches. -/
theorem exec_snapshotRead {addr : Word} (hm : freeMask addr.toNat = 0) :
    exec (.snapshotRead addr) s = .next { s.regLatch addr.toNat with bus := .data (leBytes 4 (s.regView addr.toNat).toNat) } := by
  show execSnapshotRead addr s = _
  simp [execSnapshotRead, State.regRead, hm, done]

theorem regView_of_reserved {a : Nat} (h : regFind a = none) : s.regView a = 0 := by
  simp only [State.regView, h]

theorem regView_of_own {a : Nat} {r : RegRow} (h : regFind a = some r) (hs : s.regShown a = none) :
    s.regView a = s.getReg a &&& ~~~r.wo := by
  simp only [State.regView, h, hs, Option.getD_none]

/-- A register that shows other state and has no WO bits reads as what it shows. -/
theorem regView_of_shown {a : Nat} {v : BitVec 32} (h : (regFind a).map RegRow.wo = some 0) (hs : s.regShown a = some v) :
    s.regView a = v := by
  obtain ⟨r, hr, hw⟩ := Option.map_eq_some_iff.1 h
  simp only [State.regView, hr, hw, hs, Option.getD_some]
  exact BitVec.and_allOnes

/-! ### Time -/

/-- A read of time latches seconds and LIN for their companion registers (R349). -/
theorem regLatch_time {a : Nat} (h : a = Reg.TIME_NS ∨ a = Reg.TIME_LIN_LO) :
    regsOnly s (s.regLatch a) [Reg.TIME_SEC_LO, Reg.TIME_SEC_HI, Reg.TIME_LIN_HI] ∧
      (s.regLatch a).getReg Reg.TIME_SEC_LO = BitVec.ofNat 32 s.time.seconds ∧
      (s.regLatch a).getReg Reg.TIME_SEC_HI = BitVec.ofNat 32 (s.time.seconds / 2 ^ 32 % 65536) ∧
      (s.regLatch a).getReg Reg.TIME_LIN_HI = (s.time.lin >>> 32).truncate 32 := by
  rw [State.regLatch, if_pos h]
  refine ⟨((regsOnly_setReg s _ _).trans (regsOnly_setReg _ _ _)).trans (regsOnly_setReg _ _ _), ?_, ?_, ?_⟩
  · rw [State.getReg_setReg_ne _ _ (by decide), State.getReg_setReg_ne _ _ (by decide), State.getReg_setReg_same]
  · rw [State.getReg_setReg_ne _ _ (by decide), State.getReg_setReg_same]
  · rw [State.getReg_setReg_same]

theorem snapshotRead_time {a : Nat} {v : BitVec 32} (ha : a = Reg.TIME_NS ∨ a = Reg.TIME_LIN_LO) (hv : s.regShown a = some v) :
    ∃ t, exec (.snapshotRead (BitVec.ofNat 32 a)) s = .next t ∧ t.bus = .data (leBytes 4 v.toNat) ∧
      regsOnly s { t with bus := s.bus } [Reg.TIME_SEC_LO, Reg.TIME_SEC_HI, Reg.TIME_LIN_HI] ∧
      t.getReg Reg.TIME_SEC_LO = BitVec.ofNat 32 s.time.seconds ∧
      t.getReg Reg.TIME_SEC_HI = BitVec.ofNat 32 (s.time.seconds / 2 ^ 32 % 65536) ∧
      t.getReg Reg.TIME_LIN_HI = (s.time.lin >>> 32).truncate 32 := by
  have hn : (BitVec.ofNat 32 a).toNat = a := by rcases ha with rfl | rfl <;> rfl
  have hm : freeMask a = 0 := by rcases ha with rfl | rfl <;> decide
  have hw : (regFind a).map RegRow.wo = some 0 := by rcases ha with rfl | rfl <;> decide
  obtain ⟨hregs, hlatched⟩ := regLatch_time s ha
  refine ⟨_, exec_snapshotRead s (by rw [hn]; exact hm), ?_, ?_, ?_⟩
  · rw [hn, regView_of_shown s hw hv]
  · rw [hn]
    exact hregs.answered _
  · rw [hn]
    exact hlatched

/-! ### The first page of the register space -/

/-- A row of registers beyond the first page has none in it. -/
theorem within_none_of_first_page {a b n k : Nat} (h : a / 65536 = 0x4000) (hb : 0x40010000 ≤ b) : within a b n k = none :=
  within_eq_none_iff.2 (by omega)

theorem ne_of_first_page {a b : Nat} (h : a / 65536 = 0x4000) (hb : 0x40010000 ≤ b) : a ≠ b := by omega

theorem regLatch_first_page {a : Nat} (h : a / 65536 = 0x4000) : s.regLatch a = s := by
  simp [State.regLatch, ne_of_first_page h (b := Reg.TIME_NS) (by decide), ne_of_first_page h (b := Reg.TIME_LIN_LO) (by decide),
    ne_of_first_page h (b := Reg.FLS_OPTIME_LO) (by decide), within_none_of_first_page h (b := Reg.CAP_TIME_LO 0) (by decide)]

theorem freeMask_first_page {a : Nat} (h : a / 65536 = 0x4000) : freeMask a = 0 := by
  simp [freeMask, ne_of_first_page h (b := Reg.CLK_REF_OFFSET) (by decide), ne_of_first_page h (b := Reg.CFG_STAT) (by decide),
    ne_of_first_page h (b := Reg.TIME_STAT) (by decide), ne_of_first_page h (b := Reg.UPD_FLASH) (by decide),
    within_none_of_first_page h (b := Reg.CAN_STAT 0) (by decide), within_none_of_first_page h (b := Reg.CAN_TDC 0) (by decide),
    within_none_of_first_page h (b := Reg.PAIR_LANE 0) (by decide), within_none_of_first_page h (b := Reg.GAL_CH_ECC 0) (by decide)]

/-! ### The claims -/

theorem accessesAnsweredWithError : Claim.AccessesAnsweredWithError := fun _ _ _ _ => ⟨rfl, rfl⟩

/-- The companions of a read of time show their own bits and latch nothing (R349). -/
theorem companions_show_own_bits : ∀ a ∈ [Reg.TIME_SEC_LO, Reg.TIME_SEC_HI, Reg.TIME_LIN_HI],
    (regFind a).map RegRow.wo = some 0 ∧ s.regShown a = none ∧ freeMask a = 0 ∧ s.regLatch a = s := by
  intro a ha
  simp only [List.mem_cons, List.not_mem_nil, or_false] at ha
  rcases ha with rfl | rfl | rfl <;> exact ⟨by decide, rfl, by decide, rfl⟩

theorem snapshotReadLatches : Claim.SnapshotReadLatches := by
  intro s
  refine ⟨fun a v h => ?_, fun addr r hr hs hm hl => ?_, fun a ha => ?_, fun addr hr hp => ?_⟩
  · simp only [List.mem_cons, List.not_mem_nil, or_false, Prod.mk.injEq] at h
    rcases h with ⟨rfl, rfl⟩ | ⟨rfl, rfl⟩
    · exact snapshotRead_time s (Or.inl rfl) rfl
    · exact snapshotRead_time s (Or.inr rfl) rfl
  · rw [exec_snapshotRead s hm, hl, regView_of_own s hr hs]
  · obtain ⟨hw, hs, hm, hl⟩ := companions_show_own_bits s a ha
    obtain ⟨r, hr, hw⟩ := Option.map_eq_some_iff.1 hw
    exact ⟨r, hr, hw, hs, hm, hl⟩
  · rw [exec_snapshotRead s (freeMask_first_page hp), regLatch_first_page s hp, regView_of_reserved s hr]
    rfl

end Sys2Proof.Machine
end

section
/-! The obligation about accesses answered with an error and register reads. -/
open Sys2Proof Sys2Proof.Machine

/-- Settles O8: the refused accesses, and reads by what the register shows and latches. -/
theorem busAccesses : Obligations.BusAccesses := ⟨accessesAnsweredWithError, snapshotReadLatches⟩

end

section
/-! SUPPORT. The situation of the module: mode and transitions asked for, keys, base store, progress of LOAD and time. What the operations of a
mode transition (R26) and of the exit from LOAD (R88) leave of it. -/
namespace Sys2Proof.Machine

/-- Mode, module core, security, base store, LOAD and time base. -/
def State.situation (s : State) : Mode × CoreState × SecState × StoreContents × LoadState × TimeState :=
  (s.mode, s.core, s.sec, s.store, s.load, s.time)

theorem State.situation_inj {s t : State} (h : t.situation = s.situation) :
    t.mode = s.mode ∧ t.core = s.core ∧ t.sec = s.sec ∧ t.store = s.store ∧ t.load = s.load ∧ t.time = s.time := by
  simpa only [State.situation, Prod.mk.injEq] using h

variable (s : State)

theorem reported.situation {s t : State} (h : reported s t) : t.situation = s.situation := by
  have e := congrArg State.situation h.1
  exact e

theorem State.ite_situation {s t : State} {c : Prop} [Decidable c] (h : t.situation = s.situation) : (if c then t else s).situation = s.situation := by
  split
  · exact h
  · rfl

@[simp] theorem State.foldl_situation {α : Type} {f : State → α → State} (h : ∀ u x, (f u x).situation = u.situation) (l : List α) (s : State) :
    (l.foldl f s).situation = s.situation := by
  induction l generalizing s with
  | nil => rfl
  | cons x l ih => rw [List.foldl_cons, ih, h]

/-! ### Fields, units, records -/

@[simp] theorem State.setReg_situation (a : Nat) (v : BitVec 32) : (s.setReg a v).situation = s.situation := rfl
@[simp] theorem State.put_situation (f : RegField) (v : Nat) : (s.put f v).situation = s.situation := rfl
@[simp] theorem State.putBit_situation (f : RegField) (b : Bool) : (s.putBit f b).situation = s.situation := rfl
@[simp] theorem State.putAll_situation (l : List (RegField × Nat)) : (s.putAll l).situation = s.situation := (reported_putAll s l).situation
@[simp] theorem State.freeByte_situation : s.freeByte.2.situation = s.situation := rfl
@[simp] theorem State.setChamber_situation (c : Nat) (x : Chamber) : (s.setChamber c x).situation = s.situation := rfl
@[simp] theorem State.setTask_situation (t : Nat) (x : TaskState) : (s.setTask t x).situation = s.situation := rfl
@[simp] theorem State.setChan_situation (n : Nat) (c : IslChan) : (s.setChan n c).situation = s.situation := rfl
@[simp] theorem State.setInstWord_situation (a o : Nat) (w : DWord) : (s.setInstWord a o w).situation = s.situation := rfl
@[simp] theorem State.squeezeRequest_situation : s.squeezeRequest.situation = s.situation := rfl

@[simp] theorem State.record_situation (type key : Nat) (items : List (Nat × Nat)) : (s.record type key items).situation = s.situation :=
  (reported_record s type key items).situation

@[simp] theorem State.sumpFall_situation (src inst sub : Nat) : (s.sumpFall src inst sub).situation = s.situation :=
  (reported_fall s src inst sub).situation

@[simp] theorem State.fall_situation (src inst sub : Nat) : (s.fall src inst sub).situation = s.situation :=
  (reported_fall s src inst sub).situation

@[simp] theorem State.setRole_situation (r : Role) : (s.setRole r).situation = s.situation := by
  unfold State.setRole
  dsimp only
  (repeat' split) <;> simp

/-! ### Test perturbation and health -/

@[simp] theorem State.tpRestore_situation (k : Nat) : (s.tpRestore k).situation = s.situation := by
  unfold State.tpRestore
  extract_lets s1 s2
  have h1 : s1.situation = s.situation := State.ite_situation (by simp)
  have h2 : s2.situation = s1.situation := State.ite_situation (by simp)
  exact (State.ite_situation (by simp)).trans (h2.trans h1)

@[simp] theorem State.tpStopKind_situation (k : Nat) : (s.tpStopKind k).situation = s.situation := by
  unfold State.tpStopKind
  refine State.ite_situation ?_
  dsimp only
  rw [State.tpRestore_situation]
  exact State.record_situation _ _ _ _

@[simp] theorem State.tpStopKinds_situation (ks : List Nat) : (s.tpStopKinds ks).situation = s.situation := by simp [State.tpStopKinds]

@[simp] theorem State.tpCheck_situation : s.tpCheck.situation = s.situation := by
  unfold State.tpCheck
  split <;> simp

@[simp] theorem State.healthOpen_situation : s.healthOpen.situation = s.situation := by
  unfold State.healthOpen
  exact State.ite_situation (State.putAll_situation _ _)

/-! ### Channels -/

@[simp] theorem State.driveDo_situation (n : Nat) : (s.driveDo n).situation = s.situation := by
  unfold State.driveDo
  dsimp only
  split <;> simp -implicitDefEqProofs

@[simp] theorem State.aoSharing_situation (n : Nat) : (s.aoSharing n).situation = s.situation := by simp [State.aoSharing]

@[simp] theorem State.driveAo_situation (n : Nat) : (s.driveAo n).situation = s.situation := by
  unfold State.driveAo
  dsimp only
  (repeat' split) <;> simp

@[simp] theorem State.refreshChan_situation (n : Nat) : (s.refreshChan n).situation = s.situation := by
  unfold State.refreshChan
  dsimp only
  (repeat' split) <;> simp

@[simp] theorem State.calDriveOff_situation (n : Nat) : (s.calDriveOff n).situation = s.situation := by
  unfold State.calDriveOff
  exact State.ite_situation (by simp)

@[simp] theorem State.calDrivesOff_situation : s.calDrivesOff.situation = s.situation := by simp [State.calDrivesOff]

/-! ### Chambers, areas, tasks -/

@[simp] theorem State.dropExecution_situation (c : Nat) : (s.dropExecution c).situation = s.situation := by
  simp [State.dropExecution, State.setChState]

@[simp] theorem State.holdChambers_situation : s.holdChambers.situation = s.situation := by
  simp [State.holdChambers, apply_ite State.situation]

@[simp] theorem State.initArea_situation (g : Survey) (a : Nat) : (s.initArea g a).situation = s.situation := by
  unfold State.initArea
  exact State.foldl_situation (fun u _ => u.setInstWord_situation _ _ _) _ _

@[simp] theorem State.reinitEntries_situation (g : Survey) (a : Nat) : (s.reinitEntries g a).situation = s.situation := by
  simp -implicitDefEqProofs [State.reinitEntries]

@[simp] theorem State.setAreaTag_situation (a build : Nat) : (s.setAreaTag a build).situation = s.situation := by
  simp -implicitDefEqProofs [State.setAreaTag]

@[simp] theorem State.coldStart_situation (g : Survey) : (s.coldStart g).situation = s.situation := by simp [State.coldStart]

@[simp] theorem State.chooseArea_situation (g : Survey) : (s.chooseArea g).situation = s.situation := by
  unfold State.chooseArea
  split <;> simp

@[simp] theorem State.takeAreas_situation : s.takeAreas.situation = s.situation := by
  unfold State.takeAreas
  split <;> simp

@[simp] theorem State.taskResumeAt_situation (t : Nat) (b : Option Nat) : (s.taskResumeAt t b).situation = s.situation := by
  simp -implicitDefEqProofs [State.taskResumeAt]

@[simp] theorem State.startTasks_situation : s.startTasks.situation = s.situation := by
  unfold State.startTasks
  split
  · rfl
  · refine (State.foldl_situation (fun u e => ?_) _ _).trans (by split <;> simp)
    exact State.ite_situation (State.taskResumeAt_situation _ _ _)

/-! ### The transition -/

/-- A transition changes the mode, and no transition waits any more; nothing else of the situation changes (R26). -/
theorem State.enterMode_situation (m : Mode) :
    (s.enterMode m).situation = (m, { s.core with modeReq := none }, s.sec, s.store, s.load, s.time) := by
  unfold State.enterMode
  extract_lets old core s1 s2 s3 s4 s5 pair s6
  have h2 : s2.situation = s1.situation := State.ite_situation s1.calDrivesOff_situation
  have h3 : s3.situation = s2.situation := State.ite_situation s2.startTasks_situation
  have h4 : s4.situation = s3.situation := State.ite_situation s3.holdChambers_situation
  have h5 : s5.situation = s4.situation := State.ite_situation s4.healthOpen_situation
  have h6 : s6.situation = s5.situation := State.ite_situation rfl
  rw [State.tpCheck_situation, h6, h5, h4, h3, h2]
  rfl

theorem State.enterMode_keeps (m : Mode) : (s.enterMode m).mode = m ∧ (s.enterMode m).core = { s.core with modeReq := none } ∧
    (s.enterMode m).sec = s.sec ∧ (s.enterMode m).store = s.store ∧ (s.enterMode m).load = s.load ∧ (s.enterMode m).time = s.time := by
  simpa only [State.situation, Prod.mk.injEq] using s.enterMode_situation m

theorem State.enterMode_mode (m : Mode) : (s.enterMode m).mode = m := (s.enterMode_keeps m).1

end Sys2Proof.Machine
end

section
/-! SUPPORT. A transition at its boundary (R26 to R28). -/
namespace Sys2Proof.Machine

variable {s : State} {r : ModeReq}

/-- A transition to another mode than HIBERNATE is not checked again (R406). -/
theorem hibRecheck_of_not_hibernate (h : s.core.modeReq = some r) (hr : r.target ≠ .hibernate) : s.hibRecheck = s := by
  have hd : s.hibDue = false := by simp [State.hibDue, h, hr]
  simp [State.hibRecheck, hd]

/-- The effect of a waiting transition: due and of R26 it is made, due and not of R26 it is given up, else it waits. -/
theorem exec_modeTransitionEffect (h : s.core.modeReq = some r) (hr : r.target ≠ .hibernate) :
    exec .modeTransitionEffect s = .next (if s.modeDue r = true then
      if modeAllowed s.mode r.target = true then s.enterMode r.target else { s with core := { s.core with modeReq := none } }
    else s) := by
  show done s.hibRecheck.modeEffect = _
  simp [hibRecheck_of_not_hibernate h hr, State.modeEffect, h, hr, done]

theorem modeTransitionTakesEffect : Claim.ModeTransitionTakesEffect := by
  intro s r h hr
  rw [exec_modeTransitionEffect h hr]
  refine ⟨fun hd ha => ?_, fun hd ha => ?_, fun hd => ?_, fun hrun => ?_, fun hrun => ?_⟩
  · rw [if_pos hd, if_pos ha]
  · rw [if_pos hd, ha, if_neg Bool.false_ne_true]
  · rw [hd, if_neg Bool.false_ne_true]
  · exact congrArg done (if_pos hrun)
  · exact congrArg done (if_neg (by rw [hrun]; exact Bool.false_ne_true))

theorem enterModeTakesMode : Claim.EnterModeTakesMode := by
  intro s m
  obtain ⟨hmode, hcore, hsec, hstore, _, _⟩ := s.enterMode_keeps m
  exact ⟨hmode, by rw [hcore], hsec, hstore, s.enterMode_pending m⟩

end Sys2Proof.Machine
end

section
/-! The obligation about mode transitions. -/
open Sys2Proof Sys2Proof.Machine

/-- Settles O11: the effect by whether the transition is due and of R26, and the transition by what each part of it leaves of the situation. -/
theorem modeTransitions : Obligations.ModeTransitions := ⟨modeTransitionTakesEffect, enterModeTakesMode⟩

end

section
/-! SUPPORT. Registers beside the reports: what a record, a Sump occurrence and the end of a perturbation leave in the fields of the other
blocks. -/
namespace Sys2Proof.Machine

/-- A field of the blocks between the Sump and Flowstone and the perturbation unit: none of gates, Sump, Flowstone, power or perturbation. -/
def RegField.unreported (g : RegField) : Prop := 0x40060000 ≤ g.addr ∧ g.addr < 0x40130000

variable (s : State)

theorem State.get_congr {s t : State} (h : t.regs = s.regs) (f : RegField) : t.get f = s.get f := by
  simp only [State.get, State.getReg, h]

theorem State.get_ite {s t : State} {c : Prop} [Decidable c] {f : RegField} (h : t.get f = s.get f) :
    (if c then t else s).get f = s.get f := by
  split
  · exact h
  · rfl

/-- The sources that exist are numbered below 256 (R377). -/
theorem sumpSource_lt {src : Nat} (h : (sumpSource src).isNone = false) : src < 256 := by
  have hl : ∀ p ∈ sumpSources, p.1 < 256 := by decide
  unfold sumpSource at h
  split at h
  · omega
  · cases hf : sumpSources.find? fun p => p.1 == src with
    | none => simp [hf] at h
    | some p =>
      have hp := List.find?_some hf
      exact beq_iff_eq.1 hp ▸ hl p (List.mem_of_find?_eq_some hf)

/-- The registers of the Sump's sources lie below the other blocks. -/
theorem sump_registers_reported {src : Nat} (hs : src < 256) :
    Reg.SUMP_SRC src < 0x40060000 ∧ Reg.SUMP_CNT src < 0x40060000 ∧ Reg.SUMP_DETAIL src < 0x40060000 := by
  simp only [Reg.SUMP_SRC, Reg.SUMP_CNT, Reg.SUMP_DETAIL]
  omega

theorem get_sumpModule (g : RegField) (src : Nat) : (s.sumpModule src).get g = s.get g := by
  unfold State.sumpModule
  dsimp only
  (repeat' split) <;> rfl

section
variable {g : RegField} (hg : g.unreported)
include hg

/-! ### Fields -/

theorem get_put_unreported {f : RegField} (hf : f.addr < 0x40060000 ∨ 0x40130000 ≤ f.addr) (v : Nat) : (s.put f v).get g = s.get g := by
  obtain ⟨h1, h2⟩ := hg
  exact s.get_put_apart f g (Or.inl (by omega)) v

theorem get_putBit_unreported {f : RegField} (hf : f.addr < 0x40060000 ∨ 0x40130000 ≤ f.addr) (b : Bool) :
    (s.putBit f b).get g = s.get g :=
  get_put_unreported s hg hf _

theorem get_bump_unreported {f : RegField} (hf : f.addr < 0x40060000 ∨ 0x40130000 ≤ f.addr) : (s.bump f).get g = s.get g := by
  unfold State.bump
  split
  · exact get_put_unreported s hg hf _
  · rfl

theorem get_putAll_unreported {l : List (RegField × Nat)} (hl : ∀ p ∈ l, p.1.addr < 0x40060000) : (s.putAll l).get g = s.get g :=
  s.get_putAll_apart l g fun p hp => Or.inl (by
    obtain ⟨h1, _⟩ := hg
    have h2 := hl p hp
    omega)

/-! ### The recorder -/

theorem get_flsAdd (e : FlsEntry) : (s.flsAdd e).1.get g = s.get g := by
  unfold State.flsAdd
  split
  · rfl
  · extract_lets s1 s2 s3
    have h1 : s1.get g = s.get g := get_bump_unreported s hg (Or.inl (by decide))
    have h2 : s2.get g = s1.get g := get_putBit_unreported s1 hg (Or.inl (by decide)) _
    clear_value s2
    have h3 : s3.get g = s2.get g := State.get_congr rfl g
    clear_value s3
    exact (State.get_congr rfl g).trans (h3.trans (h2.trans h1))

theorem get_flsQueueRecord (type key : Nat) (body : List Byte) (forced : Bool) :
    (s.flsQueueRecord type key body forced).1.get g = s.get g := by
  unfold State.flsQueueRecord
  extract_lets stamp r
  clear_value r
  split
  · split
    · rfl
    · exact get_flsAdd s hg _
  · split
    · split <;> exact get_flsAdd s hg _
    · exact get_flsAdd s hg _

/-! ### Gates and the Sump -/

theorem get_gateRequest (b : Nat) : (s.gateRequest b).get g = s.get g := by
  unfold State.gateRequest
  dsimp only
  split
  · rfl
  · rename_i hb
    simp only [Bool.or_eq_true, decide_eq_true_eq, not_or] at hb
    refine (get_put_unreported (s.setGate b _) hg (Or.inl ?_) 1).trans rfl
    simp only [Fld.GATE_CTRL_STATE, Reg.GATE_CTRL]
    omega

theorem get_gateRequestOuter (b : Nat) : (s.gateRequestOuter b).get g = s.get g := by
  unfold State.gateRequestOuter
  split
  · split <;> rfl
  · exact get_gateRequest s hg b

theorem get_sumpReact (src inst : Nat) : (s.sumpReact src inst).get g = s.get g := by
  unfold State.sumpReact
  extract_lets s1 s2
  have h1 : s1.get g = s.get g := State.get_ite (State.get_congr (s.emit_regs _) g)
  have h2 : s2.get g = s1.get g := by
    refine State.get_ite ?_
    split
    · exact get_gateRequestOuter s1 hg _
    · rfl
  split
  · exact (get_sumpModule s2 g src).trans (h2.trans h1)
  · exact h2.trans h1

theorem get_sumpFlag {src : Nat} (hs : src < 256) (inst sub : Nat) (forced : Bool) : (s.sumpFlag src inst sub forced).get g = s.get g := by
  obtain ⟨hf, hc, hd⟩ := sump_registers_reported hs
  unfold State.sumpFlag
  extract_lets s1 s2
  have e : s2.get g = s.get g := (get_bump_unreported s1 hg (Or.inl hc)).trans (get_putBit_unreported s hg (Or.inl hf) _)
  split
  · exact e
  · refine (get_putAll_unreported s2 hg fun p hp => ?_).trans e
    simp only [List.mem_cons, List.not_mem_nil, or_false] at hp
    rcases hp with rfl | rfl | rfl <;> exact hd

theorem get_sumpMerge {src : Nat} (hs : src < 256) (inst sub : Nat) (forced : Bool) : (s.sumpMerge src inst sub forced).get g = s.get g := by
  obtain ⟨hf, hc, hd⟩ := sump_registers_reported hs
  unfold State.sumpMerge
  extract_lets s1 s2
  have e1 : s1.get g = s.get g := get_putBit_unreported s hg (Or.inl hf) _
  have e2 : s2.get g = s.get g := by
    refine (State.get_ite (get_putAll_unreported s1 hg fun p hp => ?_)).trans e1
    simp only [List.mem_cons, List.not_mem_nil, or_false] at hp
    rcases hp with rfl | rfl <;> exact hd
  split
  · exact e1
  · split
    · exact (get_putBit_unreported s2 hg (Or.inl hd) _).trans e2
    · exact e2

theorem get_sumpNote {src : Nat} (hs : src < 256) (inst sub : Nat) (forced : Bool) : (s.sumpNote src inst sub forced).get g = s.get g := by
  unfold State.sumpNote
  extract_lets u x s1
  have h1 : s1.get g = s.get g := rfl
  exact (get_sumpReact _ hg src inst).trans ((get_sumpFlag s1 hg hs inst sub forced).trans h1)

theorem get_sumpRecord (src : Nat) (forced : Bool) : (s.sumpRecord src forced).1.get g = s.get g := by
  unfold State.sumpRecord
  dsimp only
  split
  · exact get_flsQueueRecord s hg _ _ _ _
  · rfl

/-- An occurrence of a Sump source leaves the fields of the other blocks (R376, R381, R391). -/
theorem get_sumpOccur (src inst sub : Nat) (forced : Bool) : (s.sumpOccur src inst sub forced).get g = s.get g := by
  unfold State.sumpOccur
  split
  · rfl
  · rename_i hn
    have hs : src < 256 := sumpSource_lt (Bool.eq_false_iff.2 hn)
    have ho : Src.FLS_OVERFLOW < 256 := by decide
    split
    · exact get_sumpMerge s hg hs inst sub forced
    · have hr := (get_sumpRecord _ hg src forced).trans (get_sumpNote s hg hs inst sub forced)
      revert hr
      generalize (s.sumpNote src inst sub forced).sumpRecord src forced = q
      obtain ⟨u, lost⟩ := q
      intro hr
      dsimp only at hr ⊢
      split
      · split
        · exact (get_sumpMerge u hg ho _ _ _).trans hr
        · exact (get_sumpRecord _ hg _ _).trans ((get_sumpNote u hg ho _ _ _).trans hr)
      · exact hr

/-- A record leaves the fields of the other blocks (R391). -/
theorem get_record (type key : Nat) (items : List (Nat × Nat)) : (s.record type key items).get g = s.get g := by
  unfold State.record
  have hr := get_flsQueueRecord s hg type key (recordBody items) false
  revert hr
  generalize s.flsQueueRecord type key (recordBody items) false = q
  obtain ⟨u, lost⟩ := q
  intro hr
  dsimp only at hr ⊢
  split
  · exact (get_sumpOccur u hg _ _ _ _).trans hr
  · exact hr

theorem get_sumpRise {src : Nat} (hs : src < 256) (inst sub : Nat) : (s.sumpRise src inst sub).get g = s.get g := by
  unfold State.sumpRise
  extract_lets key held x s1
  have h1 : s1.get g = s.get g := rfl
  split
  · rfl
  · exact (get_sumpOccur _ hg _ _ _ _).trans ((get_putBit_unreported s1 hg (Or.inl (sump_registers_reported hs).1) true).trans h1)

/-! ### Perturbation -/

theorem get_tpRestore (k : Nat) : (s.tpRestore k).get g = s.get g := by
  unfold State.tpRestore
  extract_lets s1 s2
  have h1 : s1.get g = s.get g := State.get_ite (get_put_unreported s hg (Or.inr (by decide)) _)
  have h2 : s2.get g = s1.get g := State.get_ite (get_put_unreported s1 hg (Or.inl (by decide)) _)
  split
  · unfold State.sumpFall
    extract_lets key held x s3
    exact (get_putBit_unreported s3 hg (Or.inl (by decide)) _).trans (h2.trans h1)
  · exact h2.trans h1

theorem get_tpStopKind (k : Nat) : (s.tpStopKind k).get g = s.get g := by
  unfold State.tpStopKind
  refine State.get_ite ?_
  dsimp only
  rw [get_tpRestore _ hg]
  exact (State.get_congr rfl g).trans (get_record s.freeByte.2 hg _ _ _)

theorem get_tpStopKinds (ks : List Nat) : (s.tpStopKinds ks).get g = s.get g := by
  unfold State.tpStopKinds
  induction ks generalizing s with
  | nil => rfl
  | cons k ks ih => rw [List.foldl_cons, ih, get_tpStopKind s hg]

/-- Whether or not perturbation stops, the fields of the other blocks stay (R460). -/
theorem get_tpCheck : s.tpCheck.get g = s.get g := by
  unfold State.tpCheck
  split
  · rfl
  · exact get_tpStopKinds s hg _

end

end Sys2Proof.Machine
end

section
/-! SUPPORT. The start of the sequencer (R88, R352, R360): what the failures and the drip units that come with it leave as it is. -/
namespace Sys2Proof.Machine

/-- Mode, the start that waits, the time base and whether the sequencer runs. -/
def State.starting (s : State) : Mode × Bool × TimeState × Nat := (s.mode, s.core.startPending, s.time, s.get Fld.SEQ_STAT_RUNNING)

variable (s : State)

theorem running_unreported : Fld.SEQ_STAT_RUNNING.unreported := by
  unfold RegField.unreported
  decide

theorem role_unreported : Fld.PAIR_STAT_ROLE.unreported := by
  unfold RegField.unreported
  decide

theorem State.starting_of_situation {s t : State} (h : t.situation = s.situation) (hr : t.get Fld.SEQ_STAT_RUNNING = s.get Fld.SEQ_STAT_RUNNING) :
    t.starting = s.starting := by
  obtain ⟨hm, hc, _, _, _, ht⟩ := State.situation_inj h
  simp only [State.starting, hm, hc, ht, hr]

theorem State.starting_inj {s t : State} (h : t.starting = s.starting) : t.mode = s.mode ∧ t.core.startPending = s.core.startPending ∧
    t.time = s.time ∧ t.get Fld.SEQ_STAT_RUNNING = s.get Fld.SEQ_STAT_RUNNING := by
  simpa only [State.starting, Prod.mk.injEq] using h

theorem State.starting_congr {s t : State} (hm : t.mode = s.mode) (hc : t.core = s.core) (ht : t.time = s.time) (hr : t.regs = s.regs) :
    t.starting = s.starting := by
  simp only [State.starting, State.get, State.getReg, hm, hc, ht, hr]

theorem State.ite_starting {s t : State} {c : Prop} [Decidable c] (h : t.starting = s.starting) : (if c then t else s).starting = s.starting := by
  split
  · exact h
  · rfl

@[simp] theorem State.foldl_starting {α : Type} {f : State → α → State} (h : ∀ u x, (f u x).starting = u.starting) (l : List α) (s : State) :
    (l.foldl f s).starting = s.starting := by
  induction l generalizing s with
  | nil => rfl
  | cons x l ih => rw [List.foldl_cons, ih, h]

/-! ### Fields -/

theorem State.put_starting {f : RegField} (hf : f.apart Fld.SEQ_STAT_RUNNING) (v : Nat) : (s.put f v).starting = s.starting :=
  State.starting_of_situation (s.put_situation f v) (s.get_put_apart f _ hf v)

/-- A field of another register. -/
@[simp] theorem State.put_starting_of_ne {f : RegField} (hf : f.addr ≠ Reg.SEQ_STAT) (v : Nat) : (s.put f v).starting = s.starting :=
  s.put_starting (Or.inl hf) v

/-- RUNNING is bit 0 of its register. -/
theorem State.put_starting_of_lo {f : RegField} (hf : 1 ≤ f.lo) (v : Nat) : (s.put f v).starting = s.starting :=
  s.put_starting (Or.inr (Or.inr hf)) v

theorem State.bump_starting {f : RegField} (hf : f.addr ≠ Reg.SEQ_STAT) : (s.bump f).starting = s.starting := by
  unfold State.bump
  exact State.ite_starting (s.put_starting_of_ne hf _)

theorem State.putAll_starting {l : List (RegField × Nat)} (hl : ∀ p ∈ l, p.1.apart Fld.SEQ_STAT_RUNNING) : (s.putAll l).starting = s.starting :=
  State.starting_of_situation (s.putAll_situation l) (s.get_putAll_apart l _ hl)

/-- Fields of other registers. -/
theorem State.putAll_starting_of_ne {l : List (RegField × Nat)} (hl : Reg.SEQ_STAT ∉ l.map fun p => p.1.addr) :
    (s.putAll l).starting = s.starting :=
  s.putAll_starting fun _ hp => Or.inl fun e => hl (List.mem_map.2 ⟨_, hp, e⟩)

/-! ### Reports -/

@[simp] theorem State.record_starting (type key : Nat) (items : List (Nat × Nat)) : (s.record type key items).starting = s.starting :=
  State.starting_of_situation (s.record_situation type key items) (get_record s running_unreported type key items)

@[simp] theorem State.sumpOccur_starting (src inst sub : Nat) (forced : Bool) : (s.sumpOccur src inst sub forced).starting = s.starting :=
  State.starting_of_situation (reported_sumpOccur s src inst sub forced).situation (get_sumpOccur s running_unreported src inst sub forced)

theorem State.sumpRise_starting {src : Nat} (hs : src < 256) (inst sub : Nat) : (s.sumpRise src inst sub).starting = s.starting :=
  State.starting_of_situation (reported_sumpRise s src inst sub).situation (get_sumpRise s running_unreported hs inst sub)

@[simp] theorem State.tpCheck_starting : s.tpCheck.starting = s.starting :=
  State.starting_of_situation s.tpCheck_situation (get_tpCheck s running_unreported)

@[simp] theorem State.emit_starting (o : Out) : (s.emit o).starting = s.starting := by
  simp [State.starting, State.get, State.getReg]

/-! ### A module that yields (R232, R237) -/

@[simp] theorem State.requestMode_starting (m : Mode) (k : Nat) (e : Option (BitVec 32)) : (s.requestMode m k e).starting = s.starting := by
  unfold State.requestMode
  split
  · rfl
  · split
    · exact State.ite_starting (s.emit_starting _)
    · extract_lets u
      exact (State.ite_starting (s.emit_starting _) : u.starting = s.starting)

@[simp] theorem State.requestHold_starting : s.requestHold.starting = s.starting := by
  unfold State.requestHold
  exact State.ite_starting (s.requestMode_starting _ _ _)

@[simp] theorem State.yieldModule_starting : s.yieldModule.starting = s.starting := by
  unfold State.yieldModule
  split
  · rfl
  · extract_lets s1 s2
    have h1 : s1.starting = s.starting := s.putAll_starting_of_ne (by decide)
    have h2 : s2.starting = s1.starting := s1.bump_starting (by decide)
    clear_value s2
    have h3 : ((s2.freeByte.2.record 0x42 0 [(1, s2.freeByte.1)]).sumpRise Src.PAIR_YIELD 0 0).starting = s2.starting :=
      (State.sumpRise_starting _ (by decide) 0 0).trans (s2.freeByte.2.record_starting _ _ _)
    dsimp only
    generalize (s2.freeByte.2.record 0x42 0 [(1, s2.freeByte.1)]).sumpRise Src.PAIR_YIELD 0 0 = u at h3 ⊢
    rw [State.requestHold_starting, State.tpCheck_starting]
    exact (State.starting_congr rfl rfl rfl rfl).trans (h3.trans (h2.trans h1))

@[simp] theorem State.setRole_starting (r : Role) : (s.setRole r).starting = s.starting := by
  unfold State.setRole
  extract_lets s1
  have h1 : s1.starting = s.starting := s.put_starting_of_ne (by decide) _
  split
  · exact (s1.putAll_starting_of_ne (by decide)).trans h1
  · exact (State.ite_starting (s1.putAll_starting_of_ne (by decide))).trans h1

@[simp] theorem State.becomeSolo_starting : s.becomeSolo.starting = s.starting := by
  unfold State.becomeSolo
  extract_lets s1 s2
  have h1 : s1.starting = s.starting := State.ite_starting (s.bump_starting (by decide))
  have h2 : s2.starting = s1.starting := (State.putAll_starting_of_ne _ (by decide)).trans (s1.setRole_starting _)
  clear_value s2
  exact (State.starting_congr rfl rfl rfl rfl).trans (h2.trans h1)

/-- The registers of a survey bank are not that of the sequencer. -/
theorem svyBank_ne_SEQ_STAT {b : Nat} (hb : b ≤ 1) : Reg.SVY_BANK b ≠ Reg.SEQ_STAT ∧ Reg.SVY_BANK_GEN b ≠ Reg.SEQ_STAT := by
  simp only [Reg.SVY_BANK, Reg.SVY_BANK_GEN, Reg.SEQ_STAT]
  omega

@[simp] theorem State.olcAbort_starting (reason : Nat) : (s.olcAbort reason).starting = s.starting := by
  unfold State.olcAbort
  extract_lets st other b gen s1 s2 s3 s4
  obtain ⟨hb, hg⟩ := svyBank_ne_SEQ_STAT (show b ≤ 1 from Nat.sub_le _ _)
  clear_value b
  have h1 : s1.starting = s.starting := s.put_starting_of_ne (show Reg.GAL_AREA ≠ Reg.SEQ_STAT by decide) _
  have h2 : s2.starting = s1.starting := by
    refine s1.putAll_starting_of_ne ?_
    simp only [List.map_cons, List.map_nil, List.mem_cons, not_or]
    exact ⟨hb.symm, hg.symm, by decide⟩
  clear_value s2
  have h3 : s3.starting = s2.starting := State.starting_congr rfl rfl rfl rfl
  clear_value s3
  have h4 : s4.starting = s3.starting := (State.sumpOccur_starting _ _ _ _ _).trans (s3.bump_starting (by decide))
  exact State.ite_starting ((s4.record_starting _ _ _).trans (h4.trans (h3.trans (h2.trans h1))))

@[simp] theorem State.olcUnanswered_starting : s.olcUnanswered.starting = s.starting := by
  unfold State.olcUnanswered
  refine State.ite_starting ?_
  exact (State.bump_starting _ (by decide)).trans (State.put_starting_of_ne _ (by decide) _)

@[simp] theorem State.leaveSynced_starting : s.leaveSynced.starting = s.starting := by
  unfold State.leaveSynced
  refine State.ite_starting ?_
  extract_lets s1 pair
  have h1 : s1.starting = s.olcUnanswered.starting :=
    (State.putAll_starting_of_ne _ (by decide)).trans (State.put_starting_of_ne _ (by decide) _)
  rw [State.olcAbort_starting]
  exact h1.trans s.olcUnanswered_starting

@[simp] theorem State.failover_starting (src : Nat) : (s.failover src).starting = s.starting := by
  unfold State.failover
  dsimp only
  rw [State.yieldModule_starting, State.becomeSolo_starting, State.leaveSynced_starting]
  rfl

/-! ### The fixed action of severity 7 (R380) -/

@[simp] theorem State.sumpFixed_starting (src : Nat) : (s.sumpFixed src).starting = s.starting := by
  unfold State.sumpFixed
  refine State.ite_starting ?_
  split
  · exact s.failover_starting src
  · split
    · rfl
    · exact s.requestHold_starting

@[simp] theorem State.raise_starting (src inst sub : Nat) : (s.raise src inst sub).starting = s.starting := by
  unfold State.raise State.sumpOccurFixed
  split
  · rfl
  · dsimp only
    split
    · exact s.sumpOccur_starting _ _ _ _
    · exact (State.sumpFixed_starting _ _).trans (s.sumpOccur_starting _ _ _ _)

/-! ### Failed chambers (R184, R185) -/

@[simp] theorem State.holdTask_starting (t cause : Nat) : (s.holdTask t cause).starting = s.starting := by
  unfold State.holdTask
  dsimp only
  (repeat' split) <;> rfl

@[simp] theorem State.soloHold_starting (solo : Bool) (ts : List Nat) (cause : Nat) : (s.soloHold solo ts cause).starting = s.starting := by
  unfold State.soloHold
  split
  · exact State.foldl_starting (fun u t => u.holdTask_starting t cause) ts s
  · rfl

@[simp] theorem State.failNoSpare_starting (c : Nat) : (s.failNoSpare c).starting = s.starting := by simp [State.failNoSpare]

theorem relocSlot_le (g : Survey) (spare : Nat) : relocSlot g spare ≤ 1 := by
  unfold relocSlot
  split <;> decide

@[simp] theorem State.relocate_starting (g : Survey) (c : Nat) (r : RelocVariant) : (s.relocate g c r).starting = s.starting := by
  unfold State.relocate
  extract_lets x others pend seq s1 s2
  have hx : Reg.GAL_RELOC x ≠ Reg.SEQ_STAT := by
    have : x ≤ 1 := relocSlot_le g r.spare
    simp only [Reg.GAL_RELOC, Reg.SEQ_STAT]
    omega
  have h1 : s1.starting = s.starting := State.starting_congr rfl rfl rfl rfl
  have h2 : s2.starting = s1.starting := by
    refine s1.putAll_starting fun p hp => ?_
    simp only [List.mem_cons, List.not_mem_nil, or_false] at hp
    rcases hp with rfl | rfl | rfl | rfl | rfl | rfl | rfl
    iterate 5 exact Or.inl hx
    · exact Or.inr (Or.inr (show 1 ≤ 12 by decide))
    · exact Or.inr (Or.inr (show 1 ≤ 8 by decide))
  rw [State.record_starting, State.raise_starting]
  exact h2.trans h1

@[simp] theorem State.yieldClaim_starting (v r : RelocVariant) : (s.yieldClaim v r).starting = s.starting := by
  unfold State.yieldClaim
  dsimp only
  rw [State.failNoSpare_starting]
  exact State.put_starting_of_lo _ (by show 1 ≤ 12; decide) _

@[simp] theorem State.afterFailure_starting (c : Nat) : (s.afterFailure c).starting = s.starting := by
  unfold State.afterFailure
  (repeat' split) <;> simp

@[simp] theorem State.startFailures_starting : s.startFailures.starting = s.starting := by
  simp [State.startFailures, apply_ite State.starting]

/-! ### Drip units and tasks -/

theorem State.setDrip_starting (d : Nat) (x : Drip) : (s.setDrip d x).starting = s.starting := State.starting_congr rfl rfl rfl rfl

theorem State.setTask_starting (t : Nat) (x : TaskState) : (s.setTask t x).starting = s.starting := State.starting_congr rfl rfl rfl rfl

theorem State.armSurvey_starting (b : Nat) (e : DripEntry) : (s.armSurvey b e).starting = s.starting := by
  unfold State.armSurvey
  extract_lets s1
  have h1 : s1.starting = s.starting := by
    refine s.putAll_starting fun p hp => ?_
    simp only [List.mem_cons, List.not_mem_nil, or_false] at hp
    rcases hp with rfl | rfl
    · exact Or.inr (Or.inr (show 1 ≤ 3 by decide))
    · exact Or.inr (Or.inr (show 1 ≤ 2 by decide))
  exact (s1.setDrip_starting _ _).trans h1

@[simp] theorem State.armDrips_starting (g : Survey) (b : Nat) : (s.armDrips g b).starting = s.starting :=
  State.foldl_starting (fun u e => u.armSurvey_starting b e) _ _

theorem seqTaskStat_ne_SEQ_STAT (t : Nat) : (Fld.SEQ_TASK_STAT_STATE t).addr ≠ Reg.SEQ_STAT := by
  simp only [Fld.SEQ_TASK_STAT_STATE, Reg.SEQ_TASK_STAT, Reg.SEQ_STAT]
  omega

/-- The fields of the sequencer's register that a start sets. -/
theorem State.get_RUNNING_of_start (n : Nat) : (s.putAll [(Fld.SEQ_STAT_RUNNING, 1), (Fld.SEQ_STAT_FASTEST, n)]).get Fld.SEQ_STAT_RUNNING = 1 := by
  have hf : Fld.SEQ_STAT_RUNNING.fits := by
    unfold RegField.fits
    decide
  rw [State.putAll_cons, State.putAll_cons, State.putAll_nil]
  rw [State.get_put_apart _ Fld.SEQ_STAT_FASTEST _ (Or.inr (Or.inr (by decide)))]
  exact s.get_put_same _ hf 1

theorem State.get_of_time (x : TimeState) (f : RegField) : ({ s with time := x } : State).get f = s.get f := State.get_congr rfl f

/-- The sequencer runs, and the mode and the start that waits are as before (R352). -/
theorem State.sequencerRuns_starts (g : Survey) (b : Nat) (first : Bool) :
    (s.sequencerRuns g b first).mode = s.mode ∧ (s.sequencerRuns g b first).core.startPending = s.core.startPending ∧
      (s.sequencerRuns g b first).time.seqRan = true ∧ (s.sequencerRuns g b first).get Fld.SEQ_STAT_RUNNING = 1 := by
  unfold State.sequencerRuns
  extract_lets s1 time s2 s3
  have hs : s1.situation = s.situation := s.putAll_situation _
  have hr1 : s1.get Fld.SEQ_STAT_RUNNING = 1 := s.get_RUNNING_of_start _
  clear_value s1
  have hr2 : s2.get Fld.SEQ_STAT_RUNNING = s1.get Fld.SEQ_STAT_RUNNING := s1.get_of_time _ _
  have h3 : s3.starting = s2.starting := by
    refine State.foldl_starting (fun u e => ?_) g.tasks s2
    dsimp only
    rw [State.setTask_starting]
    exact State.ite_starting (u.put_starting_of_ne (seqTaskStat_ne_SEQ_STAT e.task) 1)
  obtain ⟨hm1, hc1, _⟩ := State.situation_inj hs
  obtain ⟨hm, hc, ht, hr⟩ := State.starting_inj ((State.startFailures_starting _).trans ((s3.armDrips_starting g b).trans h3))
  exact ⟨hm.trans hm1, hc.trans (congrArg CoreState.startPending hc1), congrArg TimeState.seqRan ht, hr.trans (hr2.trans hr1)⟩

end Sys2Proof.Machine
end

section
/-! SUPPORT. The end of LOAD (R55, R88, R239) and the entry to RUN with the start of the sequencer (R26, R88). -/
namespace Sys2Proof.Machine

variable {s : State}

/-! ### The exit from LOAD -/

/-- The reserve is full and no strap or wake intervenes: the partner alone decides (R88, R239). -/
theorem loadExit_cases (hm : s.mode = .load) (h11 : s.load.step = 11) (hh : s.load.hold = false)
    (hf : s.bit Fld.PWR_STAT_HOLDUP_FULL = true) (hw : s.load.wakeLoad = false) :
    s.loadExit =
      if s.linked ∧ s.pair.bothLoad = true ∧ s.slot = 1 ∧ (s.pair.partnerMode = .hold ∨ s.pair.partnerMode = .recovery) then s.exitAlone
      else if s.linked ∧ s.partnerRuns = true then s.joinBegins
      else if s.linked ∧ s.slot = 1 ∧ s.pair.partnerMode = .load then s
      else s.exitAlone := by
  rw [State.loadExit, if_pos ⟨hm, h11, hh, hf⟩]
  simp only [hw, Bool.false_eq_true, false_and, if_false]

theorem loadExit_alone (hm : s.mode = .load) (h11 : s.load.step = 11) (hh : s.load.hold = false)
    (hf : s.bit Fld.PWR_STAT_HOLDUP_FULL = true) (hw : s.load.wakeLoad = false) (hl : s.linked = false) : s.loadExit = s.exitAlone := by
  simp only [loadExit_cases hm h11 hh hf hw, hl, Bool.false_eq_true, false_and, if_false]

theorem loadExit_joins (hm : s.mode = .load) (h11 : s.load.step = 11) (hh : s.load.hold = false)
    (hf : s.bit Fld.PWR_STAT_HOLDUP_FULL = true) (hw : s.load.wakeLoad = false) (hl : s.linked = true) (hp : s.partnerRuns = true)
    (ha : s.slot = 0) : s.loadExit = s.joinBegins := by
  rw [loadExit_cases hm h11 hh hf hw, if_neg (by simp [ha]), if_pos ⟨hl, hp⟩]

variable (s)

/-- With START_POLICY AUTO the module waits in LOAD for the hyperperiod boundary (R88). -/
theorem exitAlone_auto (h : s.load.startPolicy = 0) :
    s.exitAlone.mode = s.mode ∧ s.exitAlone.core.startPending = true ∧ s.exitAlone.load.step = 13 := by
  unfold State.exitAlone
  extract_lets load s1
  rw [if_pos (show s1.load.startPolicy = 0 from h)]
  obtain ⟨hm, _, _, _, hl, _⟩ := State.situation_inj s1.takeAreas_situation
  exact ⟨hm, rfl, congrArg LoadState.step hl⟩

/-- With MANUAL it enters HOLD (R88). -/
theorem exitAlone_manual (h : s.load.startPolicy ≠ 0) : s.exitAlone.mode = .hold := by
  unfold State.exitAlone
  extract_lets load s1
  rw [if_neg (show ¬ s1.load.startPolicy = 0 from h)]
  exact State.enterMode_mode _ _

/-! ### The join -/

theorem get_setRole_joining : (s.setRole .joining).get Fld.PAIR_STAT_ROLE = 3 := by
  have hf : Fld.PAIR_STAT_ROLE.fits := by
    unfold RegField.fits
    decide
  unfold State.setRole
  extract_lets s1
  have h1 : s1.get Fld.PAIR_STAT_ROLE = 3 := s.get_put_same _ hf 3
  rw [if_pos (Or.inr rfl)]
  refine (s1.get_putAll_apart _ _ fun p hp => Or.inl ?_).trans h1
  revert p
  decide

theorem role_of_get_three (h : s.get Fld.PAIR_STAT_ROLE = 3) : s.role = .joining := by
  simp [State.role, h]

/-- The module joins: in LOAD still, with the role of one that joins (R239). -/
theorem joinBegins_joins : s.joinBegins.mode = s.mode ∧ s.joinBegins.role = .joining := by
  unfold State.joinBegins
  extract_lets load s1 pair
  have hr : (s1.setRole .joining).get Fld.PAIR_STAT_ROLE = 3 := get_setRole_joining s1
  have hm : (s1.setRole .joining).mode = s1.mode := (State.situation_inj (s1.setRole_situation _)).1
  have hm1 : s1.mode = s.mode := rfl
  clear_value s1
  refine ⟨(State.situation_inj (State.tpCheck_situation _)).1.trans (hm.trans hm1), role_of_get_three _ ?_⟩
  exact (get_tpCheck _ role_unreported).trans ((State.get_congr rfl _).trans hr)

/-! ### The start -/

theorem get_healthOpen_RUNNING : s.healthOpen.get Fld.SEQ_STAT_RUNNING = s.get Fld.SEQ_STAT_RUNNING := by
  unfold State.healthOpen
  split
  · refine (State.get_putAll_apart _ _ _ fun p hp => Or.inl ?_).trans rfl
    revert p
    decide
  · rfl

/-- An entry to RUN from LOAD leaves the sequencer as it runs. -/
theorem get_enterMode_run_RUNNING (hm : s.mode = .load) : (s.enterMode .run).get Fld.SEQ_STAT_RUNNING = s.get Fld.SEQ_STAT_RUNNING := by
  unfold State.enterMode
  extract_lets old core s1 s2 s3 s4 s5 pair s6
  have hs2 : s2 = s1 := if_neg (by simp [old, hm])
  have hs3 : s3 = s2 := if_neg (by simp [old, hm])
  have hs4 : s4 = s3 := if_neg (by decide)
  have h1 : s1.get Fld.SEQ_STAT_RUNNING = s.get Fld.SEQ_STAT_RUNNING := State.get_congr rfl _
  have h5 : s5.get Fld.SEQ_STAT_RUNNING = s4.get Fld.SEQ_STAT_RUNNING := by
    rw [show s5 = s4.healthOpen from if_pos (Or.inl rfl)]
    exact get_healthOpen_RUNNING s4
  have h6 : s6.get Fld.SEQ_STAT_RUNNING = s5.get Fld.SEQ_STAT_RUNNING := by
    rw [show s6 = { s5 with pair := { s5.pair with joinFailed := false } } from if_pos rfl]
    exact State.get_congr rfl _
  rw [get_tpCheck s6 running_unreported, h6, h5, hs4, hs3, hs2, h1]

/-- The start that waited has been taken up. -/
def State.startTaken (s : State) : State := { s with core := { s.core with startPending := false } }

/-- At the boundary after LOAD the sequencer starts and the module enters RUN (R88). -/
theorem sequencerStart_of_load {g : Survey} (hm : s.mode = .load) (hp : s.core.startPending = true) (hg : s.activeSurvey = some g)
    (hr : s.bit Fld.SEQ_STAT_RUNNING = false) :
    s.sequencerStart = (s.startTaken.sequencerRuns g s.startTaken.lastBoundary true).enterMode .run := by
  unfold State.sequencerStart
  simp only [hg, hr, Bool.false_eq_true, if_false]
  exact if_pos ⟨hm, hp⟩

/-- A module in LOAD whose sequencer starts and that enters RUN. -/
theorem sequencerRuns_enterMode_run (g : Survey) (b : Nat) (hm : s.mode = .load) :
    ((s.sequencerRuns g b true).enterMode .run).mode = .run ∧ ((s.sequencerRuns g b true).enterMode .run).get Fld.SEQ_STAT_RUNNING = 1 ∧
      ((s.sequencerRuns g b true).enterMode .run).time.seqRan = true ∧
      ((s.sequencerRuns g b true).enterMode .run).core.startPending = s.core.startPending := by
  obtain ⟨hm2, hc2, ht2, hr2⟩ := s.sequencerRuns_starts g b true
  generalize s.sequencerRuns g b true = u at hm2 hc2 ht2 hr2 ⊢
  obtain ⟨hmode, hcore, _, _, _, htime⟩ := u.enterMode_keeps .run
  exact ⟨hmode, (get_enterMode_run_RUNNING _ (hm2.trans hm)).trans hr2, (congrArg TimeState.seqRan htime).trans ht2,
    (congrArg CoreState.startPending hcore).trans hc2⟩

end Sys2Proof.Machine
end

section
/-! The obligation about the end of LOAD. -/
open Sys2Proof Sys2Proof.Machine

/-- Settles O21: the exit by the partner and START_POLICY, and the start of the sequencer with the entry to RUN. -/
theorem loadExitAndStart : Obligations.LoadExitAndStart := by
  intro s
  refine ⟨fun hm h11 hh hf hw hl hp => ?_, fun hm h11 hh hf hw hl hp => ?_, fun hm h11 hh hf hw hl hr ha => ?_, fun hf => ?_,
    fun g hm hp hg hr => ?_, fun hr => ?_⟩
  · obtain ⟨hmode, hpend, hstep⟩ := exitAlone_auto s hp
    exact ⟨_, congrArg done (loadExit_alone hm h11 hh hf hw hl), hmode.trans hm, hpend, hstep⟩
  · exact ⟨_, congrArg done (loadExit_alone hm h11 hh hf hw hl), exitAlone_manual s hp⟩
  · obtain ⟨hmode, hrole⟩ := joinBegins_joins s
    exact ⟨_, congrArg done (loadExit_joins hm h11 hh hf hw hl hr ha), hmode.trans hm, hrole⟩
  · exact congrArg done (if_neg (by simp [hf]))
  · obtain ⟨hmode, hrun, hran, hpend⟩ := sequencerRuns_enterMode_run s.startTaken g s.startTaken.lastBoundary hm
    exact ⟨_, congrArg done (sequencerStart_of_load s hm hp hg hr), hmode, hrun, hran, hpend⟩
  · show done s.sequencerStart = _
    unfold State.sequencerStart
    split
    · rfl
    · rw [if_pos hr, done]

end

section
/-! SUPPORT. The front panel (R38, R39, R290) and the insertion sequence (R32, R54, R57). -/
namespace Sys2Proof.Machine

variable {s : State}

/-! ### Front panel -/

/-- After the lamp test, with the supply on, each LED shows its own state (R38). -/
theorem ledOf_of_lit (hon : s.core.mainPath = .on) (hl : s.core.lampTest = false) (shown : LedShow) : s.ledOf shown = shown := by
  simp [State.ledOf, hon, hl]

theorem ledFault_eq_red_iff (hon : s.core.mainPath = .on) (hl : s.core.lampTest = false) : s.ledFault = .red ↔ s.errN = true := by
  unfold State.ledFault
  rw [ledOf_of_lit hon hl]
  (repeat' split) <;> simp_all

theorem selectPress_of_awake (h : s.mode ≠ .hibernate) : exec .selectPress s =
    .next { s with core := { s.core with page := if s.core.page + 1 < s.pageCount then s.core.page + 1 else 0 } } := if_neg h

theorem buttonPoint_of_page {n : Nat} (hm : s.mode = .service) (h4 : 4 ≤ s.core.page) (hn : s.aiPages[s.core.page - 4]? = some n) (high : Bool)
    (ref : BitVec 32) : s.buttonPoint high ref = s.calTakeAt n high ref := by
  simp only [State.buttonPoint, hm, h4, hn, and_self, if_true]

/-- Outside SERVICE and on the information pages a held button has no effect (R39). -/
theorem buttonPoint_of_no_page (h : s.mode ≠ .service ∨ s.core.page < 4) (high : Bool) (ref : BitVec 32) : s.buttonPoint high ref = s := by
  refine if_neg fun hp => ?_
  rcases h with hm | h4
  · exact hm hp.1
  · exact absurd hp.2 (Nat.not_le.2 h4)

theorem frontPanelButtons : Claim.FrontPanelButtons := by
  intro s
  have lit (hon : s.core.mainPath = .on) := ledOf_of_lit (s := { s with core := { s.core with lampTest := false } }) hon rfl
  refine ⟨⟨_, rfl, rfl, fun hon => ⟨?_, fun hm => ?_, ledFault_eq_red_iff hon rfl⟩⟩, fun hm hp => ?_, fun hm hp => ?_, fun hm => if_pos hm,
    fun n hm h4 hn => ⟨?_, ?_⟩, fun h => ⟨?_, ?_⟩⟩
  · refine (lit hon _).trans ?_
    cases s.mode <;> rfl
  · exact (lit hon _).trans (if_neg hm)
  · rw [selectPress_of_awake hm, if_pos hp]
  · rw [selectPress_of_awake hm, if_neg (Nat.not_lt.2 hp)]
  · exact congrArg done (buttonPoint_of_page hm h4 hn _ _)
  · exact congrArg done (buttonPoint_of_page hm h4 hn _ _)
  · exact congrArg done (buttonPoint_of_no_page h _ _)
  · exact congrArg done (buttonPoint_of_no_page h _ _)

end Sys2Proof.Machine
end

section
/-! SUPPORT. A source of a module-level reset asserts (R69, R71 to R73): what every assertion leaves, and what the begin of an episode does. -/
namespace Sys2Proof.Machine

variable (s : State)

/-- What a reset keeps of the insertion (R54, R57): the main path, the withdrawal, the hold of power-on reset. -/
def State.insertion (s : State) : MainPath × Bool × Bool := (s.core.mainPath, s.core.extracted, s.core.porHeld)

theorem State.insertion_of_core {s t : State} (h : t.core = s.core) : t.insertion = s.insertion := by
  simp only [State.insertion, h]

@[simp] theorem State.resetDisplaces_core : s.resetDisplaces.core = s.core := by
  unfold State.resetDisplaces
  split
  · split <;> simp
  · rfl

@[simp] theorem State.resetDisplaces_sec : s.resetDisplaces.sec = s.sec := by
  unfold State.resetDisplaces
  split
  · split <;> simp
  · rfl

@[simp] theorem State.resetTie_core (n : Nat) : (s.resetTie n).core = s.core := by
  unfold State.resetTie
  split <;> rfl

/-- The module as an episode begins, FIRST set (R71, R73). -/
def State.episodeBegun (s : State) (n : Nat) : State :=
  let u := s.resetDisplaces.afterReset (n == 0)
  ((if n = 0 then u.losePower else u).bump ⟨Reg.RST_COUNT, 0, 32⟩).put Fld.RST_CAUSE_FIRST n

/-- The module in an episode that a further source joins. -/
def State.episodeJoined (s : State) (n : Nat) : State := if n = 0 then s.losePower.resetTie n else s.resetTie n

/-- The registers of an assertion in the episode (R69, R75). -/
def State.causeTold (s : State) (n : Nat) (detail : List (RegField × Nat)) : State :=
  let u := (s.setReg Reg.RST_CAUSE (s.getReg Reg.RST_CAUSE ||| BitVec.twoPow 32 n)).putAll detail
  if (n < 2 : Bool) && !u.rst.pwrCounted then u.bump ⟨Reg.RST_PWR_CYCLES, 0, 32⟩ else u

/-- Source `n` stands asserted. -/
def State.sourceStands (s : State) (n : Nat) : State :=
  { s with rst := { s.rst with
      inReset := true, asserted := s.rst.asserted ||| BitVec.twoPow 8 n, pwrCounted := s.rst.pwrCounted || (n < 2 : Bool) } }

variable (src : ResetSource) (detail : List (RegField × Nat))

theorem assertReset_eq : s.assertReset src detail =
    ((if s.rst.inReset then s.episodeJoined (sourceBit src) else s.episodeBegun (sourceBit src)).causeTold (sourceBit src) detail).sourceStands
      (sourceBit src) := rfl

@[simp] theorem State.causeTold_mode (n : Nat) : (s.causeTold n detail).mode = s.mode := by
  unfold State.causeTold
  dsimp only
  split <;> simp

@[simp] theorem State.causeTold_core (n : Nat) : (s.causeTold n detail).core = s.core := by
  unfold State.causeTold
  dsimp only
  split <;> simp

@[simp] theorem State.causeTold_sec (n : Nat) : (s.causeTold n detail).sec = s.sec := by
  unfold State.causeTold
  dsimp only
  split <;> simp

@[simp] theorem State.causeTold_fls (n : Nat) : (s.causeTold n detail).fls = s.fls := by
  unfold State.causeTold
  dsimp only
  split <;> simp

/-- The source stands among those asserted, and the module is in reset. -/
theorem assertReset_asserts :
    (s.assertReset src detail).rst.inReset = true ∧ (s.assertReset src detail).rst.asserted.getLsbD (sourceBit src) = true := by
  have hn : sourceBit src < 8 := by cases src <;> decide
  rw [assertReset_eq]
  simp [State.sourceStands, hn]

theorem State.episodeJoined_insertion (n : Nat) : (s.episodeJoined n).insertion = s.insertion := by
  unfold State.episodeJoined
  split
  · exact State.insertion_of_core (State.resetTie_core _ _)
  · exact State.insertion_of_core (State.resetTie_core _ _)

theorem State.episodeBegun_insertion (n : Nat) : (s.episodeBegun n).insertion = s.insertion := by
  unfold State.episodeBegun
  extract_lets u
  have hu : u.insertion = s.insertion := by simp [u, State.insertion, State.afterReset]
  have hv : (if n = 0 then u.losePower else u).core = u.core := by split <;> rfl
  exact (State.insertion_of_core (by simp [hv])).trans hu

/-- An assertion, whether it begins an episode or joins one, leaves the insertion as it is. -/
theorem assertReset_insertion : (s.assertReset src detail).insertion = s.insertion := by
  rw [assertReset_eq]
  refine (State.insertion_of_core (State.causeTold_core _ _ _)).trans ?_
  split
  · exact s.episodeJoined_insertion _
  · exact s.episodeBegun_insertion _

/-- An episode begins in LOAD, with no record queued, with the lifecycle and a due erase as they were (R71, R419). -/
theorem assertReset_begins (h : s.rst.inReset = false) :
    (s.assertReset src detail).mode = .load ∧ (s.assertReset src detail).fls.queue = [] ∧
      (s.assertReset src detail).sec.lifecycle = s.sec.lifecycle ∧ (s.assertReset src detail).sec.erasePending = s.sec.erasePending := by
  have hb (n : Nat) : (s.episodeBegun n).mode = .load ∧ (s.episodeBegun n).fls.queue = [] ∧ (s.episodeBegun n).sec.lifecycle = s.sec.lifecycle ∧
      (s.episodeBegun n).sec.erasePending = s.sec.erasePending := by
    unfold State.episodeBegun
    split <;> simp [State.losePower, State.afterReset, State.reset, FlsState.reset]
  rw [assertReset_eq, if_neg (by simp [h])]
  simpa [State.sourceStands] using hb (sourceBit src)

/-! ### The insertion sequence -/

theorem withdrawalAborted_restarts (h : s.core.extracted = true) : ∃ t, exec .withdrawalAborted s = .next t ∧ t.core.extracted = false ∧
    t.core.mainPath = .debouncing ∧ t.core.porHeld = true ∧ t.rst.inReset = true ∧ t.rst.asserted.getLsbD 0 = true := by
  refine ⟨_, if_pos h, ?_⟩
  have hi := assertReset_insertion { s with core := { s.core with extracted := false, mainPath := .debouncing, porHeld := true } } .por []
  simp only [State.insertion, Prod.mk.injEq] at hi
  obtain ⟨hpath, hext, hheld⟩ := hi
  exact ⟨hext, hpath, hheld, assertReset_asserts _ .por []⟩

theorem insertionSequence : Claim.InsertionSequence :=
  fun s => ⟨fun h => if_pos h, fun h => if_pos h, fun h => if_pos h, fun h => if_pos h, withdrawalAborted_restarts s⟩

end Sys2Proof.Machine
end

section
/-! The obligation about the front panel and the insertion. -/
open Sys2Proof Sys2Proof.Machine

/-- Settles O12: the buttons by mode and page, the insertion by the state of the main path, an aborted withdrawal by what a reset keeps. -/
theorem frontPanelAndInsertion : Obligations.FrontPanelAndInsertion := ⟨frontPanelButtons, insertionSequence⟩

end

section
/-! SUPPORT. A module in HIBERNATE in which an engineering command still waits: the reset that ends a save refuses the command (R29), and the
refusal goes out. -/
namespace Sys2Proof.Machine

/-- In HIBERNATE, powered and out of reset, with a start command whose transition waits. -/
def hibernatingWithCommand : State :=
  { State.reset with
    mode := .hibernate
    rst := { ResetState.reset with inReset := false }
    core := { CoreState.reset with modeReq := some ⟨.run, 4, none⟩ } }

theorem interrupt_hibernatingWithCommand_out : (hibernatingWithCommand.interrupt 0).out = [.engRefused] := by decide +kernel

end Sys2Proof.Machine
end

section
/-! The obligation about the supply, the data save and the extraction. -/
open Sys2Proof Sys2Proof.Machine

/-- Refutes O13: in HIBERNATE an interruption is to put nothing on the wires, but where an engineering command still waits, the brown-out
reset of the save refuses it (R29), and the station is told. -/
theorem not_supplyAndDataSave : ¬ Obligations.SupplyAndDataSave := by
  rintro ⟨hsupply, _⟩
  obtain ⟨_, hhibernate, _⟩ := hsupply hibernatingWithCommand 0 0
  obtain ⟨t, ht, _, _, _, _, _, _, hout⟩ := hhibernate rfl rfl rfl
  have ht : hibernatingWithCommand.interrupt 0 = t := Host.Outcome.next.inj ht
  rw [← ht, interrupt_hibernatingWithCommand_out] at hout
  cases hout

end

section
/-! SUPPORT. What the reports and reactions of the module leave steady: mode, LOAD, keys, cover, survey banks and the registers that tell of
them. A record, an occurrence of a Sump source, even the failover that it causes (R232, R380), goes on under all of these. -/
namespace Sys2Proof.Machine

/-! ### The relation -/

/-- A bank of the survey (R119). -/
def State.bank (s : State) (b : Nat) : Bank := sparseGet (fun _ => (⟨none⟩ : Bank)) s.banks b

/-- The registers of the security block, the number of the active bank, and whether the hold-up bank is full. -/
def RegField.lasting (f : RegField) : Prop := f.addr / 65536 = 0x4007 ∨ f = Fld.SEQ_STAT_ACTIVE_BANK ∨ f = Fld.PWR_STAT_HOLDUP_FULL

/-- From `s` to `t` mode, LOAD, keys, whether the module is in reset and the cover stay, and so do the lasting fields; each bank is as before
or, if it is not the active one, empty. -/
structure steady (s t : State) : Prop where
  mode : t.mode = s.mode
  load : t.load = s.load
  sec : t.sec = s.sec
  inReset : t.rst.inReset = s.rst.inReset
  cover : t.core.cover = s.core.cover
  field : ∀ f : RegField, f.lasting → t.get f = s.get f
  bank : ∀ b, t.bank b = s.bank b ∨ b ≠ s.get Fld.SEQ_STAT_ACTIVE_BANK ∧ t.bank b = ⟨none⟩

variable {s t u : State}

theorem lasting_ACTIVE_BANK : Fld.SEQ_STAT_ACTIVE_BANK.lasting := Or.inr (Or.inl rfl)

theorem lasting_HOLDUP_FULL : Fld.PWR_STAT_HOLDUP_FULL.lasting := Or.inr (Or.inr rfl)

theorem lasting_of_SEC {f : RegField} (h : f.addr / 65536 = 0x4007) : f.lasting := Or.inl h

theorem steady.refl (s : State) : steady s s := ⟨rfl, rfl, rfl, rfl, rfl, fun _ _ => rfl, fun _ => Or.inl rfl⟩

theorem steady.trans (h : steady s t) (k : steady t u) : steady s u where
  mode := k.mode.trans h.mode
  load := k.load.trans h.load
  sec := k.sec.trans h.sec
  inReset := k.inReset.trans h.inReset
  cover := k.cover.trans h.cover
  field f hf := (k.field f hf).trans (h.field f hf)
  bank b := by
    rcases k.bank b with hk | ⟨hb, hk⟩
    · rw [hk]
      exact h.bank b
    · exact Or.inr ⟨fun e => hb (e.trans (h.field _ lasting_ACTIVE_BANK).symm), hk⟩

theorem steady.ite {c : Prop} [Decidable c] (h : steady s t) : steady s (if c then t else s) := by
  split
  · exact h
  · exact steady.refl s

theorem steady.foldl {α : Type} {f : State → α → State} (l : List α) (h : ∀ u, ∀ x ∈ l, steady u (f u x)) (s : State) : steady s (l.foldl f s) := by
  induction l generalizing s with
  | nil => exact steady.refl s
  | cons x l ih => exact (h s x List.mem_cons_self).trans (ih (fun u y hy => h u y (List.mem_cons_of_mem x hy)) (f s x))

/-- The survey that runs is the same (R119). -/
theorem steady.activeSurvey (h : steady s t) : t.activeSurvey = s.activeSurvey := by
  show (t.bank _).survey = (s.bank _).survey
  rw [h.field _ lasting_ACTIVE_BANK]
  rcases h.bank (s.get Fld.SEQ_STAT_ACTIVE_BANK) with hb | ⟨hb, _⟩
  · rw [hb]
  · exact absurd rfl hb

/-- A bank without a survey gets none. -/
theorem steady.bank_empty (h : steady s t) {b : Nat} (hb : (s.bank b).survey = none) : (t.bank b).survey = none := by
  rcases h.bank b with e | ⟨_, e⟩
  · rw [e, hb]
  · rw [e]

theorem steady.bit (h : steady s t) {f : RegField} (hf : f.lasting) : t.bit f = s.bit f := by
  simp only [State.bit, h.field f hf]

/-! ### Plain updates -/

/-- All that `steady` speaks of, with every register. -/
def State.held (s : State) : Mode × LoadState × SecState × Bool × Bool × List (Nat × BitVec 32) × List (Nat × Bank) :=
  (s.mode, s.load, s.sec, s.rst.inReset, s.core.cover, s.regs, s.banks)

theorem steady.of_held (h : t.held = s.held) : steady s t := by
  simp only [State.held, Prod.mk.injEq] at h
  obtain ⟨hm, hl, hs, hr, hc, hregs, hb⟩ := h
  exact ⟨hm, hl, hs, hr, hc, fun f _ => State.get_congr hregs f, fun b => Or.inl (by simp only [State.bank, hb])⟩

variable (s)

/-- A field that shares no bit with a lasting one. -/
theorem steady_put_apart {f : RegField} (hf : ∀ g : RegField, g.lasting → f.apart g) (v : Nat) : steady s (s.put f v) :=
  ⟨rfl, rfl, rfl, rfl, rfl, fun g hg => s.get_put_apart f g (hf g hg) v, fun _ => Or.inl rfl⟩

/-- A register without a lasting field. -/
abbrev passing (a : Nat) : Prop := a / 65536 ≠ 0x4007 ∧ a ≠ Reg.SEQ_STAT ∧ a ≠ Reg.PWR_STAT

theorem lasting_ne {a : Nat} (ha : passing a) {g : RegField} (hg : g.lasting) : a ≠ g.addr := by
  obtain ⟨h1, h2, h3⟩ := ha
  rintro rfl
  rcases hg with hg | rfl | rfl
  · exact h1 hg
  · exact h2 rfl
  · exact h3 rfl

theorem steady_put {f : RegField} (hf : passing f.addr) (v : Nat) : steady s (s.put f v) :=
  steady_put_apart s (fun _ hg => Or.inl (lasting_ne hf hg)) v

theorem steady_putBit {f : RegField} (hf : passing f.addr) (b : Bool) : steady s (s.putBit f b) := steady_put s hf _

theorem steady_setReg {a : Nat} (ha : passing a) (v : BitVec 32) : steady s (s.setReg a v) where
  mode := rfl
  load := rfl
  sec := rfl
  inReset := rfl
  cover := rfl
  field g hg := congrArg g.ext (s.getReg_setReg_ne v (lasting_ne ha hg).symm)
  bank _ := Or.inl rfl

theorem steady_putAll {l : List (RegField × Nat)} (hl : ∀ p ∈ l, passing p.1.addr) : steady s (s.putAll l) :=
  steady.foldl l (fun u p hp => steady_put u (hl p hp) p.2) s

/-- Fields of one register. -/
theorem steady_putAll_of_addr {a : Nat} (ha : passing a) {l : List (RegField × Nat)} (hl : ∀ p ∈ l, p.1.addr = a) : steady s (s.putAll l) :=
  steady_putAll s fun p hp => (hl p hp).symm ▸ ha

theorem steady_bump {f : RegField} (hf : passing f.addr) : steady s (s.bump f) := (steady_put s hf _).ite

theorem steady_setGate (b : Nat) (g : Gate) : steady s (s.setGate b g) := steady.of_held rfl
theorem steady_setChamber (c : Nat) (x : Chamber) : steady s (s.setChamber c x) := steady.of_held rfl
theorem steady_setTask (k : Nat) (x : TaskState) : steady s (s.setTask k x) := steady.of_held rfl
theorem steady_setChan (n : Nat) (c : IslChan) : steady s (s.setChan n c) := steady.of_held rfl
theorem steady_tp (x : TpState) : steady s { s with tp := x } := steady.of_held rfl
theorem steady_freeByte : steady s s.freeByte.2 := steady.of_held rfl

theorem steady_emit (o : Out) : steady s (s.emit o) := steady.of_held (by simp [State.held])

/-! ### Records and occurrences -/

theorem passing_SUMP {n : Nat} (hn : n < 256) : passing (Reg.SUMP_SRC n) ∧ passing (Reg.SUMP_CNT n) ∧ passing (Reg.SUMP_DETAIL n) := by
  simp only [passing, Reg.SUMP_SRC, Reg.SUMP_CNT, Reg.SUMP_DETAIL, Reg.SEQ_STAT, Reg.PWR_STAT]
  omega

theorem passing_GATE_CTRL {b : Nat} (hb : b < 50) : passing (Reg.GATE_CTRL b) := by
  simp only [passing, Reg.GATE_CTRL, Reg.SEQ_STAT, Reg.PWR_STAT]
  omega

theorem steady_flsAdd (e : FlsEntry) : steady s (s.flsAdd e).1 := by
  unfold State.flsAdd
  split
  · exact steady.of_held rfl
  · extract_lets s1 s2 s3
    have h1 : steady s s1 := steady_bump s (by decide)
    have h2 : steady s1 s2 := steady_putBit s1 (by decide) true
    exact h1.trans (h2.trans (steady.of_held rfl))

theorem steady_flsQueueRecord (type key : Nat) (body : List Byte) (forced : Bool) : steady s (s.flsQueueRecord type key body forced).1 := by
  unfold State.flsQueueRecord
  extract_lets stamp r
  clear_value r
  split
  · split
    · exact steady.of_held rfl
    · exact steady_flsAdd s _
  · split
    · split <;> exact steady_flsAdd s _
    · exact steady_flsAdd s _

theorem steady_gateRequest (b : Nat) : steady s (s.gateRequest b) := by
  unfold State.gateRequest
  dsimp only
  split
  · exact steady.refl s
  · rename_i hb
    simp only [Bool.or_eq_true, decide_eq_true_eq, not_or] at hb
    exact (steady_setGate s b _).trans (steady_put _ (passing_GATE_CTRL (Nat.not_le.1 hb.2)) 1)

theorem steady_gateRequestOuter (b : Nat) : steady s (s.gateRequestOuter b) := by
  unfold State.gateRequestOuter
  split
  · exact (steady_setGate s b _).ite
  · exact steady_gateRequest s b

theorem steady_sumpModule (src : Nat) : steady s (s.sumpModule src) := by
  unfold State.sumpModule
  dsimp only
  split
  · exact steady.of_held rfl
  · exact steady.ite (steady.of_held rfl)

theorem steady_sumpReact (src inst : Nat) : steady s (s.sumpReact src inst) := by
  unfold State.sumpReact
  extract_lets s1 s2
  have h1 : steady s s1 := (steady_emit s _).ite
  have h2 : steady s1 s2 := by
    refine steady.ite ?_
    split
    · exact steady_gateRequestOuter s1 _
    · exact steady.refl s1
  exact h1.trans (h2.trans (steady_sumpModule s2 src).ite)

theorem steady_sumpFlag {src : Nat} (hs : src < 256) (inst sub : Nat) (forced : Bool) : steady s (s.sumpFlag src inst sub forced) := by
  obtain ⟨hf, hc, hd⟩ := passing_SUMP hs
  unfold State.sumpFlag
  extract_lets s1 s2
  have h : steady s s2 := (steady_putBit s hf true).trans (steady_bump s1 hc)
  split
  · exact h
  · exact h.trans (steady_putAll_of_addr s2 hd (by simp [Fld.SUMP_DETAIL_INSTANCE, Fld.SUMP_DETAIL_SUB, Fld.SUMP_DETAIL_FORCED]))

theorem steady_sumpMerge {src : Nat} (hs : src < 256) (inst sub : Nat) (forced : Bool) : steady s (s.sumpMerge src inst sub forced) := by
  obtain ⟨hf, _, hd⟩ := passing_SUMP hs
  unfold State.sumpMerge
  extract_lets s1 s2
  have h1 : steady s s1 := steady_putBit s hf true
  have h2 : steady s1 s2 := (steady_putAll_of_addr s1 hd (by simp [Fld.SUMP_DETAIL_INSTANCE, Fld.SUMP_DETAIL_SUB])).ite
  split
  · exact h1
  · exact h1.trans (h2.trans (steady_putBit s2 hd true).ite)

theorem steady_sumpNote {src : Nat} (hs : src < 256) (inst sub : Nat) (forced : Bool) : steady s (s.sumpNote src inst sub forced) := by
  unfold State.sumpNote
  extract_lets u x s1
  have h1 : steady s s1 := steady.of_held rfl
  exact h1.trans ((steady_sumpFlag s1 hs inst sub forced).trans (steady_sumpReact _ src inst))

theorem steady_sumpRecord (src : Nat) (forced : Bool) : steady s (s.sumpRecord src forced).1 := by
  unfold State.sumpRecord
  dsimp only
  split
  · exact steady_flsQueueRecord s _ _ _ _
  · exact steady.refl s

/-- An occurrence of a Sump source (R376, R381, R391). -/
theorem steady_sumpOccur (src inst sub : Nat) (forced : Bool) : steady s (s.sumpOccur src inst sub forced) := by
  unfold State.sumpOccur
  split
  · exact steady.refl s
  · rename_i hn
    have hs : src < 256 := sumpSource_lt (Bool.eq_false_iff.2 hn)
    have ho : Src.FLS_OVERFLOW < 256 := by decide
    split
    · exact steady_sumpMerge s hs inst sub forced
    · have hr := (steady_sumpNote s hs inst sub forced).trans (steady_sumpRecord _ src forced)
      generalize (s.sumpNote src inst sub forced).sumpRecord src forced = q at hr
      obtain ⟨u, lost⟩ := q
      dsimp only at hr ⊢
      split
      · split
        · exact hr.trans (steady_sumpMerge u ho _ _ _)
        · exact hr.trans ((steady_sumpNote u ho _ _ _).trans (steady_sumpRecord _ _ _))
      · exact hr

/-- A record (R391). -/
theorem steady_record (type key : Nat) (items : List (Nat × Nat)) : steady s (s.record type key items) := by
  unfold State.record
  have hr := steady_flsQueueRecord s type key (recordBody items) false
  generalize s.flsQueueRecord type key (recordBody items) false = q at hr
  obtain ⟨u, lost⟩ := q
  dsimp only at hr ⊢
  split
  · exact hr.trans (steady_sumpOccur u _ _ _ _)
  · exact hr

theorem steady_sumpRise {src : Nat} (hs : src < 256) (inst sub : Nat) : steady s (s.sumpRise src inst sub) := by
  unfold State.sumpRise
  extract_lets key held x s1
  have h1 : steady s s1 := steady.of_held rfl
  split
  · exact steady.refl s
  · exact h1.trans ((steady_putBit s1 (passing_SUMP hs).1 true).trans (steady_sumpOccur _ _ _ _ _))

theorem steady_fall {src : Nat} (hs : src < 256) (inst sub : Nat) : steady s (s.fall src inst sub) := by
  unfold State.fall State.sumpFall
  extract_lets key held x s1
  have h1 : steady s s1 := steady.of_held rfl
  exact h1.trans (steady_putBit s1 (passing_SUMP hs).1 _)

/-! ### Test perturbation (R460) -/

/-- The forced ratio stands in the register of the hold-up bank. -/
theorem steady_put_RATIO_FORCED (v : Nat) : steady s (s.put Fld.PWR_STAT_RATIO_FORCED v) := by
  refine steady_put_apart s (fun g hg => ?_) v
  rcases hg with hg | rfl | rfl
  · exact Or.inl fun e => absurd (e ▸ hg) (by decide)
  · exact Or.inl (by decide)
  · exact Or.inr (Or.inl (by decide))

theorem steady_squeezeRequest : steady s s.squeezeRequest := steady.of_held rfl

theorem steady_tpRestore (k : Nat) : steady s (s.tpRestore k) := by
  unfold State.tpRestore
  extract_lets s1 s2
  have h1 : steady s s1 := (steady_put s (by decide) _).ite
  have h2 : steady s1 s2 := ((steady_put_RATIO_FORCED s1 0).trans (steady_squeezeRequest _)).ite
  exact h1.trans (h2.trans (steady_fall s2 (by decide) 0 0).ite)

theorem steady_tpStopKind (k : Nat) : steady s (s.tpStopKind k) := by
  unfold State.tpStopKind
  refine steady.ite ?_
  have h : steady s (s.freeByte.2.record 0xA1 k [(1, s.freeByte.1), (4, sparseGet (fun _ => 0) s.tp.affected k)]) :=
    (steady_freeByte s).trans (steady_record _ _ _ _)
  exact h.trans ((steady_tp _ _).trans (steady_tpRestore _ k))

theorem steady_tpCheck : steady s s.tpCheck := by
  unfold State.tpCheck
  split
  · exact steady.refl s
  · exact steady.foldl _ (fun u k _ => steady_tpStopKind u k) s

end Sys2Proof.Machine
end

section
/-! SUPPORT. The failover and the fixed action of severity 7 (R232, R237, R380) under what stays steady. -/
namespace Sys2Proof.Machine

variable (s : State)

theorem steady_requestMode (m : Mode) (k : Nat) (e : Option (BitVec 32)) : steady s (s.requestMode m k e) := by
  unfold State.requestMode
  split
  · exact steady.of_held rfl
  · split
    · exact (steady_emit s _).ite
    · extract_lets u
      have hu : steady s u := (steady_emit s _).ite
      exact hu.trans (steady.of_held rfl)

theorem steady_requestHold : steady s s.requestHold := (steady_requestMode s _ _ _).ite

theorem steady_yieldModule : steady s s.yieldModule := by
  unfold State.yieldModule
  split
  · exact steady.refl s
  · extract_lets s1 s2
    have h1 : steady s s1 := steady_putAll s (by decide)
    have h2 : steady s1 s2 := steady_bump s1 (by decide)
    clear_value s2
    have h3 := (steady_freeByte s2).trans ((steady_record _ 0x42 0 [(1, s2.freeByte.1)]).trans (steady_sumpRise _ (src := Src.PAIR_YIELD) (by decide) 0 0))
    dsimp only
    generalize (s2.freeByte.2.record 0x42 0 [(1, s2.freeByte.1)]).sumpRise Src.PAIR_YIELD 0 0 = u at h3 ⊢
    refine h1.trans (h2.trans (h3.trans (.trans ?_ ((steady_tpCheck _).trans (steady_requestHold _)))))
    exact steady.of_held rfl

theorem steady_setRole (r : Role) : steady s (s.setRole r) := by
  unfold State.setRole
  extract_lets s1
  have h1 : steady s s1 := steady_put s (by decide) _
  split
  · exact h1.trans (steady_putAll s1 (by decide))
  · exact h1.trans (steady_putAll s1 (by decide)).ite

theorem steady_becomeSolo : steady s s.becomeSolo := by
  unfold State.becomeSolo
  extract_lets s1 s2
  have h1 : steady s s1 := (steady_bump s (by decide)).ite
  have h2 : steady s1 s2 := (steady_setRole s1 .solo).trans (steady_putAll _ (by decide))
  exact h1.trans (h2.trans (steady.of_held rfl))

theorem passing_SVY_BANK {b : Nat} (hb : b ≤ 1) : passing (Reg.SVY_BANK b) ∧ passing (Reg.SVY_BANK_GEN b) ∧ passing (Reg.SVY_BANK_BUILD b) := by
  simp only [passing, Reg.SVY_BANK, Reg.SVY_BANK_GEN, Reg.SVY_BANK_BUILD, Reg.SEQ_STAT, Reg.PWR_STAT]
  omega

/-- There are two banks. -/
theorem activeBank_le_one : s.get Fld.SEQ_STAT_ACTIVE_BANK ≤ 1 := Nat.le_of_lt_succ (Nat.mod_lt _ (by decide))

theorem bank_of_banks (s : State) (b c : Nat) (x : Bank) :
    ({ s with banks := sparseSet (fun _ => (⟨none⟩ : Bank)) s.banks b x } : State).bank c = if c = b then x else s.bank c :=
  sparseGet_set _ s.banks b c x

/-- The other bank loses its survey. -/
theorem steady_emptyBank {b : Nat} (hb : b ≠ s.get Fld.SEQ_STAT_ACTIVE_BANK) :
    steady s { s with banks := sparseSet (fun _ => (⟨none⟩ : Bank)) s.banks b ⟨none⟩ } where
  mode := rfl
  load := rfl
  sec := rfl
  inReset := rfl
  cover := rfl
  field _ _ := rfl
  bank c := by
    rw [bank_of_banks]
    split
    · rename_i hc
      exact Or.inr ⟨hc ▸ hb, rfl⟩
    · exact Or.inl rfl

theorem steady_olc (x : OlcState) : steady s { s with olc := x } := steady.of_held rfl

/-- A change that ends gives up the bank that is not active (R210). -/
theorem steady_olcAbort (reason : Nat) : steady s (s.olcAbort reason) := by
  unfold State.olcAbort
  extract_lets st other b gen s1 s2 s3 s4
  have hb : b ≤ 1 ∧ b ≠ s.get Fld.SEQ_STAT_ACTIVE_BANK := by
    have := activeBank_le_one s
    simp only [b]
    omega
  obtain ⟨hst, hg, _⟩ := passing_SVY_BANK hb.1
  clear_value b
  have h1 : steady s s1 := steady_put s (show passing Reg.GAL_AREA by decide) 0
  have h2 : steady s1 s2 := by
    refine steady_putAll s1 ?_
    simp only [List.forall_mem_cons]
    exact ⟨hst, hg, by decide⟩
  have hb2 : b ≠ s2.get Fld.SEQ_STAT_ACTIVE_BANK := by
    rw [(h1.trans h2).field _ lasting_ACTIVE_BANK]
    exact hb.2
  clear_value s2
  have h3 : steady s2 s3 := (steady_emptyBank s2 hb2).trans (steady_olc _ _)
  clear_value s3
  have h4 : steady s3 s4 := (steady_bump s3 (by decide)).trans (steady_sumpOccur _ _ _ _ _)
  exact (h1.trans (h2.trans (h3.trans (h4.trans (steady_record s4 _ _ _))))).ite

theorem steady_olcUnanswered : steady s s.olcUnanswered :=
  ((steady_olc s _).trans ((steady_put _ (by decide) 6).trans (steady_bump _ (by decide)))).ite

theorem steady_leaveSynced : steady s s.leaveSynced := by
  unfold State.leaveSynced
  refine steady.ite ?_
  extract_lets s1 pair
  have h1 : steady s s1 := (steady_olcUnanswered s).trans ((steady_put _ (by decide) _).trans (steady_putAll _ (by decide)))
  refine h1.trans (.trans ?_ (steady_olcAbort _ 9))
  exact steady.of_held rfl

theorem steady_failover (src : Nat) : steady s (s.failover src) := by
  unfold State.failover
  extract_lets s1 pair s2 s3
  have h2 : steady s s2 := steady.of_held rfl
  exact h2.trans ((steady_leaveSynced s2).trans ((steady_becomeSolo s3).trans (steady_yieldModule _)))

/-- The fixed action of severity 7 (R380). -/
theorem steady_sumpFixed (src : Nat) : steady s (s.sumpFixed src) := by
  unfold State.sumpFixed
  refine steady.ite ?_
  split
  · exact (steady_failover s src).trans (steady.of_held rfl)
  · split
    · exact steady.refl s
    · exact steady_requestHold s

theorem steady_sumpOccurFixed (src inst sub : Nat) (forced : Bool) : steady s (s.sumpOccurFixed src inst sub forced) := by
  unfold State.sumpOccurFixed
  extract_lets t
  have ht : steady s t := steady_sumpOccur s src inst sub forced
  split
  · exact ht
  · exact ht.trans (steady_sumpFixed t src)

theorem steady_raise (src inst sub : Nat) : steady s (s.raise src inst sub) := by
  unfold State.raise
  split
  · exact steady.refl s
  · exact steady_sumpOccurFixed s src inst sub false

theorem steady_rise {src : Nat} (hs : src < 256) (inst sub : Nat) : steady s (s.rise src inst sub) := by
  unfold State.rise
  split
  · exact steady.refl s
  · extract_lets t
    have ht : steady s t := steady_sumpRise s hs inst sub
    split
    · exact ht
    · exact ht.trans (steady_sumpFixed t src)

/-! ### The recorder drains (R389 to R391) -/

theorem steady_fls (x : FlsState) : steady s { s with fls := x } := steady.of_held rfl

theorem steady_setTail (seq off : Nat) : steady s (s.setTail seq off) := steady.of_held rfl

theorem steady_setHead (seq off : Nat) : steady s (s.setHead seq off) := steady.of_held rfl

theorem steady_flsWrite (k : Nat) (bs : List Byte) : steady s (s.flsWrite k bs) := steady_fls s _

theorem steady_freeSpan (n lo hi : Nat) : steady s (State.freeSpan n s lo hi) := by
  induction n generalizing s with
  | zero => exact steady.refl s
  | succ n ih => exact ((steady_setTail s _ _).trans (ih _)).ite

theorem steady_writeRecord (r : FlsRecord) : steady s (s.writeRecord r) := by
  unfold State.writeRecord
  extract_lets len off t fill s1 off' s2 s3 s4 s5
  have h1 : steady s s1 := ((steady_freeSpan s _ _ _).trans (steady_flsWrite t _ _)).ite
  clear_value s1
  have h2 : steady s1 s2 := steady_freeSpan s1 _ _ _
  clear_value s2
  have h3 : steady s2 s3 := (steady_setTail s2 _ _).ite
  exact h1.trans (h2.trans (h3.trans ((steady_flsWrite s3 _ _).trans ((steady_setHead s4 _ _).trans (steady_fls s5 _)))))

theorem steady_flsTellLost : steady s s.flsTellLost := by
  unfold State.flsTellLost
  split
  · exact steady.refl s
  · exact (steady_fls s _).trans (steady_flsQueueRecord _ _ _ _ _)

theorem steady_flsHostRecord : steady s s.flsHostRecord := (steady_flsQueueRecord s _ _ _ _).trans (steady_putAll _ (by decide))

theorem steady_flsHeadUe : steady s s.flsHeadUe := by
  unfold State.flsHeadUe
  extract_lets n fls s1 s2 s3
  have h3 : steady s2 s3 := (steady_putBit s2 (by decide) true).trans (steady_raise _ _ _ _)
  exact (steady_fls s _).trans ((steady_setTail s1 _ _).trans (h3.trans (steady_record s3 _ _ _)))

theorem steady_flsDrainOne : steady s s.flsDrainOne := by
  unfold State.flsDrainOne
  split
  · exact steady.refl s
  · rename_i e q _
    split
    · exact steady_flsHeadUe s
    · extract_lets fls s1 s2 s3
      have h2 : steady s1 s2 := by
        dsimp only [s2]
        split
        · exact steady_writeRecord s1 _
        · exact steady_flsWrite s1 _ _
      have h3 : steady s s3 := (steady_fls s _).trans (h2.trans (steady_flsTellLost s2))
      exact h3.trans ((steady_fls s3 _).trans (steady_flsHostRecord _)).ite

theorem steady_flsDrain : steady s s.flsDrain := steady.foldl _ (fun u _ _ => steady_flsDrainOne u) s

/-! ### Debugging ends (R195, R196, R432) -/

theorem passing_GAL_CH_STAT {c : Nat} (hc : c < 16) : passing (Reg.GAL_CH_STAT c) := by
  simp only [passing, Reg.GAL_CH_STAT, Reg.SEQ_STAT, Reg.PWR_STAT]
  omega

theorem passing_LS_DBG_CTRL {c : Nat} (hc : c < 16) : passing (Reg.LS_DBG_CTRL c) := by
  simp only [passing, Reg.LS_DBG_CTRL, Reg.SEQ_STAT, Reg.PWR_STAT]
  omega

section
variable {c : Nat} (hc : c < 16)
include hc

theorem steady_setChState (st : Nat) : steady s (s.setChState c st) := steady_put s (passing_GAL_CH_STAT hc) st

theorem steady_dropExecution : steady s (s.dropExecution c) := (steady_setChamber s _ _).trans (steady_setChState _ hc _)

theorem steady_gateInternal : steady s (s.gateInternal c) := (steady_setGate s _ _).trans (steady_put _ (passing_GATE_CTRL (by omega)) 1)

theorem steady_replayOne : steady s (s.replayOne c) := by
  unfold State.replayOne
  extract_lets ch
  split
  · exact steady.refl s
  · rename_i w ws _
    extract_lets s1
    have h1 : steady s s1 := steady_setChamber s _ _
    have hp := passing_LS_DBG_CTRL hc
    split
    · rename_i d v _
      split
      · extract_lets s2 ls s3 s4 s5
        have h3 : steady s1 s3 := steady.of_held rfl
        have h4 : steady s3 s4 := (steady_put s3 (by decide) 1).trans (steady_bump _ hp)
        exact h1.trans (h3.trans (h4.trans ((steady_put s4 hp _).trans (steady_record s5 _ _ _))))
      · exact h1.trans (steady_put s1 hp _)
    · exact h1.trans (steady_put s1 hp _)

theorem steady_resumeChamber : steady s (s.resumeChamber c) := by
  unfold State.resumeChamber
  refine steady.ite ?_
  extract_lets s1 s2
  have h1 : steady s s1 := (steady.foldl _ (fun u _ _ => steady_replayOne u hc) s).trans (steady_putBit _ (passing_LS_DBG_CTRL hc) false)
  have h2 : steady s1 s2 := (steady_dropExecution s1 hc).trans (steady_gateInternal _ hc)
  split
  · exact h1.trans (h2.trans (steady_setChamber s2 _ _))
  · exact h1

end

theorem steady_resumeAll : steady s s.resumeAll := steady.foldl _ (fun u _ hc => steady_resumeChamber u (List.mem_range.1 hc)) s

end Sys2Proof.Machine
end

section
/-! SUPPORT. A survey that takes effect at LOAD (R107, R111, R126, R310, R338) under what stays steady. -/
namespace Sys2Proof.Machine

variable (s : State)

/-- The registers above that of the sequencer. -/
theorem passing_of_lt {a : Nat} (h : Reg.SEQ_STAT < a) : passing a := by
  simp only [passing, Reg.SEQ_STAT, Reg.PWR_STAT] at h ⊢
  omega

theorem passing_CAN_OBJ (k m : Nat) : passing (Reg.CAN_OBJ_CTRL k m) ∧ passing (Reg.CAN_OBJ_ID k m) ∧ passing (Reg.CAN_OBJ_MASK k m) := by
  refine ⟨passing_of_lt ?_, passing_of_lt ?_, passing_of_lt ?_⟩ <;>
    simp only [Reg.SEQ_STAT, Reg.CAN_OBJ_CTRL, Reg.CAN_OBJ_ID, Reg.CAN_OBJ_MASK] <;> omega

theorem passing_FL (p x : Nat) : passing (Reg.FL_PORT_STAT p) ∧ passing (Reg.FL_STN_STAT p x) := by
  refine ⟨passing_of_lt ?_, passing_of_lt ?_⟩ <;> simp only [Reg.SEQ_STAT, Reg.FL_PORT_STAT, Reg.FL_STN_STAT] <;> omega

theorem passing_ISL (n : Nat) : passing (Reg.ISL_CH_CFG n) ∧ passing (Reg.ISL_CH_STAT n) ∧ passing (Reg.ISL_AN_STAT n) := by
  refine ⟨passing_of_lt ?_, passing_of_lt ?_, passing_of_lt ?_⟩ <;>
    simp only [Reg.SEQ_STAT, Reg.ISL_CH_CFG, Reg.ISL_CH_STAT, Reg.ISL_AN_STAT] <;> omega

theorem passing_CFG (a : Nat) : passing (Reg.CFG_GEN a) ∧ passing (Reg.CFG_AREA a) := by
  refine ⟨passing_of_lt ?_, passing_of_lt ?_⟩ <;> simp only [Reg.SEQ_STAT, Reg.CFG_GEN, Reg.CFG_AREA] <;> omega

theorem passing_GAL_TASK_INST {t : Nat} (ht : t < 16) : passing (Reg.GAL_TASK_INST_LO t) ∧ passing (Reg.GAL_TASK_INST_HI t) := by
  simp only [passing, Reg.GAL_TASK_INST_LO, Reg.GAL_TASK_INST_HI, Reg.SEQ_STAT, Reg.PWR_STAT]
  omega

/-! ### Pages, windows, code -/

theorem steady_loadPage (page : Nat) (g : Survey) : steady s (s.loadPage page g) := by
  unfold State.loadPage
  extract_lets sig s1
  have h1 : steady s s1 := by
    dsimp only [s1]
    split <;> exact steady.of_held rfl
  refine h1.trans (steady.foldl _ (fun u d _ => ?_) s1)
  unfold State.setSigPage
  split <;> exact steady.of_held rfl

theorem steady_setWindow (g : Survey) {t : Nat} (ht : t < 16) : steady s (s.setWindow g t) := by
  obtain ⟨hlo, hhi⟩ := passing_GAL_TASK_INST ht
  refine steady_putAll s (l := [(Fld.GAL_TASK_INST_LO_OFFSET t, _), (Fld.GAL_TASK_INST_HI_END t, _)]) ?_
  simp only [List.forall_mem_cons]
  exact ⟨hlo, hhi, by simp⟩

theorem steady_loadCode (c : Nat) (g : Option Survey) : steady s (s.loadCode c g) := steady_setChamber s c _

/-! ### CAN objects, stations, channels -/

theorem steady_canSurvey (g : Survey) : steady s (s.canSurvey g) := by
  unfold State.canSurvey
  extract_lets s1
  have h1 : steady s s1 := steady.foldl _ (fun u n _ =>
    (steady_putAll_of_addr u (passing_CAN_OBJ (n / 128) (n % 128)).1 (by simp [Fld.CAN_OBJ_CTRL_SURVEY, Fld.CAN_OBJ_CTRL_ENABLE])).ite) s
  refine h1.trans (steady.foldl _ (fun u e _ => ?_) s1)
  obtain ⟨hctrl, hid, hmask⟩ := passing_CAN_OBJ e.ctrl e.object
  have h2 := steady_putAll_of_addr u hctrl (l := [(Fld.CAN_OBJ_CTRL_SURVEY e.ctrl e.object, 1), (Fld.CAN_OBJ_CTRL_ENABLE e.ctrl e.object, 1),
    (Fld.CAN_OBJ_CTRL_DIR e.ctrl e.object, e.send.toNat), (Fld.CAN_OBJ_CTRL_RING e.ctrl e.object, 0),
    (Fld.CAN_OBJ_CTRL_LENGTH e.ctrl e.object, e.length)])
    (by simp [Fld.CAN_OBJ_CTRL_SURVEY, Fld.CAN_OBJ_CTRL_ENABLE, Fld.CAN_OBJ_CTRL_DIR, Fld.CAN_OBJ_CTRL_RING, Fld.CAN_OBJ_CTRL_LENGTH])
  exact h2.trans ((steady_setReg _ hid _).trans (steady_setReg _ hmask _))

theorem steady_showTopo (p : Nat) : steady s (s.showTopo p) := by
  unfold State.showTopo
  extract_lets st broken was topo s1 s2
  have h1 : steady s s1 := steady_putAll_of_addr s (passing_FL p 0).1 (by simp [Fld.FL_PORT_STAT_TOPO, Fld.FL_PORT_STAT_ANSWERING])
  split
  · have h2 : steady s1 s2 := by
      dsimp only [s2]
      split
      · exact steady.refl s1
      · exact steady_putAll_of_addr s1 (a := Reg.FL_EVENT) (by decide) (by simp [Fld.FL_EVENT_RING_BREAK, Fld.FL_EVENT_PORT])
    exact h1.trans (h2.trans (steady_rise s2 (by decide) p 0))
  · exact h1.trans (steady_fall s1 (by decide) p 0)

theorem steady_stationsLoad : steady s s.stationsLoad := by
  refine steady.foldl _ (fun u p _ => ?_) s
  extract_lets st s1
  have h1 : steady u s1 := by
    refine steady.foldl _ (fun v x _ => ?_) u
    have hp := (passing_FL p x).2
    split
    · exact (steady_put v hp 1).ite
    · exact (steady_fall v (by decide) p x).ite.trans (steady_setReg _ hp 0)
  exact h1.trans (steady_showTopo s1 p)

theorem steady_calModeChanged (n : Nat) : steady s (s.calModeChanged n) := by
  unfold State.calModeChanged
  split
  · exact steady.refl s
  · exact steady.ite (steady.of_held rfl)

theorem steady_chanOff (n : Nat) : steady s (s.chanOff n) := by
  obtain ⟨hcfg, hstat, han⟩ := passing_ISL n
  unfold State.chanOff
  extract_lets s1 x s2 s3 s4
  have h4 : steady s3 s4 := by
    refine steady_putAll s3 ?_
    simp only [List.forall_mem_cons]
    exact ⟨hcfg, han, han, han, han, han, by simp⟩
  exact (steady_calModeChanged s n).trans ((steady_setChan s1 n _).trans ((steady_setReg s2 hstat _).trans (h4.trans
    ((steady_fall s4 (by decide) _ _).trans (steady_fall _ (by decide) _ _)))))

theorem steady_takeModes : steady s s.takeModes := by
  refine steady.foldl _ (fun u n _ => ?_) s
  unfold State.takeMode
  dsimp only
  split
  · exact steady.refl u
  · exact (steady_chanOff u n).trans (steady_put _ (passing_ISL n).1 _)

/-- The number of the fastest task stands in the register of the active bank. -/
theorem steady_put_FASTEST (v : Nat) : steady s (s.put Fld.SEQ_STAT_FASTEST v) := by
  refine steady_put_apart s (fun g hg => ?_) v
  rcases hg with hg | rfl | rfl
  · exact Or.inl fun e => absurd (e ▸ hg) (by decide)
  · exact Or.inr (Or.inr (by decide))
  · exact Or.inl (by decide)

theorem steady_surveyTakes (g : Survey) : steady s (s.surveyTakes g) := by
  unfold State.surveyTakes
  extract_lets s1 s2 s3
  have h2 : steady s1 s2 := steady.foldl _ (fun u t ht => steady_setWindow u g (List.mem_range.1 ht)) s1
  have h3 : steady s2 s3 := by
    refine steady.foldl _ (fun u c hc => ?_) s2
    extract_lets v
    have hv : steady u v := steady_loadCode u c _
    split
    · exact hv
    · exact hv.trans (steady_setChState v (List.mem_range.1 hc) _)
  exact (steady_loadPage s _ g).trans (h2.trans (h3.trans ((steady_canSurvey s3 g).trans ((steady_stationsLoad _).trans
    ((steady_takeModes _).trans (steady_put_FASTEST _ _))))))

/-! ### The store and the entry to HOLD -/

theorem steady_verifyArea (a : Nat) : steady s (s.verifyArea a) := by
  refine steady.ite ?_
  unfold State.programArea State.setArea State.showArea
  obtain ⟨hg, ha⟩ := passing_CFG a
  refine .trans ?_ (steady_putAll _ ?_)
  · exact steady.of_held rfl
  · simp only [List.forall_mem_cons]
    exact ⟨hg, ha, ha, by simp⟩

theorem steady_holdChambers : steady s s.holdChambers := by
  refine steady.foldl _ (fun u c hc => ?_) s
  have hc := List.mem_range.1 hc
  extract_lets v
  have hv : steady u v := (steady_dropExecution u hc).ite
  exact hv.trans (steady_put v (passing_GAL_CH_STAT hc) 1).ite

/-- An entry to HOLD from LOAD changes the mode, and no transition waits any more. -/
theorem steady_enterMode_hold (h : s.mode = .load) :
    steady { s with mode := .hold, core := { s.core with modeReq := none } } (s.enterMode .hold) := by
  unfold State.enterMode
  extract_lets core old s1 s2 s3 s4 s5 pair s6
  have h2 : s2 = s1 := if_neg (by simp [old, h])
  have h3 : s3 = s2 := if_neg (by simp [old, h])
  have h4 : steady s3 s4 := (steady_holdChambers s3).ite
  have h5 : s5 = s4 := if_neg (by decide)
  have h6 : s6 = s5 := if_neg (by decide)
  rw [h6, h5]
  rw [h3, h2] at h4
  exact h4.trans (steady_tpCheck s4)

end Sys2Proof.Machine
end


section
/-! SUPPORT. The survey of LOAD step 11, the survey of a change, and the banks (R55, R117 to R120). -/
namespace Sys2Proof.Machine

variable (s : State) (g : Survey) (f : Nat × Nat × Nat)

/-! ### A survey that passes -/

theorem bankTakes_bank (x gen st : Nat) : (s.bankTakes x gen g st).bank x = ⟨some g⟩ := by
  have h := bank_of_banks s x x ⟨some g⟩
  rw [if_pos rfl] at h
  unfold State.bankTakes
  simp only [State.bank, State.putAll_banks]
  exact h

theorem bankTakes_mode (x gen st : Nat) : (s.bankTakes x gen g st).mode = s.mode := by
  unfold State.bankTakes
  rw [State.putAll_mode]

/-- The bank that becomes the active one has the survey that runs. -/
theorem activeSurvey_put_zero {u : State} (h : u.bank 0 = ⟨some g⟩) : (u.put Fld.SEQ_STAT_ACTIVE_BANK 0).activeSurvey = some g := by
  have hb : (u.put Fld.SEQ_STAT_ACTIVE_BANK 0).get Fld.SEQ_STAT_ACTIVE_BANK = 0 :=
    (u.get_put_same Fld.SEQ_STAT_ACTIVE_BANK (by unfold RegField.fits; decide) 0).trans (Nat.zero_mod _)
  unfold State.activeSurvey
  rw [hb]
  simp only [State.bank] at h
  simp only [State.put_banks, h]

/-- In LOAD step 11 a survey that passes becomes the active one of bank A. -/
theorem surveyLoadedAtLoad_of_passed {gen : Nat} (h : s.surveyFault g (s.area (s.load.ownGen.getD 0)).surveyLength false = none) :
    (s.surveyLoadedAtLoad gen g).mode = s.mode ∧ (s.surveyLoadedAtLoad gen g).load.step = 11 ∧
      (s.surveyLoadedAtLoad gen g).activeSurvey = some g := by
  have hm : ((s.bankTakes 0 gen g 3).put Fld.SEQ_STAT_ACTIVE_BANK 0).mode = s.mode :=
    (State.put_mode _ _ _).trans (bankTakes_mode s g 0 gen 3)
  have ha := activeSurvey_put_zero g (bankTakes_bank s g 0 gen 3)
  unfold State.surveyLoadedAtLoad
  dsimp only
  rw [h]
  dsimp only
  generalize (s.bankTakes 0 gen g 3).put Fld.SEQ_STAT_ACTIVE_BANK 0 = v at hm ha ⊢
  have hv := steady_verifyArea v (s.load.ownGen.getD 0)
  generalize v.verifyArea (s.load.ownGen.getD 0) = u at hv ⊢
  have ht := steady_surveyTakes { u with load := { u.load with step := 11 } } g
  exact ⟨ht.mode.trans (hv.mode.trans hm), by rw [ht.load], ht.activeSurvey.trans (hv.activeSurvey.trans ha)⟩

/-! ### A survey that fails -/

theorem leaveLoad_hold {t : State} (hm : t.mode = .load) (hh : t.load.hold = false) (hb : (t.bank 0).survey = none) :
    (t.bit Fld.PWR_STAT_HOLDUP_FULL = true → (t.leaveLoad .hold).mode = .hold) ∧
      (t.bit Fld.PWR_STAT_HOLDUP_FULL = false → (t.leaveLoad .hold).mode = .load ∧ (t.leaveLoad .hold).load.leaving = some .hold) ∧
      ((t.leaveLoad .hold).bank 0).survey = none := by
  unfold State.leaveLoad
  rw [if_neg (by simp [hh])]
  by_cases hf : t.bit Fld.PWR_STAT_HOLDUP_FULL = true
  · rw [if_pos hf]
    exact ⟨fun _ => t.enterMode_mode .hold, fun h => absurd (hf.symm.trans h) (by decide), (steady_enterMode_hold t hm).bank_empty hb⟩
  · rw [if_neg hf]
    exact ⟨fun h => absurd h hf, fun _ => ⟨hm, rfl⟩, hb⟩

/-- A failed check is reported, and the bank is emptied of its survey. -/
theorem rejectSurvey_steady {b : Nat} (hb : b ≤ 1) : ∃ u, steady s u ∧
    steady { u with banks := sparseSet (fun _ => (⟨none⟩ : Bank)) u.banks b ⟨none⟩ } (s.rejectSurvey b g f) := by
  refine ⟨_, steady_putAll s (l := [(Fld.SVY_LOAD_ERR_CODE, f.1), (Fld.SVY_LOAD_ERR_SECTION, f.2.1), (Fld.SVY_LOAD_ERR_BANK, b),
    (Fld.SVY_LOAD_ERR_ENTRY, f.2.2), (Fld.SVY_BANK_STATE b, 4)]) ?_, (steady_raise _ _ _ _).trans (steady_record _ _ _ _)⟩
  have he : passing Reg.SVY_LOAD_ERR := by decide
  simp only [List.forall_mem_cons]
  exact ⟨he, he, he, he, (passing_SVY_BANK hb).1, by simp⟩

/-- In LOAD step 11 a survey that fails leads to HOLD, as soon as the reserve is full. -/
theorem surveyLoadedAtLoad_of_failed {gen : Nat} (hm : s.mode = .load) (hh : s.load.hold = false)
    (h : s.surveyFault g (s.area (s.load.ownGen.getD 0)).surveyLength false = some f) :
    (s.bit Fld.PWR_STAT_HOLDUP_FULL = true → (s.surveyLoadedAtLoad gen g).mode = .hold) ∧
      (s.bit Fld.PWR_STAT_HOLDUP_FULL = false →
        (s.surveyLoadedAtLoad gen g).mode = .load ∧ (s.surveyLoadedAtLoad gen g).load.leaving = some .hold) ∧
      ((s.surveyLoadedAtLoad gen g).bank 0).survey = none := by
  have hr : s.surveyLoadedAtLoad gen g = (s.rejectSurvey 0 g f).leaveLoad .hold := by
    unfold State.surveyLoadedAtLoad
    dsimp only
    rw [h]
  rw [hr]
  obtain ⟨u, hu, ht⟩ := rejectSurvey_steady s g f (b := 0) (by decide)
  generalize s.rejectSurvey 0 g f = t at ht ⊢
  have hbank : (t.bank 0).survey = none := ht.bank_empty (by rw [bank_of_banks, if_pos rfl])
  have hfull : t.bit Fld.PWR_STAT_HOLDUP_FULL = s.bit Fld.PWR_STAT_HOLDUP_FULL := (ht.bit lasting_HOLDUP_FULL).trans (hu.bit lasting_HOLDUP_FULL)
  rw [← hfull]
  exact leaveLoad_hold (ht.mode.trans (hu.mode.trans hm)) ((congrArg LoadState.hold (ht.load.trans hu.load)).trans hh) hbank

/-- A survey of a change that fails (R200) leaves mode and active survey, and the change is over. -/
theorem olcCheckFailed_keeps (hb : s.olc.bank ≤ 1) (ha : s.olc.bank ≠ s.get Fld.SEQ_STAT_ACTIVE_BANK) :
    (s.olcCheckFailed g f).mode = s.mode ∧ (s.olcCheckFailed g f).activeSurvey = s.activeSurvey ∧ (s.olcCheckFailed g f).olc.survey = none := by
  obtain ⟨u, hu, ht⟩ := rejectSurvey_steady s g f hb
  have hr : steady s (s.rejectSurvey s.olc.bank g f) :=
    hu.trans ((steady_emptyBank u (by rw [hu.field _ lasting_ACTIVE_BANK]; exact ha)).trans ht)
  unfold State.olcCheckFailed State.dropChange
  generalize s.rejectSurvey s.olc.bank g f = t at hr ⊢
  generalize s.checkReason g f = r
  have hd := steady_olc t t.olc.over
  have ho : ({ t with olc := t.olc.over } : State).olc.survey = none := rfl
  generalize ({ t with olc := t.olc.over } : State) = v at hd ho ⊢
  have hw : steady v ((v.setOlc Olc.IDLE).olcRefuse r) :=
    (steady_put v (show passing Reg.OLC_STAT by decide) _).trans ((steady_put _ (show passing Reg.OLC_REASON by decide) _).trans
      (steady_bump _ (show passing Reg.OLC_COUNT by decide)))
  have hwo : ((v.setOlc Olc.IDLE).olcRefuse r).olc = v.olc := by simp [State.setOlc, State.olcRefuse]
  generalize (v.setOlc Olc.IDLE).olcRefuse r = w at hw hwo ⊢
  have he : steady w w.tellAbort := (steady_emit w _).ite
  have heo : w.tellAbort.olc = w.olc := by
    unfold State.tellAbort
    split
    · simp
    · rfl
  have hall := hr.trans (hd.trans (hw.trans he))
  exact ⟨hall.mode, hall.activeSurvey, by rw [heo, hwo, ho]⟩

theorem surveyLoaded_at_load {gen : Nat} (hm : s.mode = .load) (hs : s.load.step = 8) (hr : s.load.resolved = true) :
    exec (.surveyLoadDone 0 gen g) s = .next (s.surveyLoadedAtLoad gen g) :=
  congrArg Host.Outcome.next (if_pos ⟨hm, hs, hr, rfl⟩)

theorem surveyLoaded_of_failed {gen : Nat} {x : Fin 2} (hm : s.mode ≠ .load) (ho : s.olcState = Olc.LOADING) (hx : x.val = s.olc.bank)
    (h : s.surveyFault g (s.area s.olc.targetArea).surveyLength true = some f) :
    exec (.surveyLoadDone x gen g) s = .next (s.olcCheckFailed g f) := by
  refine congrArg Host.Outcome.next ((if_neg fun hc => hm hc.1).trans ((if_pos ⟨ho, hx⟩).trans ?_))
  unfold State.olcLoaded
  rw [h]

theorem surveyLoad : Claim.SurveyLoad := by
  intro s gen g f
  refine ⟨fun hm hs hr h => ?_, fun hm hs hr hh h => ?_, fun x hm ho hx ha h => ?_⟩
  · have ht := surveyLoadedAtLoad_of_passed s g (gen := gen) h
    rw [hm] at ht
    exact ⟨_, surveyLoaded_at_load s g hm hs hr, ht⟩
  · exact ⟨_, surveyLoaded_at_load s g hm hs hr, surveyLoadedAtLoad_of_failed s g f hm hh h⟩
  · exact ⟨_, surveyLoaded_of_failed s g f hm ho hx h, olcCheckFailed_keeps s g f (hx ▸ Nat.le_of_lt_succ x.isLt) (hx ▸ ha)⟩

/-! ### The banks (R119, R120) -/

theorem surveyBanks : Claim.SurveyBanks := by
  intro s x off d
  refine ⟨fun h => if_pos h, fun h => if_neg h, rfl, fun h => ?_, fun h hp => ?_⟩
  · exact congrArg Host.Outcome.next (if_neg h)
  · refine congrArg Host.Outcome.next ((if_pos h).trans ?_)
    unfold State.activeBankUe
    rw [hp]
    rfl

end Sys2Proof.Machine
end

section
open Sys2Proof Sys2Proof.Machine

/-- Settles O20: a survey at LOAD step 11 and one for a change, by what each of their steps leaves steady; the banks by the cases of their model. -/
theorem surveyLoadAndBanks : Obligations.SurveyLoadAndBanks := ⟨surveyLoad, surveyBanks⟩

end

section
/-! SUPPORT. Lifecycle, provisioning, revocation, erase and cover (R41, R418 to R422, R426). -/
namespace Sys2Proof.Machine

/-! ### A write of one register -/

section
variable {s t u : State} {as : List Nat}

theorem regsOnly.mono {bs : List Nat} (h : regsOnly s t as) (hs : as ⊆ bs) : regsOnly s t bs :=
  ⟨h.1, fun a ha => h.2 a fun hm => ha (hs hm)⟩

theorem regsOnly.again {a : Nat} (h : regsOnly s t [a]) (k : regsOnly t u [a]) : regsOnly s u [a] := (h.trans k).mono (by simp)

theorem regsOnly.get (h : regsOnly s t as) {f : RegField} (hf : f.addr ∉ as) : t.get f = s.get f := congrArg f.ext (h.2 _ hf)

theorem regsOnly.bit (h : regsOnly s t as) {f : RegField} (hf : f.addr ∉ as) : t.bit f = s.bit f := by
  simp only [State.bit, h.get hf]

theorem regsOnly.mode (h : regsOnly s t as) : t.mode = s.mode := by rw [← h.1]

theorem regsOnly.sec (h : regsOnly s t as) : t.sec = s.sec := by rw [← h.1]

theorem regsOnly.core (h : regsOnly s t as) : t.core = s.core := by rw [← h.1]

theorem regsOnly.rst (h : regsOnly s t as) : t.rst = s.rst := by rw [← h.1]

variable (s)

theorem regsOnly_putAll {l : List (RegField × Nat)} (hl : ∀ p ∈ l, p.1.addr ∈ as) : regsOnly s (s.putAll l) as := by
  refine ⟨?_, fun b hb => s.getReg_putAll_ne l fun p hp e => hb (e ▸ hl p hp)⟩
  rw [State.putAll_regs_only]

theorem regsOnly_regStore (a : Nat) (v : Word) : regsOnly s (s.regStore a v) [a] := by
  unfold State.regStore
  split
  · exact ⟨rfl, fun _ _ => rfl⟩
  · exact regsOnly_setReg s a _

theorem get_putBit_same {f : RegField} (hf : f.fits) (hw : f.width = 1) (b : Bool) : (s.putBit f b).get f = b.toNat := by
  refine (s.get_put_same f hf b.toNat).trans ?_
  rw [hw]
  cases b <;> decide

end

/-! ### The conditions of R418, R421 and R422 -/

section
variable {s t : State} {a : Nat} (h : regsOnly s t [a]) (ha : a = Reg.SEC_LC_CMD ∨ a = Reg.SEC_PROV ∨ a = Reg.SEC_REVOKE)
include h ha

theorem keyPresent_of_regsOnly {y : Nat} (hy : y < 16) : t.keyPresent y = s.keyPresent y := by
  have hne : ∀ b, b < Reg.SEC_LC_CMD → b ∉ [a] := by
    intro b hb
    simp only [List.mem_singleton, Reg.SEC_LC_CMD, Reg.SEC_PROV, Reg.SEC_REVOKE] at ha hb ⊢
    omega
  unfold State.keyPresent
  split
  · exact h.bit (hne _ (by show Reg.SEC_SYS_KEY < _; decide))
  · exact h.bit (hne _ (by simp only [Fld.SEC_SVY_KEY_PRESENT, Reg.SEC_SVY_KEY, Reg.SEC_LC_CMD]; omega))

theorem get_STATUS_of_regsOnly {f : RegField} (hf : f.addr = Reg.SEC_STATUS ∨ f.addr = Reg.PAIR_STAT) : t.get f = s.get f := by
  refine h.get ?_
  simp only [List.mem_singleton, Reg.SEC_LC_CMD, Reg.SEC_PROV, Reg.SEC_REVOKE, Reg.SEC_STATUS, Reg.PAIR_STAT] at ha hf ⊢
  omega

theorem lifecycleAllowed_of_regsOnly (n : Nat) : t.lifecycleAllowed n = s.lifecycleAllowed n := by
  have hk (y : Nat) (hy : y < 16) := keyPresent_of_regsOnly h ha hy
  have hany : (List.range 8).any (fun x => t.keyPresent (8 + x)) = (List.range 8).any (fun x => s.keyPresent (8 + x)) := by
    simp [List.range_succ, hk]
  have hs (f : RegField) (hf : f.addr = Reg.SEC_STATUS ∨ f.addr = Reg.PAIR_STAT) := get_STATUS_of_regsOnly h ha hf
  unfold State.lifecycleAllowed State.session State.role State.fieldKeys State.firmwareKeys State.bit
  rw [hany, hk 1 (by decide), hk 2 (by decide), hk 5 (by decide), hk 6 (by decide), hk 7 (by decide), h.mode,
    hs Fld.SEC_STATUS_LIFECYCLE (by decide), hs Fld.SEC_STATUS_ENG_SESSION (by decide), hs Fld.SEC_STATUS_DBG_LEVEL (by decide),
    hs Fld.PAIR_STAT_ROLE (by decide)]

theorem provisionAllowed_of_regsOnly (y : Nat) : t.provisionAllowed y = s.provisionAllowed y := by
  unfold State.provisionAllowed State.session State.bit
  rw [h.sec, get_STATUS_of_regsOnly h ha (f := Fld.SEC_STATUS_LIFECYCLE) (by decide),
    get_STATUS_of_regsOnly h ha (f := Fld.SEC_STATUS_ENG_SESSION) (by decide)]

theorem revokeAllowed_of_regsOnly (x : Nat) : t.revokeAllowed x = s.revokeAllowed x := by
  have hk (y : Nat) (hy : y < 16) := keyPresent_of_regsOnly h ha hy
  unfold State.revokeAllowed State.slotUsable State.rootUsable
  simp [List.range_succ, hk, h.sec]

end

/-- A lifecycle never goes back (R418). -/
theorem lifecycleAllowed_forward {s : State} {n : Nat} (h : s.lifecycleAllowed n = true) : s.get Fld.SEC_STATUS_LIFECYCLE < n ∧ n ≤ 3 := by
  unfold State.lifecycleAllowed at h
  split at h
  case h_6 => exact absurd h (by decide)
  all_goals (rename_i hl; rw [hl]; decide)

end Sys2Proof.Machine
end

section
/-! SUPPORT. The end of a debug session, and what a lifecycle command does (R419, R432). -/
namespace Sys2Proof.Machine

variable (s : State)

/-! ### The debug session ends (R432) -/

theorem setDebugLevel_zero : (s.setDebugLevel 0 false).mode = s.mode ∧ (s.setDebugLevel 0 false).rst.inReset = s.rst.inReset ∧
    (s.setDebugLevel 0 false).sec = s.sec ∧ (s.setDebugLevel 0 false).core.cover = s.core.cover ∧
    (s.setDebugLevel 0 false).get Fld.SEC_STATUS_COVER_OPEN = s.get Fld.SEC_STATUS_COVER_OPEN ∧
    (s.setDebugLevel 0 false).get Fld.SEC_STATUS_DBG_LEVEL = 0 := by
  have hauth (u : State) {f : RegField} (hf : Fld.SEC_STATUS_DBG_AUTH.apart f) (n : Nat) := u.get_put_apart Fld.SEC_STATUS_DBG_AUTH f hf n
  have hcover : Fld.SEC_STATUS_DBG_AUTH.apart Fld.SEC_STATUS_COVER_OPEN := Or.inr (Or.inl (by decide))
  have hlevel : Fld.SEC_STATUS_DBG_AUTH.apart Fld.SEC_STATUS_DBG_LEVEL := Or.inr (Or.inr (by decide))
  unfold State.setDebugLevel
  dsimp only
  by_cases h : s.get Fld.SEC_STATUS_DBG_LEVEL = 0
  · rw [if_pos h]
    exact ⟨rfl, rfl, rfl, rfl, hauth s hcover _, (hauth s hlevel _).trans h⟩
  · rw [if_neg h, if_pos rfl, State.putAll_cons, State.putAll_cons, State.putAll_nil]
    dsimp only
    have hu1 : (s.put Fld.SEC_STATUS_DBG_LEVEL 0).get Fld.SEC_STATUS_COVER_OPEN = s.get Fld.SEC_STATUS_COVER_OPEN :=
      s.get_put_apart _ _ (Or.inr (Or.inl (by decide))) 0
    have hu2 : (s.put Fld.SEC_STATUS_DBG_LEVEL 0).get Fld.SEC_STATUS_DBG_LEVEL = 0 :=
      (s.get_put_same Fld.SEC_STATUS_DBG_LEVEL (by unfold RegField.fits; decide) 0).trans (Nat.zero_mod _)
    have h1 := (hauth (s.put Fld.SEC_STATUS_DBG_LEVEL 0) hcover false.toNat).trans hu1
    have h2 := (hauth (s.put Fld.SEC_STATUS_DBG_LEVEL 0) hlevel false.toNat).trans hu2
    have hu : regsOnly s ((s.put Fld.SEC_STATUS_DBG_LEVEL 0).put Fld.SEC_STATUS_DBG_AUTH false.toNat) [Reg.SEC_STATUS] :=
      (regsOnly_setReg s _ _).again (regsOnly_setReg _ _ _)
    generalize (s.put Fld.SEC_STATUS_DBG_LEVEL 0).put Fld.SEC_STATUS_DBG_AUTH false.toNat = u at h1 h2 hu ⊢
    have ht := (steady_freeByte u).trans ((steady_record _ 0x80 0 [(1, s.get Fld.SEC_STATUS_DBG_LEVEL), (1, u.freeByte.1)]).trans
      ((steady_fall _ (src := Src.SEC_DEBUG_SESSION) (by decide) 0 0).trans (steady_resumeAll _)))
    exact ⟨ht.mode.trans hu.mode, ht.inReset.trans (by rw [hu.rst]), ht.sec.trans hu.sec, ht.cover.trans (by rw [hu.core]),
      (ht.field _ (lasting_of_SEC (by decide))).trans h1, (ht.field _ (lasting_of_SEC (by decide))).trans h2⟩

theorem endDebug_ends : s.endDebug.mode = s.mode ∧ s.endDebug.rst.inReset = s.rst.inReset ∧
    s.endDebug.sec = { s.sec with request := none } ∧ s.endDebug.core.cover = s.core.cover ∧
    s.endDebug.get Fld.SEC_STATUS_COVER_OPEN = s.get Fld.SEC_STATUS_COVER_OPEN ∧ s.endDebug.get Fld.SEC_STATUS_DBG_LEVEL = 0 := by
  obtain ⟨hm, hr, hs, hc, ho, hl⟩ := setDebugLevel_zero { s with sec := { s.sec with request := none } }
  exact ⟨hm, hr, hs, hc, ho.trans (State.get_congr rfl _), hl⟩

/-! ### The lifecycle changes (R419) -/

theorem lifecycleGo_resets (n : Nat) (h : s.rst.inReset = false) : (s.lifecycleGo n).sec.lifecycle = n ∧ (s.lifecycleGo n).mode = .load ∧
    (s.lifecycleGo n).rst.inReset = true ∧ (s.lifecycleGo n).rst.asserted.getLsbD 4 = true ∧ (s.lifecycleGo n).fls.queue = [] ∧
    (n = 3 → (s.lifecycleGo n).sec.erasePending = true) := by
  unfold State.lifecycleGo State.softReset
  extract_lets old s1 s2 s3 sec s4
  have h2 : steady (s.putBit Fld.SEC_LC_CMD_REFUSED false) s2 := (steady_record _ _ _ _).trans (steady_raise s1 _ _ _)
  clear_value s2
  obtain ⟨-, h3, -⟩ := endDebug_ends s2
  have h4 : s4.rst.inReset = false := h3.trans (h2.inReset.trans h)
  have hlife : s4.sec.lifecycle = n := rfl
  have herase : n = 3 → s4.sec.erasePending = true := by
    rintro rfl
    exact Bool.or_true _
  clear_value s4
  have hd := steady_flsDrain s4
  obtain ⟨hmode, hqueue, hl, he⟩ := assertReset_begins s4.flsDrain .sw [] (hd.inReset.trans h4)
  obtain ⟨hin, has⟩ := assertReset_asserts s4.flsDrain .sw []
  rw [hd.sec] at hl he
  exact ⟨hl.trans hlife, hmode, hin, has, hqueue, fun hn => he.trans (herase hn)⟩

theorem lifecycleGo_allowed {v : Word} (hgo : Fld.SEC_LC_CMD_GO.on v = true) (hkey : Fld.SEC_LC_CMD_KEY.ext v = 0x4C43)
    (h : s.lifecycleAllowed (Fld.SEC_LC_CMD_TARGET.ext v) = true) :
    exec (.lifecycleGo v) s = .next ((s.regStore Reg.SEC_LC_CMD v).lifecycleGo (Fld.SEC_LC_CMD_TARGET.ext v)) :=
  congrArg Host.Outcome.next ((if_pos ⟨hgo, hkey⟩).trans
    (if_pos ((lifecycleAllowed_of_regsOnly (regsOnly_regStore s _ v) (Or.inl rfl) _).trans h)))

theorem lifecycleGo_refused {v : Word} (hgo : Fld.SEC_LC_CMD_GO.on v = true) (hkey : Fld.SEC_LC_CMD_KEY.ext v = 0x4C43)
    (h : s.lifecycleAllowed (Fld.SEC_LC_CMD_TARGET.ext v) = false) : ∃ t, exec (.lifecycleGo v) s = .next t ∧
      regsOnly s t [Reg.SEC_LC_CMD] ∧ t.get Fld.SEC_LC_CMD_REFUSED = 1 := by
  have hs := regsOnly_regStore s Reg.SEC_LC_CMD v
  have hn : ¬ (s.regStore Reg.SEC_LC_CMD v).lifecycleAllowed (Fld.SEC_LC_CMD_TARGET.ext v) = true := by
    rw [lifecycleAllowed_of_regsOnly hs (Or.inl rfl), h]
    decide
  exact ⟨_, congrArg Host.Outcome.next ((if_pos ⟨hgo, hkey⟩).trans (if_neg hn)), hs.again (regsOnly_setReg _ _ _),
    get_putBit_same _ (by unfold RegField.fits; decide) rfl true⟩

/-! ### Provisioning (R421) -/

theorem loadKey_sec (y : Nat) : (s.loadKey y false).sec = s.sec := by
  unfold State.loadKey
  simp only [Bool.false_eq_true, if_false]
  split <;> simp

theorem provisionGo_allowed {v : Word} (hgo : Fld.SEC_PROV_GO.on v = true) (hkey : Fld.SEC_PROV_KEY.ext v = 0x5052)
    (h : s.provisionAllowed (Fld.SEC_PROV_ITEM.ext v) = true) : ∃ t, exec (.provisionGo v) s = .next t ∧
      t.sec = { s.sec with items := s.sec.items ++ [Fld.SEC_PROV_ITEM.ext v] } ∧ t.get Fld.SEC_PROV_DONE = 1 ∧
      t.get Fld.SEC_PROV_REFUSED = 0 := by
  have hs := regsOnly_regStore s Reg.SEC_PROV v
  have hp := (provisionAllowed_of_regsOnly hs (Or.inr (Or.inl rfl)) (Fld.SEC_PROV_ITEM.ext v)).trans h
  refine ⟨_, congrArg Host.Outcome.next ((if_pos ⟨hgo, hkey⟩).trans (if_pos hp)), ?_, ?_, ?_⟩
  · rw [State.putAll_sec, loadKey_sec]
    dsimp only
    rw [hs.sec]
  · rw [State.putAll_cons, State.putAll_cons, State.putAll_nil]
    exact State.get_put_same _ Fld.SEC_PROV_DONE (by unfold RegField.fits; decide) 1
  · rw [State.putAll_cons, State.putAll_cons, State.putAll_nil]
    exact (State.get_put_apart _ Fld.SEC_PROV_DONE Fld.SEC_PROV_REFUSED (Or.inr (Or.inr (by decide))) 1).trans
      ((State.get_put_same _ Fld.SEC_PROV_REFUSED (by unfold RegField.fits; decide) 0).trans (Nat.zero_mod _))

theorem provisionGo_refused {v : Word} (hgo : Fld.SEC_PROV_GO.on v = true) (hkey : Fld.SEC_PROV_KEY.ext v = 0x5052)
    (h : s.provisionAllowed (Fld.SEC_PROV_ITEM.ext v) = false) : ∃ t, exec (.provisionGo v) s = .next t ∧ regsOnly s t [Reg.SEC_PROV] ∧
      t.get Fld.SEC_PROV_REFUSED = 1 ∧ t.get Fld.SEC_PROV_DONE = 0 := by
  have hs := regsOnly_regStore s Reg.SEC_PROV v
  have hn : ¬ (s.regStore Reg.SEC_PROV v).provisionAllowed (Fld.SEC_PROV_ITEM.ext v) = true := by
    rw [provisionAllowed_of_regsOnly hs (Or.inr (Or.inl rfl)), h]
    decide
  refine ⟨_, congrArg Host.Outcome.next ((if_pos ⟨hgo, hkey⟩).trans (if_neg hn)), hs.again (regsOnly_putAll _ ?_), ?_, ?_⟩
  · simp [Fld.SEC_PROV_REFUSED, Fld.SEC_PROV_DONE]
  · rw [State.putAll_cons, State.putAll_cons, State.putAll_nil]
    exact (State.get_put_apart _ Fld.SEC_PROV_DONE Fld.SEC_PROV_REFUSED (Or.inr (Or.inr (by decide))) 0).trans
      (State.get_put_same _ Fld.SEC_PROV_REFUSED (by unfold RegField.fits; decide) 1)
  · rw [State.putAll_cons, State.putAll_cons, State.putAll_nil]
    exact (State.get_put_same _ Fld.SEC_PROV_DONE (by unfold RegField.fits; decide) 0).trans (Nat.zero_mod _)

/-! ### Revocation (R422) -/

theorem revokeGo_allowed {v : Word} (hgo : Fld.SEC_REVOKE_GO.on v = true) (hkey : Fld.SEC_REVOKE_KEY.ext v = 0x5256)
    (h : s.revokeAllowed (Fld.SEC_REVOKE_TARGET.ext v) = true) : ∃ t, exec (.revokeGo v) s = .next t ∧
      t.sec = { s.sec with revoked := s.sec.revoked ++ [Fld.SEC_REVOKE_TARGET.ext v] } ∧ t.get Fld.SEC_REVOKE_REFUSED = 0 := by
  have hs := regsOnly_regStore s Reg.SEC_REVOKE v
  have hp := (revokeAllowed_of_regsOnly hs (Or.inr (Or.inr rfl)) (Fld.SEC_REVOKE_TARGET.ext v)).trans h
  refine ⟨_, congrArg Host.Outcome.next ((if_pos ⟨hgo, hkey⟩).trans (if_pos hp)), ?_,
    get_putBit_same _ (by unfold RegField.fits; decide) rfl false⟩
  rw [State.putBit_sec, (steady_record _ _ _ _).sec, ← hs.sec]
  split <;> rfl

theorem revokeGo_refused {v : Word} (hgo : Fld.SEC_REVOKE_GO.on v = true) (hkey : Fld.SEC_REVOKE_KEY.ext v = 0x5256)
    (h : s.revokeAllowed (Fld.SEC_REVOKE_TARGET.ext v) = false) : ∃ t, exec (.revokeGo v) s = .next t ∧ regsOnly s t [Reg.SEC_REVOKE] ∧
      t.get Fld.SEC_REVOKE_REFUSED = 1 := by
  have hs := regsOnly_regStore s Reg.SEC_REVOKE v
  have hn : ¬ (s.regStore Reg.SEC_REVOKE v).revokeAllowed (Fld.SEC_REVOKE_TARGET.ext v) = true := by
    rw [revokeAllowed_of_regsOnly hs (Or.inr (Or.inr rfl)), h]
    decide
  exact ⟨_, congrArg Host.Outcome.next ((if_pos ⟨hgo, hkey⟩).trans (if_neg hn)), hs.again (regsOnly_setReg _ _ _),
    get_putBit_same _ (by unfold RegField.fits; decide) rfl true⟩

/-! ### The erase (R419) and the cover (R41, R426) -/

theorem decommissionEraseDone_not_due (ok : Bool) (h : s.sec.erasePending = false ∨ s.rst.inReset = true) :
    exec (.decommissionEraseDone ok) s = .next s := by
  refine congrArg Host.Outcome.next (if_neg ?_)
  rcases h with h | h <;> simp [h]

theorem decommissionEraseDone_erases (ok : Bool) (hp : s.sec.erasePending = true) (hr : s.rst.inReset = false) : ∃ t,
    exec (.decommissionEraseDone ok) s = .next t ∧ t.mode = .recovery ∧ t.inst.words = [] ∧ t.sram = [] ∧ t.pwr.retention = none ∧
      t.upd.slot0 = FwSlot.erased ∧ t.upd.slot1 = FwSlot.erased ∧ t.upd.staged = none ∧ t.sec.erasePending = !ok ∧
      t.get Fld.SEC_STATUS_BLANK_VERIFIED = ok.toNat := by
  refine ⟨_, congrArg Host.Outcome.next (if_pos (by simp [hp, hr])), ?_⟩
  rw [State.putAll_cons, State.putAll_cons, State.putAll_cons, State.putAll_nil]
  exact ⟨rfl, rfl, rfl, rfl, rfl, rfl, rfl, rfl, get_putBit_same _ (f := Fld.SEC_STATUS_BLANK_VERIFIED) (by unfold RegField.fits; decide) rfl ok⟩

theorem coverOpen_opens (h : s.core.cover = false) : ∃ t, exec .coverOpen s = .next t ∧ t.core.cover = true ∧
    t.get Fld.SEC_STATUS_COVER_OPEN = 1 ∧ t.mode = s.mode := by
  refine ⟨s.coverOpens, rfl, ?_⟩
  unfold State.coverOpens
  rw [if_neg (by simp [h])]
  extract_lets core u w
  have hg := get_putBit_same u (f := Fld.SEC_STATUS_COVER_OPEN) (by unfold RegField.fits; decide) rfl true
  have ht := (steady_record (u.putBit Fld.SEC_STATUS_COVER_OPEN true) 0x13 0 []).trans
    (steady_rise w (src := Src.SEC_COVER_OPEN) (by decide) 0 0)
  exact ⟨ht.cover, (ht.field _ (lasting_of_SEC (by decide))).trans hg, ht.mode⟩

theorem coverClose_closes : ∃ t, exec .coverClose s = .next t ∧ t.core.cover = false ∧ t.get Fld.SEC_STATUS_COVER_OPEN = 0 ∧
    t.get Fld.SEC_STATUS_DBG_LEVEL = 0 ∧ t.sec.request = none ∧ t.mode = s.mode := by
  refine ⟨s.coverCloses, rfl, ?_⟩
  unfold State.coverCloses
  extract_lets core sec u
  have hg := get_putBit_same u (f := Fld.SEC_STATUS_COVER_OPEN) (by unfold RegField.fits; decide) rfl false
  have hf := steady_fall (u.putBit Fld.SEC_STATUS_COVER_OPEN false) (src := Src.SEC_COVER_OPEN) (by decide) 0 0
  generalize (u.putBit Fld.SEC_STATUS_COVER_OPEN false).fall Src.SEC_COVER_OPEN 0 0 = x at hf ⊢
  obtain ⟨emode, -, esec, ecover, eopen, elevel⟩ := endDebug_ends x
  exact ⟨ecover.trans hf.cover, eopen.trans ((hf.field _ (lasting_of_SEC (by decide))).trans hg), elevel, by rw [esec], emode.trans hf.mode⟩

end Sys2Proof.Machine
end

section
/-! The obligation about lifecycle and keys. -/
open Sys2Proof Sys2Proof.Machine

/-- Settles O41: each command by its key and condition, which its own register does not touch; a new lifecycle by the reset that begins, the
cover by what the end of a debug session keeps. -/
theorem lifecycleAndKeys : Obligations.LifecycleAndKeys := by
  intro s v ok
  refine ⟨fun n => lifecycleAllowed_forward, fun hgo hkey h hr => ?_, lifecycleGo_refused s,
    fun hgo hkey => ⟨provisionGo_allowed s hgo hkey, provisionGo_refused s hgo hkey⟩,
    fun hgo hkey => ⟨revokeGo_allowed s hgo hkey, revokeGo_refused s hgo hkey⟩,
    decommissionEraseDone_not_due s ok, decommissionEraseDone_erases s ok, fun h => congrArg Host.Outcome.next (if_pos h),
    coverOpen_opens s, coverClose_closes s⟩
  have hin : (s.regStore Reg.SEC_LC_CMD v).rst.inReset = false := by rw [(regsOnly_regStore s Reg.SEC_LC_CMD v).rst, hr]
  exact ⟨_, lifecycleGo_allowed s hgo hkey h, lifecycleGo_resets _ _ hin⟩

end

section
/-! SUPPORT. Words of code SRAM: the fields of a word, and what the decoder reads in them (R136 to R140). -/
namespace Sys2Proof.Machine

variable (d a b : BitVec 5) (i : BitVec 16)

/-! ### The fields of a word, by its form -/

theorem encodeI_fields (op : BitVec 6) : (encodeI op d a i).extractLsb' 26 6 = op ∧ (encodeI op d a i).extractLsb' 21 5 = d ∧
    (encodeI op d a i).extractLsb' 16 5 = a ∧ (encodeI op d a i).extractLsb' 0 16 = i := by
  have h : ∀ s n, 16 ≤ s → (encodeI op d a i).extractLsb' s n = (op ++ d ++ a).extractLsb' (s - 16) n := fun s n h =>
    BitVec.extractLsb'_append_eq_of_le (xlo := i) h
  refine ⟨?_, ?_, ?_, BitVec.extractLsb'_append_eq_right⟩
  · simp [-Nat.reduceAdd, h, BitVec.extractLsb'_append_eq_of_le]
  · simp [-Nat.reduceAdd, h, BitVec.extractLsb'_append_eq_of_le, BitVec.extractLsb'_append_eq_of_add_le]
  · simp [-Nat.reduceAdd, h, BitVec.extractLsb'_append_eq_of_add_le]

theorem encodeS_fields (sub : BitVec 4) (j : BitVec 12) : (encodeS sub d a j).extractLsb' 26 6 = 0x18 ∧
    (encodeS sub d a j).extractLsb' 21 5 = d ∧ (encodeS sub d a j).extractLsb' 16 5 = a ∧ (encodeS sub d a j).extractLsb' 12 4 = sub ∧
    (encodeS sub d a j).extractLsb' 0 12 = j := by
  have h : ∀ s n, 12 ≤ s → (encodeS sub d a j).extractLsb' s n = ((0x18 : BitVec 6) ++ d ++ a ++ sub).extractLsb' (s - 12) n := fun s n h =>
    BitVec.extractLsb'_append_eq_of_le (xlo := j) h
  refine ⟨?_, ?_, ?_, ?_, BitVec.extractLsb'_append_eq_right⟩
  all_goals simp [-Nat.reduceAdd, h, BitVec.extractLsb'_append_eq_of_le, BitVec.extractLsb'_append_eq_of_add_le]

theorem func_parts (w : Word) : (w.extractLsb' 0 11).toNat % 32 = (w.extractLsb' 0 5).toNat ∧
    (w.extractLsb' 0 11).toNat / 32 % 32 = (w.extractLsb' 5 5).toNat ∧ (w.extractLsb' 0 11).toNat / 32 = (w.extractLsb' 5 6).toNat := by
  simp only [BitVec.extractLsb'_toNat, Nat.shiftRight_eq_div_pow]
  omega

theorem encodeBlock_alu_fields (f : AluFn) (w32 : Bool) {w : Word} (hw : w = encodeBlock (.alu f w32 d a b)) :
    w.extractLsb' 26 6 = 0 ∧ w.extractLsb' 21 5 = d ∧ w.extractLsb' 16 5 = a ∧ w.extractLsb' 11 5 = b ∧ w.getLsbD 10 = w32 ∧
    w.extractLsb' 5 5 = 0 ∧ w.extractLsb' 0 5 = BitVec.ofNat 5 (aluFns.idxOf f) := by
  subst hw
  have h : ∀ s n, 11 ≤ s → (encodeBlock (.alu f w32 d a b)).extractLsb' s n = ((0 : BitVec 6) ++ d ++ a ++ b).extractLsb' (s - 11) n :=
    fun s n h => (BitVec.extractLsb'_append_eq_of_le (by omega)).trans
      ((BitVec.extractLsb'_append_eq_of_le (by omega)).trans (BitVec.extractLsb'_append_eq_of_le (by omega)))
  refine ⟨?_, ?_, ?_, ?_, ?_, ?_, BitVec.extractLsb'_append_eq_right⟩
  · simp [-Nat.reduceAdd, h, BitVec.extractLsb'_append_eq_of_le]
  · simp [-Nat.reduceAdd, h, BitVec.extractLsb'_append_eq_of_le, BitVec.extractLsb'_append_eq_of_add_le]
  · simp [-Nat.reduceAdd, h, BitVec.extractLsb'_append_eq_of_le, BitVec.extractLsb'_append_eq_of_add_le]
  · simp [-Nat.reduceAdd, h, BitVec.extractLsb'_append_eq_of_add_le]
  · rw [show (encodeBlock (.alu f w32 d a b)).getLsbD 10 = (BitVec.ofBool w32).getLsbD 0 from
      (BitVec.getLsbD_append (y := BitVec.ofNat 5 _)).trans (BitVec.getLsbD_append.trans BitVec.getLsbD_append)]
    simp
  · exact (BitVec.extractLsb'_append_eq_of_le (by omega)).trans (BitVec.extractLsb'_append_eq_right)

theorem encodeBlock_fpu_fields (f : FpuFn) {w : Word} (hw : w = encodeBlock (.fpu f d a b)) :
    w.extractLsb' 26 6 = 0x10 ∧ w.extractLsb' 21 5 = d ∧ w.extractLsb' 16 5 = a ∧ w.extractLsb' 11 5 = b ∧
    w.extractLsb' 5 6 = 0 ∧ w.extractLsb' 0 5 = BitVec.ofNat 5 (fpuFns.idxOf f) := by
  subst hw
  have h : ∀ s n, 11 ≤ s → (encodeBlock (.fpu f d a b)).extractLsb' s n = ((0x10 : BitVec 6) ++ d ++ a ++ b).extractLsb' (s - 11) n :=
    fun s n h => (BitVec.extractLsb'_append_eq_of_le (by omega)).trans (BitVec.extractLsb'_append_eq_of_le (by omega))
  refine ⟨?_, ?_, ?_, ?_, ?_, BitVec.extractLsb'_append_eq_right⟩
  · simp [-Nat.reduceAdd, h, BitVec.extractLsb'_append_eq_of_le]
  · simp [-Nat.reduceAdd, h, BitVec.extractLsb'_append_eq_of_le, BitVec.extractLsb'_append_eq_of_add_le]
  · simp [-Nat.reduceAdd, h, BitVec.extractLsb'_append_eq_of_le, BitVec.extractLsb'_append_eq_of_add_le]
  · simp [-Nat.reduceAdd, h, BitVec.extractLsb'_append_eq_of_add_le]
  · exact (BitVec.extractLsb'_append_eq_of_le (by omega)).trans (BitVec.extractLsb'_append_eq_right)

theorem decodeBlock_alu (f : AluFn) (w32 : Bool) : decodeBlock (encodeBlock (.alu f w32 d a b)) = some (.alu f w32 d a b) := by
  generalize hw : encodeBlock (.alu f w32 d a b) = w
  obtain ⟨hop, hd, ha, hb, h10, hz, hf⟩ := encodeBlock_alu_fields d a b f w32 hw.symm
  obtain ⟨hlo, hmid, -⟩ := func_parts w
  have hi : aluFns[aluFns.idxOf f]? = some f ∧ aluFns.idxOf f < 32 := by cases f <;> decide
  simp only [decodeBlock, hop, hd, ha, hb, h10, hlo, hmid, hz, hf]
  simp [Nat.mod_eq_of_lt hi.2, hi.1]

theorem decodeBlock_fpu (f : FpuFn) : decodeBlock (encodeBlock (.fpu f d a b)) = some (.fpu f d a b) := by
  generalize hw : encodeBlock (.fpu f d a b) = w
  obtain ⟨hop, hd, ha, hb, hz, hf⟩ := encodeBlock_fpu_fields d a b f hw.symm
  obtain ⟨hlo, -, hhi⟩ := func_parts w
  have hi : fpuFns[fpuFns.idxOf f]? = some f ∧ fpuFns.idxOf f < 32 := by cases f <;> decide
  simp only [decodeBlock, hop, hd, ha, hb, hlo, hhi, hz, hf]
  simp [Nat.mod_eq_of_lt hi.2, hi.1]

theorem decodeBlock_encodeS (sub : BitVec 4) (j : BitVec 12) : decodeBlock (encodeS sub d a j) = decodeSys sub.toNat d a j := by
  obtain ⟨hop, hd, ha, hsub, hj⟩ := encodeS_fields d a sub j
  simp only [decodeBlock, hop, hd, ha, hsub, hj]
  rfl

theorem decodeBlock_imm (f : ImmFn) : decodeBlock (encodeBlock (.imm f d a i)) = some (.imm f d a i) := by
  simp only [encodeBlock, decodeBlock, encodeI_fields]
  cases f <;> rfl

theorem decodeBlock_branch (f : BranchFn) : decodeBlock (encodeBlock (.branch f d a i)) = some (.branch f d a i) := by
  simp only [encodeBlock, decodeBlock, encodeI_fields]
  cases f <;> rfl

/-- SHI holds its type and amount in the low byte of the immediate (R137). -/
theorem decodeBlock_shift (f : ShiftFn) (n : BitVec 6) : decodeBlock (encodeBlock (.shift f d a n)) = some (.shift f d a n) := by
  have h : ∀ (k : BitVec 2) s m, s + m ≤ 16 → (encodeI 0x07 d a ((0 : BitVec 8) ++ k ++ n)).extractLsb' s m =
      ((0 : BitVec 8) ++ k ++ n).extractLsb' s m := fun k s m h => BitVec.extractLsb'_append_eq_of_add_le h
  have ht : ∀ k : BitVec 2, (encodeI 0x07 d a ((0 : BitVec 8) ++ k ++ n)).extractLsb' 6 2 = k := fun k =>
    (h k 6 2 (by omega)).trans ((BitVec.extractLsb'_append_eq_of_le (by omega)).trans BitVec.extractLsb'_append_eq_right)
  have hn : ∀ k : BitVec 2, (encodeI 0x07 d a ((0 : BitVec 8) ++ k ++ n)).extractLsb' 0 6 = n := fun k =>
    (h k 0 6 (by omega)).trans BitVec.extractLsb'_append_eq_right
  simp only [encodeBlock, decodeBlock, encodeI_fields, ht, hn]
  cases f <;> rfl

/-- The word of a load or store: its OP tells the size (R137). -/
theorem decodeBlock_size {size : Nat} (h : size ∈ [1, 2, 4, 8]) :
    decodeBlock (encodeBlock (.load size d a i)) = some (.load size d a i) ∧
    decodeBlock (encodeBlock (.store size d a i)) = some (.store size d a i) ∧
    decodeBlock (encodeBlock (.iload size d a i)) = some (.iload size d a i) ∧
    decodeBlock (encodeBlock (.istore size d a i)) = some (.istore size d a i) := by
  simp only [encodeBlock, decodeBlock, encodeI_fields]
  fin_cases h <;> exact ⟨rfl, rfl, rfl, rfl⟩

theorem decodeBlock_far (n : BitVec 26) : decodeBlock (encodeBlock (.jump n)) = some (.jump n) ∧
    decodeBlock (encodeBlock (.call n)) = some (.call n) := by
  have hop : ∀ op : BitVec 6, (op ++ n : BitVec 32).extractLsb' 26 6 = op := fun op => BitVec.extractLsb'_append_eq_left
  have hn : ∀ op : BitVec 6, (op ++ n : BitVec 32).extractLsb' 0 26 = n := fun op => BitVec.extractLsb'_append_eq_right
  simp only [encodeBlock, decodeBlock, hop, hn]
  exact ⟨rfl, rfl⟩

theorem decodeBlock_encodeBlock {op : LaneOp} (h : op.wf = true) : decodeBlock (encodeBlock op) = some op := by
  cases op with
  | alu f w32 d a b => exact decodeBlock_alu d a b f w32
  | imm f d a i => exact decodeBlock_imm d a i f
  | shift f d a n => exact decodeBlock_shift d a f n
  | fpu f d a b => exact decodeBlock_fpu d a b f
  | branch f a b off => exact decodeBlock_branch a b off f
  | jump off => exact (decodeBlock_far off).1
  | call off => exact (decodeBlock_far off).2
  | load size d a i => exact (decodeBlock_size d a i (by simpa [LaneOp.wf] using h)).1
  | store size d a i => exact (decodeBlock_size d a i (by simpa [LaneOp.wf] using h)).2.1
  | iload size d a i => exact (decodeBlock_size d a i (by simpa [LaneOp.wf] using h)).2.2.1
  | istore size d a i => exact (decodeBlock_size d a i (by simpa [LaneOp.wf] using h)).2.2.2
  | lui d i => simp [encodeBlock, decodeBlock, encodeI_fields]
  | lds whole d a i => cases whole <;> simp [encodeBlock, decodeBlock, encodeI_fields]
  | sts d a i => simp [encodeBlock, decodeBlock, encodeI_fields]
  | branchTag bad a off => cases bad <;> simp [encodeBlock, decodeBlock, encodeI_fields]
  | _ => exact decodeBlock_encodeS ..

/-- A word spells at most well-formed instructions. -/
def spellsWf (o : Option LaneOp) : Prop := ∀ op, o = some op → op.wf = true

theorem spellsWf_some {op : LaneOp} (h : op.wf = true) : spellsWf (some op) := fun _ e => Option.some.inj e ▸ h

theorem spellsWf_none : spellsWf none := nofun

theorem spellsWf_map {α : Type} {o : Option α} {f : α → LaneOp} (h : ∀ x, (f x).wf = true) : spellsWf (o.map f) := by
  cases o with
  | none => exact spellsWf_none
  | some x => exact spellsWf_some (h x)

theorem spellsWf_ite {c : Prop} [Decidable c] {x y : Option LaneOp} (hx : c → spellsWf x) (hy : spellsWf y) : spellsWf (if c then x else y) := by
  split
  · exact hx ‹_›
  · exact hy

theorem spellsWf_decodeSys (sub : Nat) (j : BitVec 12) : spellsWf (decodeSys sub d a j) := by
  unfold decodeSys
  split
  case h_13 => exact spellsWf_none
  all_goals exact spellsWf_some rfl

/-- What a word decodes to is well-formed: the sizes of loads and stores are the powers of 2 that two bits of OP tell (R137). -/
theorem spellsWf_decodeBlock (w : Word) : spellsWf (decodeBlock w) := by
  have hsize : ∀ k < 4, [1, 2, 4, 8].contains (2 ^ k) = true := by decide
  unfold decodeBlock
  extract_lets op f1 f2 f3 func i16
  refine spellsWf_ite (fun _ => spellsWf_ite (fun _ => spellsWf_map fun _ => rfl) spellsWf_none) ?_
  refine spellsWf_ite (fun _ => spellsWf_map fun _ => rfl) ?_
  refine spellsWf_ite (fun _ => by split; exacts [spellsWf_some rfl, spellsWf_some rfl, spellsWf_some rfl, spellsWf_none]) ?_
  refine spellsWf_ite (fun _ => spellsWf_some rfl) ?_
  refine spellsWf_ite (fun _ => spellsWf_ite (fun _ => spellsWf_map fun _ => rfl) spellsWf_none) ?_
  refine spellsWf_ite (fun _ => spellsWf_decodeSys _ _ _ _) ?_
  refine spellsWf_ite (fun _ => spellsWf_some rfl) (spellsWf_ite (fun _ => spellsWf_some rfl) ?_)
  refine spellsWf_ite (fun h => spellsWf_some (hsize _ (by omega))) ?_
  refine spellsWf_ite (fun h => spellsWf_some (hsize _ (by omega))) ?_
  refine spellsWf_ite (fun h => spellsWf_some (hsize _ (by omega))) ?_
  refine spellsWf_ite (fun h => spellsWf_some (hsize _ (by omega))) ?_
  refine spellsWf_ite (fun _ => spellsWf_some rfl) (spellsWf_ite (fun _ => spellsWf_some rfl) (spellsWf_ite (fun _ => spellsWf_some rfl) ?_))
  refine spellsWf_ite (fun _ => spellsWf_map fun _ => rfl) ?_
  refine spellsWf_ite (fun _ => spellsWf_ite (fun _ => spellsWf_some rfl) spellsWf_none) ?_
  exact spellsWf_ite (fun _ => spellsWf_ite (fun _ => spellsWf_some rfl) spellsWf_none) spellsWf_none

end Sys2Proof.Machine
end

section
/-! The obligation about words of code SRAM. -/
open Sys2Proof Sys2Proof.Machine

/-- Settles O31: form by form of a word, the fields the encoder wrote are those the decoder reads; and every branch of the decoder answers
well-formed instructions. -/
theorem blockCodeRoundTrip : Obligations.BlockCodeRoundTrip :=
  fun op => ⟨decodeBlock_encodeBlock, fun word h => spellsWf_decodeBlock word op h⟩

end

section
/-! SUPPORT. Instructions of a lane by what they leave: the lane alone, or a trap; and the results of the ALU (R133, R138). -/
namespace Sys2Proof.Machine

section
variable {s : State} {c : Fin 16} {w : Lane} {x : Execution} {l : LaneState}

/-- An instruction that completes and does not end its lane changes that lane alone. -/
theorem lane_completes (op : LaneOp) {m : LaneState} {n : Nat} (h : laneIssues s c w x l) (e : laneEffect l (s.laneEnv c.val x) op = .ok m n)
    (hm : m.fin = l.fin) : s.laneOp c.val w op = laneAlone s c w { m with cycles := l.cycles + n } := by
  rw [laneOp_of_issues op h, e]
  exact laneDone_running (hm.trans (laneIssues_running h))

/-- A lane that ends starts the comparison (R177). -/
theorem laneDone_ended {m : LaneState} (h : m.fin ≠ .running) : s.laneDone c.val w m = (laneAlone s c w m).setChState c.val Ch.COMPARING :=
  if_neg h

/-- One word, or two, in the signature (R174). -/
theorem LaneState.feed_one (l : LaneState) (v : DWord) : l.feed [v] = { l with sig := crc64Word l.sig v } := by
  simp only [LaneState.feed, List.foldl]

theorem LaneState.feed_two (l : LaneState) (v v' : DWord) : l.feed [v, v'] = { l with sig := crc64Word (crc64Word l.sig v) v' } := by
  simp only [LaneState.feed, List.foldl]

/-- A trap ends the execution of its lane and starts the comparison. -/
theorem laneTraps_trapped (cause addr n : Nat) : laneTraps s (s.laneDone c.val w (l.trapped cause addr n)) c w l cause addr n := by
  rw [LaneState.trapped, LaneState.feed_one]
  exact ⟨_, laneDone_ended nofun, rfl⟩

/-- An instruction whose effect is a trap. -/
theorem lane_traps (op : LaneOp) {cause addr n : Nat} (h : laneIssues s c w x l)
    (e : laneEffect l (s.laneEnv c.val x) op = .trap cause addr n) : laneTraps s (s.laneOp c.val w op) c w l cause addr n := by
  rw [laneOp_of_issues op h, e]
  exact laneTraps_trapped cause addr n

end

/-! ### The ALU at both widths (R138) -/

theorem alu_eq_bothWidths {f : AluFn} {g : (n : Nat) → BitVec n → BitVec n → BitVec n} (h : ∀ n p q, aluAt f p q = g n p q) (w32 : Bool)
    (p q : DWord) : alu f w32 p q = bothWidths w32 p q g := by simp only [alu, bothWidths, h]

theorem boolWord_eq {n : Nat} (b : Bool) : (boolWord b : BitVec n) = BitVec.ofNat n (if b then 1 else 0) := by cases b <;> rfl

section
variable {n : Nat} (p q : BitVec n)

theorem aluAt_sra : aluAt .sra p q = BitVec.ofInt n (p.toInt / 2 ^ (q.toNat % n)) := by
  simp [aluAt, BitVec.sshiftRight, Int.shiftRight_eq_div_pow]

theorem aluAt_slt : aluAt .slt p q = BitVec.ofNat n (if p.toInt < q.toInt then 1 else 0) := by simp [aluAt, boolWord_eq, BitVec.slt]

theorem aluAt_sltu : aluAt .sltu p q = BitVec.ofNat n (if p.toNat < q.toNat then 1 else 0) := by simp [aluAt, boolWord_eq, BitVec.ult]

theorem aluAt_min : aluAt .min p q = BitVec.ofInt n (min p.toInt q.toInt) := by
  simp only [aluAt, BitVec.slt, decide_eq_true_eq]
  split
  · rw [min_eq_right (by omega), BitVec.ofInt_toInt]
  · rw [min_eq_left (by omega), BitVec.ofInt_toInt]

theorem aluAt_max : aluAt .max p q = BitVec.ofInt n (max p.toInt q.toInt) := by
  simp only [aluAt, BitVec.slt, decide_eq_true_eq]
  split
  · rw [max_eq_right (by omega), BitVec.ofInt_toInt]
  · rw [max_eq_left (by omega), BitVec.ofInt_toInt]

theorem aluAt_minu : aluAt .minu p q = BitVec.ofNat n (min p.toNat q.toNat) := by
  simp only [aluAt, BitVec.ult, decide_eq_true_eq]
  split
  · rw [min_eq_right (by omega), BitVec.ofNat_toNat, BitVec.setWidth_eq]
  · rw [min_eq_left (by omega), BitVec.ofNat_toNat, BitVec.setWidth_eq]

theorem aluAt_maxu : aluAt .maxu p q = BitVec.ofNat n (max p.toNat q.toNat) := by
  simp only [aluAt, BitVec.ult, decide_eq_true_eq]
  split
  · rw [max_eq_right (by omega), BitVec.ofNat_toNat, BitVec.setWidth_eq]
  · rw [max_eq_left (by omega), BitVec.ofNat_toNat, BitVec.setWidth_eq]

theorem aluAt_mulh : aluAt .mulh p q = BitVec.ofInt n (p.toInt * q.toInt / 2 ^ n) := by
  simp [aluAt]
end

/-- The divisor at the operation's width is 0. -/
theorem divisor_zero_iff (w32 : Bool) (p q : DWord) :
    bothWidths w32 p q (fun _ _ q => q) = 0 ↔ (if w32 then q.truncate 32 == (0 : BitVec 32) else q == 0) = true := by
  cases w32
  · simp [bothWidths]
  · have h : (q.truncate 32).signExtend 64 = (0 : DWord) ↔ q.truncate 32 = 0 := by
      constructor
      · intro h
        have := congrArg BitVec.toInt h
        rw [BitVec.toInt_signExtend_of_le (by decide)] at this
        exact BitVec.eq_of_toInt_eq this
      · intro h; rw [h]; rfl
    simpa [bothWidths] using h

theorem aluTag_of_not_divides {f : AluFn} (hf : aluDivides f = false) (w32 : Bool) (q : DWord) (ta tb : Nibble) :
    aluTag f w32 q ta tb = propagate ta tb := by simp [aluTag, hf]

theorem aluTag_of_divides {f : AluFn} (hf : aluDivides f = true) (w32 : Bool) (p q : DWord) (ta tb : Nibble) :
    aluTag f w32 q ta tb = if bothWidths w32 p q (fun _ _ q => q) = 0 then Tag.BAD_CHANNEL_FAULT else propagate ta tb := by
  simp only [aluTag, hf, Bool.true_and, divisor_zero_iff]

section
variable {s : State} {c : Fin 16} {w : Lane} {x : Execution} {l : LaneState} {f : AluFn} (w32 : Bool) (d a b : BitVec 5)
  {g : (n : Nat) → BitVec n → BitVec n → BitVec n}

/-- An ALU operation but division. -/
theorem alu_result (h : laneIssues s c w x l) (hf : aluDivides f = false) (hg : ∀ n p q, aluAt f p q = g n p q) :
    ∃ m, Host.Outcome.next (s.laneOp c.val w (.alu f w32 d a b)) = (.next (laneAlone s c w m) : Host.Outcome State Fault Refusal) ∧
      laneWrites l m d (bothWidths w32 (l.reg a) (l.reg b) g) (propagate (l.tag a) (l.tag b)) (aluCycles f w32) :=
  lane_result _ _ _ _ _ _ _ _ h rfl (alu_eq_bothWidths hg w32 _ _) (aluTag_of_not_divides hf w32 _ _ _) rfl

/-- A division. -/
theorem division_result (h : laneIssues s c w x l) (hf : aluDivides f = true) (hg : ∀ n p q, aluAt f p q = g n p q) {tag : Nibble}
    (ht : tag = if bothWidths w32 (l.reg a) (l.reg b) (fun _ _ q => q) = 0 then Tag.BAD_CHANNEL_FAULT else propagate (l.tag a) (l.tag b)) :
    ∃ m, Host.Outcome.next (s.laneOp c.val w (.alu f w32 d a b)) = (.next (laneAlone s c w m) : Host.Outcome State Fault Refusal) ∧
      laneWrites l m d (bothWidths w32 (l.reg a) (l.reg b) g) tag (aluCycles f w32) :=
  lane_result _ _ _ _ _ _ _ _ h rfl (alu_eq_bothWidths hg w32 _ _) ((aluTag_of_divides hf w32 _ _ _ _).trans ht.symm) rfl

end

theorem laneIntegerResults : Claim.LaneIntegerResults := by
  intro s c w x l w32 d a b h
  exact ⟨alu_result w32 d a b h rfl fun _ _ _ => rfl, alu_result w32 d a b h rfl fun _ _ _ => rfl, alu_result w32 d a b h rfl fun _ _ _ => rfl,
    alu_result w32 d a b h rfl fun _ _ _ => rfl, alu_result w32 d a b h rfl fun _ _ _ => rfl, alu_result w32 d a b h rfl fun _ _ _ => rfl,
    alu_result w32 d a b h rfl fun _ _ _ => rfl, alu_result w32 d a b h rfl fun _ => aluAt_sra, alu_result w32 d a b h rfl fun _ => aluAt_slt,
    alu_result w32 d a b h rfl fun _ => aluAt_sltu, alu_result w32 d a b h rfl fun _ => aluAt_min, alu_result w32 d a b h rfl fun _ => aluAt_max,
    alu_result w32 d a b h rfl fun _ => aluAt_minu, alu_result w32 d a b h rfl fun _ => aluAt_maxu, alu_result w32 d a b h rfl fun _ _ _ => rfl,
    alu_result w32 d a b h rfl fun _ => aluAt_mulh, alu_result w32 d a b h rfl fun _ _ _ => rfl⟩

theorem laneDivision : Claim.LaneDivision := by
  intro s c w x l w32 d a b tag h ht
  exact ⟨division_result w32 d a b h rfl (fun _ _ _ => rfl) ht, division_result w32 d a b h rfl (fun _ _ _ => rfl) ht,
    division_result w32 d a b h rfl (fun _ _ _ => rfl) ht, division_result w32 d a b h rfl (fun _ _ _ => rfl) ht⟩

/-! ### Immediate operations, shifts by an immediate, LUI (R137) -/

section
variable {s : State} {c : Fin 16} {w : Lane} {x : Execution} {l : LaneState} (d a : BitVec 5)

theorem imm_result (f : ImmFn) (i : BitVec 16) (h : laneIssues s c w x l) {v : DWord} (hv : immResult f (l.reg a) i = v) :
    ∃ m, Host.Outcome.next (s.laneOp c.val w (.imm f d a i)) = (.next (laneAlone s c w m) : Host.Outcome State Fault Refusal) ∧
      laneWrites l m d v (propagate (l.tag a) Tag.GOOD) 1 :=
  lane_result _ _ _ _ _ _ _ _ h rfl hv rfl rfl

theorem shift_result (f : ShiftFn) (n : BitVec 6) (h : laneIssues s c w x l) {v : DWord} (hv : shiftResult f (l.reg a) n = v) :
    ∃ m, Host.Outcome.next (s.laneOp c.val w (.shift f d a n)) = (.next (laneAlone s c w m) : Host.Outcome State Fault Refusal) ∧
      laneWrites l m d v (propagate (l.tag a) Tag.GOOD) 1 :=
  lane_result _ _ _ _ _ _ _ _ h rfl hv rfl rfl

end

theorem immResult_slti (p : DWord) (i : BitVec 16) : immResult .slti p i = if p.toInt < i.toInt then 1 else 0 := by
  simp [immResult, boolWord, BitVec.slt, BitVec.toInt_signExtend_of_le]

theorem immResult_sltiu (p : DWord) (i : BitVec 16) : immResult .sltiu p i = if p.toNat < (i.signExtend 64).toNat then 1 else 0 := by
  simp [immResult, boolWord, BitVec.ult]

theorem shiftResult_sra (p : DWord) (n : BitVec 6) : shiftResult .sra p n = BitVec.ofInt 64 (p.toInt / 2 ^ n.toNat) := by
  simp [shiftResult, BitVec.sshiftRight, Int.shiftRight_eq_div_pow]

theorem lui_value (i : BitVec 16) : (i.signExtend 64 <<< 16 : DWord) = BitVec.ofInt 64 (i.toInt * 65536) := by
  rw [BitVec.shiftLeft_eq_mul_twoPow, BitVec.ofInt_mul]
  rfl

theorem laneImmediateResults : Claim.LaneImmediateResults := by
  intro s c w x l d a i n h
  exact ⟨imm_result d a .addi i h rfl, imm_result d a .andi i h rfl, imm_result d a .ori i h rfl, imm_result d a .xori i h rfl,
    imm_result d a .slti i h (immResult_slti _ _), imm_result d a .sltiu i h (immResult_sltiu _ _), shift_result d a .sll n h rfl,
    shift_result d a .srl n h rfl, shift_result d a .sra n h (shiftResult_sra _ _),
    lane_result (.lui d i) _ _ _ _ _ _ _ h rfl (lui_value i) rfl rfl⟩

end Sys2Proof.Machine
end

section
/-! The obligation about the results of the ALU, of division and of the immediate operations. -/
open Sys2Proof Sys2Proof.Machine

/-- Settles O26: each operation writes one register; what is left is the equation of its value at either width. -/
theorem laneArithmetic : Obligations.LaneArithmetic := ⟨laneIntegerResults, laneDivision, laneImmediateResults⟩

end

section
/-! SUPPORT. Binary32 results (R139): which words are numbers, what rounding answers, and when a result takes BAD_CHANNEL_FAULT. -/
namespace Sys2Proof.Machine

/-- A number that is no subnormal: no NaN, and a zero exponent with a zero fraction. -/
def f32Plain (r : BitVec 32) : Prop := f32IsNan r = false ∧ (r.extractLsb' 23 8 = 0 → r.extractLsb' 0 23 = 0)

/-- What an operation answers: the one quiet NaN, or a number that is no subnormal. -/
def f32Canonical (r : BitVec 32) : Prop := r = f32Nan ∨ f32Plain r

/-- A result takes BAD_CHANNEL_FAULT for a signalling NaN operand and for a NaN made of other operands. -/
def f32Faults (x y : BitVec 32) (r : FRes) : Prop :=
  r.2 = true ↔ f32Snan x = true ∨ f32Snan y = true ∨ (f32IsNan r.1 = true ∧ f32IsNan x = false ∧ f32IsNan y = false)

/-- A result of numbers: a number, or the NaN with BAD_CHANNEL_FAULT. -/
def f32Numeric (r : FRes) : Prop := r = (f32Nan, true) ∨ (f32Plain r.1 ∧ r.2 = false)

/-! ### Reading a word -/

theorem f32Read_of_top {x : BitVec 32} (h : x.extractLsb' 23 8 = 255#8) :
    f32Read x = if x.extractLsb' 0 23 = 0#23 then .inf (x.getLsbD 31) else .nan (!x.getLsbD 22) := by
  have h0 : (x.extractLsb' 0 23).toNat = 0 ↔ x.extractLsb' 0 23 = 0#23 := BitVec.toNat_inj (y := 0#23)
  simp only [f32Read, h, h0, BitVec.toNat_ofNat, Nat.reducePow, Nat.reduceMod, if_true]

theorem f32Read_of_bottom {x : BitVec 32} (h : x.extractLsb' 23 8 = 0#8) : f32Read x = .zero (x.getLsbD 31) := by
  simp only [f32Read, h, BitVec.toNat_ofNat, Nat.zero_mod]
  rfl

theorem f32Read_of_between {x : BitVec 32} (h0 : x.extractLsb' 23 8 ≠ 0#8) (h1 : x.extractLsb' 23 8 ≠ 255#8) :
    f32Read x = .fin (x.getLsbD 31) ((x.extractLsb' 0 23).toNat + 8388608) ((x.extractLsb' 23 8).toNat - 150) := by
  have e0 : (x.extractLsb' 23 8).toNat ≠ 0 := fun e => h0 (BitVec.eq_of_toNat_eq e)
  have e1 : (x.extractLsb' 23 8).toNat ≠ 255 := fun e => h1 (BitVec.eq_of_toNat_eq e)
  simp only [f32Read, e0, e1, if_false]

theorem f32Plain_of_exponent {r : BitVec 32} (h0 : r.extractLsb' 23 8 ≠ 0#8) (h1 : r.extractLsb' 23 8 ≠ 255#8) : f32Plain r :=
  ⟨by rw [f32IsNan, f32Read_of_between h0 h1], fun h => absurd h h0⟩

theorem exponent_of_fin {x : BitVec 32} {neg m e} (h : f32Read x = .fin neg m e) : x.extractLsb' 23 8 ≠ 0#8 ∧ x.extractLsb' 23 8 ≠ 255#8 := by
  constructor
  · intro h0
    rw [f32Read_of_bottom h0] at h
    exact nomatch h
  · intro h1
    rw [f32Read_of_top h1] at h
    split at h <;> exact nomatch h

theorem f32Plain_of_fin {x : BitVec 32} {neg m e} (h : f32Read x = .fin neg m e) : f32Plain x :=
  f32Plain_of_exponent (exponent_of_fin h).1 (exponent_of_fin h).2

theorem f32Plain_of_inf {x : BitVec 32} {neg} (h : f32Read x = .inf neg) : f32Plain x := by
  refine ⟨by rw [f32IsNan, h], fun h0 => ?_⟩
  rw [f32Read_of_bottom h0] at h
  exact nomatch h

theorem f32Plain_zero (neg : Bool) : f32Plain (f32Zero neg) := by cases neg <;> unfold f32Plain <;> decide

theorem f32Plain_inf (neg : Bool) : f32Plain (f32Inf neg) := by cases neg <;> unfold f32Plain <;> decide

theorem f32IsNan_nan : f32IsNan f32Nan = true := by decide

theorem f32Nan_fields (x : BitVec 32) : f32IsNan x = (x.extractLsb' 23 8 == 255#8 && x.extractLsb' 0 23 != 0#23) ∧
    f32Snan x = (f32IsNan x && !x.getLsbD 22) := by
  by_cases h1 : x.extractLsb' 23 8 = 255#8
  · by_cases hz : x.extractLsb' 0 23 = 0#23 <;> simp [f32IsNan, f32Snan, f32Read_of_top, h1, hz]
  · by_cases h0 : x.extractLsb' 23 8 = 0#8
    · simp [f32IsNan, f32Snan, f32Read_of_bottom, h0]
    · simp [f32IsNan, f32Snan, f32Read_of_between, h0, h1]

/-- The sign is no part of what makes a word a NaN. -/
theorem nan_f32Neg (y : BitVec 32) : f32IsNan (f32Neg y) = f32IsNan y ∧ f32Snan (f32Neg y) = f32Snan y := by
  have he : (f32Neg y).extractLsb' 23 8 = y.extractLsb' 23 8 := by
    rw [f32Neg, BitVec.extractLsb'_xor]; exact BitVec.xor_zero
  have hf : (f32Neg y).extractLsb' 0 23 = y.extractLsb' 0 23 := by
    rw [f32Neg, BitVec.extractLsb'_xor]; exact BitVec.xor_zero
  have hq : (f32Neg y).getLsbD 22 = y.getLsbD 22 := by
    rw [f32Neg, BitVec.getLsbD_xor]; exact Bool.xor_false _
  simp only [f32Nan_fields, he, hf, hq, and_self]

/-! ### Rounding -/

theorem roundShift_le (m k j : Nat) (h : m < 2 ^ (j + k)) : roundShift m k ≤ 2 ^ j := by
  have hq : m / 2 ^ k < 2 ^ j := Nat.div_lt_of_lt_mul (by rwa [Nat.mul_comm, ← Nat.pow_add])
  unfold roundShift
  dsimp only
  split
  · subst_vars; simpa using h.le
  · split <;> omega

/-- The exponent of a word put together. -/
theorem exponent_ofNat {ex q : Nat} (h : ex < 255) (hq : q < 8388608) :
    (BitVec.ofNat 32 (ex * 8388608 + q)).extractLsb' 23 8 = BitVec.ofNat 8 ex := by
  have hn : ex * 8388608 + q < 4294967296 := by omega
  have hd : (ex * 8388608 + q) / 8388608 = ex := by
    rw [Nat.mul_comm, Nat.mul_add_div (by decide), Nat.div_eq_of_lt hq, Nat.add_zero]
  apply BitVec.eq_of_toNat_eq
  rw [BitVec.extractLsb'_toNat, BitVec.toNat_ofNat, BitVec.toNat_ofNat, Nat.shiftRight_eq_div_pow, Nat.mod_eq_of_lt hn]
  exact congrArg (· % 256) hd

/-- An exponent in range and a fraction: the word of a number. -/
theorem f32Plain_word (neg : Bool) {ex q : Nat} (h1 : 1 ≤ ex) (h2 : ex < 255) (hq : q < 8388608) :
    f32Plain ((if neg then 0x80000000 else 0) ||| BitVec.ofNat 32 (ex * 8388608 + q)) := by
  have hs : (if neg then 0x80000000 else 0 : BitVec 32).extractLsb' 23 8 = 0#8 := by cases neg <;> rfl
  have he : ((if neg then 0x80000000 else 0) ||| BitVec.ofNat 32 (ex * 8388608 + q)).extractLsb' 23 8 = BitVec.ofNat 8 ex := by
    rw [BitVec.extractLsb'_or, hs, BitVec.zero_or, exponent_ofNat h2 hq]
  have hne : ∀ k, k < 256 → k ≠ ex → BitVec.ofNat 8 ex ≠ BitVec.ofNat 8 k := fun k hk hn e => by
    have := congrArg BitVec.toNat e
    simp only [BitVec.toNat_ofNat] at this
    omega
  refine f32Plain_of_exponent ?_ ?_ <;> rw [he]
  · exact hne 0 (by omega) (by omega)
  · exact hne 255 (by omega) (by omega)

theorem f32Plain_round (neg : Bool) (m : Nat) (e : Int) : f32Plain (f32Round neg m e) := by
  unfold f32Round
  by_cases hm : m = 0
  · rw [if_pos hm]; exact f32Plain_zero neg
  rw [if_neg hm]
  extract_lets n sh q
  have hlog : m < 2 ^ (Nat.log2 m + 1) := Nat.lt_log2_self
  have hq : q ≤ 16777216 := by
    simp only [q]
    split
    · exact roundShift_le m _ 24 (hlog.trans_le (Nat.pow_le_pow_right (by omega) (by omega)))
    · calc m * 2 ^ (-sh).toNat ≤ 2 ^ (Nat.log2 m + 1) * 2 ^ (23 - Nat.log2 m) := 
          Nat.mul_le_mul hlog.le (Nat.pow_le_pow_right (by omega) (by omega))
        _ = 2 ^ 24 := by rw [← Nat.pow_add]; congr 1; omega
  have hsh : -149 - e ≤ sh := le_max_right _ _
  clear_value sh q
  by_cases h : q = 16777216
  · rw [if_pos h]
    dsimp only
    rw [if_neg (by omega)]
    split
    · exact f32Plain_inf neg
    · exact f32Plain_word neg (ex := (e + sh + 1 + 150).toNat) (q := 8388608 - 8388608) (by omega) (by omega) (by omega)
  · rw [if_neg h]
    dsimp only
    split
    · exact f32Plain_zero neg
    · split
      · exact f32Plain_inf neg
      · exact f32Plain_word neg (ex := (e + sh + 150).toNat) (q := q - 8388608) (by omega) (by omega) (by omega)

/-! ### The operations -/

theorem f32Plain_ofInt (i : Int) : f32Plain (f32OfInt i) := by
  unfold f32OfInt
  split
  · exact f32Plain_zero false
  · exact f32Plain_round _ _ _

theorem f32Canonical_flush (x : BitVec 32) : f32Canonical (f32Flush x) := by
  unfold f32Flush
  split
  · exact Or.inr (f32Plain_zero _)
  · exact Or.inl rfl
  · next hz hn =>
    cases h : f32Read x with
    | nan t => exact absurd h (hn t)
    | inf t => exact Or.inr (f32Plain_of_inf h)
    | zero t => exact absurd h (hz t)
    | fin t m e => exact Or.inr (f32Plain_of_fin h)

theorem f32IsNan_flush (x : BitVec 32) : f32IsNan (f32Flush x) = f32IsNan x := by
  cases h : f32Read x with
  | nan t => rw [f32Flush, h, f32IsNan_nan, f32IsNan, h]
  | inf t => simp [f32Flush, h]
  | zero t => rw [f32Flush, h, (f32Plain_zero t).1, f32IsNan, h]
  | fin t m e => simp [f32Flush, h]

/-- A NaN operand makes the NaN, with BAD_CHANNEL_FAULT where one is signalling. -/
theorem nanOf_read (x y : BitVec 32) : nanOf (f32Read x) (f32Read y) =
    if f32IsNan x || f32IsNan y then some (f32Nan, f32Snan x || f32Snan y) else none := by
  cases hx : f32Read x <;> cases hy : f32Read y <;> simp [nanOf, f32IsNan, f32Snan, hx, hy]

/-- An arithmetic operation: the NaN of its operands, else a result of numbers. -/
def f32Arithmetic (x y : BitVec 32) (r : FRes) : Prop :=
  if f32IsNan x || f32IsNan y then r = (f32Nan, f32Snan x || f32Snan y) else f32Numeric r

theorem f32Arithmetic.canonical {x y r} (h : f32Arithmetic x y r) : f32Canonical r.1 := by
  unfold f32Arithmetic at h
  split at h
  · exact Or.inl (by rw [h])
  · exact h.imp (by rintro rfl; rfl) fun h => h.1

theorem f32Arithmetic.faults {x y r} (h : f32Arithmetic x y r) : f32Faults x y r := by
  obtain ⟨-, hsx⟩ := f32Nan_fields x
  obtain ⟨-, hsy⟩ := f32Nan_fields y
  unfold f32Arithmetic at h
  unfold f32Faults
  by_cases hn : (f32IsNan x || f32IsNan y) = true
  · rw [if_pos hn] at h
    rcases Bool.or_eq_true _ _ ▸ hn with hn | hn <;> simp [h, hn]
  · rw [if_neg hn] at h
    obtain ⟨hx, hy⟩ : f32IsNan x = false ∧ f32IsNan y = false := by simpa using hn
    rcases h with rfl | ⟨hp, h2⟩
    · simp [hx, hy, f32IsNan_nan]
    · simp [hx, hy, hsx, hsy, h2, hp.1]

theorem f32Numeric_of_plain {r : BitVec 32} (h : f32Plain r) : f32Numeric (r, false) := Or.inr ⟨h, rfl⟩

/-- Operands without a NaN are infinities, zeros and finite numbers. -/
theorem numbers_of_nanOf {a b : F32} (h : nanOf a b = none) :
    ((∃ s, a = .inf s) ∨ (∃ s, a = .zero s) ∨ ∃ s m e, a = .fin s m e) ∧
      ((∃ t, b = .inf t) ∨ (∃ t, b = .zero t) ∨ ∃ t k f, b = .fin t k f) := by
  cases a <;> cases b <;> simp [nanOf] at h ⊢

theorem f32Arithmetic_of_numbers {x y : BitVec 32} {r : FRes} (hnan : ∀ p, nanOf (f32Read x) (f32Read y) = some p → r = p)
    (hnum : nanOf (f32Read x) (f32Read y) = none → f32Numeric r) : f32Arithmetic x y r := by
  rw [nanOf_read] at hnan hnum
  unfold f32Arithmetic
  by_cases hn : (f32IsNan x || f32IsNan y) = true
  · rw [if_pos hn]; exact hnan _ (if_pos hn)
  · rw [if_neg hn]; exact hnum (if_neg hn)

theorem f32Numeric_ite {c : Prop} [Decidable c] {p q : FRes} (hp : f32Numeric p) (hq : f32Numeric q) : f32Numeric (if c then p else q) := by
  split <;> assumption

theorem f32Arithmetic_add (x y : BitVec 32) : f32Arithmetic x y (f32Add x y) := by
  refine f32Arithmetic_of_numbers (fun p h => by simp only [f32Add, h]) fun h => ?_
  simp only [f32Add, h]
  generalize f32Read x = a at h ⊢
  generalize f32Read y = b at h ⊢
  obtain ⟨⟨s, rfl⟩ | ⟨s, rfl⟩ | ⟨s, m, e, rfl⟩, ⟨t, rfl⟩ | ⟨t, rfl⟩ | ⟨t, k, f, rfl⟩⟩ := numbers_of_nanOf h
  · exact f32Numeric_ite (f32Numeric_of_plain (f32Plain_inf s)) (Or.inl rfl)
  · exact f32Numeric_of_plain (f32Plain_inf s)
  · exact f32Numeric_of_plain (f32Plain_inf s)
  · exact f32Numeric_of_plain (f32Plain_inf t)
  · exact f32Numeric_of_plain (f32Plain_zero (s && t))
  · exact f32Numeric_of_plain (f32Plain_round t k f)
  · exact f32Numeric_of_plain (f32Plain_inf t)
  · exact f32Numeric_of_plain (f32Plain_round s m e)
  · exact f32Numeric_ite (f32Numeric_of_plain (f32Plain_zero false)) (f32Numeric_of_plain (f32Plain_round _ _ _))

theorem f32Arithmetic_mul (x y : BitVec 32) : f32Arithmetic x y (f32Mul x y) := by
  refine f32Arithmetic_of_numbers (fun p h => by simp only [f32Mul, h]) fun h => ?_
  simp only [f32Mul, h]
  generalize f32Read x = a at h ⊢
  generalize f32Read y = b at h ⊢
  obtain ⟨⟨s, rfl⟩ | ⟨s, rfl⟩ | ⟨s, m, e, rfl⟩, ⟨t, rfl⟩ | ⟨t, rfl⟩ | ⟨t, k, f, rfl⟩⟩ := numbers_of_nanOf h
  · exact f32Numeric_of_plain (f32Plain_inf _)
  · exact Or.inl rfl
  · exact f32Numeric_of_plain (f32Plain_inf _)
  · exact Or.inl rfl
  · exact f32Numeric_of_plain (f32Plain_zero _)
  · exact f32Numeric_of_plain (f32Plain_zero _)
  · exact f32Numeric_of_plain (f32Plain_inf _)
  · exact f32Numeric_of_plain (f32Plain_zero _)
  · exact f32Numeric_of_plain (f32Plain_round _ _ _)

theorem f32Arithmetic_div (x y : BitVec 32) : f32Arithmetic x y (f32Div x y) := by
  refine f32Arithmetic_of_numbers (fun p h => by simp only [f32Div, h]) fun h => ?_
  simp only [f32Div, h]
  generalize f32Read x = a at h ⊢
  generalize f32Read y = b at h ⊢
  obtain ⟨⟨s, rfl⟩ | ⟨s, rfl⟩ | ⟨s, m, e, rfl⟩, ⟨t, rfl⟩ | ⟨t, rfl⟩ | ⟨t, k, f, rfl⟩⟩ := numbers_of_nanOf h
  · exact Or.inl rfl
  · exact f32Numeric_of_plain (f32Plain_inf _)
  · exact f32Numeric_of_plain (f32Plain_inf _)
  · exact f32Numeric_of_plain (f32Plain_zero _)
  · exact Or.inl rfl
  · exact f32Numeric_of_plain (f32Plain_zero _)
  · exact f32Numeric_of_plain (f32Plain_zero _)
  · exact f32Numeric_of_plain (f32Plain_inf _)
  · exact f32Numeric_of_plain (f32Plain_round _ _ _)

/-- Subtraction adds the operand of the other sign. -/
theorem f32Arithmetic_sub (x y : BitVec 32) : f32Arithmetic x y (f32Add x (f32Neg y)) := by
  have h := f32Arithmetic_add x (f32Neg y)
  obtain ⟨hn, hs⟩ := nan_f32Neg y
  rwa [f32Arithmetic, hn, hs] at h

theorem f32Canonical_sqrt (x : BitVec 32) : f32Canonical (f32Sqrt x).1 := by
  unfold f32Sqrt
  split
  · exact Or.inl rfl
  · exact Or.inr (f32Plain_inf false)
  · exact Or.inl rfl
  · exact Or.inr (f32Plain_zero _)
  · exact Or.inl rfl
  · exact Or.inr (f32Plain_round _ _ _)

theorem f32Canonical_sign (x : BitVec 32) (g : Bool → Bool) : f32Canonical (f32Sign x g).1 := by
  unfold f32Sign
  split
  · exact Or.inl rfl
  · exact Or.inr (f32Plain_inf _)
  · exact Or.inr (f32Plain_zero _)
  · next s m e h =>
    have hs : (if g s then 0x80000000 else 0 : BitVec 32).extractLsb' 23 8 = 0#8 := by cases g s <;> rfl
    have he : ((x &&& 0x7FFFFFFF) ||| (if g s then 0x80000000 else 0)).extractLsb' 23 8 = x.extractLsb' 23 8 := by
      rw [BitVec.extractLsb'_or, hs, BitVec.or_zero, BitVec.extractLsb'_and]
      exact BitVec.and_allOnes
    obtain ⟨h0, h1⟩ := exponent_of_fin h
    exact Or.inr (f32Plain_of_exponent (he ▸ h0) (he ▸ h1))

/-- FMIN and FMAX answer an operand as the unit sees it, or a zero. -/
theorem f32Pick_picks (least : Bool) (x y : BitVec 32) :
    (f32Pick least x y).1 = f32Flush x ∨ (f32Pick least x y).1 = f32Flush y ∨ ∃ s, (f32Pick least x y).1 = f32Zero s := by
  unfold f32Pick
  dsimp only
  split_ifs
  · exact Or.inr (Or.inl rfl)
  · exact Or.inl rfl
  · exact Or.inl rfl
  · exact Or.inr (Or.inl rfl)
  · exact Or.inr (Or.inl rfl)
  · exact Or.inl rfl
  · split
    · exact Or.inr (Or.inr ⟨_, rfl⟩)
    · exact Or.inl rfl
  · split
    · exact Or.inr (Or.inr ⟨_, rfl⟩)
    · exact Or.inl rfl

theorem f32Canonical_pick (least : Bool) (x y : BitVec 32) : f32Canonical (f32Pick least x y).1 := by
  rcases f32Pick_picks least x y with h | h | ⟨s, h⟩ <;> rw [h]
  · exact f32Canonical_flush x
  · exact f32Canonical_flush y
  · exact Or.inr (f32Plain_zero s)

theorem f32Faults_pick (least : Bool) (x y : BitVec 32) : f32Faults x y (f32Pick least x y) := by
  have hn : ¬(f32IsNan (f32Pick least x y).1 = true ∧ f32IsNan x = false ∧ f32IsNan y = false) := by
    rintro ⟨h, hx, hy⟩
    rcases f32Pick_picks least x y with e | e | ⟨s, e⟩ <;> rw [e] at h
    · rw [f32IsNan_flush, hx] at h
      exact nomatch h
    · rw [f32IsNan_flush, hy] at h
      exact nomatch h
    · rw [(f32Plain_zero s).1] at h
      exact nomatch h
  simp only [f32Faults, hn, or_false]
  exact Bool.or_eq_true_iff

/-- A comparison answers 0 or 1. -/
theorem f32Faults_compare (x y : BitVec 32) (b : Bool) : f32Faults x y (boolWord b, f32Snan x || f32Snan y) := by
  have hb : f32IsNan (boolWord b) = false := by cases b <;> decide
  simp [f32Faults, hb]

/-- Every result of arithmetic is the one NaN or a number that is no subnormal. -/
theorem f32Canonical_fpu {f : FpuFn} (p q : BitVec 32)
    (hf : f ∈ [FpuFn.fadd, .fsub, .fmul, .fdiv, .fsqrt, .fmin, .fmax, .fabs, .fneg, .i2f, .u2f]) : f32Canonical (fpu f p q).1 := by
  cases f with
  | fadd => exact (f32Arithmetic_add p q).canonical
  | fsub => exact (f32Arithmetic_sub p q).canonical
  | fmul => exact (f32Arithmetic_mul p q).canonical
  | fdiv => exact (f32Arithmetic_div p q).canonical
  | fsqrt => exact f32Canonical_sqrt p
  | fmin => exact f32Canonical_pick true p q
  | fmax => exact f32Canonical_pick false p q
  | fabs => exact f32Canonical_sign p _
  | fneg => exact f32Canonical_sign p _
  | i2f => exact Or.inr (f32Plain_ofInt _)
  | u2f => exact Or.inr (f32Plain_ofInt _)
  | _ => exact absurd hf (by decide)

theorem f32Faults_fpu {f : FpuFn} (hf : fpuUnary f = false) (p q : BitVec 32) : f32Faults p q (fpu f p q) := by
  cases f with
  | fadd => exact (f32Arithmetic_add p q).faults
  | fsub => exact (f32Arithmetic_sub p q).faults
  | fmul => exact (f32Arithmetic_mul p q).faults
  | fdiv => exact (f32Arithmetic_div p q).faults
  | fmin => exact f32Faults_pick true p q
  | fmax => exact f32Faults_pick false p q
  | flt => exact f32Faults_compare p q _
  | fle => exact f32Faults_compare p q _
  | feq => exact f32Faults_compare p q _
  | _ => exact nomatch hf

/-! ### Their commands -/

section
variable {s : State} {c : Fin 16} {w : Lane} {x : Execution} {l : LaneState} (d a b : BitVec 5)

theorem fpu_result {f : FpuFn} (hf : fpuUnary f = false) (h : laneIssues s c w x l) :
    ∃ m, Host.Outcome.next (s.laneOp c.val w (.fpu f d a b)) = (.next (laneAlone s c w m) : Host.Outcome State Fault Refusal) ∧
      laneFloats l m d f a b (fpuCycles f) := by
  refine lane_result _ _ _ _ _ _ _ _ h (by simp only [laneEffect, hf]; rfl) rfl ?_ rfl
  exact if_congr (f32Faults_fpu hf _ _) rfl rfl

theorem fpu_unary_result {f : FpuFn} (hf : fpuUnary f = true) (h : laneIssues s c w x l) :
    ∃ m, Host.Outcome.next (s.laneOp c.val w (.fpu f d a 0)) = (.next (laneAlone s c w m) : Host.Outcome State Fault Refusal) ∧
      laneFloat l m d f a (fpuCycles f) :=
  lane_result _ _ _ _ _ _ _ _ h (by simp only [laneEffect, hf]; rfl) rfl rfl rfl

end

end Sys2Proof.Machine
end

section
/-! The obligation about floating-point results. -/
open Sys2Proof Sys2Proof.Machine

/-- Settles O27: each operation writes its result of `fpu`, which is the one NaN or a number that is no subnormal; its tag by the two kinds of
operation. -/
theorem laneFloatResults : Obligations.LaneFloatResults := by
  intro s c w x l d a b h
  have hnan : ∀ r, f32Canonical r → f32IsNan r = true → r = 0x7FC00000 := fun r hr hn => hr.resolve_right fun hp => by simp [hp.1] at hn
  have hsub : ∀ r, f32Canonical r → r.extractLsb' 23 8 = 0 → r.extractLsb' 0 23 = 0 := fun r hr h0 => by
    rcases hr with rfl | hp
    · exact absurd h0 (by decide)
    · exact hp.2 h0
  exact ⟨fpu_result d a b rfl h, fpu_result d a b rfl h, fpu_result d a b rfl h, fpu_result d a b rfl h, fpu_result d a b rfl h,
    fpu_result d a b rfl h, fpu_result d a b rfl h, fpu_result d a b rfl h, fpu_result d a b rfl h, fpu_unary_result d a rfl h,
    fpu_unary_result d a rfl h, fpu_unary_result d a rfl h, fpu_unary_result d a rfl h, fpu_unary_result d a rfl h,
    fpu_unary_result d a rfl h, fpu_unary_result d a rfl h, fun f p q hf => hnan _ (f32Canonical_fpu p q hf),
    fun f p q hf => hsub _ (f32Canonical_fpu p q hf)⟩

end

section
/-! SUPPORT. System operations, jumps and branches of a lane (R137, R140). -/
namespace Sys2Proof.Machine

/-- A tag written beside a register that keeps its value. -/
theorem laneWrites_setTag (l : LaneState) (d : BitVec 5) (t : Nibble) (n : Nat) :
    laneWrites l { (l.next.setTag d t) with cycles := l.cycles + n } d (l.reg d) t n := by
  by_cases hd : d = 0
  · rw [LaneState.setTag, if_pos hd]
    refine ⟨fun k => ?_, fun k => ?_, rfl, rfl, rfl⟩
    · rw [if_neg fun h => h.2 (h.1.trans hd)]; rfl
    · rw [if_neg fun h => h.2 (h.1.trans hd)]; rfl
  · rw [LaneState.setTag, if_neg hd]
    refine ⟨fun k => ?_, fun k => ?_, rfl, rfl, rfl⟩
    · split
      · next h => rw [h.1]; rfl
      · rfl
    · by_cases hk : k = 0
      · rw [if_neg fun h => h.2 hk, LaneState.tag, LaneState.tag, if_pos hk, if_pos hk]
      · rw [LaneState.tag, LaneState.tag, if_neg hk, if_neg hk]
        refine (sparseGet_set _ _ _ _ _).trans ?_
        simp only [BitVec.toNat_inj, hk, ne_eq, not_false_eq_true, and_true]
        rfl

section
variable {s : State} {c : Fin 16} {w : Lane} {x : Execution} {l : LaneState}

theorem setTag_result (op : LaneOp) (d : BitVec 5) {t : Nibble} (h : laneIssues s c w x l)
    (e : laneEffect l (s.laneEnv c.val x) op = .ok (l.next.setTag d t) 1) :
    ∃ m, Host.Outcome.next (s.laneOp c.val w op) = (.next (laneAlone s c w m) : Host.Outcome State Fault Refusal) ∧
      laneWrites l m d (l.reg d) t 1 := by
  have hfin : (l.next.setTag d t).fin = l.fin := by
    unfold LaneState.setTag
    split <;> rfl
  exact ⟨_, congrArg _ (lane_completes op h e hfin), laneWrites_setTag l d t 1⟩

/-- An instruction that ends its lane starts the comparison (R177). -/
theorem lane_ends (op : LaneOp) {m : LaneState} {n : Nat} (h : laneIssues s c w x l) (e : laneEffect l (s.laneEnv c.val x) op = .ok m n)
    (hm : m.fin ≠ .running) : s.laneOp c.val w op = (laneAlone s c w { m with cycles := l.cycles + n }).setChState c.val Ch.COMPARING := by
  rw [laneOp_of_issues op h, e]
  exact laneDone_ended hm

theorem laneSystemOperations : Claim.LaneSystemOperations := by
  intro s c w x l d a i h
  have sett : ∀ t : Nibble, t = (l.reg a).truncate 4 → laneEffect l (s.laneEnv c.val x) (.sett d a) =
      if t = 7 then .trap 7 0 1 else .ok (l.next.setTag d t) 1 := fun t ht => ht ▸ rfl
  exact ⟨lane_result (.cyc d) _ _ _ _ _ _ _ h rfl rfl rfl rfl, lane_result (.t0ns d) _ _ _ _ _ _ _ h rfl rfl rfl rfl,
    lane_result (.first d) _ _ _ _ _ _ _ h rfl rfl rfl rfl, lane_result (.period d) _ _ _ _ _ _ _ h rfl rfl rfl rfl,
    lane_result (.gett d a) _ _ _ _ _ _ _ h rfl rfl rfl rfl,
    fun ht => setTag_result (.sett d a) d h ((sett _ rfl).trans (if_neg ht)),
    fun ht => ⟨_, rfl, lane_traps (.sett d a) h ((sett _ rfl).trans (if_pos ht))⟩,
    setTag_result (.joint d a) d h rfl,
    congrArg Host.Outcome.next (lane_completes (.tok i) h (congrArg (LaneRes.ok · 1) (l.next.feed_one _)) rfl),
    congrArg Host.Outcome.next (lane_ends .endOp h (congrArg (LaneRes.ok · 1) (LaneState.feed_one { l with fin := .ended l.pc } _)) nofun)⟩

/-! ### Jumps and branches (R136, R137) -/

theorem branch_taken {f : BranchFn} {a b : BitVec 5} {off : BitVec 16} (h : laneIssues s c w x l)
    (ht : branchTaken f (l.reg a) (l.reg b) = true) : done (s.laneOp c.val w (.branch f a b off)) =
      .next (laneAlone s c w { l with pc := (BitVec.ofNat 64 l.pc + off.signExtend 64 * 4).toNat, cycles := l.cycles + 2 }) :=
  congrArg Host.Outcome.next (lane_completes (.branch f a b off) h (if_pos ht) rfl)

theorem branch_not_taken {f : BranchFn} {a b : BitVec 5} {off : BitVec 16} (h : laneIssues s c w x l)
    (ht : ¬ branchTaken f (l.reg a) (l.reg b) = true) : done (s.laneOp c.val w (.branch f a b off)) =
      .next (laneAlone s c w { l with pc := l.pc + 4, cycles := l.cycles + 1 }) :=
  congrArg Host.Outcome.next (lane_completes (.branch f a b off) h (if_neg ht) rfl)

theorem branchTag_taken {bad : Bool} {a : BitVec 5} {off : BitVec 16} (h : laneIssues s c w x l)
    (ht : tagBad (l.tag a) = bad) : done (s.laneOp c.val w (.branchTag bad a off)) =
      .next (laneAlone s c w { l with pc := (BitVec.ofNat 64 l.pc + off.signExtend 64 * 4).toNat, cycles := l.cycles + 2 }) :=
  congrArg Host.Outcome.next (lane_completes (.branchTag bad a off) h (if_pos ht) rfl)

theorem branchTag_not_taken {bad : Bool} {a : BitVec 5} {off : BitVec 16} (h : laneIssues s c w x l)
    (ht : ¬ tagBad (l.tag a) = bad) : done (s.laneOp c.val w (.branchTag bad a off)) =
      .next (laneAlone s c w { l with pc := l.pc + 4, cycles := l.cycles + 1 }) :=
  congrArg Host.Outcome.next (lane_completes (.branchTag bad a off) h (if_neg ht) rfl)

/-- When each condition of a branch holds (R137). -/
theorem branchTaken_iff (p q : DWord) : (branchTaken .eq p q = true ↔ p = q) ∧ (branchTaken .ne p q = true ↔ p ≠ q) ∧
    (branchTaken .lt p q = true ↔ p.toInt < q.toInt) ∧ (branchTaken .ge p q = true ↔ q.toInt ≤ p.toInt) ∧
    (branchTaken .ltu p q = true ↔ p.toNat < q.toNat) ∧ (branchTaken .geu p q = true ↔ q.toNat ≤ p.toNat) := by
  simp [branchTaken, BitVec.slt, BitVec.ult]

/-- CALL writes G[31] and goes on elsewhere. -/
theorem call_result (off : BitVec 26) (h : laneIssues s c w x l) :
    ∃ m, done (s.laneOp c.val w (.call off)) = .next (laneAlone s c w { m with pc := (BitVec.ofNat 64 l.pc + off.signExtend 64 * 4).toNat }) ∧
      laneWrites l m 31 (BitVec.ofNat 64 (l.pc + 4)) Tag.GOOD 2 :=
  ⟨_, congrArg Host.Outcome.next (lane_completes (.call off) h rfl rfl), laneWrites_setReg l 31 _ _ 2⟩

end

theorem laneJumpsAndBranches : Claim.LaneJumpsAndBranches := by
  rintro s c w x l _ _ a b off far h rfl rfl
  obtain ⟨heq, hne, hlt, hge, hltu, hgeu⟩ := branchTaken_iff (l.reg a) (l.reg b)
  exact ⟨fun e => branch_taken h (heq.2 e), fun e => branch_not_taken h fun t => e (heq.1 t),
    fun e => branch_taken h (hne.2 e), fun e => branch_not_taken h fun t => hne.1 t e,
    fun e => branch_taken h (hlt.2 e), fun e => branch_not_taken h fun t => e.not_gt (hlt.1 t),
    fun e => branch_taken h (hge.2 e), fun e => branch_not_taken h fun t => e.not_ge (hge.1 t),
    fun e => branch_taken h (hltu.2 e), fun e => branch_not_taken h fun t => e.not_gt (hltu.1 t),
    fun e => branch_taken h (hgeu.2 e), fun e => branch_not_taken h fun t => e.not_ge (hgeu.1 t),
    fun e => branchTag_taken h e, fun e => branchTag_not_taken h (ne_of_eq_of_ne e Bool.false_ne_true),
    fun e => branchTag_taken h e, fun e => branchTag_not_taken h (ne_of_eq_of_ne e Bool.false_ne_true.symm),
    congrArg Host.Outcome.next (lane_completes (.jump far) h rfl rfl), congrArg Host.Outcome.next (lane_completes (.jr a) h rfl rfl),
    call_result far h⟩

end Sys2Proof.Machine
end

section
/-! The obligation about the control of a lane. -/
open Sys2Proof Sys2Proof.Machine

/-- Settles O28: each operation by its effect on the lane, which either goes on, is trapped or ends. -/
theorem laneControl : Obligations.LaneControl := ⟨laneSystemOperations, laneJumpsAndBranches⟩

end

section
/-! SUPPORT. Loads and stores of a lane: parts of words, working SRAM, slots, the journal (R121, R122, R126 to R128, R132, R134, R137, R175). -/
namespace Sys2Proof.Machine

/-! ### Parts of words -/

theorem getLsbD_ones {n j : Nat} (hj : j < 64) : (BitVec.ofNat 64 (2 ^ n - 1)).getLsbD j = decide (j < n) := by
  rw [BitVec.getLsbD_ofNat, Nat.testBit_two_pow_sub_one, decide_eq_true hj, Bool.true_and]

theorem and_ones (v : DWord) (n : Nat) : v &&& BitVec.ofNat 64 (2 ^ n - 1) = (v.truncate n).zeroExtend 64 := by
  apply BitVec.eq_of_getLsbD_eq
  intro j hj
  rw [BitVec.getLsbD_and, getLsbD_ones hj]
  simp [BitVec.getLsbD_setWidth, hj, Bool.and_comm]

/-- What a load of each size makes of the word shifted to its address (R137). -/
theorem loadExtend_wordPart (w : DWord) (k : Nat) {v : DWord} (hv : v = w >>> (8 * k)) :
    loadExtend (wordPart w k 1) 1 = (v.truncate 8).zeroExtend 64 ∧ loadExtend (wordPart w k 2) 2 = (v.truncate 16).zeroExtend 64 ∧
    loadExtend (wordPart w k 4) 4 = (v.truncate 32).signExtend 64 ∧ loadExtend (wordPart w k 8) 8 = v := by
  have h : ∀ size, wordPart w k size = (v.truncate (8 * size)).zeroExtend 64 := fun size => hv ▸ and_ones _ _
  refine ⟨h 1, h 2, ?_, (h 8).trans (by simp)⟩
  rw [h 4, loadExtend, if_pos rfl]
  simp

/-- A store replaces the bytes it names and no other. -/
theorem getLsbD_wordMerge (w v : DWord) (k size : Nat) {j : Nat} (hj : j < 64) :
    (wordMerge w v k size).getLsbD j = if 8 * k ≤ j ∧ j < 8 * k + 8 * size then v.getLsbD (j - 8 * k) else w.getLsbD j := by
  simp only [wordMerge, BitVec.getLsbD_or, BitVec.getLsbD_and, BitVec.getLsbD_not, BitVec.getLsbD_shiftLeft, hj, decide_true, Bool.true_and]
  by_cases h : j < 8 * k
  · simp [h, show ¬ (8 * k ≤ j ∧ j < 8 * k + 8 * size) by omega]
  · rw [getLsbD_ones (by omega)]
    by_cases h2 : j < 8 * k + 8 * size
    · simp [h, h2, show 8 * k ≤ j by omega, show j - 8 * k < 8 * size by omega]
    · simp [h, h2, show ¬ j - 8 * k < 8 * size by omega]

section
variable {s : State} {c : Fin 16} {w : Lane} {x : Execution} {l : LaneState} {d a : BitVec 5} {i : BitVec 16} {size adr : Nat}

/-! ### Working SRAM (R122) -/

theorem laneLoad_reads (hadr : adr = l.addr a i) (hal : adr % size = 0) (hw : adr < 0x1E0000) (hue : adr / 8 ∉ l.workUe) :
    laneLoad l size d a i = .ok (l.next.setReg d (loadExtend (wordPart (workWord l adr) (adr % 8) size) size) Tag.GOOD) 2 := by
  subst hadr
  rw [laneLoad, if_neg (not_not.2 hal), if_neg (by omega), if_neg (by simpa using hue)]

theorem load_result (h : laneIssues s c w x l) (hadr : adr = l.addr a i) (hal : adr % size = 0) (hw : adr < 0x1E0000) (hue : adr / 8 ∉ l.workUe)
    {v : DWord} (hv : loadExtend (wordPart (workWord l adr) (adr % 8) size) size = v) :
    ∃ m, Host.Outcome.next (s.laneOp c.val w (.load size d a i)) = (.next (laneAlone s c w m) : Host.Outcome State Fault Refusal) ∧
      laneWrites l m d v Tag.GOOD 2 :=
  lane_result (.load size d a i) _ _ _ _ _ _ _ h (laneLoad_reads hadr hal hw hue) hv rfl rfl

theorem workWord_setWork_ne (l : LaneState) {k : Nat} (v : DWord) (h : k / 8 ≠ adr / 8) : workWord (l.setWork adr v) k = workWord l k :=
  sparseGet_set_ne _ _ _ h

theorem workWord_setWork_same (l : LaneState) (v : DWord) : workWord (l.setWork adr v) adr = v := sparseGet_set_same _ _ _ _

theorem store_result (h : laneIssues s c w x l) (hadr : adr = l.addr a i) (hal : adr % size = 0) (hlo : 0x100000 ≤ adr) (hhi : adr < 0x1E0000)
    (hue : size = 8 ∨ adr / 8 ∉ l.workUe) :
    ∃ m, Host.Outcome.next (s.laneOp c.val w (.store size d a i)) = (.next (laneAlone s c w m) : Host.Outcome State Fault Refusal) ∧
      laneStores l m adr size (l.reg d) := by
  have he : laneStore l size d a i = .ok (l.next.setWork adr (wordMerge (workWord l adr) (l.reg d) (adr % 8) size)) 1 := by
    subst hadr
    rw [laneStore, if_neg (not_not.2 hal), if_neg (by omega), if_neg]
    rintro ⟨h8, hm⟩
    exact hue.elim (by omega) fun hn => hn (by simpa using hm)
  refine ⟨_, congrArg _ (lane_completes (.store size d a i) h he rfl), rfl, rfl, rfl, fun k hk => workWord_setWork_ne _ _ hk, fun j hj => ?_⟩
  exact (congrArg (BitVec.getLsbD · j) (workWord_setWork_same _ _)).trans (getLsbD_wordMerge _ _ _ _ hj)

/-! ### Slots (R132, R134) -/

theorem lds_result (whole : Bool) (h : laneIssues s c w x l) (hadr : adr = l.addr a i) (hal : adr % 8 = 0) (hw : adr < 0x100000)
    (hue : adr / 8 ∉ l.workUe) :
    ∃ m, Host.Outcome.next (s.laneOp c.val w (.lds whole d a i)) = (.next (laneAlone s c w m) : Host.Outcome State Fault Refusal) ∧
      laneWrites l m d (if whole then workWord l adr else (slotValue (workWord l adr)).signExtend 64) (slotStatus (workWord l adr)) 2 := by
  have he : laneLds l whole d a i = .ok (l.next.setReg d (if whole then workWord l adr else (slotValue (workWord l adr)).signExtend 64)
      (slotStatus (workWord l adr))) 2 := by
    subst hadr
    rw [laneLds, if_neg (not_not.2 hal), if_neg (by omega), if_neg (by simpa using hue)]
  exact lane_result (.lds whole d a i) _ _ _ _ _ _ _ h he rfl rfl rfl

theorem laneSts_writes (e : LaneEnv) (hadr : adr = l.addr a i) (hal : adr % 8 = 0) (hlo : 0x1F0000 ≤ adr) (hhi : adr < 0x200000) :
    laneSts l e d a i = .ok { l.next with
      pendOut := (l.pendOut.filter fun p => p.1 != adr) ++
        [(adr, mkSlot ((l.reg d).truncate 32) (stsStatus (l.tag d)) e.origin 0 (e.cyc.truncate 16), e.cyc)]
      workUe := l.workUe.filter fun k => k != adr / 8
      sig := crc64Word (crc64Word l.sig (0x2000000000000000 ||| BitVec.ofNat 64 adr))
        (mkSlot ((l.reg d).truncate 32) (stsStatus (l.tag d)) 0 0 0) } 1 := by
  subst hadr
  rw [laneSts, if_neg (not_not.2 hal), if_neg (by omega)]
  dsimp only
  rw [LaneState.feed_two]
  rfl

end

theorem laneLoadsAndStores : Claim.LaneLoadsAndStores := by
  intro s c w x l d a i adr h hadr
  refine ⟨fun hw hue v hv => ?_, fun hlo hhi => ⟨fun hue => store_result h hadr (Nat.mod_one _) hlo hhi (Or.inr hue),
      fun hal hue => store_result h hadr hal hlo hhi (Or.inr hue), fun hal hue => store_result h hadr hal hlo hhi (Or.inr hue),
      fun hal => store_result h hadr hal hlo hhi (Or.inl rfl)⟩,
    fun hal hw hue => ⟨lds_result false h hadr hal hw hue, lds_result true h hadr hal hw hue⟩, fun hal hlo hhi st hst => ?_⟩
  · obtain ⟨h1, h2, h4, h8⟩ := loadExtend_wordPart (workWord l adr) (adr % 8) hv
    exact ⟨load_result h hadr (Nat.mod_one _) hw hue h1, fun hal => load_result h hadr hal hw hue h2,
      fun hal => load_result h hadr hal hw hue h4, fun hal => load_result h hadr hal hw hue h8⟩
  · subst hst
    exact congrArg Host.Outcome.next (lane_completes (.sts d a i) h (laneSts_writes _ hadr hal hlo hhi) rfl)

/-! ### The journal (R126 to R128) -/

theorem LaneState.hit_word (l : LaneState) (o : Nat) : l.hit (o / 8 * 8) = l.hit o := by
  rw [LaneState.hit, Nat.mul_div_cancel _ (by decide)]; rfl

theorem instView_eq (l : LaneState) (e : LaneEnv) (o : Nat) :
    l.instView e o = ((l.journal.find? fun j => j.1 == o / 8 * 8).map fun j => j.2).getD (e.inst (o / 8 * 8)) := by
  unfold LaneState.instView
  cases l.journal.find? fun j => j.1 == o / 8 * 8 <;> rfl

section
variable {s : State} {c : Fin 16} {w : Lane} {x : Execution} {l : LaneState} {d a : BitVec 5} {i : BitVec 16} {size adr : Nat}

theorem iload_result (h : laneIssues s c w x l) (hadr : adr = l.addr a i) (hal : adr % size = 0) (hlo : (s.laneEnv c.val x).winLo ≤ adr)
    (hhi : adr < (s.laneEnv c.val x).winHi) (hb : l.instBlocked (s.laneEnv c.val x) adr = none) {v : DWord}
    (hv : loadExtend (wordPart (l.instView (s.laneEnv c.val x) adr) (adr % 8) size) size = v) :
    ∃ m, Host.Outcome.next (s.laneOp c.val w (.iload size d a i)) = (.next (laneAlone s c w m) : Host.Outcome State Fault Refusal) ∧
      laneWrites l m d v Tag.GOOD (if l.hit adr then 2 else 40) := by
  have he : laneILoad l (s.laneEnv c.val x) size d a i = .ok (l.next.setReg d
      (loadExtend (wordPart (l.instView (s.laneEnv c.val x) adr) (adr % 8) size) size) Tag.GOOD) (if l.hit adr then 2 else 40) := by
    subst hadr
    simp only [laneILoad]
    rw [if_neg (not_not.2 hal), if_neg (by omega), hb]
  exact lane_result (.iload size d a i) _ _ _ _ _ _ _ h he hv rfl rfl

theorem LaneState.fin_journalPut (l : LaneState) (o : Nat) (e : DWord) : (l.journalPut o e).fin = l.fin := by
  unfold LaneState.journalPut
  dsimp only
  split <;> rfl

/-- A word put in the journal, with its words in the signature (R175). -/
theorem laneJournals_put {o n : Nat} {v view e : DWord}
    (he : ∀ j, j < 64 → e.getLsbD j = if 8 * (o % 8) ≤ j ∧ j < 8 * (o % 8) + 8 * size then v.getLsbD (j - 8 * (o % 8)) else view.getLsbD j) :
    laneJournals l { (l.next.journalPut o e).feed [0x1000000000000000 ||| BitVec.ofNat 64 ((2 ^ size - 1) * 2 ^ (o % 8) * 2 ^ 32 + o / 8 * 8 % 2 ^ 32),
      wordMerge 0 v (o % 8) size] with cycles := l.cycles + n } o size v view (l.hit o) n := by
  have hn : l.next.hit (o / 8 * 8) = l.hit o := l.next.hit_word o
  rw [LaneState.feed_two]
  unfold LaneState.journalPut
  dsimp only
  rw [hn]
  cases l.hit o
  · exact ⟨rfl, rfl, rfl, rfl, rfl, e, rfl, he⟩
  · exact ⟨rfl, rfl, rfl, rfl, rfl, e, rfl, he⟩

/-- A store past its checks. -/
theorem laneIStore_writes (e : LaneEnv) (hadr : adr = l.addr a i) (hal : adr % size = 0) (hlo : e.winLo ≤ adr) (hhi : adr < e.winHi)
    (hroom : l.hit adr = true ∨ l.journal.length < 16384) (hb : size = 8 ∨ l.instBlocked e adr = none) :
    laneIStore l e size d a i = .ok ((l.next.journalPut adr (if size = 8 then l.reg d else wordMerge (l.instView e adr) (l.reg d) (adr % 8) size)).feed
      [0x1000000000000000 ||| BitVec.ofNat 64 ((2 ^ size - 1) * 2 ^ (adr % 8) * 2 ^ 32 + adr / 8 * 8 % 2 ^ 32), wordMerge 0 (l.reg d) (adr % 8) size])
      (if size = 8 ∨ l.hit adr then 2 else 40) := by
  subst hadr
  unfold laneIStore
  dsimp only
  rw [if_neg (not_not.2 hal), if_neg (by omega), if_neg]
  · by_cases h8 : size = 8
    · rw [if_pos h8, if_pos h8]
    · rw [if_neg h8, if_neg h8, hb.resolve_left h8]
  · rintro ⟨hn, hfull⟩
    rcases hroom with hh | hl
    · rw [hh] at hn; exact nomatch hn
    · omega

theorem istore_result (h : laneIssues s c w x l) (hadr : adr = l.addr a i) (hal : adr % size = 0) (hlo : (s.laneEnv c.val x).winLo ≤ adr)
    (hhi : adr < (s.laneEnv c.val x).winHi) (hroom : l.hit adr = true ∨ l.journal.length < 16384)
    (hb : size = 8 ∨ l.instBlocked (s.laneEnv c.val x) adr = none) {n : Nat} (hn : (if size = 8 ∨ l.hit adr then 2 else 40) = n) :
    ∃ m, Host.Outcome.next (s.laneOp c.val w (.istore size d a i)) = (.next (laneAlone s c w m) : Host.Outcome State Fault Refusal) ∧
      laneJournals l m adr size (l.reg d) (l.instView (s.laneEnv c.val x) adr) (l.hit adr) n := by
  subst hn
  refine ⟨_, congrArg _ (lane_completes (.istore size d a i) h (laneIStore_writes _ hadr hal hlo hhi hroom hb) (l.next.fin_journalPut _ _)),
    laneJournals_put fun j hj => ?_⟩
  by_cases h8 : size = 8
  · subst h8
    rw [if_pos rfl, hal, if_pos (by omega)]
    rfl
  · rw [if_neg h8]
    exact getLsbD_wordMerge _ _ _ _ hj

end

theorem laneInstanceAccesses : Claim.LaneInstanceAccesses := by
  intro s c w x l d a i adr view hit h hadr hlo hhi hhit hview
  obtain rfl : view = l.instView (s.laneEnv c.val x) adr := hview.trans (instView_eq l (s.laneEnv c.val x) adr).symm
  obtain rfl : hit = l.hit adr := hhit
  refine ⟨fun hb v hv => ?_, fun hroom => ⟨fun hb => istore_result h hadr (Nat.mod_one _) hlo hhi hroom (Or.inr hb) (by simp),
    fun hal hb => istore_result h hadr hal hlo hhi hroom (Or.inr hb) (by simp),
    fun hal hb => istore_result h hadr hal hlo hhi hroom (Or.inr hb) (by simp),
    fun hal => istore_result h hadr hal hlo hhi hroom (Or.inl rfl) (if_pos (Or.inl rfl))⟩⟩
  obtain ⟨h1, h2, h4, h8⟩ := loadExtend_wordPart (l.instView (s.laneEnv c.val x) adr) (adr % 8) hv
  exact ⟨iload_result h hadr (Nat.mod_one _) hlo hhi hb h1, fun hal => iload_result h hadr hal hlo hhi hb h2,
    fun hal => iload_result h hadr hal hlo hhi hb h4, fun hal => iload_result h hadr hal hlo hhi hb h8⟩

end Sys2Proof.Machine
end

section
/-! The obligation about loads and stores. -/
open Sys2Proof Sys2Proof.Machine

/-- Settles O29: each access past its checks, bit by bit of the word it reads or leaves. -/
theorem laneMemory : Obligations.LaneMemory := ⟨laneLoadsAndStores, laneInstanceAccesses⟩

end

section
/-! SUPPORT. Ring slots of a lane (R121, R144 to R146). -/
namespace Sys2Proof.Machine

/-- 32 bytes of SCRATCH that may be reached. -/
theorem quadBlocked_none {adr : Nat} (hal : adr % 32 = 0) (hlo : 0x100000 ≤ adr) (hhi : adr < 0x1E0000) : quadBlocked adr = none := by
  rw [quadBlocked, if_neg (not_not.2 hal), if_neg (by omega)]

theorem quadBlocked_misaligned {adr : Nat} (hal : adr % 32 ≠ 0) : quadBlocked adr = some 3 := if_pos hal

/-- A register write touches the registers and their tags alone. -/
theorem LaneState.setReg_regs_only (l : LaneState) (d : BitVec 5) (v : DWord) (t : Nibble) :
    l.setReg d v t = { l with g := (l.setReg d v t).g, tags := (l.setReg d v t).tags } := by
  unfold LaneState.setReg LaneState.setTag
  split <;> rfl

/-- The four words of a descriptor in working SRAM. -/
def LaneState.setQuad (l : LaneState) (adr : Nat) (q : Descriptor) : LaneState :=
  (((l.setWork adr q.w0).setWork (adr + 8) q.w1).setWork (adr + 16) q.w2).setWork (adr + 24) q.w3

theorem workWord_setWork (l : LaneState) (adr k : Nat) (v : DWord) :
    workWord (l.setWork adr v) k = if k / 8 = adr / 8 then v else workWord l k := sparseGet_set _ _ _ _ _

theorem workWord_setQuad (l : LaneState) {adr : Nat} (q : Descriptor) (hal : adr % 32 = 0) :
    workWord (l.setQuad adr q) adr = q.w0 ∧ workWord (l.setQuad adr q) (adr + 8) = q.w1 ∧ workWord (l.setQuad adr q) (adr + 16) = q.w2 ∧
    workWord (l.setQuad adr q) (adr + 24) = q.w3 ∧ ∀ k, k < adr ∨ adr + 32 ≤ k → workWord (l.setQuad adr q) k = workWord l k := by
  obtain ⟨h1, h2, h3⟩ : (adr + 8) / 8 = adr / 8 + 1 ∧ (adr + 16) / 8 = adr / 8 + 2 ∧ (adr + 24) / 8 = adr / 8 + 3 := by omega
  simp only [LaneState.setQuad, workWord_setWork, h1, h2, h3]
  refine ⟨by simp, by simp, by simp, by simp, fun k hk => ?_⟩
  rw [if_neg (by omega), if_neg (by omega), if_neg (by omega), if_neg (by omega)]

section
variable {s : State} {c : Fin 16} {w : Lane} {x : Execution} {l : LaneState} {d a : BitVec 5} {i : BitVec 12} {n adr : Nat} {q : Descriptor}

/-- An instruction that leaves the lane as `m`, but for the register with its answer. -/
theorem lane_answers (op : LaneOp) {m : LaneState} {v : DWord} {t : Nibble} {k : Nat} (h : laneIssues s c w x l)
    (e : laneEffect l (s.laneEnv c.val x) op = .ok (m.next.setReg d v t) k) (hf : m.fin = l.fin) (hc : m.cycles = l.cycles) :
    ∃ m', Host.Outcome.next (s.laneOp c.val w op) = (.next (laneAlone s c w m') : Host.Outcome State Fault Refusal) ∧ laneWrites m m' d v t k ∧
      m'.work = m.work ∧ m'.workUe = m.workUe ∧ m'.poll = m.poll ∧ m'.put = m.put ∧ m'.sig = m.sig := by
  refine ⟨_, congrArg _ (lane_completes op h e ((LaneState.fin_next_setReg _ _ _ _).trans hf)), hc ▸ laneWrites_setReg m d v t k, ?_⟩
  rw [LaneState.setReg_regs_only]
  exact ⟨rfl, rfl, rfl, rfl, rfl⟩

/-- RPOLL and RPUT answer 0 where nothing is to be had. -/
theorem rpoll_empty (h : laneIssues s c w x l) (hn : n = i.toNat % 256) (hok : (s.laneEnv c.val x).slotOk n false = true)
    (hq : ((s.laneEnv c.val x).rx n)[l.polled n]? = none) :
    ∃ m, Host.Outcome.next (s.laneOp c.val w (.rpoll d a i)) = (.next (laneAlone s c w m) : Host.Outcome State Fault Refusal) ∧
      laneWrites l m d 0 Tag.GOOD 12 := by
  subst hn
  exact lane_result (.rpoll d a i) _ _ _ _ _ _ _ h (by simp only [laneEffect, laneRpoll, hok, if_true, hq]) rfl rfl rfl

theorem rput_full (h : laneIssues s c w x l) (hn : n = i.toNat % 256) (hok : (s.laneEnv c.val x).slotOk n true = true)
    (hk : (s.laneEnv c.val x).free n ≤ (l.puts n).length) :
    ∃ m, Host.Outcome.next (s.laneOp c.val w (.rput d a i)) = (.next (laneAlone s c w m) : Host.Outcome State Fault Refusal) ∧
      laneWrites l m d 0 Tag.GOOD 12 := by
  subst hn
  exact lane_result (.rput d a i) _ _ _ _ _ _ _ h (by simp only [laneEffect, laneRput, hok, if_true, hk]) rfl rfl rfl

/-- The lane after RPOLL has taken a descriptor of slot `n` to SCRATCH, but for the answer (R145). -/
def LaneState.pollTaken (l : LaneState) (n adr : Nat) (q : Descriptor) : LaneState :=
  { l with work := (l.setQuad adr q).work, workUe := (l.setQuad adr q).workUe, poll := sparseSet (fun _ => 0) l.poll n (l.polled n + 1) }

theorem laneRpoll_takes (e : LaneEnv) (hadr : adr = (l.reg a).toNat) (hn : n = i.toNat % 256) (hok : e.slotOk n false = true)
    (hq : (e.rx n)[l.polled n]? = some q) (hb : quadBlocked adr = none) :
    laneRpoll l e d a i = if l.quadUe (e.rxBase n + 32 * l.polled n) then .trap 0xA (e.rxBase n + 32 * l.polled n) 12
      else .ok ((l.pollTaken n adr q).next.setReg d 1 Tag.GOOD) 12 := by
  subst hadr hn
  simp only [laneRpoll, hok, if_true, hq, hb]
  simp only [LaneState.pollTaken, LaneState.setQuad, LaneState.setWork, LaneState.next, LaneState.polled]

/-- The lane after RPUT has put a descriptor on slot `n`, at the word `at'` of RING_TX, with `ws` in the signature, but for the answer (R146,
R175). -/
def LaneState.putDone (l : LaneState) (n at' : Nat) (q : Descriptor) (ws : List DWord) : LaneState :=
  (({ l with put := l.put ++ [(n, q)], rputs := l.rputs + 1 } : LaneState).quadValid at').feed ws

theorem LaneState.putDone_kept (l : LaneState) (n at' : Nat) (q : Descriptor) (ws : List DWord) :
    (l.putDone n at' q ws).fin = l.fin ∧ (l.putDone n at' q ws).cycles = l.cycles := by
  simp only [LaneState.putDone, LaneState.quadValid, LaneState.feed, and_self]

theorem laneRput_puts (e : LaneEnv) {ws : List DWord} (hadr : adr = (l.reg a).toNat) (hn : n = i.toNat % 256) (hok : e.slotOk n true = true)
    (hk : (l.puts n).length < e.free n) (hb : quadBlocked adr = none)
    (hq : q = ⟨workWord l adr, workWord l (adr + 8), workWord l (adr + 16), workWord l (adr + 24)⟩)
    (hws : ws = [0x3000000000000000 ||| BitVec.ofNat 64 (n * 2 ^ 32 + (l.puts n).length), workWord l adr, workWord l (adr + 8),
      workWord l (adr + 16), workWord l (adr + 24)]) :
    laneRput l e d a i = if l.quadUe adr then .trap 0xA adr 12
      else .ok ((l.putDone n (e.txBase n + 32 * (l.puts n).length) q ws).next.setReg d 1 Tag.GOOD) 12 := by
  subst hadr hn
  unfold laneRput
  dsimp only
  rw [if_pos hok, if_neg (Nat.not_le.2 hk), hb]
  dsimp only
  rw [← hq, ← hws]
  rfl

theorem rpoll_takes (h : laneIssues s c w x l) (hadr : adr = (l.reg a).toNat) (hn : n = i.toNat % 256)
    (hok : (s.laneEnv c.val x).slotOk n false = true) (hq : ((s.laneEnv c.val x).rx n)[l.polled n]? = some q) (hal : adr % 32 = 0)
    (hlo : 0x100000 ≤ adr) (hhi : adr < 0x1E0000) (hue : l.quadUe ((s.laneEnv c.val x).rxBase n + 32 * l.polled n) = false) :
    ∃ m, Host.Outcome.next (s.laneOp c.val w (.rpoll d a i)) = (.next (laneAlone s c w m) : Host.Outcome State Fault Refusal) ∧
      laneWrites { l with work := m.work, workUe := m.workUe, poll := m.poll } m d 1 Tag.GOOD 12 ∧
      workWord m adr = q.w0 ∧ workWord m (adr + 8) = q.w1 ∧ workWord m (adr + 16) = q.w2 ∧ workWord m (adr + 24) = q.w3 ∧
      (∀ k, k < adr ∨ adr + 32 ≤ k → workWord m k = workWord l k) ∧ m.polled n = l.polled n + 1 := by
  have he := laneRpoll_takes (d := d) _ hadr hn hok hq (quadBlocked_none hal hlo hhi)
  rw [hue, if_neg Bool.false_ne_true] at he
  obtain ⟨m, hm, hw, hwork, hvalid, hpoll, -, -⟩ := lane_answers (.rpoll d a i) h he rfl rfl
  obtain ⟨m0, m1, m2, m3, mk⟩ := workWord_setQuad l q hal
  have hword : ∀ k, workWord m k = workWord (l.setQuad adr q) k := fun k => by rw [workWord, hwork]; rfl
  refine ⟨m, hm, by rw [hwork, hvalid, hpoll]; exact hw, (hword _).trans m0, (hword _).trans m1, (hword _).trans m2, (hword _).trans m3,
    fun k hk => (hword k).trans (mk k hk), ?_⟩
  rw [LaneState.polled, hpoll]
  exact sparseGet_set_same (fun _ => 0) l.poll n (l.polled n + 1)

theorem rput_puts (h : laneIssues s c w x l) (hadr : adr = (l.reg a).toNat) (hn : n = i.toNat % 256)
    (hok : (s.laneEnv c.val x).slotOk n true = true) (hk : (l.puts n).length < (s.laneEnv c.val x).free n) (hal : adr % 32 = 0)
    (hlo : 0x100000 ≤ adr) (hhi : adr < 0x1E0000) (hue : l.quadUe adr = false) :
    ∃ m, Host.Outcome.next (s.laneOp c.val w (.rput d a i)) = (.next (laneAlone s c w m) : Host.Outcome State Fault Refusal) ∧
      laneWrites { l with put := m.put, rputs := l.rputs + 1, sig := m.sig, workUe := m.workUe } m d 1 Tag.GOOD 12 ∧
      m.put = l.put ++ [(n, ⟨workWord l adr, workWord l (adr + 8), workWord l (adr + 16), workWord l (adr + 24)⟩)] ∧
      ∀ k ∈ m.workUe, k ∈ l.workUe := by
  have he := laneRput_puts (d := d) _ hadr hn hok hk (quadBlocked_none hal hlo hhi) rfl rfl
  rw [hue, if_neg Bool.false_ne_true] at he
  generalize [_, _, _, _, _] = ws at he
  obtain ⟨m, hm, hw, -, hvalid, -, hput, hsig⟩ := lane_answers (.rput d a i) h he (l.putDone_kept _ _ _ _).1 (l.putDone_kept _ _ _ _).2
  refine ⟨m, hm, by rw [hput, hsig, hvalid]; exact hw, hput, fun k hk => ?_⟩
  rw [hvalid] at hk
  exact (List.mem_filter.1 hk).1

/-- A slot that is not the execution's own traps with RING_SLOT unless the address has a lower cause (R142). -/
theorem rpoll_refused {cause : Nat} (h : laneIssues s c w x l) (hadr : adr = (l.reg a).toNat) (hn : n = i.toNat % 256)
    (hok : (s.laneEnv c.val x).slotOk n false = false) (hc : (quadBlocked adr).getD 8 = cause) :
    ∃ t, exec (.rpoll c w d a i) s = .next t ∧ laneTraps s t c w l cause adr 1 := by
  subst hadr hn hc
  exact ⟨_, rfl, lane_traps (.rpoll d a i) h (by simp only [laneEffect, laneRpoll, hok, Bool.false_eq_true, if_false])⟩

theorem rput_refused {cause : Nat} (h : laneIssues s c w x l) (hadr : adr = (l.reg a).toNat) (hn : n = i.toNat % 256)
    (hok : (s.laneEnv c.val x).slotOk n true = false) (hc : (quadBlocked adr).getD 8 = cause) :
    ∃ t, exec (.rput c w d a i) s = .next t ∧ laneTraps s t c w l cause adr 1 := by
  subst hadr hn hc
  exact ⟨_, rfl, lane_traps (.rput d a i) h (by simp only [laneEffect, laneRput, hok, Bool.false_eq_true, if_false])⟩

end

theorem laneRingSlots : Claim.LaneRingSlots := by
  rintro s c w x l _ d a i n adr q h hadr hn rfl
  refine ⟨rpoll_empty h hn, fun hok hq hal hlo hhi => ⟨rpoll_takes h hadr hn hok hq hal hlo hhi, fun hue => ?_⟩, rput_full h hn,
    fun hok hk hal hlo hhi => ⟨rput_puts h hadr hn hok hk hal hlo hhi, fun hue => ?_⟩, fun hal hlo hhi => ?_, fun hal => ?_⟩
  · exact ⟨_, rfl, lane_traps (.rpoll d a i) h ((laneRpoll_takes _ hadr hn hok hq (quadBlocked_none hal hlo hhi)).trans (if_pos hue))⟩
  · exact ⟨_, rfl, lane_traps (.rput d a i) h ((laneRput_puts _ hadr hn hok hk (quadBlocked_none hal hlo hhi) rfl rfl).trans (if_pos hue))⟩
  · have hc := congrArg (Option.getD · 8) (quadBlocked_none hal hlo hhi)
    exact ⟨fun hok => rpoll_refused h hadr hn hok hc, fun hok => rput_refused h hadr hn hok hc⟩
  · have hc := congrArg (Option.getD · 8) (quadBlocked_misaligned hal)
    exact ⟨fun hok => rpoll_refused h hadr hn hok hc, fun hok => rput_refused h hadr hn hok hc⟩

end Sys2Proof.Machine
end

section
/-! SUPPORT. Traps of block code (R125, R142). -/
namespace Sys2Proof.Machine

section
variable {s : State} {c : Fin 16} {w : Lane} {x : Execution} {l : LaneState} {d a : BitVec 5} {i : BitVec 16} {adr : Nat}

theorem laneOp_not_running (op : LaneOp) (h : s.laneRuns c.val w = false) : s.laneOp c.val w op = s := by
  rw [State.laneOp, h]
  rfl

theorem laneIllegal_not_running (word : Word) (h : s.laneRuns c.val w = false) : s.laneIllegal c.val w word = s := by
  rw [State.laneIllegal, h]
  rfl

/-- A fetch that traps ends the lane, whatever the word (R125). -/
theorem fetch_traps (op : LaneOp) {cause : Nat} (h1 : s.laneRuns c.val w = true) (h2 : (s.chamber c.val).exec = some x)
    (h3 : (s.chamber c.val).lane w = l) (h4 : fetchTrap (s.chamber c.val) x l.pc = some cause) :
    laneTraps s (s.laneOp c.val w op) c w l cause l.pc 1 := by
  subst h3
  have e : s.laneOp c.val w op = s.laneDone c.val w (((s.chamber c.val).lane w).trapped cause ((s.chamber c.val).lane w).pc 1) := by
    simp [State.laneOp, h1, State.laneIssue, h2, h4]
  exact e ▸ laneTraps_trapped _ _ _

/-- A word that spells no instruction traps with ILLEGAL. -/
theorem illegal_traps {word : Word} (h : laneIssues s c w x l) (hw : decodeBlock word = none) :
    laneTraps s (s.laneIllegal c.val w word) c w l 1 l.pc 1 := by
  obtain ⟨h1, h2, rfl, h4⟩ := h
  have e : s.laneIllegal c.val w word = s.laneDone c.val w (((s.chamber c.val).lane w).trapped 1 ((s.chamber c.val).lane w).pc 1) := by
    simp [State.laneIllegal, h1, h2, h4, hw]
  exact e ▸ laneTraps_trapped _ _ _

/-- An instruction whose effect is a trap. -/
theorem exec_traps {r : Instr} {op : LaneOp} {cause addr n : Nat} (h : laneIssues s c w x l) (hr : exec r s = .next (s.laneOp c.val w op))
    (e : laneEffect l (s.laneEnv c.val x) op = .trap cause addr n) : ∃ t, exec r s = .next t ∧ laneTraps s t c w l cause addr n :=
  ⟨_, hr, lane_traps op h e⟩

theorem misaligned_traps (h : laneIssues s c w x l) (hal : l.addr a i % 8 ≠ 0) :
    ∀ r ∈ [Instr.ldd c w d a i, .std c w d a i, .ildd c w d a i, .istd c w d a i, .lds c w d a i, .ldsx c w d a i, .sts c w d a i],
      ∃ t, exec r s = .next t ∧ laneTraps s t c w l 3 (l.addr a i) 1 := by
  simp only [List.forall_mem_cons]
  exact ⟨exec_traps h rfl (op := .load 8 d a i) (if_pos hal),
    exec_traps h rfl (op := .store 8 d a i) (if_pos hal),
    exec_traps h rfl (op := .iload 8 d a i) (if_pos hal),
    exec_traps h rfl (op := .istore 8 d a i) (if_pos hal),
    exec_traps h rfl (op := .lds false d a i) (if_pos hal),
    exec_traps h rfl (op := .lds true d a i) (if_pos hal),
    exec_traps h rfl (op := .sts d a i) (if_pos hal), List.forall_mem_nil _⟩

/-- RING_RX and RING_TX are reached by none of these (R122). -/
theorem ringArea_traps (h : laneIssues s c w x l) (hal : l.addr a i % 8 = 0) (hlo : 0x1E0000 ≤ l.addr a i) (hhi : l.addr a i < 0x1F0000) :
    ∀ r ∈ [Instr.ldd c w d a i, .std c w d a i, .lds c w d a i, .ldsx c w d a i, .sts c w d a i],
      ∃ t, exec r s = .next t ∧ laneTraps s t c w l 4 (l.addr a i) 1 := by
  have hal := not_not.2 hal
  simp only [List.forall_mem_cons]
  exact ⟨exec_traps h rfl (op := .load 8 d a i) ((if_neg hal).trans (if_pos hlo)),
    exec_traps h rfl (op := .store 8 d a i) ((if_neg hal).trans (if_pos (Or.inr hlo))),
    exec_traps h rfl (op := .lds false d a i) ((if_neg hal).trans (if_pos (le_trans (by decide) hlo))),
    exec_traps h rfl (op := .lds true d a i) ((if_neg hal).trans (if_pos (le_trans (by decide) hlo))),
    exec_traps h rfl (op := .sts d a i) ((if_neg hal).trans (if_pos (Or.inl hhi))), List.forall_mem_nil _⟩

theorem window_traps (h : laneIssues s c w x l) (hal : l.addr a i % 8 = 0)
    (hw : l.addr a i < (s.laneEnv c.val x).winLo ∨ (s.laneEnv c.val x).winHi ≤ l.addr a i) :
    ∀ r ∈ [Instr.ildd c w d a i, .istd c w d a i], ∃ t, exec r s = .next t ∧ laneTraps s t c w l 5 (l.addr a i) 1 := by
  have hal := not_not.2 hal
  simp only [List.forall_mem_cons]
  exact ⟨exec_traps h rfl (op := .iload 8 d a i) ((if_neg hal).trans (if_pos hw)),
    exec_traps h rfl (op := .istore 8 d a i) ((if_neg hal).trans (if_pos hw)), List.forall_mem_nil _⟩

/-- A new entry in a full journal (R128). -/
theorem journalFull_traps (h : laneIssues s c w x l) (hal : l.addr a i % 8 = 0) (hlo : (s.laneEnv c.val x).winLo ≤ l.addr a i)
    (hhi : l.addr a i < (s.laneEnv c.val x).winHi) (hfull : l.journal.length = 16384) (hmiss : ∀ e ∈ l.journal, e.1 ≠ l.addr a i) :
    ∃ t, exec (.istd c w d a i) s = .next t ∧ laneTraps s t c w l 6 (l.addr a i) 1 := by
  have hhit : l.hit (l.addr a i) = false := by
    rw [LaneState.hit, List.any_eq_false]
    intro e he
    have := hmiss e he
    simp only [beq_iff_eq]
    omega
  refine exec_traps h rfl (op := .istore 8 d a i) ((if_neg (not_not.2 hal)).trans ((if_neg (by omega)).trans (if_pos ⟨?_, hfull.ge⟩)))
  rw [hhit]
  rfl

end

theorem laneTraps_of_block_code : Claim.LaneTraps := by
  intro s c w x l d a i adr word
  refine ⟨fun h => ?_, fun h1 h2 h3 => ⟨fun hr => ?_, fun hlo hhi hal => ?_⟩, fun h hadr => ?_⟩
  · exact ⟨congrArg Host.Outcome.next (laneIllegal_not_running word h), congrArg Host.Outcome.next (laneOp_not_running .endOp h),
      congrArg Host.Outcome.next (laneOp_not_running (.store 8 d a i) h), congrArg Host.Outcome.next (laneOp_not_running (.istore 8 d a i) h),
      congrArg Host.Outcome.next (laneOp_not_running (.sts d a i) h)⟩
  · exact ⟨_, rfl, fetch_traps .endOp h1 h2 h3 (if_pos hr)⟩
  · exact ⟨_, rfl, fetch_traps .endOp h1 h2 h3 ((if_neg (by omega)).trans (if_pos hal))⟩
  · obtain rfl : adr = l.addr a i := hadr
    exact ⟨fun hw => ⟨_, rfl, illegal_traps h hw⟩, misaligned_traps h, ringArea_traps h,
      fun hal hlo => exec_traps h rfl (op := .store 8 d a i) ((if_neg (not_not.2 hal)).trans (if_pos (Or.inl hlo))), window_traps h,
      journalFull_traps h⟩

end Sys2Proof.Machine
end

section
/-! The obligation about ring slots and traps. -/
open Sys2Proof Sys2Proof.Machine

/-- Settles O30: the slot's own checks first; and the traps by the first check of the instruction that fails. -/
theorem laneRingsAndTraps : Obligations.LaneRingsAndTraps := ⟨laneRingSlots, laneTraps_of_block_code⟩

end

section
/-! SUPPORT. Ordered Lifeline frames in their turn (R221, R222), and what those of a cycle do (R145, R227, R228, R230, R240). -/
namespace Sys2Proof.Machine

variable {s : State} {h : LLHeader}

/-- A sender that is seen SYNCED, or sent before S_J, leaves the receiver as it is (R220). -/
theorem partnerSync_kept (hs : ¬(s.ll = .synced ∧ h.sync = false ∧ s.pair.syncAt ≤ h.txTime)) : s.partnerSync h = s := if_neg hs

/-- An ordered frame is no TIME and none that is delivered as it arrives (R221, R222, R457). -/
def ordered (f : Instr) : Prop := ∀ u : State, u.delayed f = u.tpActive 0 ∧ u.atOnce f = false

/-- An ordered frame in its turn is delivered, and those that waited for it follow (R222). -/
theorem llRx_due {f : Instr} (hf : ordered f) (hd : frameDue s (frameHeader f) (frameType f)) :
    s.llRx f = framesFollow ((frameTaken s (frameHeader f)).deliver f) := by
  obtain ⟨hlinked, hgate, htp, ⟨hok, htype, hsync⟩, hnum⟩ := hd
  have hup : s.ll ≠ .down := fun e => by simp [State.linked, e] at hlinked
  have hgood : frameGood (frameHeader f) f = true := by rw [frameGood, hok, htype]; simp
  have hin : s.frameIn (frameHeader f) f = (frameSeen s).orderedIn (frameHeader f).frameNum f := by
    rw [State.frameIn, hgood]
    dsimp only
    rw [partnerSync_kept (s := { s with pair := { s.pair with lastFrameNs := s.nowNs } }) hsync, (hf _).2]
    exact (if_pos hlinked)
  rw [State.llRx, if_neg (not_or.2 ⟨hup, not_not.2 hgate⟩), (hf s).1, htp, if_neg Bool.false_ne_true, hin, State.orderedIn]
  exact if_pos hnum

theorem exec_image_due (b : ImageBody) (hd : frameDue s h 3) :
    exec (.image h b) s = .next (framesFollow ((frameTaken s h).imageIn b)) :=
  congrArg Host.Outcome.next (llRx_due (f := .image h b) (fun _ => ⟨rfl, rfl⟩) hd)

theorem exec_outcome_due (b : OutcomeBody) (hd : frameDue s h 4) :
    exec (.outcome h b) s = .next (framesFollow ((frameTaken s h).outcomeIn b)) :=
  congrArg Host.Outcome.next (llRx_due (f := .outcome h b) (fun _ => ⟨rfl, rfl⟩) hd)

theorem exec_journal_due (b : JournalBody) (hd : frameDue s h 5) :
    exec (.journal h b) s = .next (framesFollow ((frameTaken s h).journalIn b)) :=
  congrArg Host.Outcome.next (llRx_due (f := .journal h b) (fun _ => ⟨rfl, rfl⟩) hd)

theorem exec_duplex_due (b : DuplexBody) (hd : frameDue s h 6) :
    exec (.duplex h b) s = .next (framesFollow ((frameTaken s h).duplexIn b)) :=
  congrArg Host.Outcome.next (llRx_due (f := .duplex h b) (fun _ => ⟨rfl, rfl⟩) hd)

/-! ### What a frame of a cycle does in each role -/

theorem imageIn_shadow {b : ImageBody} (hr : s.taskRole b.task = .shadow) (hc : s.cyc b.task = b.cyc) (ha : b.asyncImages = []) (hm : b.moved = [])
    (hf : b.free = []) : s.imageIn b = b.beats.foldl (fun u x => u.takeBeat b.task x) s := by
  rw [State.imageIn, if_pos ⟨hr, hc⟩, ha, hm, hf]
  rfl

theorem imageIn_elsewhere {b : ImageBody} (hn : s.taskRole b.task ≠ .shadow ∨ s.cyc b.task ≠ b.cyc) : s.imageIn b = s :=
  if_neg fun hc => hn.elim (fun hr => hr hc.1) fun hy => hy hc.2

theorem outcomeIn_awaited {b : OutcomeBody} (ha : s.awaitsOutcome b.task = true) (hc : s.cyc b.task = b.cyc) : s.outcomeIn b =
    (s.setTask b.task { s.task b.task with partnerOutcome := some b.outcome, partnerJournal := some (b.bytes, b.crc) }).settle b.task :=
  if_pos (by rw [ha, hc, beq_self_eq_true]; rfl)

theorem outcomeIn_elsewhere {b : OutcomeBody} (hn : s.awaitsOutcome b.task = false ∨ s.cyc b.task ≠ b.cyc) : s.outcomeIn b = s := by
  refine if_neg ?_
  rw [Bool.and_eq_true, beq_iff_eq]
  rintro ⟨ha, hc⟩
  exact hn.elim (fun hf => Bool.false_ne_true (hf.symm.trans ha)) fun hy => hy hc

/-- A JOURNAL frame without deltas brings its entries alone, to the areas while no cycle of the task has begun (R240). -/
theorem joinStream_entries {b : JournalBody} (hs : b.staging = []) (hg : b.signals = []) :
    s.joinStream b = if (s.task b.task).t0 = 0 then s.commitWords 0 b.entries else s := by
  rw [State.joinStream, hs, hg]
  rfl

theorem journalIn_joining {b : JournalBody} (hr : s.role = .joining) (hs : b.staging = []) (hg : b.signals = []) (ht : (s.task b.task).t0 = 0) :
    s.journalIn b = s.commitWords 0 b.entries :=
  (if_pos hr).trans ((joinStream_entries hs hg).trans (if_pos ht))

theorem journalIn_shadow {b : JournalBody} (hr : s.role = .shadow) (hk : s.taskRole b.task = .shadow) (hs : b.staging = []) (hg : b.signals = [])
    (ht : (s.task b.task).t0 ≠ 0) (hc : s.cyc b.task = b.cyc) : s.journalIn b =
    (s.setTask b.task { s.task b.task with stream := (s.task b.task).stream ++ b.entries }).settle b.task := by
  have hj : s.joinStream b = s := (joinStream_entries hs hg).trans (if_neg ht)
  rw [State.journalIn, if_neg (by rw [hr]; decide), if_pos (Or.inl hr), hj]
  exact if_pos ⟨hk, ht, hc⟩

theorem journalIn_elsewhere {b : JournalBody} (hr : s.role = .solo ∨ s.role = .lead) (hk : s.taskRole b.task ≠ .shadow) : s.journalIn b = s := by
  have hrole : s.role ≠ .joining ∧ s.role ≠ .shadow := by rcases hr with hr | hr <;> rw [hr] <;> decide
  exact (if_neg hrole.1).trans (if_neg (not_or.2 ⟨hrole.2, hk⟩))

end Sys2Proof.Machine
end

section
/-! The obligation about the frames of a pair's cycle. -/
open Sys2Proof Sys2Proof.Machine

/-- Settles O51: each frame in its turn is taken and then acts by role and cycle, which taking it does not touch. -/
theorem pairCycleFrames : Obligations.PairCycleFrames := by
  intro s h
  refine ⟨fun b hd hr hc ha hm hf => ?_, fun _ _ _ _ _ => rfl, fun b hd hn => ?_, fun b hd ha hc => ?_, fun b hd hn => ?_,
    fun b hd hr hs hg ht => ?_, fun b hd hr hk hs hg ht hc => ?_, fun b hd hr hk => ?_, fun b hd hl => ?_, fun b hd hl => ?_⟩
  · rw [exec_image_due b hd, imageIn_shadow (s := frameTaken s h) hr hc ha hm hf]
  · rw [exec_image_due b hd, imageIn_elsewhere (s := frameTaken s h) hn]
  · rw [exec_outcome_due b hd, outcomeIn_awaited (s := frameTaken s h) ha hc]
    rfl
  · rw [exec_outcome_due b hd, outcomeIn_elsewhere (s := frameTaken s h) hn]
  · rw [exec_journal_due b hd, journalIn_joining (s := frameTaken s h) hr hs hg ht]
  · rw [exec_journal_due b hd, journalIn_shadow (s := frameTaken s h) hr hk hs hg ht hc]
    rfl
  · rw [exec_journal_due b hd, journalIn_elsewhere (s := frameTaken s h) hr hk]
  · rw [exec_duplex_due b hd, State.duplexIn, if_pos (show (frameTaken s h).ll = .synced from hl)]
  · rw [exec_duplex_due b hd, State.duplexIn, if_neg (show ¬(frameTaken s h).ll = .synced from hl)]

end

section
/-! SUPPORT. A chamber that fails in a re-execution while the survey names a spare that no module has: no state's survey is bound to the
checks of R117. The register of a chamber of that number is LS_FAILED itself. -/
namespace Sys2Proof.Machine

/-- A relocation variant of chamber 8 whose spare is so high that its GAL_CH_STAT is the word of LS_FAILED. -/
def strayVariant : RelocVariant := ⟨0, 8, 0x80C0, 0, [], []⟩

/-- A survey that holds this variant and nothing else. -/
def straySurvey : Survey where
  header := ⟨0x56525553, 1, 0, 2048, 0, 0, 7, 6, 4, 0, 3, 0x100, 0, 0, 0, 0, 0, 0, [], 0⟩
  dir := []
  trailer := ⟨0x47495353, 0, 0, 0, 0, 0, 0, 0, true, true, true⟩
  digest := 0
  tasks := []
  slots := []
  code := []
  fabric := []
  triggers := []
  frameSlots := []
  drips := []
  signals := []
  layout := []
  variants := [strayVariant]
  migration := []
  canMap := []
  ringSlots := []
  initValues := []

/-- A re-execution of task 0 in chamber 8. -/
def strayExecution : Execution := ⟨0, 0, 0, false, 0, 0, 0, 0, 0, 0, 0, 8, true, 0⟩

/-- The lanes of chamber 8 have ended with unequal signatures. -/
def strayChamber : Chamber :=
  { Chamber.reset with main := { LaneState.reset with sig := 1 }, exec := some strayExecution, mmDone := true }

/-- A module under that survey whose chamber 8 compares. -/
def strayFailure : State :=
  ({ State.reset with banks := [(0, ⟨some straySurvey⟩)], chambers := [(8, strayChamber)] } : State).setChState 8 Ch.COMPARING

/-- The variant number of the spare, 0, goes over bits 8 to 11 of LS_FAILED. -/
theorem compare_strayFailure_FAILED : (strayFailure.compare 8 []).get ⟨Reg.LS_FAILED, 8, 1⟩ = 0 := by decide +kernel

end Sys2Proof.Machine
end

section
/-! The obligation about executions and comparisons. -/
open Sys2Proof Sys2Proof.Machine

/-- Refutes O32: a chamber that fails in a re-execution is to stand in LS_FAILED, but a survey is free to name a spare whose number is no
chamber's. Its claim puts the variant's number into the status word of that number, which for spare 0x80C0 is LS_FAILED. -/
theorem not_executionAndComparison : ¬ Obligations.ExecutionAndComparison := by
  rintro ⟨_, hcompared⟩
  obtain ⟨_, hcomparing⟩ := hcompared strayFailure 8 strayExecution strayChamber.main strayChamber.checker [] rfl rfl rfl rfl rfl
  obtain ⟨u, hu, _, _, _, _, _, hfails, _⟩ := hcomparing rfl
  have hu : strayFailure.compare 8 [] = u := Host.Outcome.next.inj hu
  obtain ⟨_, hfailed, _⟩ := hfails (by decide) rfl
  rw [← hu] at hfailed
  exact absurd (hfailed.symm.trans compare_strayFailure_FAILED) Nat.one_ne_zero

end

section
/-! SUPPORT. Commands to tasks and their statistics (R168, R169, R189, R469). -/
namespace Sys2Proof.Machine

variable (s : State) {t : Nat} {v : Word}

/-! ### SEQ_TASK_CTRL (R469) -/

/-- The action bits of SEQ_TASK_CTRL[t]. -/
def taskActions (t : Nat) : List RegField := [Fld.SEQ_TASK_CTRL_RESUME t, Fld.SEQ_TASK_CTRL_HOLD_REQ t, Fld.SEQ_TASK_CTRL_CLR_STATS t]

theorem seqTaskCtrlWrite_of_two (h : 2 ≤ ((taskActions t).filter fun f => f.on v).length) : s.seqTaskCtrlWrite t v = s :=
  if_pos (decide_eq_true h)

theorem seqTaskCtrlWrite_of_resume (hr : (Fld.SEQ_TASK_CTRL_RESUME t).on v = true) (hh : (Fld.SEQ_TASK_CTRL_HOLD_REQ t).on v = false)
    (hc : (Fld.SEQ_TASK_CTRL_CLR_STATS t).on v = false) : s.seqTaskCtrlWrite t v = s.taskResumeCommand t := by
  simp [State.seqTaskCtrlWrite, State.actions, actionClash, actionCount, hr, hh, hc]

theorem seqTaskCtrlWrite_of_hold (hr : (Fld.SEQ_TASK_CTRL_RESUME t).on v = false) (hh : (Fld.SEQ_TASK_CTRL_HOLD_REQ t).on v = true)
    (hc : (Fld.SEQ_TASK_CTRL_CLR_STATS t).on v = false) : s.seqTaskCtrlWrite t v = s.taskHoldCommand t := by
  simp [State.seqTaskCtrlWrite, State.actions, actionClash, actionCount, hr, hh, hc]

theorem seqTaskCtrlWrite_of_clear (hr : (Fld.SEQ_TASK_CTRL_RESUME t).on v = false) (hh : (Fld.SEQ_TASK_CTRL_HOLD_REQ t).on v = false)
    (hc : (Fld.SEQ_TASK_CTRL_CLR_STATS t).on v = true) : s.seqTaskCtrlWrite t v = s.taskClrStats t := by
  simp [State.seqTaskCtrlWrite, State.actions, actionClash, actionCount, hr, hh, hc]

/-! ### Holds and resumptions (R168, R169) -/

/-- A hold of a running task waits for its EMIT; one that waits already stands. -/
theorem holdTask_of_running (h : s.taskRunning t = true) (cause : Nat) : s.holdTask t cause =
    if (s.task t).holdPending = none then s.setTask t { s.task t with holdPending := some cause } else s := by
  have hs : s.get (Fld.SEQ_TASK_STAT_STATE t) = 1 := beq_iff_eq.1 h
  unfold State.holdTask
  rw [if_neg (by omega)]
  dsimp only
  split <;> simp_all

theorem taskHoldCommand_of_lead (hl : s.ll = .synced) (hr : s.role = .lead) (h : s.taskRunning t = true) : s.taskHoldCommand t =
    (s.setTask t { s.task t with holdEffective := some (s.cyc t + 4) }).emit (.lifeline (.command (.holdTask t (some (s.cyc t + 4))))) := by
  simp [State.taskHoldCommand, hl, hr, h]

theorem taskHoldCommand_of_shadow (hl : s.ll = .synced) (hr : s.role = .shadow) :
    s.taskHoldCommand t = s.emit (.lifeline (.command (.holdTask t none))) := if_pos ⟨hl, hr⟩

theorem taskHoldCommand_alone (hl : s.ll ≠ .synced) : s.taskHoldCommand t = if s.taskRunning t then s.holdTask t 5 else s := by
  simp [State.taskHoldCommand, hl]

theorem taskResumeCommand_alone (hl : s.ll ≠ .synced) : s.taskResumeCommand t =
    if s.get (Fld.SEQ_TASK_STAT_STATE t) = 2 ∧ s.taskBlocked t = false then s.taskResumeAt t (some (s.nextBoundary 0)) else s := by
  simp [State.taskResumeCommand, hl]

@[simp] theorem State.task_putAll (l : List (RegField × Nat)) (t : Nat) : (s.putAll l).task t = s.task t :=
  congrArg (fun m => sparseGet (fun _ => TaskState.reset) m t) (s.putAll_tasks l)

/-- The boundary of a resumption has come, or none is fixed. -/
theorem boundaryReached_iff : (s.task t).resumeEffective.all (fun b => decide (b ≤ s.nowNs)) = true ↔
    ∀ b, (s.task t).resumeEffective = some b → b ≤ s.nowNs := by
  cases (s.task t).resumeEffective <;> simp

theorem taskResumed_of_boundary (h3 : s.get (Fld.SEQ_TASK_STAT_STATE t) = 3) (hb : ∀ b, (s.task t).resumeEffective = some b → b ≤ s.nowNs) :
    ((s.taskResumed t).task t).firstScan = true ∧ (s.taskResumed t).get (Fld.SEQ_TASK_STAT_STATE t) = 1 ∧
      (s.taskResumed t).get (Fld.SEQ_TASK_STAT_HOLD_CAUSE t) = 0 ∧ (s.taskResumed t).inst = s.inst ∧ (s.taskResumed t).chambers = s.chambers := by
  unfold State.taskResumed
  rw [if_pos ⟨h3, (boundaryReached_iff s).2 hb⟩]
  extract_lets k u
  have hfirst : (u.task t).firstScan = true := congrArg TaskState.firstScan (s.task_setTask_same t _)
  refine ⟨(congrArg TaskState.firstScan (u.task_putAll _ t)).trans hfirst, ?_, ?_, u.putAll_inst _, u.putAll_chambers _⟩
  · simp only [State.putAll_cons, State.putAll_nil]
    rw [State.get_put_apart _ (Fld.SEQ_TASK_STAT_HELD_RUN t) (Fld.SEQ_TASK_STAT_STATE t) (Or.inr (Or.inr (show 2 ≤ 4 by decide))),
      State.get_put_apart _ (Fld.SEQ_TASK_STAT_HOLD_CAUSE t) (Fld.SEQ_TASK_STAT_STATE t) (Or.inr (Or.inr (show 2 ≤ 12 by decide)))]
    exact u.get_put_same (Fld.SEQ_TASK_STAT_STATE t) (show 0 + 2 ≤ 32 by decide) 1
  · simp only [State.putAll_cons, State.putAll_nil]
    rw [State.get_put_apart _ (Fld.SEQ_TASK_STAT_HELD_RUN t) (Fld.SEQ_TASK_STAT_HOLD_CAUSE t) (Or.inr (Or.inl (show 4 + 8 ≤ 12 by decide)))]
    exact State.get_put_same _ (Fld.SEQ_TASK_STAT_HOLD_CAUSE t) (show 12 + 4 ≤ 32 by decide) 0

theorem taskResumed_of_early {b : Nat} (hb : (s.task t).resumeEffective = some b) (hn : s.nowNs < b) : s.taskResumed t = s :=
  if_neg fun h => absurd ((boundaryReached_iff s).1 h.2 b hb) (Nat.not_le.2 hn)

theorem taskResumed_of_other_state (h : s.get (Fld.SEQ_TASK_STAT_STATE t) ≠ 3) : s.taskResumed t = s := if_neg fun k => h k.1

/-! ### Clears (R469) -/

theorem taskClrStats_clears : regsOnly s (s.taskClrStats t) [Reg.SEQ_TASK_SKIPS t, Reg.SEQ_TASK_OVERRUNS t, Reg.SEQ_TASK_RECOVERED t,
      Reg.SEQ_TASK_LATE t, Reg.SEQ_TASK_MARGIN t] ∧
    (s.taskClrStats t).getReg (Reg.SEQ_TASK_SKIPS t) = 0 ∧ (s.taskClrStats t).getReg (Reg.SEQ_TASK_OVERRUNS t) = 0 ∧
    (s.taskClrStats t).getReg (Reg.SEQ_TASK_RECOVERED t) = 0 ∧ (s.taskClrStats t).getReg (Reg.SEQ_TASK_LATE t) = 0 ∧
    (s.taskClrStats t).getReg (Reg.SEQ_TASK_MARGIN t) = 0xFFFFFFFF := by
  refine ⟨?_, ?_⟩
  · exact (((regsOnly_setReg s _ 0).trans (regsOnly_setReg _ _ 0)).trans ((regsOnly_setReg _ _ 0).trans (regsOnly_setReg _ _ 0))).trans
      (regsOnly_setReg _ _ 0xFFFFFFFF)
  · simp [State.taskClrStats, State.getReg_setReg, Reg.SEQ_TASK_SKIPS, Reg.SEQ_TASK_OVERRUNS, Reg.SEQ_TASK_RECOVERED, Reg.SEQ_TASK_LATE,
      Reg.SEQ_TASK_MARGIN]

/-- Nothing but registers changes. -/
def regsAlone (s u : State) : Prop := { u with regs := s.regs } = s

theorem regsAlone.trans {s u w : State} (h : regsAlone s u) (k : regsAlone u w) : regsAlone s w := by
  unfold regsAlone at *
  rw [← k] at h
  exact h

theorem regsAlone.foldl {α : Type} {f : State → α → State} (h : ∀ u x, regsAlone u (f u x)) (l : List α) (s : State) :
    regsAlone s (l.foldl f s) := by
  induction l generalizing s with
  | nil => rfl
  | cons x l ih => exact (h s x).trans (ih (f s x))

theorem regsAlone_setReg (a : Nat) (v : BitVec 32) : regsAlone s (s.setReg a v) := rfl

theorem regsAlone_regStore (a : Nat) (v : Word) : regsAlone s (s.regStore a v) := (regsOnly_regStore s a v).1

theorem regsAlone_dozeAuto (was : Bool) : regsAlone s (s.dozeAuto was) := by
  unfold State.dozeAuto
  dsimp only
  split
  · rfl
  · refine regsAlone.foldl (fun u c => ?_) _ s
    (repeat' split) <;> rfl

/-- What one step of a fold sets up, and every step keeps, holds at its end. -/
theorem foldl_establishes {α : Type} {P : State → Prop} {f : State → α → State} {l : List α} {x : α} (hx : x ∈ l) (he : ∀ u, P (f u x))
    (hk : ∀ u y, P u → P (f u y)) (s : State) : P (l.foldl f s) := by
  have hkeep : ∀ (l : List α) u, P u → P (l.foldl f u) := fun l => by
    induction l with
    | nil => exact fun _ h => h
    | cons y l ih => exact fun u h => ih _ (hk u y h)
  induction l generalizing s with
  | nil => exact absurd hx List.not_mem_nil
  | cons y l ih =>
    rcases List.mem_cons.1 hx with rfl | hx
    · exact hkeep l _ (he s)
    · exact ih hx (f s y)

/-- The statistics of a chamber are cleared. -/
def statsCleared (c : Nat) (u : State) : Prop :=
  u.getReg (Reg.GAL_CH_MAXCYC c) = 0 ∧ u.getReg (Reg.GAL_CH_JMAX c) = 0 ∧ u.getReg (Reg.GAL_CH_ECC c) = 0

theorem galCtrlWrite_clears (h : Fld.GAL_CTRL_CLR_STATS.on v = true) {c : Nat} (hc : c < 16) :
    regsAlone s (s.galCtrlWrite v) ∧ statsCleared c (s.galCtrlWrite v) := by
  unfold State.galCtrlWrite
  dsimp only
  rw [if_pos h]
  constructor
  · exact ((regsAlone_regStore s _ v).trans (regsAlone_dozeAuto _ _)).trans (regsAlone.foldl (fun u d =>
      ((regsAlone_setReg u _ 0).trans (regsAlone_setReg _ _ 0)).trans (regsAlone_setReg _ _ 0)) _ _)
  · refine foldl_establishes (List.mem_range.2 hc) (fun u => ?_) (fun u d hu => ?_) _
    · simp [statsCleared, State.getReg_setReg]
    · obtain ⟨h1, h2, h3⟩ := hu
      simp [statsCleared, State.getReg_setReg, h1, h2, h3]

/-! ### The rate of mismatches (R189) -/

theorem mismatchLeak_of_still {c : Nat} (h : c ∉ s.ls.leaking) : s.mismatchLeak c = s := if_neg (by simpa using h)

theorem mismatchLeak_of_leaking {c : Nat} (h : c ∈ s.ls.leaking) :
    (s.mismatchLeak c).get (Fld.LS_CH_RATE_LEVEL c) = s.get (Fld.LS_CH_RATE_LEVEL c) - 1 ∧
      (s.get (Fld.LS_CH_RATE_LEVEL c) ≤ 1 ↔ c ∉ (s.mismatchLeak c).ls.leaking) := by
  unfold State.mismatchLeak
  rw [if_pos (List.contains_iff_mem.2 h)]
  extract_lets v u
  have hv : v < 2 ^ (Fld.LS_CH_RATE_LEVEL c).width := Nat.lt_of_le_of_lt (Nat.sub_le _ _) (Nat.mod_lt _ (Nat.two_pow_pos _))
  have hget : u.get (Fld.LS_CH_RATE_LEVEL c) = v := (s.get_put_same (Fld.LS_CH_RATE_LEVEL c) (show 0 + 8 ≤ 32 by decide) v).trans (Nat.mod_eq_of_lt hv)
  split
  · rename_i h0
    exact ⟨hget, by simp; omega⟩
  · rename_i h0
    exact ⟨hget, ⟨fun hle => absurd (by omega) h0, fun hn => absurd h hn⟩⟩

end Sys2Proof.Machine
end

section
/-! The obligation about held tasks and statistics. -/
open Sys2Proof Sys2Proof.Machine

/-- Settles O35: each write of SEQ_TASK_CTRL is the command of its one action bit, and each command is what its own lemma says. -/
theorem taskHoldsAndStatistics : Obligations.TaskHoldsAndStatistics := by
  intro s t c v
  refine ⟨fun h => ?_, fun hh hr hc => ?_, fun hr hh hc hl => ?_, fun h3 hb => ?_, fun b hb hn => ?_, fun h => ?_, fun hc hh hr => ?_,
    fun h => ?_, fun h => ?_, fun h => ?_⟩
  · exact ⟨congrArg _ (seqTaskCtrlWrite_of_two s h), congrArg _ (seqTaskCtrlWrite_of_two s h), congrArg _ (seqTaskCtrlWrite_of_two s h)⟩
  · have hw : exec (.taskHoldReq t v) s = .next (s.taskHoldCommand t) := congrArg _ (seqTaskCtrlWrite_of_hold s hr hh hc)
    rw [hw]
    refine ⟨fun hl hrun => ?_, fun hl hl' hrun => ?_, fun hl hl' => ?_, fun hl hrun => ?_⟩
    · rw [taskHoldCommand_alone s hl, if_pos hrun, holdTask_of_running s hrun]
    · rw [taskHoldCommand_of_lead s hl hl' hrun]
    · rw [taskHoldCommand_of_shadow s hl hl']
    · rw [taskHoldCommand_alone s hl, if_neg (by simp [hrun])]
  · have hw : exec (.taskResume t v) s = .next (s.taskResumeCommand t) := congrArg _ (seqTaskCtrlWrite_of_resume s hr hh hc)
    rw [hw, taskResumeCommand_alone s hl]
    refine ⟨fun h2 hb => ?_, fun h => ?_⟩
    · rw [if_pos ⟨h2, hb⟩, State.taskResumeAt]
    · rw [if_neg]
      rintro ⟨h2, hb⟩
      rcases h with h | h
      · exact h h2
      · exact Bool.false_ne_true (hb.symm.trans h)
  · exact ⟨_, rfl, taskResumed_of_boundary s h3 hb⟩
  · exact congrArg _ (taskResumed_of_early s hb hn)
  · exact congrArg _ (taskResumed_of_other_state s h)
  · exact ⟨_, congrArg Host.Outcome.next (seqTaskCtrlWrite_of_clear s hr hh hc), taskClrStats_clears s⟩
  · exact ⟨_, rfl, galCtrlWrite_clears s h c.isLt⟩
  · exact congrArg _ (mismatchLeak_of_still s h)
  · exact ⟨_, rfl, mismatchLeak_of_leaking s h⟩

end

section
/-! SUPPORT. The pace of the task cycles: what the reports and reactions of the module (R232, R376, R380, R391) leave of the task table, the
sequencer's status, the stored instances and the yield watch. -/
namespace Sys2Proof.Machine

/-! ### The relation -/

/-- A field of the sequencer's status, of a cycle count or of a task status. -/
def RegField.sequenced (f : RegField) : Prop := 0x400A0040 ≤ f.addr ∧ f.addr < 0x400A0100

/-- From `s` to `t` mode, stored instances, tasks, ready journals and sequenced fields stay, a yield watch does not begin, and no task comes to
have a tail. With `k` the chambers stay too, a Lifeline that is not SYNCED stays so, and a module in SOLO stays there. -/
structure paced (k : Bool) (s t : State) : Prop where
  mode : t.mode = s.mode
  inst : t.inst = s.inst
  tasks : t.tasks = s.tasks
  seq : t.seq = s.seq
  field : ∀ f : RegField, f.sequenced → t.get f = s.get f
  watch : s.pair.watchLeft = 0 → t.pair.watchLeft = 0
  tail : ∀ x, x ∉ s.olc.tail → x ∉ t.olc.tail
  unsynced : k = true → s.ll ≠ .synced → t.ll ≠ .synced
  solo : k = true → s.role = .solo → t.role = .solo
  chambers : k = true → t.chambers = s.chambers

variable {k : Bool} {s t u : State}

theorem paced.refl (s : State) : paced k s s := ⟨rfl, rfl, rfl, rfl, fun _ _ => rfl, id, fun _ => id, fun _ => id, fun _ => id, fun _ => rfl⟩

theorem paced.trans (h : paced k s t) (g : paced k t u) : paced k s u where
  mode := g.mode.trans h.mode
  inst := g.inst.trans h.inst
  tasks := g.tasks.trans h.tasks
  seq := g.seq.trans h.seq
  field f hf := (g.field f hf).trans (h.field f hf)
  watch := g.watch ∘ h.watch
  tail x := g.tail x ∘ h.tail x
  unsynced e := g.unsynced e ∘ h.unsynced e
  solo e := g.solo e ∘ h.solo e
  chambers e := (g.chambers e).trans (h.chambers e)

theorem paced.ite {c : Prop} [Decidable c] (h : paced k s t) : paced k s (if c then t else s) := by
  split
  · exact h
  · exact paced.refl s

theorem paced.foldl {α : Type} {f : State → α → State} (l : List α) (h : ∀ u, ∀ x ∈ l, paced k u (f u x)) (s : State) : paced k s (l.foldl f s) := by
  induction l generalizing s with
  | nil => exact paced.refl s
  | cons x l ih => exact (h s x List.mem_cons_self).trans (ih (fun u y hy => h u y (List.mem_cons_of_mem x hy)) (f s x))

theorem paced.task (h : paced k s t) (n : Nat) : t.task n = s.task n := by rw [State.task, State.task, h.tasks]

/-! ### Fields -/

/-- All that `paced` speaks of, with every register. -/
def State.pace (s : State) : Mode × InstState × List (Nat × TaskState) × SeqState × List (Nat × Chamber) × List (Nat × BitVec 32) × Nat × List Nat :=
  (s.mode, s.inst, s.tasks, s.seq, s.chambers, s.regs, s.pair.watchLeft, s.olc.tail)

theorem role_of_get (h : t.get Fld.PAIR_STAT_ROLE = s.get Fld.PAIR_STAT_ROLE) : t.role = s.role := by simp only [State.role, h]

theorem ll_of_get (h : t.get Fld.PAIR_STAT_LL_STATE = s.get Fld.PAIR_STAT_LL_STATE) : t.ll = s.ll := by simp only [State.ll, h]

theorem paced.of_pace (h : t.pace = s.pace) : paced k s t := by
  simp only [State.pace, Prod.mk.injEq] at h
  obtain ⟨hm, hi, ht, hs, hc, hr, hw, ho⟩ := h
  have hf := State.get_congr hr
  exact ⟨hm, hi, ht, hs, fun f _ => hf f, fun e => hw.trans e, fun _ e => ho ▸ e, fun _ e => ll_of_get (hf _) ▸ e,
    fun _ e => (role_of_get (hf _)).trans e, fun _ => hc⟩

/-- Registers change, and what they say of sequencer, role and Lifeline stays. -/
theorem paced.of_regsAlone (h : regsAlone s t) (hf : ∀ f : RegField, f.sequenced → t.get f = s.get f) (hl : k = true → s.ll ≠ .synced → t.ll ≠ .synced)
    (hr : k = true → s.role = .solo → t.role = .solo) : paced k s t := by
  have h : { t with regs := s.regs } = s := h
  have hpair : t.pair = s.pair := by rw [← h]
  have holc : t.olc = s.olc := by rw [← h]
  exact
    { mode := by rw [← h]
      inst := by rw [← h]
      tasks := by rw [← h]
      seq := by rw [← h]
      field := hf
      watch := fun e => hpair ▸ e
      unsynced := hl
      solo := hr
      tail := fun _ e => holc ▸ e
      chambers := fun _ => by rw [← h] }

variable (s)

/-- A field that is neither sequenced nor the role's or the Lifeline's. -/
abbrev RegField.beside (f : RegField) : Prop := (f.addr < 0x400A0040 ∨ 0x400A0100 ≤ f.addr) ∧ (f.addr ≠ Reg.PAIR_STAT ∨ 4 ≤ f.lo)

theorem RegField.beside.apart {f g : RegField} (hf : f.beside) (hg : g.sequenced ∨ g = Fld.PAIR_STAT_ROLE ∨ g = Fld.PAIR_STAT_LL_STATE) : f.apart g := by
  obtain ⟨hf, hp⟩ := hf
  rcases hg with ⟨h1, h2⟩ | rfl | rfl
  · exact Or.inl (by omega)
  · exact hp.imp id fun h => Or.inr (Nat.le_trans (by decide) h)
  · exact hp.imp id fun h => Or.inr (Nat.le_trans (by decide) h)

theorem paced_put {f : RegField} (hf : f.beside) (v : Nat) : paced k s (s.put f v) := by
  have h : ∀ g, _ → (s.put f v).get g = s.get g := fun g hg => s.get_put_apart f g (hf.apart hg) v
  exact .of_regsAlone rfl (fun g hg => h g (Or.inl hg)) (fun _ e => ll_of_get (h _ (Or.inr (Or.inr rfl))) ▸ e)
    fun _ e => (role_of_get (h _ (Or.inr (Or.inl rfl)))).trans e

/-- Where role and Lifeline do not count, a field of another register than the sequencer's. -/
theorem paced_put_off {f : RegField} (hf : f.addr < 0x400A0040 ∨ 0x400A0100 ≤ f.addr) (v : Nat) : paced false s (s.put f v) :=
  .of_regsAlone rfl (fun g hg => s.get_put_apart f g (Or.inl (by obtain ⟨h1, h2⟩ := hg; omega)) v) nofun nofun

theorem paced_putBit {f : RegField} (hf : f.beside) (b : Bool) : paced k s (s.putBit f b) := paced_put s hf _

theorem paced_putAll {l : List (RegField × Nat)} (hl : ∀ p ∈ l, p.1.beside) : paced k s (s.putAll l) :=
  paced.foldl l (fun u p hp => paced_put u (hl p hp) p.2) s

/-- Fields of one register. -/
theorem paced_putAll_of_addr {a : Nat} (ha : (⟨a, 0, 0⟩ : RegField).beside) {l : List (RegField × Nat)} (hl : ∀ p ∈ l, p.1.addr = a) :
    paced k s (s.putAll l) :=
  paced_putAll s fun p hp => by
    obtain ⟨h1, h2⟩ := ha
    rw [RegField.beside, hl p hp]
    exact ⟨h1, Or.inl (h2.resolve_right (show ¬ 4 ≤ 0 by decide))⟩

theorem paced_bump {f : RegField} (hf : f.beside) : paced k s (s.bump f) := (paced_put s hf _).ite

theorem paced_setReg {a : Nat} (ha : (⟨a, 0, 0⟩ : RegField).beside) (v : BitVec 32) : paced k s (s.setReg a v) := by
  obtain ⟨h1, h2⟩ := ha
  have hp : a ≠ Reg.PAIR_STAT := h2.resolve_right (show ¬ 4 ≤ 0 by decide)
  have h : ∀ g : RegField, g.addr ≠ a → (s.setReg a v).get g = s.get g := fun g hg => congrArg g.ext (s.getReg_setReg_ne v hg)
  exact .of_regsAlone rfl (fun g hg => h g (by obtain ⟨h3, h4⟩ := hg; dsimp only at h1; omega)) (fun _ e => ll_of_get (h _ hp.symm) ▸ e)
    fun _ e => (role_of_get (h _ hp.symm)).trans e

theorem paced_emit (o : Out) : paced k s (s.emit o) := by
  refine .of_pace ?_
  unfold State.emit
  split <;> rfl

theorem paced_setGate (b : Nat) (g : Gate) : paced k s (s.setGate b g) := .of_pace rfl

theorem paced_freeByte : paced k s s.freeByte.2 := .of_pace rfl

theorem paced_setChamber (c : Nat) (x : Chamber) : paced false s (s.setChamber c x) :=
  ⟨rfl, rfl, rfl, rfl, fun _ _ => rfl, id, fun _ => id, fun _ => id, fun _ => id, nofun⟩

/-! ### Reports (R376, R391) -/

theorem RegField.sequenced.unreported {f : RegField} (h : f.sequenced) : f.unreported := by
  obtain ⟨h1, h2⟩ := h
  exact ⟨by omega, by omega⟩

theorem ll_unreported : Fld.PAIR_STAT_LL_STATE.unreported := by
  unfold RegField.unreported
  decide

theorem paced.of_reported (h : reported s t) (hf : ∀ g : RegField, g.unreported → t.get g = s.get g) : paced k s t := by
  have e := h.1
  have holc : t.olc = s.olc := by rw [← e]
  exact
    { mode := h.mode
      inst := by rw [← e]
      tasks := by rw [← e]
      seq := by rw [← e]
      field := fun g hg => hf g hg.unreported
      watch := fun w => h.pair ▸ w
      unsynced := fun _ w => ll_of_get (hf _ ll_unreported) ▸ w
      solo := fun _ w => (role_of_get (hf _ role_unreported)).trans w
      tail := fun _ w => holc ▸ w
      chambers := fun _ => h.chambers }

theorem paced_sumpOccur (src inst sub : Nat) (forced : Bool) : paced k s (s.sumpOccur src inst sub forced) :=
  .of_reported s (reported_sumpOccur s src inst sub forced) fun _ hg => get_sumpOccur s hg src inst sub forced

theorem paced_record (type key : Nat) (items : List (Nat × Nat)) : paced k s (s.record type key items) :=
  .of_reported s (reported_record s type key items) fun _ hg => get_record s hg type key items

theorem paced_sumpRise {src : Nat} (hs : src < 256) (inst sub : Nat) : paced k s (s.sumpRise src inst sub) :=
  .of_reported s (reported_sumpRise s src inst sub) fun _ hg => get_sumpRise s hg hs inst sub

theorem beside_SUMP_SRC_ACTIVE {src : Nat} (hs : src < 256) : (Fld.SUMP_SRC_ACTIVE src).beside := by
  obtain ⟨h, _⟩ := sump_registers_reported hs
  simp only [RegField.beside, Fld.SUMP_SRC_ACTIVE, Reg.PAIR_STAT]
  omega

theorem paced_fall {src : Nat} (hs : src < 256) (inst sub : Nat) : paced k s (s.fall src inst sub) := by
  unfold State.fall State.sumpFall
  extract_lets key held x s1
  have h1 : paced k s s1 := .of_pace rfl
  exact h1.trans (paced_putBit s1 (beside_SUMP_SRC_ACTIVE hs) _)

/-! ### Test perturbation (R460) -/

theorem paced_squeezeRequest : paced k s s.squeezeRequest := .of_pace rfl

theorem paced_tpRestore (n : Nat) : paced k s (s.tpRestore n) := by
  unfold State.tpRestore
  extract_lets s1 s2
  have h1 : paced k s s1 := (paced_put s (by decide) _).ite
  have h2 : paced k s1 s2 := ((paced_put s1 (f := Fld.PWR_STAT_RATIO_FORCED) (by decide) 0).trans (paced_squeezeRequest _)).ite
  exact h1.trans (h2.trans (paced_fall s2 (by decide) 0 0).ite)

theorem paced_tp (x : TpState) : paced k s { s with tp := x } := .of_pace rfl

theorem paced_tpStopKind (n : Nat) : paced k s (s.tpStopKind n) := by
  unfold State.tpStopKind
  refine paced.ite ?_
  have h : paced k s (s.freeByte.2.record 0xA1 n [(1, s.freeByte.1), (4, sparseGet (fun _ => 0) s.tp.affected n)]) :=
    (paced_freeByte s).trans (paced_record _ _ _ _)
  exact h.trans ((paced_tp _ _).trans (paced_tpRestore _ n))

theorem paced_tpCheck : paced k s s.tpCheck := by
  unfold State.tpCheck
  split
  · exact paced.refl s
  · exact paced.foldl _ (fun u n _ => paced_tpStopKind u n) s

/-! ### Failover (R226, R232, R237) -/

theorem paced_requestMode (m : Mode) (n : Nat) (e : Option (BitVec 32)) : paced k s (s.requestMode m n e) := by
  unfold State.requestMode
  split
  · exact .of_pace rfl
  · split
    · exact (paced_emit s _).ite
    · extract_lets u
      have hu : paced k s u := (paced_emit s _).ite
      exact hu.trans (.of_pace rfl)

theorem paced_requestHold : paced k s s.requestHold := (paced_requestMode s _ _ _).ite

theorem paced_yieldModule : paced k s s.yieldModule := by
  unfold State.yieldModule
  split
  · exact paced.refl s
  · extract_lets s1 s2
    have h1 : paced k s s1 := paced_putAll s (by decide)
    have h2 : paced k s1 s2 := paced_bump s1 (by decide)
    clear_value s2
    have h3 : paced k s2 _ :=
      (paced_freeByte s2).trans ((paced_record _ 0x42 0 [(1, s2.freeByte.1)]).trans (paced_sumpRise _ (src := Src.PAIR_YIELD) (by decide) 0 0))
    dsimp only
    generalize (s2.freeByte.2.record 0x42 0 [(1, s2.freeByte.1)]).sumpRise Src.PAIR_YIELD 0 0 = u at h3 ⊢
    refine h1.trans (h2.trans (h3.trans (.trans ?_ ((paced_tpCheck _).trans (paced_requestHold _)))))
    have hr := State.get_congr (s := u) (t := { u with core := { u.core with humarOff := true }, pair := { u.pair with watchLeft := 0 } }) rfl
    exact ⟨rfl, rfl, rfl, rfl, fun f _ => hr f, fun _ => rfl, fun _ => id, fun _ e => ll_of_get (hr _) ▸ e, fun _ e => (role_of_get (hr _)).trans e,
      fun _ => rfl⟩

theorem paced_setRole_solo : paced k s (s.setRole .solo) := by
  have hput : paced k s (s.put Fld.PAIR_STAT_ROLE 0) := by
    have hget : (s.put Fld.PAIR_STAT_ROLE 0).get Fld.PAIR_STAT_ROLE = 0 := s.get_put_same _ (by unfold RegField.fits; decide) 0
    refine .of_regsAlone rfl (fun g hg => s.get_put_apart _ g (Or.inl ?_) 0) (fun _ e => ?_) fun _ _ => by simp only [State.role, hget]
    · obtain ⟨_, h⟩ := hg
      exact Nat.ne_of_gt (Nat.lt_trans h (by decide))
    · exact ll_of_get (s.get_put_apart Fld.PAIR_STAT_ROLE Fld.PAIR_STAT_LL_STATE (Or.inr (Or.inl (by decide))) 0) ▸ e
  unfold State.setRole
  extract_lets s1
  rw [if_neg (by decide)]
  exact hput.trans (paced_putAll s1 (by decide)).ite

theorem paced_becomeSolo : paced k s s.becomeSolo := by
  unfold State.becomeSolo
  extract_lets s1 s2
  have h1 : paced k s s1 := (paced_bump s (by decide)).ite
  have h2 : paced k s1 s2 := (paced_setRole_solo s1).trans (paced_putAll _ (by decide))
  exact h1.trans (h2.trans (.of_pace rfl))

theorem beside_SVY_BANK {b : Nat} (hb : b ≤ 1) : (Fld.SVY_BANK_STATE b).beside ∧ (Fld.SVY_BANK_GEN_GENERATION b).beside := by
  simp only [RegField.beside, Fld.SVY_BANK_STATE, Fld.SVY_BANK_GEN_GENERATION, Reg.SVY_BANK, Reg.SVY_BANK_GEN, Reg.PAIR_STAT]
  omega

/-- A change that ends leaves no tail (R210). -/
theorem paced_over (bs : List (Nat × Bank)) : paced k s { s with banks := bs, olc := s.olc.over } where
  mode := rfl
  inst := rfl
  tasks := rfl
  seq := rfl
  field _ _ := rfl
  watch := id
  tail _ _ := List.not_mem_nil
  unsynced _ := id
  solo _ := id
  chambers _ := rfl

theorem paced_olcAbort (reason : Nat) : paced k s (s.olcAbort reason) := by
  unfold State.olcAbort
  extract_lets st other b gen s1 s2 s3 s4
  obtain ⟨hst, hgen⟩ := beside_SVY_BANK (show b ≤ 1 from Nat.sub_le _ _)
  clear_value b
  have h1 : paced k s s1 := paced_put s ⟨Or.inl (show Reg.GAL_AREA < 0x400A0040 by decide), Or.inl (show Reg.GAL_AREA ≠ Reg.PAIR_STAT by decide)⟩ 0
  have h2 : paced k s1 s2 := by
    refine paced_putAll s1 ?_
    simp only [List.forall_mem_cons]
    exact ⟨hst, hgen, by decide⟩
  clear_value s2
  have h3 : paced k s2 s3 := paced_over s2 _
  clear_value s3
  have h4 : paced k s3 s4 := (paced_bump s3 (by decide)).trans (paced_sumpOccur _ _ _ _ _)
  exact (h1.trans (h2.trans (h3.trans (h4.trans (paced_record s4 _ _ _))))).ite

theorem paced_asked : paced k s { s with olc := { s.olc with asking := none } } := .of_pace rfl

theorem paced_olcUnanswered : paced k s s.olcUnanswered :=
  ((paced_asked s).trans ((paced_put _ (by decide) 6).trans (paced_bump _ (by decide)))).ite

theorem ll_setLl_linked : (s.setLl .linked).ll = .linked := by
  have h : (s.setLl .linked).get Fld.PAIR_STAT_LL_STATE = 2 := s.get_put_same _ (by unfold RegField.fits; decide) 2
  simp only [State.ll, h]

theorem paced_setLl_linked : paced k s (s.setLl .linked) := by
  refine .of_regsAlone rfl (fun g hg => s.get_put_apart _ g (Or.inl ?_) 2) (fun _ _ => ?_) fun _ e => ?_
  · obtain ⟨_, h⟩ := hg
    exact Nat.ne_of_gt (Nat.lt_trans h (by decide))
  · rw [ll_setLl_linked]
    decide
  · exact (role_of_get (s.get_put_apart Fld.PAIR_STAT_LL_STATE Fld.PAIR_STAT_ROLE (Or.inr (Or.inr (by decide))) 2)).trans e

/-- The Lifeline that has left SYNCED ends a handover and a change that is not agreed. -/
theorem paced_unsyncedEnds : paced k s
    (({ s with pair := { s.pair with handover := none } } : State).olcAbort 9) := by
  refine paced.trans (t := { s with pair := { s.pair with handover := none } }) ?_ (paced_olcAbort _ 9)
  exact .of_pace rfl

/-- The Lifeline has left SYNCED (R231, R233). -/
theorem leaveSynced_unsynced : s.leaveSynced.ll ≠ .synced := by
  unfold State.leaveSynced
  split
  · extract_lets s1 pair
    have h1 : paced true (s.olcUnanswered.setLl .linked) s1 := paced_putAll _ (by decide)
    refine (h1.trans (paced_unsyncedEnds s1)).unsynced rfl ?_
    rw [ll_setLl_linked]
    decide
  · assumption

theorem paced_leaveSynced : paced k s s.leaveSynced := by
  unfold State.leaveSynced
  refine paced.ite ?_
  extract_lets s1 pair
  have h1 : paced k s s1 := (paced_olcUnanswered s).trans ((paced_setLl_linked _).trans (paced_putAll _ (by decide)))
  exact h1.trans (paced_unsyncedEnds s1)

theorem paced_failover (src : Nat) : paced k s (s.failover src) := by
  unfold State.failover
  extract_lets s1 pair s2 s3
  have h2 : paced k s s2 := .of_pace rfl
  exact h2.trans ((paced_leaveSynced s2).trans ((paced_becomeSolo s3).trans (paced_yieldModule _)))

/-! ### The fixed action of severity 7 (R380) -/

theorem paced_sumpFixed (src : Nat) : paced k s (s.sumpFixed src) := by
  unfold State.sumpFixed
  refine paced.ite ?_
  split
  · exact (paced_failover s src).trans (.of_pace rfl)
  · split
    · exact paced.refl s
    · exact paced_requestHold s

/-- What a source raises leaves the pace of the task cycles, whatever its severity. -/
theorem paced_raise (src inst sub : Nat) : paced k s (s.raise src inst sub) := by
  unfold State.raise State.sumpOccurFixed
  split
  · exact paced.refl s
  · extract_lets t
    have ht : paced k s t := paced_sumpOccur s src inst sub false
    split
    · exact ht
    · exact ht.trans (paced_sumpFixed t src)

theorem paced_rise {src : Nat} (hs : src < 256) (inst sub : Nat) : paced k s (s.rise src inst sub) := by
  unfold State.rise
  split
  · exact paced.refl s
  · extract_lets t
    have ht : paced k s t := paced_sumpRise s hs inst sub
    split
    · exact ht
    · exact ht.trans (paced_sumpFixed t src)

end Sys2Proof.Machine
end

section
/-! SUPPORT. What FREEZE latches (R145, R146, R191, R306, R340) under the pace of the task cycles: station replies, CAN objects, ring descriptors
and asynchronous images change registers, chambers and images, but no task and no cycle count. -/
namespace Sys2Proof.Machine

variable {k : Bool} (s : State)

/-! ### Registers above the pair's -/

theorem beside_of_lt {f : RegField} (h : Reg.PAIR_STAT < f.addr) : f.beside :=
  ⟨Or.inr (Nat.le_trans (by decide) (Nat.le_of_lt h)), Or.inl (Nat.ne_of_gt h)⟩

theorem paced_put_above {f : RegField} (h : Reg.PAIR_STAT < f.addr) (v : Nat) : paced k s (s.put f v) := paced_put s (beside_of_lt h) v

theorem paced_putBit_above {f : RegField} (h : Reg.PAIR_STAT < f.addr) (b : Bool) : paced k s (s.putBit f b) := paced_put_above s h _

theorem paced_bump_above {f : RegField} (h : Reg.PAIR_STAT < f.addr) : paced k s (s.bump f) := paced_bump s (beside_of_lt h)

theorem paced_setReg_above {a : Nat} (h : Reg.PAIR_STAT < a) (v : BitVec 32) : paced k s (s.setReg a v) :=
  paced_setReg s (beside_of_lt (f := ⟨a, 0, 0⟩) h) v

theorem paced_putAll_above {a : Nat} (h : Reg.PAIR_STAT < a) {l : List (RegField × Nat)} (hl : ∀ p ∈ l, p.1.addr = a) : paced k s (s.putAll l) :=
  paced_putAll s fun p hp => beside_of_lt (hl p hp ▸ h)

theorem FL_above (p x : Nat) : Reg.PAIR_STAT < Reg.FL_PORT_STAT p ∧ Reg.PAIR_STAT < Reg.FL_PORT_SEEN p ∧ Reg.PAIR_STAT < Reg.FL_STN_STAT p x ∧
    Reg.PAIR_STAT < Reg.FL_STN_CNT p x := by
  simp only [Reg.PAIR_STAT, Reg.FL_PORT_STAT, Reg.FL_PORT_SEEN, Reg.FL_STN_STAT, Reg.FL_STN_CNT]
  omega

theorem RING_above (q : Nat) : Reg.PAIR_STAT < Reg.RING_PROD q ∧ Reg.PAIR_STAT < Reg.RING_CONS q ∧ Reg.PAIR_STAT < Reg.RING_STAT q := by
  simp only [Reg.PAIR_STAT, Reg.RING_PROD, Reg.RING_CONS, Reg.RING_STAT]
  omega

theorem CAN_OBJ_above (c m : Nat) : Reg.PAIR_STAT < Reg.CAN_OBJ_CTRL c m ∧ Reg.PAIR_STAT < Reg.CAN_OBJ_STAT c m := by
  simp only [Reg.PAIR_STAT, Reg.CAN_OBJ_CTRL, Reg.CAN_OBJ_STAT]
  omega

/-! ### Fieldlinks (R306 to R310) -/

theorem paced_flEvent {f : RegField} (hf : f.addr = Reg.FL_EVENT) (p x : Nat) : paced k s (s.flEvent f p x) := by
  refine paced_putAll_above s (a := Reg.FL_EVENT) (by decide) ?_
  simp only [List.forall_mem_cons]
  exact ⟨hf, rfl, rfl, List.forall_mem_nil _⟩

theorem paced_showTopo (p : Nat) : paced k s (s.showTopo p) := by
  unfold State.showTopo
  extract_lets st broken was topo s1 s2
  have h1 : paced k s s1 := paced_putAll_above s (FL_above p 0).1 (by simp [Fld.FL_PORT_STAT_TOPO, Fld.FL_PORT_STAT_ANSWERING])
  split
  · have h2 : paced k s1 s2 := by
      dsimp only [s2]
      split
      · exact paced.refl s1
      · exact paced_putAll_above s1 (a := Reg.FL_EVENT) (by decide) (by simp [Fld.FL_EVENT_RING_BREAK, Fld.FL_EVENT_PORT])
    exact h1.trans (h2.trans (paced_rise s2 (by decide) p 0))
  · exact h1.trans (paced_fall s1 (by decide) p 0)

theorem paced_showTopos : paced k s s.showTopos := paced.foldl _ (fun u p _ => paced_showTopo u p) s

theorem paced_fl (x : FlState) : paced k s { s with fl := x } := .of_pace rfl

theorem paced_clearSeen (p : Nat) : paced k s (s.clearSeen p) := by
  unfold State.clearSeen
  split
  · exact paced.refl s
  · exact (paced_setReg_above s (FL_above p 0).2.1 0).trans (paced_fl _ _)

theorem paced_flLate (p x : Nat) : paced k s (s.flLate p x) := by
  obtain ⟨_, _, _, hcnt⟩ := FL_above p x
  exact (paced_bump_above s hcnt).trans ((paced_flEvent _ rfl p x).trans (paced_raise _ _ p x))

theorem paced_lateOf (w : FlWait) : paced k s (s.lateOf w) := by
  unfold State.lateOf
  exact (paced_flLate s _ _).ite

theorem paced_stationMiss (w : FlWait) : paced k s (s.stationMiss w) := by
  unfold State.stationMiss
  extract_lets p x n was s1 s2
  obtain ⟨_, _, hstat, hcnt⟩ := FL_above p x
  have h1 : paced k s s1 := paced_putAll_above s hstat (by simp [Fld.FL_STN_STAT_MISSES, Fld.FL_STN_STAT_STATE])
  have h2 : paced k s1 s2 := (paced_bump_above s1 hcnt).trans (paced_flEvent _ rfl p x)
  refine h1.trans (paced.ite (h2.trans ?_))
  exact (paced_rise s2 (by decide) p x).trans ((paced_record _ _ _ _).trans (paced_showTopo _ p))

theorem paced_stationReply (e : FrameSlot) (f : ReplyFrame) : paced k s (s.stationReply e f) := by
  unfold State.stationReply
  extract_lets p x lost s1 s2 s3 fl s4 s5 s6 s7
  obtain ⟨_, hseen, hstat, hcnt⟩ := FL_above p x
  have h1 : paced k s s1 := paced_putAll_above s hstat (by
    simp [Fld.FL_STN_STAT_MISSES, Fld.FL_STN_STAT_STATE, Fld.FL_STN_STAT_SEEN_A, Fld.FL_STN_STAT_SEEN_B, Fld.FL_STN_STAT_LINK_X,
      Fld.FL_STN_STAT_LINK_Y, Fld.FL_STN_STAT_RESTARTED, Fld.FL_STN_STAT_SAFE_ACTIVE])
  have h2 : paced k s1 s2 := (paced_putBit_above s1 hseen true).ite
  have h3 : paced k s2 s3 := (paced_putBit_above s2 hseen true).ite
  have h4 : paced k s3 s4 := paced_fl s3 _
  have h6 : paced k s4 s6 :=
    ((paced_fall s4 (by decide) p x).trans ((paced_flEvent _ rfl p x).trans (paced_raise _ _ p x))).trans (paced_record s5 _ _ _)
  have h7 : paced k s4 s7 := paced.ite (h6.trans ((paced_bump_above s6 hcnt).trans (paced_raise _ _ p x)).ite)
  exact h1.trans (h2.trans (h3.trans (h4.trans (h7.trans (paced_showTopo s7 p)))))

theorem paced_setPort19 (n : Nat) (w : DWord) : paced k s (s.setPort19 n w) := .of_pace rfl

theorem paced_nibbleIn (p x : Nat) (n : Nibble) : paced k s (s.nibbleIn p x n).2 := by
  unfold State.nibbleIn
  split
  · exact paced_raise s Src.FL_STATUS_RESERVED p x
  · exact paced.refl s

theorem paced_settleStation (w : FlWait) : paced k s (s.settleStation w) := by
  unfold State.settleStation
  split
  · exact paced_stationReply s _ _
  · exact paced_stationMiss s w

theorem paced_settleImage (g : Survey) (w : FlWait) : paced k s (s.settleImage g w) := by
  unfold State.settleImage
  split
  · refine paced.foldl _ (fun u p _ => ?_) s
    dsimp only
    split
    · exact (paced_nibbleIn u _ _ _).trans (paced_setPort19 _ _ _)
    · exact paced_setPort19 u _ _
  · exact paced.foldl _ (fun u p _ => paced_setPort19 u _ _) s

theorem paced_flLatch (n : Nat) : paced k s (s.flLatch n) := by
  unfold State.flLatch
  split
  · exact paced.refl s
  · extract_lets due fl s1 s2 due' s3 s4
    have h1 : paced k s s1 := paced_fl s _
    have h2 : paced k s1 s2 := paced.foldl _ (fun u w _ => paced_clearSeen u _) s1
    have h3 : paced k s2 s3 := paced.foldl _ (fun u w _ => paced_lateOf u w) s2
    have h4 : paced k s3 s4 := paced.foldl _ (fun u w _ => paced_settleStation u w) s3
    exact h1.trans (h2.trans (h3.trans (h4.trans ((paced.foldl _ (fun u w _ => paced_settleImage u _ w) s4).trans (paced_showTopos _)))))

/-! ### CAN objects (R340, R342) -/

theorem paced_setPort20 (n : Nat) (w : DWord) : paced k s (s.setPort20 n w) := .of_pace rfl

theorem paced_canLatchOne (g : Survey) (e : CanMapEntry) : paced k s (s.canLatchOne g e) := by
  unfold State.canLatchOne
  extract_lets c m ds each s1 payload
  obtain ⟨hctrl, hstat⟩ := CAN_OBJ_above c m
  have heach : ∀ u f, paced k u (each u f) := fun u f => paced.foldl _ (fun v p _ => paced_setPort20 v _ _) u
  have h1 : paced k s s1 := paced_putBit_above s hctrl false
  clear_value each s1
  split
  · exact heach s _
  · split
    · exact heach s _
    · refine h1.trans ?_
      split
      · exact (paced_bump_above s1 hstat).trans (heach _ _)
      · exact heach s1 _

theorem paced_canLatch (n : Nat) : paced k s (s.canLatch n) := by
  unfold State.canLatch
  split
  · exact paced.refl s
  · exact paced.foldl _ (fun u e _ => paced_canLatchOne u _ e) s

/-! ### Rings (R326, R328, R371) -/

theorem paced_setDesc (a : Nat) (d : Descriptor) : paced k s (s.setDesc a d) := by
  unfold State.setDesc
  generalize [d.w0, d.w1, d.w2, d.w3].flatMap (fun w => leBytes 8 w.toNat) = bs
  induction bs generalizing s a with
  | nil => exact paced.refl s
  | cons b bs ih => exact paced.trans (t := s.setSramByte a b) (.of_pace rfl) (ih _ _)

theorem paced_ringService (q : Nat) : paced k s (s.ringService q) := by
  unfold State.ringService
  refine (paced_putBit_above s ?_ true).ite
  unfold ringPend
  split
  · exact (by decide : Reg.PAIR_STAT < Reg.RING_IRQ_PEND_LO)
  · exact (by decide : Reg.PAIR_STAT < Reg.RING_IRQ_PEND_HI)

theorem paced_ringProtocol (q : Nat) : paced k s (s.ringProtocol q) :=
  (paced_putAll_above s (a := Reg.RING_EVENT) (by decide) (by simp [Fld.RING_EVENT_PROTOCOL, Fld.RING_EVENT_RING])).trans (paced_raise _ _ q 0)

theorem beside_GUARD {u : Nat} (hu : u < 16) : (Fld.GUARD_FAULTS_COUNT u).beside ∧ (Fld.GUARD_FAULT_ADDR_ADDR u).beside ∧
    (⟨Reg.GUARD_FAULT_INFO u, 0, 0⟩ : RegField).beside := by
  simp only [RegField.beside, Fld.GUARD_FAULTS_COUNT, Fld.GUARD_FAULT_ADDR_ADDR, Reg.GUARD_FAULTS, Reg.GUARD_FAULT_ADDR, Reg.GUARD_FAULT_INFO,
    Reg.PAIR_STAT]
  omega

theorem paced_guardPartCode (part : Nat) : paced k s (s.guardPartCode part).2 := by
  unfold State.guardPartCode
  split
  · exact paced.refl s
  · exact paced_freeByte s

theorem paced_guardNote {u : Nat} (hu : u < 16) (a : Access) (f : GuardFinding) : paced k s (s.guardNote u a f) := by
  obtain ⟨_, haddr, hinfo⟩ := beside_GUARD hu
  have hput : ∀ (v : State) (f : RegField) (n : Nat), f.addr = Reg.GUARD_FAULT_INFO u → paced k v (v.put f n) := fun v f n hf =>
    paced_putAll_of_addr v hinfo (l := [(f, n)]) (by simpa using hf)
  unfold State.guardNote
  split
  · exact hput s _ _ rfl
  · dsimp only
    refine (paced_guardPartCode s f.part).trans ((paced_put _ haddr _).trans (paced_putAll_of_addr _ hinfo ?_))
    simp [Fld.GUARD_FAULT_INFO_INITIATOR, Fld.GUARD_FAULT_INFO_KIND, Fld.GUARD_FAULT_INFO_PRIV, Fld.GUARD_FAULT_INFO_CAUSE,
      Fld.GUARD_FAULT_INFO_REGION, Fld.GUARD_FAULT_INFO_PART, Fld.GUARD_FAULT_INFO_VALID]

theorem paced_guardFault {u : Nat} (hu : u < 16) (a : Access) (f : GuardFinding) : paced k s (s.guardFault u a f) :=
  (paced_guardNote s hu a f).trans ((paced_bump _ (beside_GUARD hu).1).trans ((paced_raise _ _ u 0).trans (paced_record _ _ _ _)))

theorem paced_unmappedAccess (a : Access) : paced k s (s.unmappedAccess a) := by
  unfold State.unmappedAccess
  split
  · exact (paced_putBit s (by decide) true).trans (paced_bump _ (by decide))
  · refine (paced_putAll s ?_).trans (paced_bump _ (by decide))
    simp only [List.forall_mem_cons]
    exact ⟨by decide, by decide, by decide, by decide, List.forall_mem_nil _⟩

theorem targetOf_lt {a t : Nat} (h : targetOf a = some t) : t < 16 := by
  unfold targetOf at h
  split_ifs at h <;> cases h <;> decide

/-- The way of an access of the ring manager's to its target (R371). -/
theorem paced_route {a : Access} (ha : a.initiator = 4) : paced k s (s.route a).2 := by
  unfold State.route
  split
  · refine paced_guardFault s ?_ _ _
    rw [ha]
    decide
  · split
    · exact paced_unmappedAccess s a
    · rename_i ht
      split
      · exact paced_guardFault s (targetOf_lt ht) _ _
      · exact paced.refl s

theorem initiator_of_refused {kind : AccessKind} {addr len : Nat} {a : Access} (h : s.ringRefusedAt kind addr len = some a) : a.initiator = 4 := by
  obtain ⟨j, _, rfl⟩ := List.mem_map.1 (List.mem_of_find?_eq_some h)
  rfl

theorem paced_ringDiscard (q : Nat) {a : Access} (ha : a.initiator = 4) : paced k s (s.ringDiscard q a) :=
  (paced_route s ha).trans ((paced_bump_above _ (RING_above q).2.2).trans (paced_ringProtocol _ q))

theorem paced_ringErrorBack (a : Nat) : paced k s (s.ringErrorBack a) := by
  unfold State.ringErrorBack
  exact (paced_setDesc s a _).ite

theorem paced_ringAdvance (q : Nat) : paced k s (s.ringAdvance q) := (paced_setReg_above s (RING_above q).2.1 _).trans (paced_ringService _ q)

theorem paced_ringPop {q : Nat} {p : Option Descriptor × State} (h : s.ringPop q = some p) : paced k s p.2 := by
  unfold State.ringPop at h
  dsimp only at h
  split at h
  · split at h <;> cases h
    · rename_i x hx
      exact (paced_ringErrorBack s _).trans ((paced_ringAdvance _ q).trans (paced_ringDiscard _ q (initiator_of_refused s hx)))
    · exact paced_ringAdvance s q
  · cases h

theorem paced_ringPush {q : Nat} {d : Descriptor} {t : State} (h : s.ringPush q d = some t) : paced k s t := by
  unfold State.ringPush at h
  dsimp only at h
  split at h
  · split at h <;> cases h
    · rename_i x hx
      exact paced_ringDiscard s q (initiator_of_refused s hx)
    · exact (paced_setDesc s _ d).trans ((paced_setReg_above _ (RING_above q).1 _).trans (paced_ringService _ q))
  · cases h

theorem paced_ringNotInline (q : Nat) : paced k s (s.ringNotInline q) := (paced_bump_above s (RING_above q).2.2).trans (paced_ringProtocol _ q)

theorem paced_ringTake (n q : Nat) : paced k s (State.ringTake n s q).2 := by
  induction n generalizing s with
  | zero => exact paced.refl s
  | succ n ih =>
    unfold State.ringTake
    split
    · exact paced.refl s
    · rename_i h
      exact (paced_ringPop s h).trans (ih _)
    · rename_i h
      split
      · exact (paced_ringPop s h).trans (ih _)
      · exact (paced_ringPop s h).trans ((paced_ringNotInline _ q).trans (ih _))

theorem paced_ringPushAll {q : Nat} {ds : List Descriptor} {t : State} (h : s.ringPushAll q ds = some t) : paced k s t := by
  unfold State.ringPushAll at h
  split at h
  · split at h <;> cases h
    · rename_i x hx
      obtain ⟨j, _, hj⟩ := List.exists_of_findSome?_eq_some hx
      exact paced_ringDiscard s q (initiator_of_refused s hj)
    · refine paced.foldl _ (fun u d _ => ?_) s
      cases hp : u.ringPush q d with
      | none => exact paced.refl u
      | some v => exact paced_ringPush u hp
  · cases h

/-- The rings serve the CAN controllers with the places that have become free (R342). -/
theorem paced_canDeliverRing (q : Nat) : paced k s (s.canDeliverRing q) := by
  have hone : ∀ (u : State) (c m : Nat), paced k u (u.canDeliverOne c m) := fun u c m => by
    unfold State.canDeliverOne
    split
    · split
      · exact paced.refl u
      · dsimp only
        split
        · rename_i hp
          exact (paced_ringPushAll u hp).trans (paced_putBit_above _ (CAN_OBJ_above c m).1 false)
        · exact paced.refl u
    · exact paced.refl u
  exact paced.foldl _ (fun u c _ => paced.ite (paced.ite (paced.foldl _ (fun v m _ => hone v c m) u))) s

theorem paced_storeDescs (q : Nat) (ds : List Descriptor) : paced k s (s.storeDescs q ds).2 := by
  unfold State.storeDescs
  split
  · exact paced.refl s
  · exact paced_ringProtocol s q

theorem paced_topUp (e : RingSlotEntry) : paced false s (s.topUp e).2 := by
  unfold State.topUp
  dsimp only
  exact (paced_ringTake s _ _).trans ((paced_storeDescs _ _ _).trans ((paced_setChamber _ _ _).trans (paced_canDeliverRing _ _)))

theorem paced_topUps (n : Nat) : paced false s (s.topUps n).2 := by
  unfold State.topUps
  generalize s.ringEntries n false = l
  suffices h : ∀ (l : List RingSlotEntry) (acc : List (Nat × List Descriptor) × State), paced false acc.2 (l.foldl (fun acc e =>
      ((acc.1 ++ [(e.slot, (acc.2.topUp e).1)], (acc.2.topUp e).2) : List (Nat × List Descriptor) × State)) acc).2 from h l ([], s)
  intro l
  induction l with
  | nil => exact fun acc => paced.refl acc.2
  | cons e l ih =>
    intro acc
    rw [List.foldl_cons]
    exact (paced_topUp acc.2 e).trans (ih (_, (acc.2.topUp e).2))

/-! ### Asynchronous images (R191 to R193) -/

theorem LS_ASYNC_off (c : Nat) : Reg.LS_ASYNC c < 0x400A0040 ∨ 0x400A0100 ≤ Reg.LS_ASYNC c := by
  simp only [Reg.LS_ASYNC]
  omega

theorem paced_agree (c n : Nat) (equal : Bool) : paced false s (s.agree c n equal) := by
  unfold State.agree
  extract_lets ch m s1 s2 limit s3
  have h1 : paced false s s1 := paced_setChamber s c _
  have h2 : paced false s1 s2 := (paced_put_off s1 (f := Fld.LS_ASYNC_UNEQUAL c) (LS_ASYNC_off c) _).ite
  have h3 : paced false s2 s3 := paced_put_off s2 (f := Fld.LS_ASYNC_RAISED c) (LS_ASYNC_off c) _
  clear_value s2 s3
  split
  · exact h1
  · exact h1.trans (h2.trans (h3.trans ((paced_raise s3 _ c n).trans (paced_record _ _ _ _))).ite)

theorem paced_asyncAgree (n c : Nat) (caps : List CaptureImage) : paced false s (s.asyncAgree n c caps) :=
  (paced.foldl _ (fun u j _ => paced_agree u c j _) s).trans (paced_setChamber _ c _)

/-! ### The image for the partner (R227) -/

theorem paced_emitImage (n off : Nat) (beats : List (Nat × Nat × List DWord)) (asyncs : List (Nat × List DWord))
    (moved : List (Nat × List Descriptor)) (free : List (Nat × Nat)) : paced k s (s.emitImage n off beats asyncs moved free) := by
  refine paced.foldl _ (fun u p _ => ?_) s
  dsimp only
  split <;> exact paced_emit u _

theorem paced_sendImage (n : Nat) (moved : List (Nat × List Descriptor)) : paced k s (s.sendImage n moved) := by
  unfold State.sendImage
  exact (paced_emitImage s _ _ _ _ _ _).ite

end Sys2Proof.Machine
end

section
/-! SUPPORT. FREEZE and the fabric (R100, R101, R121, R153, R156, R228). -/
namespace Sys2Proof.Machine

/-! ### A stream that is short at the next t0 (R228) -/

/-- Mode, stored instances, pair and Lifeline. -/
def State.footing (s : State) : Mode × InstState × PairState × LLState := (s.mode, s.inst, s.pair, s.ll)

variable (s : State)

theorem State.foldl_footing {α : Type} {f : State → α → State} (h : ∀ u x, (f u x).footing = u.footing) (l : List α) (s : State) :
    (l.foldl f s).footing = s.footing := by
  induction l generalizing s with
  | nil => rfl
  | cons x l ih => rw [List.foldl_cons, ih, h]

section
variable {n : Nat} (hn : n < 16)
include hn

theorem put_HELD_RUN_footing (v : Nat) : (s.put (Fld.SEQ_TASK_STAT_HELD_RUN n) v).footing = s.footing := by
  have h : Reg.SEQ_TASK_STAT n ≠ Reg.PAIR_STAT := by
    simp only [Reg.SEQ_TASK_STAT, Reg.PAIR_STAT]
    omega
  have hl : (s.put (Fld.SEQ_TASK_STAT_HELD_RUN n) v).ll = s.ll := ll_of_get (s.get_put_apart _ Fld.PAIR_STAT_LL_STATE (Or.inl h) v)
  simp only [State.footing, State.put_mode, State.put_inst, State.put_pair, hl]

omit hn in
theorem discardCycle_footing : (s.discardCycle n).footing = s.footing := by
  unfold State.discardCycle
  extract_lets k s1 seq s2
  have h1 : s1.footing = s.footing := by
    refine State.foldl_footing (fun u p => ?_) _ s
    rfl
  exact h1

theorem stand_footing (o : CycleOutcome) : (s.stand n o).footing = s.footing := by
  unfold State.stand
  extract_lets x s1
  have h1 : s1.footing = s.footing := rfl
  clear_value s1
  split
  · refine Eq.trans ?_ ((discardCycle_footing s1 (n := n)).trans h1)
    unfold State.cycleBad State.holdTask
    dsimp only
    split
    · (repeat' split) <;> rfl
    · exact put_HELD_RUN_footing _ hn _
  · exact (put_HELD_RUN_footing _ hn 0).trans h1

/-- Apart from SYNCED a cycle settles with its own outcome. -/
theorem settle_footing (hl : s.ll ≠ .synced) : (s.settle n).footing = s.footing := by
  unfold State.settle
  dsimp only
  split
  · rfl
  · rw [if_neg fun h => hl h.2]
    split
    · exact stand_footing s hn _
    · rfl

end

theorem paced_pairFault (kind : Nat) : paced true s (s.pairFault kind) ∧ (s.pairFault kind).ll ≠ .synced := by
  unfold State.pairFault
  split
  · extract_lets s1 s2 pair
    have h1 : paced true s s1 := (paced_bump s (by decide)).trans (paced_putAll_above _ (a := Reg.PAIR_EVENT) (by decide) (by
      simp [Fld.PAIR_EVENT_FAULT, Fld.PAIR_EVENT_FAULT_KIND]))
    have h2 : paced true s1 s2 := (paced_record s1 _ _ _).trans (paced_leaveSynced _)
    have hl : s2.ll ≠ .synced := leaveSynced_unsynced _
    clear_value s2
    have h3 : paced true s2 ({ s2 with pair := { s2.pair with emitStopped := true, settling := true } } : State) := .of_pace rfl
    split
    · have h4 := h3.trans (paced_raise _ Src.PAIR_FAULT 0 0)
      exact ⟨h1.trans (h2.trans h4), h4.unsynced rfl hl⟩
    · exact ⟨h1.trans h2, hl⟩
  · rename_i hl
    exact ⟨paced.refl s, hl⟩

theorem streamEnds_keeps (n : Nat) : (s.streamEnds n).mode = s.mode ∧ (s.streamEnds n).inst = s.inst ∧
    (s.pair.watchLeft = 0 → (s.streamEnds n).pair.watchLeft = 0) := by
  unfold State.streamEnds
  split
  · unfold State.pairBreak
    obtain ⟨hp, hl⟩ := paced_pairFault s 3
    have hf : ∀ (l : List Nat) (u : State), (∀ x ∈ l, x < 16) → u.ll ≠ .synced → (l.foldl (fun s t => s.settle t) u).footing = u.footing := fun l => by
      induction l with
      | nil => exact fun _ _ _ => rfl
      | cons x l ih =>
        intro u hx hu
        have h := settle_footing u (hx x List.mem_cons_self) hu
        have hll : (u.settle x).ll = u.ll := congrArg (fun f => f.2.2.2) h
        exact (ih _ (fun y hy => hx y (List.mem_cons_of_mem x hy)) (hll ▸ hu)).trans h
    have h := hf (List.range 16) _ (fun x hx => List.mem_range.1 hx) hl
    simp only [State.footing, Prod.mk.injEq] at h
    obtain ⟨hm, hi, hpair, _⟩ := h
    exact ⟨hm.trans hp.mode, hi.trans hp.inst, fun e => (congrArg PairState.watchLeft hpair).trans (hp.watch e)⟩
  · exact ⟨rfl, rfl, id⟩

/-! ### FREEZE (R153, R156) -/

theorem paced_sigWrite (n : Nat) (w : DWord) : paced true s (s.sigWrite n w) := by
  have hpage : ∀ (u : State) p x y, paced true u (u.setSigPage p x y) := fun u p x y => by
    unfold State.setSigPage
    split <;> exact .of_pace rfl
  unfold State.sigWrite State.sigWriteIn
  extract_lets page s1 pair s2
  have h1 : paced true s s1 := hpage s _ _ _
  have h2 : paced true s1 s2 := paced.ite (.of_pace rfl)
  refine h1.trans (h2.trans (paced.ite ?_))
  split
  · exact hpage s2 _ _ _
  · exact paced.refl s2

theorem paced_ageSignals (n : Nat) : paced true s (s.ageSignals n) := by
  unfold State.ageSignals
  split
  · exact paced.refl s
  · exact paced.foldl _ (fun u d _ => paced.ite (paced_sigWrite u _ _)) s

/-- Without a yield watch nothing is watched for (R234). -/
theorem watchFreeze_of_none (h : s.pair.watchLeft = 0) (a b : Bool) : s.watchFreeze a b = s := if_neg (by rw [h]; decide)

theorem paced.cyc {k : Bool} {t : State} (h : paced k s t) {n : Nat} (hn : n < 16) : t.cyc n = s.cyc n := by
  have hf : (Fld.SEQ_TASK_CYC_CYC n).sequenced := by
    simp only [RegField.sequenced, Fld.SEQ_TASK_CYC_CYC, Reg.SEQ_TASK_CYC]
    omega
  have hg := h.field _ hf
  simp only [State.get, RegField.ext, Fld.SEQ_TASK_CYC_CYC, Nat.shiftRight_zero, Nat.mod_eq_of_lt (BitVec.isLt _)] at hg
  exact BitVec.eq_of_toNat_eq hg

/-- The count and the instant of a cycle that has begun, in which nothing has happened yet (R153). -/
def cycleBegun (n t0 : Nat) (cyc : BitVec 32) (u : State) : Prop :=
  u.cyc n = cyc ∧ (u.task n).t0 = t0 ∧ (u.task n).outcomeFixed = false ∧ (u.task n).equal = [] ∧ (u.task n).mism = [] ∧
    (u.task n).standing = none ∧ (u.task n).moved = []

theorem paced.cycleBegun {k : Bool} {s u : State} (h : paced k s u) {n t0 : Nat} {cyc : BitVec 32} (hn : n < 16) (hs : cycleBegun n t0 cyc s) :
    cycleBegun n t0 cyc u := by
  unfold Machine.cycleBegun
  rw [h.cyc s hn, h.task]
  exact hs

theorem newCycle_begun (n t0 : Nat) (cyc : BitVec 32) : cycleBegun n t0 cyc ((s.setReg (Reg.SEQ_TASK_CYC n) cyc).newCycle n t0) := by
  have hcyc : ((s.setReg (Reg.SEQ_TASK_CYC n) cyc).newCycle n t0).cyc n = cyc := s.getReg_setReg_same _ cyc
  unfold cycleBegun
  rw [hcyc, State.newCycle, State.task_setTask_same]
  exact ⟨rfl, rfl, rfl, rfl, rfl, rfl, rfl⟩

theorem paced_setFree (e : RingSlotEntry) (n : Nat) : paced false s (s.setFree e n) := paced_setChamber s _ _

/-- FREEZE of a task begins its cycle, and what it latches leaves the cycle as it has begun. -/
theorem freezeAt_begins {n : Nat} (hn : n < 16) (hw : s.pair.watchLeft = 0) (t0 : Nat) (cyc : BitVec 32) (caps : List CaptureImage) :
    cycleBegun n t0 cyc (s.freezeAt n t0 cyc caps) ∧ (s.freezeAt n t0 cyc caps).inst = s.inst ∧ (s.freezeAt n t0 cyc caps).mode = s.mode := by
  unfold State.freezeAt
  extract_lets s1 s2 s3 due s4 s5 pair s6 s7
  obtain ⟨hm1, hi1, hw1⟩ := streamEnds_keeps s n
  have h2 : paced true s1 s2 := by
    dsimp only [s2]
    split
    · exact paced.refl s1
    · exact paced_ageSignals s1 n
  have hw2 : s2.pair.watchLeft = 0 := h2.watch (hw1 hw)
  have hi2 : s2.inst = s.inst := h2.inst.trans hi1
  have hm2 : s2.mode = s.mode := h2.mode.trans hm1
  clear_value s2
  have hb3 : cycleBegun n t0 cyc s3 := newCycle_begun s2 n t0 cyc
  have hw3 : s3.pair.watchLeft = 0 := hw2
  have h4 : paced false s3 s4 := (paced_flLatch s3 n).trans (paced_canLatch _ n)
  have h5 : s5 = s4 := by
    dsimp only [s5]
    split
    · exact watchFreeze_of_none s4 (h4.watch hw3) _ _
    · rfl
  have h6 : paced false s4 s6 := by
    dsimp only [s6, pair]
    rw [h5]
    exact .of_pace rfl
  suffices h : ∀ u, paced false s6 u → cycleBegun n t0 cyc u ∧ u.inst = s.inst ∧ u.mode = s.mode by
    refine h _ ?_
    split
    · have h7 : paced false s6 s7 := paced.foldl _ (fun u e _ => paced_asyncAgree u _ _ _) s6
      dsimp only
      exact h7.trans ((paced_topUps s7 n).trans ((paced.foldl _ (fun u e _ => paced_setFree u _ _) _).trans (paced_sendImage _ _ _)))
    · exact paced.refl s6
  intro u hu
  have h36 : paced false s3 u := h4.trans (h6.trans hu)
  exact ⟨h36.cycleBegun hn hb3, h36.inst.trans hi2, h36.mode.trans hm2⟩

/-! ### Fabric transfers into INPUT (R101, R121) -/

theorem lane_input (ch : Chamber) (w : Lane) (a : Nat) (v : DWord) : (ch.input a v).lane w = (ch.lane w).setWork a v := by cases w <;> rfl

theorem inputWord_of_idle {ch : Chamber} (h : ch.exec = none) (a : Nat) (v : DWord) : ch.inputWord a v = ch.input a v := by
  rw [Chamber.inputWord, h]
  rfl

/-- After the first `m` slots of a transfer into chamber `c`, which still executes nothing behind an open gate: what stays, and the words `val`
from slot `dst` on. -/
structure inputMoved (s : State) (c dst : Nat) (val : Nat → DWord) (m : Nat) (u : State) : Prop where
  sig : u.sig = s.sig
  tasks : u.tasks = s.tasks
  olc : u.olc = s.olc
  gate : u.get (Fld.GATE_CTRL_STATE c) = 0
  idle : (u.chamber c).exec = none
  words : ∀ j w, j < m → workWord ((u.chamber c).lane w) (8 * (dst + j)) = val j

/-- One slot arrives at the INPUT of both lanes. -/
theorem inputMoved.next {c dst m : Nat} {val : Nat → DWord} {u : State} (h : inputMoved s c dst val m u) :
    inputMoved s c dst val (m + 1) ((u.setChamber c ((u.chamber c).inputWord (8 * (dst + m)) (val m))).beatWakes c) := by
  rw [inputWord_of_idle h.idle]
  have hch : ∀ v : State, (v.beatWakes c).chambers = v.chambers ∧ (v.beatWakes c).sig = v.sig ∧ (v.beatWakes c).tasks = v.tasks ∧
      (v.beatWakes c).olc = v.olc ∧ (v.beatWakes c).get (Fld.GATE_CTRL_STATE c) = v.get (Fld.GATE_CTRL_STATE c) := fun v => by
    unfold State.beatWakes
    split
    · exact ⟨rfl, rfl, rfl, rfl, rfl⟩
    · refine ⟨rfl, rfl, rfl, rfl, v.get_put_apart (Fld.GAL_CH_STAT_DOZE c) _ (Or.inl ?_) 0⟩
      simp only [Fld.GAL_CH_STAT_DOZE, Fld.GATE_CTRL_STATE, Reg.GAL_CH_STAT, Reg.GATE_CTRL]
      omega
  obtain ⟨hc, hs, ht, ho, hg⟩ := hch (u.setChamber c ((u.chamber c).input (8 * (dst + m)) (val m)))
  have hcc : ((u.setChamber c ((u.chamber c).input (8 * (dst + m)) (val m))).beatWakes c).chamber c = (u.chamber c).input (8 * (dst + m)) (val m) :=
    (congrArg (fun l => sparseGet (fun _ => Chamber.reset) l c) hc).trans (u.chamber_setChamber_same c _)
  refine ⟨hs.trans h.sig, ht.trans h.tasks, ho.trans h.olc, hg.trans h.gate, (congrArg Chamber.exec hcc).trans h.idle, fun j w hj => ?_⟩
  rw [hcc, lane_input]
  rcases Nat.lt_succ_iff_lt_or_eq.1 hj with hj | rfl
  · rw [workWord_setWork_ne _ _ (by omega)]
    exact h.words j w hj
  · exact workWord_setWork_same _ _

section
variable {e : FabricEntry} {c : Nat} (hsrc : e.srcPort = 0) (hdst : e.dstPort = c + 1) (hc : c < 16)
include hsrc hdst hc

omit hsrc in
theorem portWrite_into_chamber (hg : s.get (Fld.GATE_CTRL_STATE c) = 0) (t key : Nat) (v : DWord) :
    s.portWrite t e key v = (s.setChamber c ((s.chamber c).inputWord (8 * key) v)).beatWakes c := by
  have hopen : s.portClosed e.dstPort key = false := by
    have h18 : c ≠ 17 := by omega
    simp [State.portClosed, hdst, h18, hg]
  unfold State.portWrite
  rw [if_neg (by omega), hopen, if_neg Bool.false_ne_true, if_pos (by omega), show e.dstPort - 1 = c by omega]

/-- The slots of the signal table that a transfer into a chamber moves stand in the INPUT of both lanes. -/
theorem moveSlots_into_input (t : Nat) (hx : (s.chamber c).exec = none) (hg : s.get (Fld.GATE_CTRL_STATE c) = 0) :
    inputMoved s c (4 * e.dstIndex) (fun j => s.sigPage (if s.inTail t then 1 - s.sig.active else s.sig.active) (4 * e.srcIndex + j))
      (4 * e.beats) (s.moveSlots t e) := by
  unfold State.moveSlots
  generalize 4 * e.beats = m
  induction m with
  | zero => exact ⟨rfl, rfl, rfl, hg, hx, fun j _ hj => absurd hj (Nat.not_lt_zero j)⟩
  | succ m ih =>
    rw [List.range_succ, List.foldl_append]
    generalize List.foldl _ s (List.range m) = u at ih ⊢
    have hopen : u.sourceClosed e.srcPort (4 * e.srcIndex + m) = false := by simp [State.sourceClosed, hsrc]
    have htail : u.inTail t = s.inTail t := by
      have htask : u.task t = s.task t := by rw [State.task, State.task, ih.tasks]
      rw [State.inTail, State.inTail, htask, State.tailAt, State.tailAt, ih.olc]
    have hpage : ∀ p i, u.sigPage p i = s.sigPage p i := fun p i => by rw [State.sigPage, ih.sig, State.sigPage]
    have hread : u.portRead t e.srcPort (4 * e.srcIndex + m) =
        (s.sigPage (if s.inTail t then 1 - s.sig.active else s.sig.active) (4 * e.srcIndex + m), u) := by
      unfold State.portRead
      rw [if_pos hsrc, htail, ih.sig, hpage]
    rw [List.foldl_cons, List.foldl_nil, hopen, if_neg Bool.false_ne_true, hread]
    dsimp only
    rw [portWrite_into_chamber u hdst hc ih.gate]
    exact ih.next

/-- An EXEC-anchored transfer of the signal table into a chamber (R101, R121). -/
theorem transfer_into_input (ha : e.anchor = 1) (hx : (s.chamber c).exec = none) (hm : s.mode = .run) (hr : s.taskRunning e.task = true)
    (hg : s.get (Fld.GATE_CTRL_STATE c) = 0) (ix : Nat) : (s.transfer e.task ix e).sig = s.sig ∧
      ((s.transfer e.task ix e).task e.task).moved = (s.task e.task).moved ++ [ix] ∧
      ∀ j w, j < 4 * e.beats → workWord (((s.transfer e.task ix e).chamber c).lane w) (8 * (4 * e.dstIndex + j)) =
        s.sigPage (if s.inTail e.task then 1 - s.sig.active else s.sig.active) (4 * e.srcIndex + j) := by
  have hlate : s.imageLate e = false := by simp [State.imageLate, ha]
  have hholds : s.anchorHolds e = true := by simp [State.anchorHolds, ha, hm, hr]
  have h := moveSlots_into_input s hsrc hdst hc e.task hx hg
  have heq : s.transfer e.task ix e =
      (s.moveSlots e.task e).setTask e.task { (s.moveSlots e.task e).task e.task with moved := ((s.moveSlots e.task e).task e.task).moved ++ [ix] } := by
    unfold State.transfer
    rw [hlate, if_neg Bool.false_ne_true]
    dsimp only
    rw [hholds, if_pos rfl]
    split
    · rfl
    · rw [if_neg (by omega)]
  rw [heq]
  refine ⟨h.sig, ?_, h.words⟩
  rw [State.task_setTask_same]
  show ((s.moveSlots e.task e).task e.task).moved ++ [ix] = _
  rw [State.task, h.tasks]
  rfl

end

theorem fabricTransfer_of_present {e : FabricEntry} (hr : s.bit Fld.SEQ_STAT_RUNNING = true) (hp : s.get (Fld.SEQ_TASK_STAT_STATE e.task) ≠ 0) :
    s.fabricTransfer e = match (s.fabricFor e.task).find? fun p => p.2 == e && !(s.task e.task).moved.contains p.1 with
      | none => s
      | some p => if s.waitsFor p then s else s.transfer e.task p.1 e := by
  unfold State.fabricTransfer State.taskMoves
  rw [hr, bne_iff_ne.2 hp]
  rfl

end Sys2Proof.Machine
end

section
/-! The obligation about FREEZE and the fabric. -/
open Sys2Proof Sys2Proof.Machine

/-- Settles O34: FREEZE by the pace of the cycle from its begin to the end of the latch, the fabric by induction on the slots of a transfer. -/
theorem freezeAndFabric : Obligations.FreezeAndFabric := by
  intro s t caps g e hg hw
  refine ⟨fun hr f => ⟨?_, ?_⟩, fun hn => ?_, fun hr he hp hper hph => ?_, fun f hr hp => ⟨fun hn => ?_, fun p hs hwait => ?_,
    fun ix c hs hsrc hdst ha hx hwait hm hrun hgate => ?_⟩⟩
  · refine congrArg Host.Outcome.next (?_ : s.freeze t.val caps = s)
    unfold State.freeze
    split
    · rfl
    · exact if_neg fun h => Bool.false_ne_true (hr.symm.trans h.1)
  · refine congrArg Host.Outcome.next (?_ : s.fabricTransfer f = s)
    unfold State.fabricTransfer
    rw [hr]
    rfl
  · refine congrArg Host.Outcome.next (?_ : s.freeze t.val caps = s)
    unfold State.freeze
    rw [hg, Option.bind_some, hn]
  · obtain ⟨⟨hcyc, ht0, hrest⟩, hinst, hmode⟩ := freezeAt_begins s t.isLt hw
      ((s.nowNs - e.phaseTicks * 250000) / (e.periodTicks * 250000) * (e.periodTicks * 250000) + e.phaseTicks * 250000)
      (BitVec.ofNat 32 ((s.nowNs - e.phaseTicks * 250000) / (e.periodTicks * 250000))) caps
    obtain ⟨h1, h2, h3, h4, h5⟩ := hrest
    refine ⟨_, _, congrArg Host.Outcome.next ?_, rfl, hcyc, ht0, h1, h2, h3, h4, h5, hinst, hmode⟩
    unfold State.freeze
    rw [hg, Option.bind_some, he]
    exact if_pos ⟨hr, hp, by omega, hph⟩
  · refine congrArg Host.Outcome.next ((fabricTransfer_of_present s hr hp).trans ?_)
    rw [hn]
  · refine congrArg Host.Outcome.next ((fabricTransfer_of_present s hr hp).trans ?_)
    rw [hs]
    exact if_pos hwait
  · refine ⟨_, congrArg Host.Outcome.next ((fabricTransfer_of_present s hr hp).trans ?_),
      transfer_into_input s hsrc hdst c.isLt ha hx hm hrun hgate ix⟩
    rw [hs]
    exact if_neg (by rw [hwait]; decide)

end

section
/-! SUPPORT. The commit of journals (R158 to R160, R179). -/
namespace Sys2Proof.Machine

variable (s : State) {c t : Nat} {j : ReadyJournal}

/-! ### COMMIT_START -/

/-- The one journal of chamber `c` and task `t` that may be committed and goes before all others is taken. -/
theorem commitStart_of_first (hn : s.seq.commit = none) (hj : j ∈ s.seq.ready) (hc : s.committable j = true)
    (hfirst : ∀ q ∈ s.seq.ready, s.committable q = true → (q.task = j.task ∧ q.chamber = j.chamber → q = j) ∧ (q = j ∨ s.commitBefore j q = true)) :
    s.commitStart j.chamber j.task =
      ({ s with seq := { s.seq with commit := some j, ready := s.seq.ready.filter fun q => q != j } } : State).putBit Fld.SEQ_STAT_COMMIT_BUSY true := by
  have hable : ∀ q ∈ s.seq.ready.filter fun q => s.committable q, (q.task = j.task ∧ q.chamber = j.chamber → q = j) ∧
      (q = j ∨ s.commitBefore j q = true) := fun q hq => hfirst q (List.mem_filter.1 hq).1 (List.mem_filter.1 hq).2
  have hfind : ((s.seq.ready.filter fun q => s.committable q).find? fun q => q.task == j.task && q.chamber == j.chamber) = some j := by
    cases hf : (s.seq.ready.filter fun q => s.committable q).find? fun q => q.task == j.task && q.chamber == j.chamber with
    | none => simpa using List.find?_eq_none.1 hf j (List.mem_filter.2 ⟨hj, hc⟩)
    | some q =>
      have hq := List.find?_some hf
      simp only [Bool.and_eq_true, beq_iff_eq] at hq
      rw [(hable q (List.mem_of_find?_eq_some hf)).1 hq]
  have hall : ((s.seq.ready.filter fun q => s.committable q).all fun q => q == j || s.commitBefore j q) = true :=
    List.all_eq_true.2 fun q hq => by simpa using (hable q hq).2
  unfold State.commitStart
  dsimp only
  rw [hfind]
  dsimp only
  rw [hall, hn]
  rfl

theorem commitStart_of_none (h : ∀ q ∈ s.seq.ready, q.task = t → q.chamber = c → s.committable q = false) : s.commitStart c t = s := by
  have hfind : ((s.seq.ready.filter fun q => s.committable q).find? fun q => q.task == t && q.chamber == c) = none := by
    refine List.find?_eq_none.2 fun q hq hk => ?_
    obtain ⟨hq, hcq⟩ := List.mem_filter.1 hq
    simp only [Bool.and_eq_true, beq_iff_eq] at hk
    exact Bool.false_ne_true ((h q hq hk.1 hk.2).symm.trans hcq)
  unfold State.commitStart
  dsimp only
  rw [hfind]

/-- One journal at a time. -/
theorem commitStart_of_busy (h : s.seq.commit = some j) : s.commitStart c t = s := by
  unfold State.commitStart
  dsimp only
  split
  · rfl
  · rw [h]
    rfl

theorem get_BUSY_setQueue (q : List (Nat × DWord)) : (s.setQueue q).get Fld.SEQ_STAT_COMMIT_BUSY = s.get Fld.SEQ_STAT_COMMIT_BUSY :=
  State.get_put_apart _ Fld.OLC_SWEEP_QUEUE Fld.SEQ_STAT_COMMIT_BUSY (Or.inl (by decide)) _

theorem commitBegin_of_first (hn : s.seq.commit = none) (hj : j ∈ s.seq.ready) (hc : s.committable j = true)
    (hfirst : ∀ q ∈ s.seq.ready, s.committable q = true → (q.task = j.task ∧ q.chamber = j.chamber → q = j) ∧ (q = j ∨ s.commitBefore j q = true)) :
    (s.commitBegin j.chamber j.task).seq.commit = some j ∧ (s.commitBegin j.chamber j.task).seq.ready = (s.seq.ready.filter fun q => q != j) ∧
      (s.commitBegin j.chamber j.task).get Fld.SEQ_STAT_COMMIT_BUSY = 1 ∧ (s.commitBegin j.chamber j.task).inst = s.inst := by
  unfold State.commitBegin
  rw [commitStart_of_first s hn hj hc hfirst]
  dsimp only
  simp only [State.putBit_seq, and_self, if_true]
  refine ⟨rfl, rfl, ?_, rfl⟩
  rw [get_BUSY_setQueue]
  exact get_putBit_same _ (f := Fld.SEQ_STAT_COMMIT_BUSY) (show 6 + 1 ≤ 32 by decide) rfl true

theorem commitBegin_of_none (hn : s.seq.commit = none) (h : ∀ q ∈ s.seq.ready, q.task = t → q.chamber = c → s.committable q = false) :
    s.commitBegin c t = s := by
  unfold State.commitBegin
  dsimp only
  rw [commitStart_of_none s h, hn]

/-- While another journal is written, none begins. -/
theorem commitBegin_of_busy (h : s.seq.commit = some j) (hj : j.task ≠ t ∨ j.chamber ≠ c) : s.commitBegin c t = s := by
  unfold State.commitBegin
  dsimp only
  rw [commitStart_of_busy s h, h]
  exact if_neg fun hk => hj.elim (· hk.1) (· hk.2)

/-! ### The journal among the stored instances -/

/-- The words of a journal are written one after the other into area `a`. -/
def State.storeWords (s : State) (a : Nat) (l : List (Nat × DWord)) : State := l.foldl (fun s p => s.setInstWord a p.1 p.2) s

/-- Where no journal entry goes, the word stays. -/
theorem storeWords_apart {a k : Nat} (l : List (Nat × DWord)) (s : State) (h : ∀ e ∈ l, instKey a e.1 ≠ k) :
    sparseGet (fun _ => 0) (s.storeWords a l).inst.words k = sparseGet (fun _ => 0) s.inst.words k := by
  induction l generalizing s with
  | nil => rfl
  | cons e l ih =>
    refine (ih (s.setInstWord a e.1 e.2) fun x hx => h x (List.mem_cons_of_mem e hx)).trans ?_
    exact sparseGet_set_ne _ _ _ (h e List.mem_cons_self).symm

/-- Entries of different words all reach the store. -/
theorem storeWords_same {a : Nat} (l : List (Nat × DWord)) (s : State) (h : (l.map fun e => e.1 / 8).Nodup) :
    ∀ e ∈ l, (s.storeWords a l).instWord a e.1 = e.2 := by
  induction l generalizing s with
  | nil => exact fun e he => absurd he List.not_mem_nil
  | cons p l ih =>
    obtain ⟨hp, hl⟩ := List.nodup_cons.1 h
    intro e he
    rcases List.mem_cons.1 he with rfl | he
    · refine (storeWords_apart l (s.setInstWord a e.1 e.2) fun x hx hk => hp ?_).trans (sparseGet_set_same _ _ _ _)
      exact List.mem_map.2 ⟨x, hx, Nat.add_left_cancel hk⟩
    · exact ih (s.setInstWord a p.1 p.2) hl e he

theorem storeWords_inst (a : Nat) (l : List (Nat × DWord)) (s : State) : s.storeWords a l = { s with inst := (s.storeWords a l).inst } := by
  induction l generalizing s with
  | nil => rfl
  | cons e l ih => exact ih (s.setInstWord a e.1 e.2)

/-- Apart from an online change nothing is mirrored (R201). -/
theorem commitWords_of_unchanging (h : s.olc.survey = none) (t0 : Nat) (l : List (Nat × DWord)) :
    s.commitWords t0 l = s.storeWords (s.areaAt t0) l := by
  have ho : (s.storeWords (s.areaAt t0) l).olc.survey = none := by rw [storeWords_inst, h]
  unfold State.commitWords
  dsimp only
  rw [State.storeWords] at ho ⊢
  rw [ho]

/-- A main lane without errors gives its own journal (R190). -/
theorem compared_of_sound {ch : Chamber} (h : ch.main.journalUe = []) : ch.compared = (ch.main.journal, false, false) := by
  unfold Chamber.compared
  rw [h]
  suffices hl : ∀ l acc : List (Nat × DWord), l.foldl (fun (acc : List (Nat × DWord) × Bool × Bool) e => (acc.1 ++ [e], acc.2.1, acc.2.2))
      (acc, false, false) = (acc ++ l, false, false) from hl ch.main.journal []
  intro l
  induction l with
  | nil => simp
  | cons e l ih =>
    intro acc
    rw [List.foldl_cons, ih, List.append_assoc]
    rfl

/-! ### COMMIT_END -/

/-- The commit unit, the stored instances and the chambers. -/
def State.storing (s : State) : Option ReadyJournal × InstState × List (Nat × Chamber) × Nat :=
  (s.seq.commit, s.inst, s.chambers, s.get Fld.SEQ_STAT_COMMIT_BUSY)

theorem paced.storing {s u : State} (h : paced true s u) : u.storing = s.storing := by
  have hf : Fld.SEQ_STAT_COMMIT_BUSY.sequenced := ⟨by decide, by decide⟩
  rw [State.storing, State.storing, h.seq, h.inst, h.chambers rfl, h.field _ hf]

theorem put_storing {f : RegField} (hf : f.addr ≠ Reg.SEQ_STAT) (v : Nat) : (s.put f v).storing = s.storing := by
  have hb : (s.put f v).get Fld.SEQ_STAT_COMMIT_BUSY = s.get Fld.SEQ_STAT_COMMIT_BUSY := s.get_put_apart f _ (Or.inl hf) v
  rw [State.storing, State.storing, hb]
  rfl

theorem bump_LATE_storing {f : RegField} (hf : f.addr = Reg.SEQ_TASK_LATE t) : (s.bump f).storing = s.storing := by
  unfold State.bump
  split
  · refine put_storing s (fun h => ?_) _
    have h := hf.symm.trans h
    simp only [Reg.SEQ_TASK_LATE, Reg.SEQ_STAT] at h
    omega
  · rfl

theorem budget_storing (n : Nat) : (s.budget j n).storing = s.storing := by
  unfold State.budget
  extract_lets limit k before s1 s2
  have h1 : s1.storing = s.storing := rfl
  split
  · exact (((paced_raise _ _ _ _).trans (paced_record _ _ _ _)).storing).trans ((bump_LATE_storing s1 rfl).trans h1)
  · exact h1

theorem tickCount_storing (n : Nat) : (s.tickCount n).storing = s.storing := by
  unfold State.tickCount State.putMax
  extract_lets m seq s1
  have h1 : s1.storing = s.storing := rfl
  split
  · exact (put_storing s1 (f := Fld.SEQ_COMMIT_TICK_MAX) (by decide) _).trans h1
  · exact h1

theorem sendJournal_storing (l : List (Nat × DWord)) : (s.sendJournal j l).storing = s.storing := by
  unfold State.sendJournal
  split
  · exact (paced.foldl _ (fun u i _ => paced_emit u _) s).storing
  · rfl

/-- At the end of a commit the journal is in the store, and the commit unit is free. -/
theorem committed_storing (ho : s.olc.survey = none) (hu : (s.chamber j.chamber).main.journalUe = []) :
    (s.committed j).storing = (none, (s.storeWords (s.areaAt j.t0) (s.chamber j.chamber).main.journal).inst, s.chambers, 0) := by
  unfold State.committed
  rw [compared_of_sound hu]
  dsimp only
  rw [commitWords_of_unchanging s ho]
  have hchambers := congrArg State.chambers (storeWords_inst (s.areaAt j.t0) (s.chamber j.chamber).main.journal s)
  generalize s.storeWords (s.areaAt j.t0) (s.chamber j.chamber).main.journal = u at hchambers ⊢
  have hput : ∀ v : State, (v.put Fld.SEQ_STAT_COMMIT_BUSY 0).storing = (v.seq.commit, v.inst, v.chambers, 0) := fun v =>
    congrArg (fun b => (v.seq.commit, v.inst, v.chambers, b)) (v.get_put_same Fld.SEQ_STAT_COMMIT_BUSY (show 6 + 1 ≤ 32 by decide) 0)
  rw [← hchambers]
  refine (sendJournal_storing _ _).trans ((tickCount_storing _ _).trans ((budget_storing _ _).trans ?_))
  split
  · exact (bump_LATE_storing _ rfl).trans (hput _)
  · exact hput _

theorem execCommitEnd_of_idle (h : s.seq.commit = none) : exec .commitEnd s = .next s := by
  show execCommitEnd s = _
  unfold execCommitEnd
  rw [h]
  rfl

theorem execCommitEnd_of_busy (h : s.seq.commit = some j) : exec .commitEnd s = .next (s.committed j) := by
  show execCommitEnd s = _
  unfold execCommitEnd
  rw [h]
  rfl

end Sys2Proof.Machine
end

section
/-! SUPPORT. The outcome of a cycle and EMIT (R153, R162, R164, R168). -/
namespace Sys2Proof.Machine

variable {k : Bool} (s : State) {t : Nat}

/-! ### The module's own outcome (R162) -/

/-- An execution that has not reached its first comparison. -/
theorem ownOutcome_of_unreached (h : ∃ e ∈ s.entriesOf t, e.chamber ∉ (s.task t).equal ∧ e.chamber ∉ (s.task t).mism) :
    s.ownOutcome t = .overrun := by
  obtain ⟨e, he, hq, hm⟩ := h
  refine if_pos (List.any_eq_true.2 ⟨e, he, ?_⟩)
  simpa using ⟨hq, hm⟩

/-- Every execution has reached a comparison. -/
theorem ownOutcome_of_reached (h : ∀ e ∈ s.entriesOf t, e.chamber ∈ (s.task t).equal ∨ e.chamber ∈ (s.task t).mism) :
    s.ownOutcome t = if (s.task t).badEnd = true ∨ s.allEqual t = false then .skipped
      else if (s.task t).mism = [] then .committed else .recovered := by
  have hany : ((s.entriesOf t).any fun e => !(s.task t).equal.contains e.chamber && !(s.task t).mism.contains e.chamber) = false :=
    List.any_eq_false.2 fun e he => by simpa [or_iff_not_imp_left] using h e he
  unfold State.ownOutcome
  dsimp only
  rw [hany, if_neg Bool.false_ne_true]
  simp [State.allEqual]

theorem ownOutcome_of_equal (h : s.allEqual t = true) (hb : (s.task t).badEnd = false) :
    s.ownOutcome t = if (s.task t).mism = [] then .committed else .recovered := by
  have hr : ∀ e ∈ s.entriesOf t, e.chamber ∈ (s.task t).equal := fun e he => by simpa using List.all_eq_true.1 h e he
  rw [ownOutcome_of_reached s fun e he => Or.inl (hr e he), h, hb]
  simp

/-! ### The outcome stands (R162, R166) -/

theorem taskRole_of_solo (h : s.role = .solo) : s.taskRole t = .solo := by
  unfold State.taskRole State.cycleRole
  rw [h]
  cases s.pair.swappedNs with
  | none => rfl
  | some n => exact ite_self _

/-- What a module in SOLO has settled stays settled. -/
theorem settle_of_standing (hr : s.role = .solo) (h : (s.task t).standing.isSome = true) : s.settle t = s := by
  unfold State.settle
  dsimp only
  split
  · rfl
  · rw [taskRole_of_solo s hr, if_neg (by simp), if_neg (by simpa [Option.isSome_iff_ne_none] using h)]

/-- In SOLO the module's own outcome stands. -/
theorem settle_of_solo (hr : s.role = .solo) {o : CycleOutcome} (ho : (s.task t).own = some o) (hn : (s.task t).standing = none) :
    s.settle t = s.stand t o := by
  unfold State.settle
  dsimp only
  rw [ho, hn, taskRole_of_solo s hr]
  rfl

/-- Outcomes and waiting journals of a task's cycle, with the stored instances, the ready journals and the outcome shown. -/
def State.verdict (s : State) (t : Nat) : Option CycleOutcome × Option CycleOutcome × Bool × List (Nat × List (Nat × DWord)) × InstState × SeqState × Nat :=
  ((s.task t).standing, (s.task t).own, (s.task t).outcomeFixed, (s.task t).journals, s.inst, s.seq, s.get (Fld.SEQ_TASK_STAT_OUTCOME t))

theorem put_HELD_RUN_verdict (n : Nat) : (s.put (Fld.SEQ_TASK_STAT_HELD_RUN t) n).verdict t = s.verdict t := by
  have h := s.get_put_apart (Fld.SEQ_TASK_STAT_HELD_RUN t) (Fld.SEQ_TASK_STAT_OUTCOME t) (Or.inr (Or.inr (show 2 + 2 ≤ 4 by decide))) n
  rw [State.verdict, State.verdict, h]
  rfl

theorem cycleGood_verdict : (s.cycleGood t).verdict t = s.verdict t := by
  refine (put_HELD_RUN_verdict _ 0).trans ?_
  simp only [State.verdict, State.task_setTask_same]
  rfl

theorem holdTask_verdict (cause : Nat) : (s.holdTask t cause).verdict t = s.verdict t := by
  unfold State.holdTask
  dsimp only
  split
  · rfl
  · split
    · rfl
    · simp only [State.verdict, State.task_setTask_same]
      rfl

theorem cycleBad_verdict : (s.cycleBad t).verdict t = s.verdict t := by
  unfold State.cycleBad
  dsimp only
  split
  · exact holdTask_verdict s 1
  · exact put_HELD_RUN_verdict s _

/-- The journals of the cycle that wait are discarded. -/
theorem discardCycle_verdict : (s.discardCycle t).verdict t = ((s.task t).standing, (s.task t).own, (s.task t).outcomeFixed, [], s.inst,
    { s.seq with ready := s.seq.ready.filter fun j => j.task != t || j.t0 != (s.task t).t0 }, s.get (Fld.SEQ_TASK_STAT_OUTCOME t)) := by
  have hfold : ∀ (l : List (Nat × List (Nat × DWord × BitVec 32))) (u : State),
      l.foldl (fun s p => s.setChamber p.1 { s.chamber p.1 with current := p.2 }) u =
        { u with chambers := (l.foldl (fun s p => s.setChamber p.1 { s.chamber p.1 with current := p.2 }) u).chambers } := fun l => by
    induction l with
    | nil => exact fun _ => rfl
    | cons p l ih => exact fun u => ih _
  unfold State.discardCycle
  dsimp only
  rw [hfold]
  simp only [State.verdict, State.task_setTask_same]
  rfl

theorem stand_verdict (o : CycleOutcome) : (s.stand t o).verdict t =
    if outcomeBad o = true then (some o, (s.task t).own, (s.task t).outcomeFixed, [], s.inst,
      { s.seq with ready := s.seq.ready.filter fun j => j.task != t || j.t0 != (s.task t).t0 }, s.get (Fld.SEQ_TASK_STAT_OUTCOME t))
    else (some o, (s.task t).own, (s.task t).outcomeFixed, (s.task t).journals, s.inst, s.seq, s.get (Fld.SEQ_TASK_STAT_OUTCOME t)) := by
  unfold State.stand
  dsimp only
  split
  · rw [cycleBad_verdict, discardCycle_verdict, State.task_setTask_same]
    rfl
  · rw [cycleGood_verdict, State.verdict, State.task_setTask_same]
    rfl

/-! ### CYCLE_OUTCOME (R162, R164) -/

/-- A register below the sequencer's leaves the role. -/
theorem put_below_paced {f : RegField} (hf : f.addr < 0x400A0040) (v : Nat) : paced false s (s.put f v) ∧ (s.put f v).role = s.role :=
  ⟨paced_put_off s (Or.inl hf) v,
    role_of_get (s.get_put_apart f _ (Or.inl (Nat.ne_of_lt (Nat.lt_trans hf (show 0x400A0040 < Reg.PAIR_STAT by decide)))) v)⟩

theorem dropExecution_paced {c : Nat} (hc : c < 16) : paced false s (s.dropExecution c) ∧ (s.dropExecution c).role = s.role := by
  have hstat : Reg.GAL_CH_STAT c < 0x400A0040 := by
    simp only [Reg.GAL_CH_STAT]
    omega
  unfold State.dropExecution State.setChState
  obtain ⟨h, hr⟩ := put_below_paced (s.setChamber c (s.chamber c).discard.leave) (f := Fld.GAL_CH_STAT_STATE c) hstat (s.restState c)
  exact ⟨(paced_setChamber s c _).trans h, hr⟩

theorem gateInternal_paced {c : Nat} (hc : c < 16) : paced false s (s.gateInternal c) ∧ (s.gateInternal c).role = s.role := by
  have hgate : Reg.GATE_CTRL c < 0x400A0040 := by
    simp only [Reg.GATE_CTRL]
    omega
  unfold State.gateInternal
  extract_lets g s1
  obtain ⟨h, hr⟩ := put_below_paced s1 (f := Fld.GATE_CTRL_STATE c) hgate 1
  exact ⟨(paced_setGate s c _).trans h, hr⟩

/-- Where an overrunning execution is stopped, tasks and role stay. -/
theorem stopOverrun_paced {c : Nat} (hc : c < 16) : paced false s (s.stopOverrun t c) ∧ (s.stopOverrun t c).role = s.role := by
  obtain ⟨h1, r1⟩ := dropExecution_paced s hc
  obtain ⟨h2, r2⟩ := gateInternal_paced (s.dropExecution c) hc
  unfold State.stopOverrun
  dsimp only
  split
  · exact ⟨paced.refl s, rfl⟩
  · split
    · split
      · exact ⟨paced_setChamber s c _, rfl⟩
      · exact ⟨h1.trans h2, r2.trans r1⟩
    · exact ⟨paced.refl s, rfl⟩

theorem SEQ_TASK_beside {n : Nat} (hn : n < 16) : (Fld.SEQ_TASK_RECOVERED_COUNT n).beside ∧ (Fld.SEQ_TASK_SKIPS_COUNT n).beside ∧
    (Fld.SEQ_TASK_OVERRUNS_COUNT n).beside ∧ (Fld.SEQ_TASK_MARGIN_MIN_MARGIN n).beside := by
  simp only [RegField.beside, Fld.SEQ_TASK_RECOVERED_COUNT, Fld.SEQ_TASK_SKIPS_COUNT, Fld.SEQ_TASK_OVERRUNS_COUNT, Fld.SEQ_TASK_MARGIN_MIN_MARGIN,
    Reg.SEQ_TASK_RECOVERED, Reg.SEQ_TASK_SKIPS, Reg.SEQ_TASK_OVERRUNS, Reg.SEQ_TASK_MARGIN, Reg.PAIR_STAT]
  omega

theorem SEQ_TASK_STAT_sequenced {n : Nat} (hn : n < 16) {f : RegField} (hf : f.addr = Reg.SEQ_TASK_STAT n) : f.sequenced := by
  rw [RegField.sequenced, hf]
  simp only [Reg.SEQ_TASK_STAT]
  omega

section
variable (ht : t < 16)
include ht

theorem noteMargin_paced : paced true s (s.noteMargin t) := by
  obtain ⟨_, _, _, hm⟩ := SEQ_TASK_beside ht
  exact (paced_put s hm _).ite

theorem putOutcome_role (v : Nat) : (s.put (Fld.SEQ_TASK_STAT_OUTCOME t) v).role = s.role := by
  refine role_of_get (s.get_put_apart (Fld.SEQ_TASK_STAT_OUTCOME t) Fld.PAIR_STAT_ROLE (Or.inl (show Reg.SEQ_TASK_STAT t ≠ Reg.PAIR_STAT from ?_)) v)
  simp only [Reg.SEQ_TASK_STAT, Reg.PAIR_STAT]
  omega

/-- After the outcome is shown only its count and its source follow. -/
theorem countOutcome_paced (o : CycleOutcome) : paced true (s.put (Fld.SEQ_TASK_STAT_OUTCOME t) (outcomeCode o)) (s.countOutcome t o) := by
  obtain ⟨hr, hs, ho, _⟩ := SEQ_TASK_beside ht
  unfold State.countOutcome
  cases o with
  | committed => exact paced.refl _
  | recovered => exact paced_bump _ hr
  | skipped => exact (paced_bump _ hs).trans (paced_raise _ _ _ _)
  | overrun => exact (paced_bump _ ho).trans (paced_raise _ _ _ _)

theorem countOutcome_shows (o : CycleOutcome) : (s.countOutcome t o).tasks = s.tasks ∧ (s.countOutcome t o).inst = s.inst ∧
    (s.role = .solo → (s.countOutcome t o).role = .solo) ∧ (s.countOutcome t o).get (Fld.SEQ_TASK_STAT_OUTCOME t) = outcomeCode o := by
  have h := countOutcome_paced s ht o
  have hget := s.get_put_same (Fld.SEQ_TASK_STAT_OUTCOME t) (show 2 + 2 ≤ 32 by decide) (outcomeCode o)
  have hcode : outcomeCode o % 4 = outcomeCode o := by cases o <;> rfl
  exact ⟨h.tasks, h.inst, fun hs => h.solo rfl ((putOutcome_role s ht _).trans hs),
    (h.field _ (SEQ_TASK_STAT_sequenced ht rfl)).trans (hget.trans hcode)⟩

/-- A module in SOLO fixes its outcome; it stands and is shown. -/
theorem cycleOutcome_of_solo (hrun : s.bit Fld.SEQ_STAT_RUNNING = true) (hm : s.mode = .run ∨ s.mode = .service) (hr : s.taskRunning t = true)
    (hf : (s.task t).outcomeFixed = false) (hs : s.role = .solo) (hn : (s.task t).standing = none) :
    ∃ v : State, v.task t = { s.task t with outcomeFixed := true, own := some (s.ownOutcome t) } ∧ v.inst = s.inst ∧
      v.get (Fld.SEQ_TASK_STAT_OUTCOME t) = outcomeCode (s.ownOutcome t) ∧ s.cycleOutcome t = v.stand t (s.ownOutcome t) := by
  have hgo : (s.bit Fld.SEQ_STAT_RUNNING && (s.mode == .run || s.mode == .service) && s.taskRunning t && !(s.task t).outcomeFixed) = true := by
    simpa [hrun, hr, hf] using hm
  unfold State.cycleOutcome
  rw [if_pos hgo]
  extract_lets k o l s1 s2 s3
  have h2 : paced false s1 s2 ∧ s2.role = .solo := by
    have h1 : s1.role = .solo := hs
    dsimp only [s2]
    split
    · refine List.foldlRecOn (motive := fun u => paced false s1 u ∧ u.role = .solo) _ _ ⟨paced.refl s1, h1⟩ fun u hu c hc => ?_
      obtain ⟨hp, hr⟩ := stopOverrun_paced u (t := t) (List.mem_range.1 hc)
      exact ⟨hu.1.trans hp, hr.trans hu.2⟩
    · have h := noteMargin_paced s1 ht
      exact ⟨⟨h.mode, h.inst, h.tasks, h.seq, h.field, h.watch, h.tail, nofun, nofun, nofun⟩, h.solo rfl h1⟩
  obtain ⟨h2, hr2⟩ := h2
  obtain ⟨hk, hi, hr3, hshow⟩ := countOutcome_shows s2 ht o
  have hr3 := hr3 hr2
  have h3 : s3 = s2.countOutcome t o := by
    dsimp only [s3, State.sendOutcome]
    rw [taskRole_of_solo _ hr3, if_neg (by simp)]
  have htask : s3.task t = { s.task t with outcomeFixed := true, own := some o } := by
    rw [h3, State.task, hk]
    exact (h2.task t).trans (s.task_setTask_same t _)
  rw [← h3] at hi hr3 hshow
  refine ⟨s3, htask, hi.trans h2.inst, hshow, settle_of_solo s3 hr3 ?_ ?_⟩
  · rw [htask]
  · rw [htask]
    exact hn

end

/-! ### What follows EMIT -/

theorem ISL_above (n : Nat) : Reg.PAIR_STAT < Reg.ISL_CH_STAT n ∧ Reg.PAIR_STAT < Reg.ISL_AN_STAT n := by
  simp only [Reg.PAIR_STAT, Reg.ISL_CH_STAT, Reg.ISL_AN_STAT]
  omega

theorem paced_setChan (n : Nat) (c : IslChan) : paced k s (s.setChan n c) := .of_pace rfl

theorem paced_setIsland (i : Nat) (x : Island) : paced k s (s.setIsland i x) := .of_pace rfl

theorem paced_driveDo (n : Nat) : paced k s (s.driveDo n) := by
  unfold State.driveDo
  extract_lets on safe c c1 s1 s2
  have h1 : paced k s s1 := paced_setChan s n _
  have h2 : paced k s1 s2 := paced_putAll_above s1 (ISL_above n).1 (by simp [Fld.ISL_CH_STAT_DRIVER, Fld.ISL_CH_STAT_SAFE_ACTIVE])
  split
  · exact h1.trans h2
  · exact h1.trans (h2.trans (paced_putBit_above s2 (ISL_above n).1 false))

theorem paced_driveAo (n : Nat) : paced k s (s.driveAo n) := by
  have hsafe : ∀ (u : State) b, paced k u (u.putBit (Fld.ISL_CH_STAT_SAFE_ACTIVE n) b) := fun u b => paced_putBit_above u (ISL_above n).1 b
  unfold State.driveAo
  extract_lets c
  split
  · exact (paced_setChan s n _).trans (hsafe _ false)
  · rename_i s1 s2 _ _
    have h1 : paced k s s1 := paced_setChan s n _
    have h2 : paced k s1 s2 := hsafe s1 _
    refine h1.trans (h2.trans (paced.ite ?_))
    exact (paced_put_above s2 (f := Fld.ISL_AN_STAT_STEP_UP n) (ISL_above n).2 0).trans (paced_fall _ (by decide) _ _)

theorem paced_refreshChan (n : Nat) : paced k s (s.refreshChan n) := by
  unfold State.refreshChan
  extract_lets s1
  have h1 : paced k s s1 := by
    dsimp only [s1]
    split
    · exact paced_driveDo s n
    · split
      · exact paced_driveAo s n
      · exact paced_put_above s (ISL_above n).1 0
  split
  · exact h1.trans (paced_put_above s1 (ISL_above n).1 _)
  · exact h1.trans (paced_putAll_above s1 (ISL_above n).1 (by simp [Fld.ISL_CH_STAT_STATUS, Fld.ISL_CH_STAT_MASKED]))

theorem paced_islandRestart : paced k s s.islandRestart := by
  unfold State.islandRestart
  split
  · refine paced.ite ?_
    exact (paced_put_above s (f := Fld.UPD_ISL_STAT_PHASE) (by decide) 3).trans ((paced_setIsland _ _ _).trans ((paced_setIsland _ _ _).trans
      (paced.foldl _ (fun u j _ => paced_refreshChan u _) _)))
  · exact paced.refl s

/-- A yield watch that counts, counts down. -/
theorem paced_watchCounts : paced k s { s with pair := { s.pair with watchLeft := s.pair.watchLeft - 1 } } where
  mode := rfl
  inst := rfl
  tasks := rfl
  seq := rfl
  field _ _ := rfl
  watch h := congrArg (· - 1) h
  tail _ := id
  unsynced _ := id
  solo _ := id
  chambers _ := rfl

theorem paced_fastestEmit : paced k s s.fastestEmit := (paced_islandRestart s).trans (paced_watchCounts _).ite

theorem paced_canCancelAll (c : Nat) : paced k s (s.canCancelAll c) := by
  unfold State.canCancelAll
  extract_lets x s1
  have h1 : paced k s s1 := .of_pace rfl
  exact h1.trans (paced.foldl _ (fun u m _ => (paced_put_above u (CAN_OBJ_above c m).1 Tx.CANCELLED).ite) s1)

theorem paced_canRoles : paced k s s.canRoles := by
  refine paced.foldl _ (fun u c _ => ?_) s
  have hput : paced k u (u.putBit (Fld.CAN_STAT_PAIR_SILENT c) u.canSilent) := paced_putBit_above u (show Reg.PAIR_STAT < Reg.CAN_STAT c by
    simp only [Reg.PAIR_STAT, Reg.CAN_STAT]
    omega) _
  split
  · exact paced.refl u
  · dsimp only
    split
    · exact hput.trans (paced_canCancelAll _ c)
    · exact hput

theorem paced_duplexExchange : paced k s s.duplexExchange := by
  unfold State.duplexExchange
  extract_lets pair s1
  have h1 : paced k s s1 := .of_pace rfl
  exact h1.trans (paced_emit s1 _).ite

theorem paced_joinTail (n : Nat) : paced k s (s.joinTail n) := .ite (.of_pace rfl)

/-! ### A hold enters at its EMIT (R168) -/

theorem paced_gateHeld : paced k s s.gateHeld := by
  refine paced.foldl _ (fun u c hc => (paced_put u ?_ 1).ite) s
  have hc := List.mem_range.1 hc
  simp only [RegField.beside, Fld.GAL_CH_STAT_DOZE, Reg.GAL_CH_STAT, Reg.PAIR_STAT]
  omega

/-- Task `n` is held for `cause`, no other hold waits for it, and it has no tail. -/
def heldFor (n cause : Nat) (i : InstState) (u : State) : Prop :=
  u.get (Fld.SEQ_TASK_STAT_STATE n) = 2 ∧ u.get (Fld.SEQ_TASK_STAT_HOLD_CAUSE n) = cause ∧ u.inst = i ∧ (u.task n).holdPending = none ∧
    n ∉ u.olc.tail

theorem paced.heldFor {s u : State} (h : paced k s u) {n cause : Nat} {i : InstState} (hn : n < 16) (hs : heldFor n cause i s) :
    heldFor n cause i u := by
  obtain ⟨h1, h2, h3, h4, h5⟩ := hs
  exact ⟨(h.field _ (SEQ_TASK_STAT_sequenced hn rfl)).trans h1, (h.field _ (SEQ_TASK_STAT_sequenced hn rfl)).trans h2, h.inst.trans h3,
    (congrArg TaskState.holdPending (h.task n)).trans h4, h.tail n h5⟩

theorem enterTaskHold_holds {n cause : Nat} (hn : n < 16) (hc : cause < 16) (ht : n ∉ s.olc.tail) :
    heldFor n cause s.inst (s.enterTaskHold n cause) := by
  unfold State.enterTaskHold
  extract_lets x s1 s2
  have h2 : heldFor n cause s.inst s2 := by
    refine ⟨?_, ?_, rfl, ?_, ht⟩
    · refine Eq.trans (State.get_put_apart _ (Fld.SEQ_TASK_STAT_HOLD_CAUSE n) (Fld.SEQ_TASK_STAT_STATE n) (Or.inr (Or.inr ?_)) cause) ?_
      · exact (show 0 + 2 ≤ 12 by decide)
      · exact s1.get_put_same (Fld.SEQ_TASK_STAT_STATE n) (show 0 + 2 ≤ 32 by decide) 2
    · exact (State.get_put_same _ (Fld.SEQ_TASK_STAT_HOLD_CAUSE n) (show 12 + 4 ≤ 32 by decide) cause).trans (Nat.mod_eq_of_lt hc)
    · rw [State.task_putAll, State.task_setTask_same]
  clear_value s2
  have h : paced true s2 (((s2.raise Src.TASK_HOLD n 0).record 0x26 n [(1, cause), (4, (s2.cyc n).toNat)]).gateHeld) :=
    (paced_raise s2 _ _ _).trans ((paced_record _ _ _ _).trans (paced_gateHeld _))
  exact h.heldFor hn h2

theorem tailEmit_of_no_tail {n : Nat} (h : n ∉ s.olc.tail) : s.tailEmit n = s := if_neg (by simpa using h)

/-- EMIT of a module in SOLO, in which the hold of task `n` is due. -/
theorem emitTask_holds {n cause : Nat} (hn : n < 16) (hc : cause < 16) (hr : s.role = .solo) (hs : (s.task n).standing.isSome = true)
    (hp : (s.task n).holdPending = some cause) (ht : n ∉ s.olc.tail) : heldFor n cause s.inst (s.emitTask n) := by
  unfold State.emitTask
  rw [settle_of_standing s hr hs]
  extract_lets s0 quiet k s1 s2 s3 s4 pair s5 s6
  have h2 : heldFor n cause s.inst s2 := by
    have htask : (s1.task n).holdPending = some cause := (congrArg TaskState.holdPending (s.task_setTask_same n _)).trans hp
    have heq : s2 = s1.enterTaskHold n cause := by
      dsimp only [s2, State.holdDue]
      rw [htask]
    rw [heq]
    exact enterTaskHold_holds s1 hn hc ht
  have h3 : s3 = s2 := by
    obtain ⟨hstate, _⟩ := h2
    have hrun : s2.taskRunning n = false := by simp [State.taskRunning, hstate]
    dsimp only [s3]
    rw [hrun, Bool.and_false, Bool.false_and, if_neg Bool.false_ne_true]
  have h5 : paced true s2 s5 := by
    have h4 : paced true s2 s4 := h3 ▸ (paced_duplexExchange s3).trans (paced_canRoles _)
    dsimp only [s5]
    clear_value s4
    split
    · exact h4
    · exact h4.trans (.of_pace rfl)
  have h5 := h5.heldFor hn h2
  have h6 : heldFor n cause s.inst s6 := by
    have ⟨_, _, _, _, htail⟩ := h5
    have heq : s6 = s5.joinTail n := congrArg (fun u => State.joinTail u n) (tailEmit_of_no_tail s5 htail)
    exact heq ▸ (paced_joinTail (k := true) s5 n).heldFor hn h5
  exact (paced_fastestEmit (k := true) s6).ite.heldFor hn h6

end Sys2Proof.Machine
end

section
/-! The obligation about commits, outcomes and EMIT. -/
open Sys2Proof Sys2Proof.Machine

/-- The part about commits: what COMMIT_START takes, and what stands among the stored instances at COMMIT_END. -/
theorem commitOfJournals : Claim.CommitOfJournals := by
  intro s c t
  refine ⟨fun j hj hn hc ht hch hq => ?_, fun hn h => ?_, fun j hj hne => ?_, fun hn => ?_, fun j hj hch ho hu hd => ?_⟩
  · rw [← ht, ← hch] at hq
    have h := commitBegin_of_first s hn hj hc hq
    rw [ht, hch] at h
    exact ⟨_, rfl, h⟩
  · exact congrArg _ (commitBegin_of_none s hn h)
  · exact congrArg _ (commitBegin_of_busy s hj hne)
  · exact execCommitEnd_of_idle s hn
  · rw [← hch] at hu hd ⊢
    have h := committed_storing s ho hu
    simp only [State.storing, Prod.mk.injEq] at h
    obtain ⟨hcommit, hinst, hchambers, hbusy⟩ := h
    refine ⟨_, execCommitEnd_of_busy s hj, hcommit, hbusy, hchambers, fun e hl => ?_, fun k hk => ?_⟩
    · rw [State.instWord, hinst]
      exact storeWords_same _ s hd e hl
    · rw [hinst]
      exact storeWords_apart _ s hk

/-- The part about outcomes and EMIT, in SOLO: what stands of an outcome, and the hold that enters. -/
theorem cycleOutcomesAndEmit : Claim.CycleOutcomesAndEmit := by
  intro s t
  refine ⟨fun h hb hm => ?_, fun h hb hm => ?_, ownOutcome_of_unreached s, fun h hb => ?_, fun h => ?_, fun hrun hm hr hf hs hn => ?_, fun h => ?_,
    fun cause hc hrun hr hs hst hp ht => ?_⟩
  · rw [ownOutcome_of_equal s h hb, if_pos hm]
  · rw [ownOutcome_of_equal s h hb, if_neg hm]
  · rw [ownOutcome_of_reached s h, if_pos hb]
  · refine congrArg _ (if_neg ?_ : s.cycleOutcome t.val = s)
    rcases h with h | h <;> simp [h]
  · obtain ⟨v, hv, hi, hshow, he⟩ := cycleOutcome_of_solo s t.isLt hrun hm hr hf hs hn
    refine ⟨_, congrArg Host.Outcome.next he, ?_⟩
    have h := stand_verdict v (t := t.val) (s.ownOutcome t.val)
    generalize s.ownOutcome t.val = o at hv hshow h ⊢
    generalize v.stand t.val o = u at h ⊢
    rw [hv, hi, hshow] at h
    split at h
    · simp only [State.verdict, Prod.mk.injEq] at h
      obtain ⟨hst, how, hfix, hj, hin, hseq, ho⟩ := h
      refine ⟨hfix, how, hst, ho, hin, fun _ => ⟨hj, fun p hp ht h0 => ?_⟩⟩
      rw [hseq] at hp
      simpa [ht, h0] using (List.mem_filter.1 hp).2
    · rename_i hbad
      simp only [State.verdict, Prod.mk.injEq] at h
      obtain ⟨hst, how, hfix, _, hin, _, ho⟩ := h
      exact ⟨hfix, how, hst, ho, hin, fun hb => absurd hb hbad⟩
  · refine if_neg ?_
    rcases h with h | h <;> simp [h]
  · have hgo : (s.bit Fld.SEQ_STAT_RUNNING && s.get (Fld.SEQ_TASK_STAT_STATE t.val) != 0) = true := by
      have h1 : s.get (Fld.SEQ_TASK_STAT_STATE t.val) = 1 := beq_iff_eq.1 hr
      rw [hrun, h1]
      rfl
    obtain ⟨hstate, hcause, hin, hpend, _⟩ := emitTask_holds s t.isLt (Nat.lt_of_le_of_lt hc (by decide)) hs hst hp ht
    exact ⟨_, if_pos hgo, hstate, hcause, hin, hpend⟩

/-- Settles O33, by its two parts. -/
theorem commitAndOutcomes : Obligations.CommitAndOutcomes := ⟨commitOfJournals, cycleOutcomesAndEmit⟩

end

section
/-! SUPPORT. Writes and reads of registers that the debugger's commands share: fields put together, fields that a plain write keeps, and what a
change of registers alone leaves. -/
namespace Sys2Proof.Machine

variable {s t : State} {as : List Nat}

/-- Of several fields put that share no bit, each reads what was put. -/
theorem get_putAll_same {l : List (RegField × Nat)} (hl : l.Pairwise fun p q => q.1.apart p.1) {p : RegField × Nat} (hp : p ∈ l)
    (hf : p.1.fits) (s : State) : (s.putAll l).get p.1 = p.2 % 2 ^ p.1.width := by
  induction l generalizing s with
  | nil => exact absurd hp List.not_mem_nil
  | cons q l ih =>
    obtain ⟨hq, hl⟩ := List.pairwise_cons.1 hl
    rw [State.putAll_cons]
    rcases List.mem_cons.1 hp with rfl | hp
    · rw [State.get_putAll_apart _ l p.1 hq, State.get_put_same s _ hf]
    · exact ih hl hp _

/-- A plain write of a register without clamped fields keeps a field in which no bit is writable, W1C or W1S (R7). -/
theorem get_regStore_of_readOnly {f : RegField} {r : RegRow} (hr : regFind f.addr = some r) (hc : clamped f.addr = false)
    (hm : ∀ i, f.lo ≤ i → i < f.lo + f.width → (r.rw ||| r.rwl ||| r.w1c ||| r.w1s).getLsbD i = false) (s : State) (v : Word) :
    (s.regStore f.addr v).get f = s.get f := by
  have hs : (s.regStore f.addr v).getReg f.addr = rowStore r (s.rowLocked r) (s.getReg f.addr) v := by
    simp only [State.regStore, hr, State.getReg_setReg_same, clampReg_of_not_clamped hc]
  rw [State.get, State.get, hs]
  apply Nat.eq_of_testBit_eq
  intro i
  rw [RegField.testBit_ext, RegField.testBit_ext]
  by_cases hi : i < f.width
  · have hb := hm (f.lo + i) (Nat.le_add_right _ _) (by omega)
    simp only [BitVec.getLsbD_or, Bool.or_eq_false_iff] at hb
    obtain ⟨⟨⟨hrw, hrwl⟩, hw1c⟩, hw1s⟩ := hb
    by_cases h32 : f.lo + i < 32
    · rw [getLsbD_rowStore (regFind_typesApart hr) _ _ _ h32]
      simp [hrw, hrwl, hw1c, hw1s]
    · rw [BitVec.getLsbD_of_ge _ _ (by omega), BitVec.getLsbD_of_ge _ _ (by omega)]
  · simp [hi]

theorem regsOnly.chambers (h : regsOnly s t as) : t.chambers = s.chambers := by rw [← h.1]

theorem regsOnly.chamber (h : regsOnly s t as) (c : Nat) : t.chamber c = s.chamber c :=
  congrArg (fun m => sparseGet (fun _ => Chamber.reset) m c) h.chambers

theorem regsOnly.ls (h : regsOnly s t as) : t.ls = s.ls := by rw [← h.1]

theorem regsOnly.role (h : regsOnly s t as) (ha : Reg.PAIR_STAT ∉ as) : t.role = s.role := role_of_get (h.get ha)

theorem reported.ls (h : reported s t) : t.ls = s.ls := by
  have e := congrArg State.ls h.1
  exact e

theorem reported.chamber (h : reported s t) (c : Nat) : t.chamber c = s.chamber c :=
  congrArg (fun m => sparseGet (fun _ => Chamber.reset) m c) h.chambers

end Sys2Proof.Machine
end

section
/-! SUPPORT. Halts, steps and resumptions of a chamber (R196): what they leave in LS_DBG_CTRL and in the lanes. -/
namespace Sys2Proof.Machine

variable (s : State) {c : Nat} {v : Word}

/-! ### LS_DBG_CTRL (R428, R469) -/

/-- What a plain write of LS_DBG_CTRL[c] leaves: every other register, and HALTED of its own. -/
theorem regStore_LS_DBG_CTRL (hc : c < 16) : regsOnly s (s.regStore (Reg.LS_DBG_CTRL c) v) [Reg.LS_DBG_CTRL c] ∧
    (s.regStore (Reg.LS_DBG_CTRL c) v).bit (Fld.LS_DBG_CTRL_HALTED c) = s.bit (Fld.LS_DBG_CTRL_HALTED c) := by
  have hrow : ∀ d : Fin 16, (regFind (Reg.LS_DBG_CTRL d)).map (fun r => (r.rw ||| r.rwl ||| r.w1c ||| r.w1s)) = some 0x100 ∧
      clamped (Reg.LS_DBG_CTRL d) = false := by decide
  obtain ⟨hr, hclamp⟩ := hrow ⟨c, hc⟩
  obtain ⟨r, hr, hm⟩ := Option.map_eq_some_iff.1 hr
  refine ⟨regsOnly_regStore s _ v, ?_⟩
  have hget := get_regStore_of_readOnly (f := Fld.LS_DBG_CTRL_HALTED c) hr hclamp (fun i hlo hhi => ?_) s v
  · exact congrArg (· != 0) hget
  · obtain rfl : i = 3 := by
      simp only [Fld.LS_DBG_CTRL_HALTED] at hlo hhi
      omega
    rw [hm]
    rfl

/-- The debugger's register of a chamber is none of those of role, bank, area and debug level. -/
theorem not_mem_LS_DBG_CTRL (hc : c < 16) {a : Nat} (ha : a ∈ [Reg.PAIR_STAT, Reg.SEQ_STAT, Reg.GAL_AREA, Reg.SEC_STATUS]) :
    a ∉ [Reg.LS_DBG_CTRL c] := by
  simp only [List.mem_cons, List.not_mem_nil, or_false, Reg.PAIR_STAT, Reg.SEQ_STAT, Reg.GAL_AREA, Reg.SEC_STATUS, Reg.LS_DBG_CTRL] at ha ⊢
  omega

theorem dbgCtrlWrite_of_halt (hh : (Fld.LS_DBG_CTRL_HALT_REQ c).on v = true) (hr : (Fld.LS_DBG_CTRL_RESUME c).on v = false)
    (hs : (Fld.LS_DBG_CTRL_STEP c).on v = false) : s.dbgCtrlWrite c v =
      let u := s.regStore (Reg.LS_DBG_CTRL c) v
      if u.haltAllowed = false then u.putBit (Fld.LS_DBG_CTRL_REFUSED c) true
      else if u.bit (Fld.LS_DBG_CTRL_HALTED c) then u
      else u.halt c none := by
  simp [State.dbgCtrlWrite, State.actions, actionClash, actionCount, hr, hh, hs]

theorem dbgCtrlWrite_of_resume (hc : c < 16) (hh : (Fld.LS_DBG_CTRL_HALT_REQ c).on v = false) (hr : (Fld.LS_DBG_CTRL_RESUME c).on v = true)
    (hs : (Fld.LS_DBG_CTRL_STEP c).on v = false) (hl : 2 ≤ s.get Fld.SEC_STATUS_DBG_LEVEL) :
    s.dbgCtrlWrite c v = (s.regStore (Reg.LS_DBG_CTRL c) v).resumeChamber c := by
  have hlevel := (regsOnly_regStore s (Reg.LS_DBG_CTRL c) v).get (f := Fld.SEC_STATUS_DBG_LEVEL) (not_mem_LS_DBG_CTRL hc (by decide))
  simp [State.dbgCtrlWrite, State.actions, actionClash, actionCount, hr, hh, hs, hlevel, Nat.not_lt.2 hl]

theorem dbgCtrlWrite_of_step (hc : c < 16) (hh : (Fld.LS_DBG_CTRL_HALT_REQ c).on v = false) (hr : (Fld.LS_DBG_CTRL_RESUME c).on v = false)
    (hs : (Fld.LS_DBG_CTRL_STEP c).on v = true) (hl : 2 ≤ s.get Fld.SEC_STATUS_DBG_LEVEL) :
    s.dbgCtrlWrite c v = (s.regStore (Reg.LS_DBG_CTRL c) v).stepChamber c := by
  have hlevel := (regsOnly_regStore s (Reg.LS_DBG_CTRL c) v).get (f := Fld.SEC_STATUS_DBG_LEVEL) (not_mem_LS_DBG_CTRL hc (by decide))
  simp [State.dbgCtrlWrite, State.actions, actionClash, actionCount, hr, hh, hs, hlevel, Nat.not_lt.2 hl]

/-! ### Halts -/

theorem haltAllowed_iff : s.haltAllowed = true ↔ s.role ≠ .lead ∧ 2 ≤ s.get Fld.SEC_STATUS_DBG_LEVEL := by
  simp [State.haltAllowed]

theorem haltAllowed_eq_false_iff : s.haltAllowed = false ↔ s.role = .lead ∨ s.get Fld.SEC_STATUS_DBG_LEVEL < 2 := by
  simp [State.haltAllowed, Classical.or_iff_not_imp_left]

theorem lane_halt (x : Option Nat) (w : Lane) : ((s.halt c x).chamber c).lane w = (s.chamber c).lane w := by
  have hch : (s.halt c x).chamber c = { s.chamber c with haltCount := (s.chamber c).haltCount + 1 } := s.chamber_setChamber_same c _
  rw [hch]
  cases w <;> rfl

/-- LS_DBG_CTRL tells of a halt and its breakpoint. -/
theorem halt_shows {x : Option Nat} (hx : x.getD 0 < 4) : (s.halt c x).bit (Fld.LS_DBG_CTRL_HALTED c) = true ∧
    (s.halt c x).get (Fld.LS_DBG_CTRL_BP_HIT c) = x.isSome.toNat ∧ (s.halt c x).get (Fld.LS_DBG_CTRL_BP_INDEX c) = x.getD 0 := by
  unfold State.halt
  extract_lets ch u
  have hapart : List.Pairwise (fun p q : RegField × Nat => q.1.apart p.1) [(Fld.LS_DBG_CTRL_HALTED c, 1),
      (Fld.LS_DBG_CTRL_BP_HIT c, x.isSome.toNat), (Fld.LS_DBG_CTRL_BP_INDEX c, x.getD 0)] := by
    simp [RegField.apart, Fld.LS_DBG_CTRL_HALTED, Fld.LS_DBG_CTRL_BP_HIT, Fld.LS_DBG_CTRL_BP_INDEX]
  have hfits : ∀ p ∈ [(Fld.LS_DBG_CTRL_HALTED c, 1), (Fld.LS_DBG_CTRL_BP_HIT c, x.isSome.toNat), (Fld.LS_DBG_CTRL_BP_INDEX c, x.getD 0)],
      p.1.fits := by
    simp [RegField.fits, Fld.LS_DBG_CTRL_HALTED, Fld.LS_DBG_CTRL_BP_HIT, Fld.LS_DBG_CTRL_BP_INDEX]
  have hput {p : RegField × Nat} hp := get_putAll_same hapart (p := p) hp (hfits p hp) u
  refine ⟨?_, ?_, ?_⟩
  · exact congrArg (· != 0) (hput (p := (Fld.LS_DBG_CTRL_HALTED c, 1)) (by simp))
  · refine (hput (p := (Fld.LS_DBG_CTRL_BP_HIT c, x.isSome.toNat)) (by simp)).trans ?_
    cases x <;> rfl
  · exact (hput (p := (Fld.LS_DBG_CTRL_BP_INDEX c, x.getD 0)) (by simp)).trans (Nat.mod_eq_of_lt hx)

theorem breakpointHalt_of_hit {x : Nat} (he : s.chState c = Ch.EXECUTING) (hh : s.bit (Fld.LS_DBG_CTRL_HALTED c) = false)
    (hx : ((List.range 4).find? fun x => s.bit (Fld.LS_DBG_BP_ENABLE c x) && s.get (Fld.LS_DBG_BP_PC_WORD c x) ==
      (s.chamber c).main.pc / 4) = some x) :
    s.breakpointHalt c = if s.haltAllowed then s.halt c (some x) else s.putBit (Fld.LS_DBG_CTRL_REFUSED c) true := by
  rw [State.breakpointHalt, if_pos ⟨he, hh⟩, hx]

/-- A halt asked for by the debugger leaves both lanes as they are; it is done, or refused (R196). -/
theorem dbgCtrlWrite_halts (hc : c < 16) (hh : (Fld.LS_DBG_CTRL_HALT_REQ c).on v = true) (hr : (Fld.LS_DBG_CTRL_RESUME c).on v = false)
    (hs : (Fld.LS_DBG_CTRL_STEP c).on v = false) : (∀ w, ((s.dbgCtrlWrite c v).chamber c).lane w = (s.chamber c).lane w) ∧
      (s.haltAllowed = true → (s.dbgCtrlWrite c v).bit (Fld.LS_DBG_CTRL_HALTED c) = true) ∧
      (s.haltAllowed = false → (s.dbgCtrlWrite c v).bit (Fld.LS_DBG_CTRL_REFUSED c) = true ∧
        (s.dbgCtrlWrite c v).bit (Fld.LS_DBG_CTRL_HALTED c) = s.bit (Fld.LS_DBG_CTRL_HALTED c)) := by
  rw [dbgCtrlWrite_of_halt s hh hr hs]
  obtain ⟨hregs, hkept⟩ := regStore_LS_DBG_CTRL s (v := v) hc
  have hallowed : (s.regStore (Reg.LS_DBG_CTRL c) v).haltAllowed = s.haltAllowed := by
    rw [State.haltAllowed, State.haltAllowed, hregs.role (not_mem_LS_DBG_CTRL hc (by decide)),
      hregs.get (f := Fld.SEC_STATUS_DBG_LEVEL) (not_mem_LS_DBG_CTRL hc (by decide))]
  generalize s.regStore (Reg.LS_DBG_CTRL c) v = u at hregs hkept hallowed ⊢
  dsimp only
  rw [hallowed]
  cases s.haltAllowed with
  | false =>
    refine ⟨fun w => congrArg (Chamber.lane · w) (hregs.chamber c), nofun, fun _ => ⟨?_, ?_⟩⟩
    · exact congrArg (· != 0) (get_putBit_same u (f := Fld.LS_DBG_CTRL_REFUSED c) (show 8 + 1 ≤ 32 by decide) rfl true)
    · refine (congrArg (· != 0) (u.get_put_apart (Fld.LS_DBG_CTRL_REFUSED c) (Fld.LS_DBG_CTRL_HALTED c) ?_ 1)).trans hkept
      exact Or.inr (Or.inr (show 3 + 1 ≤ 8 by decide))
  | true =>
    by_cases hhalted : u.bit (Fld.LS_DBG_CTRL_HALTED c) = true
    · rw [if_neg (by decide), if_pos hhalted]
      exact ⟨fun w => congrArg (Chamber.lane · w) (hregs.chamber c), fun _ => hhalted, nofun⟩
    · rw [if_neg (by decide), if_neg hhalted]
      obtain ⟨hset, -⟩ := halt_shows u (c := c) (x := none) (by decide)
      exact ⟨fun w => (lane_halt u none w).trans (congrArg (Chamber.lane · w) (hregs.chamber c)), fun _ => hset, nofun⟩

/-! ### Resumptions (R195, R196) -/

theorem replayOne_of_empty (h : (s.chamber c).replay = []) : s.replayOne c = s := by
  simp only [State.replayOne, h]

theorem replayAll_of_empty (h : (s.chamber c).replay = []) : s.replayAll c = s := by
  have hfold : ∀ l : List Nat, l.foldl (fun u _ => u.replayOne c) s = s := fun l => by
    induction l with
    | nil => rfl
    | cons _ l ih => rw [List.foldl_cons, replayOne_of_empty s h, ih]
  exact hfold _

/-- A chamber with no buffered writes and no deferred stop goes on as it stands. -/
theorem resumeChamber_resumes (hr : (s.chamber c).replay = []) (hd : (s.chamber c).stopDeferred = false) :
    (s.resumeChamber c).bit (Fld.LS_DBG_CTRL_HALTED c) = false ∧ (s.resumeChamber c).chambers = s.chambers := by
  unfold State.resumeChamber
  rw [replayAll_of_empty s hr]
  split
  · extract_lets u
    have hu : (u.chamber c).stopDeferred = false := hd
    rw [if_neg (by rw [hu]; decide)]
    exact ⟨congrArg (· != 0) (get_putBit_same s (f := Fld.LS_DBG_CTRL_HALTED c) (show 3 + 1 ≤ 32 by decide) rfl false), rfl⟩
  · rename_i h
    exact ⟨Bool.eq_false_iff.2 h, rfl⟩

/-- The oldest buffered write, when none waits for its place: into both lanes (R195). -/
theorem replayOne_of_cons {w : ReplayWrite} {ws : List ReplayWrite} (hr : (s.chamber c).replay = w :: ws) (hn : s.ls.waiting = none) :
    s.replayOne c = (s.setChamber c { s.chamber c with
      main := (s.chamber c).main.poke w
      checker := (s.chamber c).checker.poke w
      replay := ws }).put (Fld.LS_DBG_CTRL_REPLAY_PEND c) ws.length := by
  unfold State.replayOne
  extract_lets ch
  rw [hr]
  dsimp only
  rw [State.setChamber_ls, hn]

/-! ### Steps (R125, R196) -/

section
variable {s t : State} {as : List Nat} (h : regsOnly s t as)
include h

theorem tailAt_of_regsOnly (n : Nat) : t.tailAt n = s.tailAt n := by
  have holc : t.olc = s.olc := by rw [← h.1]
  rw [State.tailAt, State.tailAt, holc]

theorem surveyAt_of_regsOnly (ha : Reg.SEQ_STAT ∉ as) (n : Nat) : t.surveyAt n = s.surveyAt n := by
  have hbanks : t.banks = s.banks := by rw [← h.1]
  have hbank : t.get Fld.SEQ_STAT_ACTIVE_BANK = s.get Fld.SEQ_STAT_ACTIVE_BANK := h.get ha
  unfold State.surveyAt State.otherSurvey State.activeSurvey
  rw [tailAt_of_regsOnly h, hbanks, hbank]

theorem areaAt_of_regsOnly (ha : Reg.GAL_AREA ∉ as) (n : Nat) : t.areaAt n = s.areaAt n := by
  have harea : t.get Fld.GAL_AREA_RUN_AREA = s.get Fld.GAL_AREA_RUN_AREA := h.get ha
  unfold State.areaAt State.runArea
  rw [tailAt_of_regsOnly h, harea]

theorem origin_of_regsOnly (ha : Reg.PAIR_STAT ∉ as) (n k : Nat) : t.origin n k = s.origin n k := by
  have hpair : t.pair = s.pair := by rw [← h.1]
  have hslot : t.get Fld.PAIR_STAT_SLOT = s.get Fld.PAIR_STAT_SLOT := h.get ha
  unfold State.origin State.leadSlot State.cycleRole State.slot
  rw [hpair, h.role ha, hslot]

/-- What an execution's instructions read beside their lane stays when registers apart from role, bank and area change. -/
theorem laneEnv_of_regsOnly (ha : ∀ a ∈ [Reg.PAIR_STAT, Reg.SEQ_STAT, Reg.GAL_AREA], a ∉ as) (x : Execution) :
    t.laneEnv c x = s.laneEnv c x := by
  have hinst : t.inst = s.inst := by rw [← h.1]
  have hsurvey := surveyAt_of_regsOnly h (ha _ (by decide))
  unfold State.laneEnv State.periodAt State.ticksAt State.taskEntryAt State.instWord State.ringSlotAt State.ringBase
  rw [hsurvey, areaAt_of_regsOnly h (ha _ (by decide)), origin_of_regsOnly h (ha _ (by decide)), hinst, h.chamber]

end

/-- They do not read the lanes. -/
theorem laneEnv_setLane (w : Lane) (l : LaneState) (x : Execution) :
    (s.setChamber c ((s.chamber c).setLane w l)).laneEnv c x = s.laneEnv c x := by
  have hch := s.chamber_setChamber_same c ((s.chamber c).setLane w l)
  have hrx : ((s.chamber c).setLane w l).rx = (s.chamber c).rx := by cases w <;> rfl
  have hfree : ((s.chamber c).setLane w l).free = (s.chamber c).free := by cases w <;> rfl
  unfold State.laneEnv
  rw [hch, hrx, hfree]
  rfl

/-- A lane put back is in its chamber, and of the registers the chamber's status alone may change. -/
theorem laneDone_puts_back (w : Lane) (l : LaneState) :
    regsOnly (s.setChamber c ((s.chamber c).setLane w l)) (s.laneDone c w l) [Reg.GAL_CH_STAT c] := by
  unfold State.laneDone
  extract_lets u
  split
  · exact ⟨rfl, fun _ _ => rfl⟩
  · exact regsOnly_setReg u _ _

theorem chamber_laneDone (w : Lane) (l : LaneState) : (s.laneDone c w l).chamber c = (s.chamber c).setLane w l :=
  ((laneDone_puts_back s w l).chamber c).trans (s.chamber_setChamber_same c _)

/-- In execution `x` of chamber `c` lane `w` runs, and what it fetches is the instruction `op`, with no trap. -/
def fetches (s : State) (c : Nat) (w : Lane) (x : Execution) (op : LaneOp) : Prop :=
  (s.chamber c).exec = some x ∧ ((s.chamber c).lane w).fin = .running ∧ fetchTrap (s.chamber c) x ((s.chamber c).lane w).pc = none ∧
    decodeBlock ((s.chamber c).codeWord ((s.chamber c).lane w).pc) = some op

theorem laneFetch_of_fetches {w : Lane} {x : Execution} {op : LaneOp} (h : fetches s c w x op) :
    s.laneFetch c w = s.laneDone c w (((s.chamber c).lane w).after (laneEffect ((s.chamber c).lane w) (s.laneEnv c x) op)) := by
  obtain ⟨hx, hfin, htrap, hop⟩ := h
  simp [State.laneFetch, State.laneIssue, hx, hfin, htrap, hop]

/-- The main lane's instruction leaves the checker lane, its fetch and what it reads as they were. -/
theorem laneDone_main_keeps_checker (hc : c < 16) (l : LaneState) (x : Execution) (op : LaneOp) :
    ((s.laneDone c .main l).chamber c).lane .main = l ∧
    ((s.laneDone c .main l).chamber c).lane .checker = (s.chamber c).lane .checker ∧
    (s.laneDone c .main l).laneEnv c x = s.laneEnv c x ∧
    (fetches s c .checker x op → fetches (s.laneDone c .main l) c .checker x op) := by
  have hregs := laneDone_puts_back s (c := c) .main l
  have hch := chamber_laneDone s (c := c) .main l
  have henv : (s.laneDone c .main l).laneEnv c x = s.laneEnv c x := by
    refine (laneEnv_of_regsOnly hregs (fun a ha => ?_) x).trans (laneEnv_setLane s .main l x)
    simp only [List.mem_cons, List.not_mem_nil, or_false, Reg.PAIR_STAT, Reg.SEQ_STAT, Reg.GAL_AREA, Reg.GAL_CH_STAT] at ha ⊢
    omega
  refine ⟨(congrArg (Chamber.lane · .main) hch).trans rfl, (congrArg (Chamber.lane · .checker) hch).trans rfl, henv, fun h => ?_⟩
  unfold fetches
  rw [hch]
  exact h

/-- STEP of a halted chamber: one instruction in each lane, and halted again. -/
theorem stepChamber_steps (hc : c < 16) (hh : s.bit (Fld.LS_DBG_CTRL_HALTED c) = true) (hr : (s.chamber c).replay = []) {x : Execution}
    {op : LaneOp} (hf : ∀ w, fetches s c w x op) : (s.stepChamber c).bit (Fld.LS_DBG_CTRL_HALTED c) = true ∧
      ∀ w, ((s.stepChamber c).chamber c).lane w = ((s.chamber c).lane w).after (laneEffect ((s.chamber c).lane w) (s.laneEnv c x) op) := by
  unfold State.stepChamber
  rw [if_pos hh, replayAll_of_empty s hr]
  dsimp only
  rw [laneFetch_of_fetches s (hf .main)]
  obtain ⟨hmain, hchecker, henv, hkeeps⟩ := laneDone_main_keeps_checker s hc
    (((s.chamber c).lane .main).after (laneEffect ((s.chamber c).lane .main) (s.laneEnv c x) op)) x op
  generalize s.laneDone c .main _ = u at hmain hchecker henv hkeeps ⊢
  rw [laneFetch_of_fetches u (hkeeps (hf .checker)), hchecker, henv]
  obtain ⟨hset, -⟩ := halt_shows (u.laneDone c .checker
    (((s.chamber c).lane .checker).after (laneEffect ((s.chamber c).lane .checker) (s.laneEnv c x) op))) (c := c) (x := none) (by decide)
  refine ⟨hset, fun w => (lane_halt _ none w).trans ?_⟩
  rw [chamber_laneDone]
  cases w with
  | main => exact hmain
  | checker => rfl

end Sys2Proof.Machine
end

section
/-! SUPPORT. Main-lane access through LS_DBG_GO (R194, R195) and injection (R197). -/
namespace Sys2Proof.Machine

variable (s : State) {c : Nat}

/-! ### Results -/

/-- A word in its two halves. -/
theorem halves_append (x : DWord) : (x >>> 32).truncate 32 ++ x.truncate 32 = x := by
  apply BitVec.eq_of_getLsbD_eq
  intro i hi
  rw [BitVec.getLsbD_append]
  by_cases h : i < 32
  · simp [h]
  · simp [h, show i - 32 < 32 by omega, show 32 + (i - 32) = i by omega]

/-- LS_DBG_RESULT after DONE and ERROR were put. -/
theorem putAll_RESULT (n m : Nat) :
    (s.putAll [(Fld.LS_DBG_RESULT_DONE, n), (Fld.LS_DBG_RESULT_ERROR, m)]).get Fld.LS_DBG_RESULT_DONE = n % 2 ∧
    (s.putAll [(Fld.LS_DBG_RESULT_DONE, n), (Fld.LS_DBG_RESULT_ERROR, m)]).get Fld.LS_DBG_RESULT_ERROR = m % 2 := by
  have hapart : Fld.LS_DBG_RESULT_ERROR.apart Fld.LS_DBG_RESULT_DONE := Or.inr (Or.inr (by decide))
  have hl : List.Pairwise (fun p q : RegField × Nat => q.1.apart p.1) [(Fld.LS_DBG_RESULT_DONE, n), (Fld.LS_DBG_RESULT_ERROR, m)] := by
    simpa using hapart
  exact ⟨get_putAll_same hl (p := (Fld.LS_DBG_RESULT_DONE, n)) (by simp) (show 0 + 1 ≤ 32 by decide) s,
    get_putAll_same hl (p := (Fld.LS_DBG_RESULT_ERROR, m)) (by simp) (show 1 + 1 ≤ 32 by decide) s⟩

/-! ### Reads (R194) -/

theorem dbgReadGo_of_value {x : DWord} (hs : s.get Fld.LS_DBG_SEL_CHAMBER = c)
    (hx : s.dbgValue c (s.get Fld.LS_DBG_SEL_SPACE) (s.getReg Reg.LS_DBG_ADDR).toNat = some x) (hl : 1 ≤ s.get Fld.SEC_STATUS_DBG_LEVEL) :
    s.dbgReadGo = ((s.setReg Reg.LS_DBG_DATA_LO (x.truncate 32)).setReg Reg.LS_DBG_DATA_HI ((x >>> 32).truncate 32)).putAll
      [(Fld.LS_DBG_RESULT_DONE, 1), (Fld.LS_DBG_RESULT_ERROR, 0)] := by
  subst hs
  simp [State.dbgReadGo, Nat.not_lt.2 hl, hx]

/-- A read that is answered gives the value in the data registers, and touches those of data and result alone. -/
theorem dbgReadGo_reads {x : DWord} (hs : s.get Fld.LS_DBG_SEL_CHAMBER = c)
    (hx : s.dbgValue c (s.get Fld.LS_DBG_SEL_SPACE) (s.getReg Reg.LS_DBG_ADDR).toNat = some x) (hl : 1 ≤ s.get Fld.SEC_STATUS_DBG_LEVEL) :
    regsOnly s s.dbgReadGo [Reg.LS_DBG_DATA_LO, Reg.LS_DBG_DATA_HI, Reg.LS_DBG_RESULT] ∧
      s.dbgReadGo.getReg Reg.LS_DBG_DATA_HI ++ s.dbgReadGo.getReg Reg.LS_DBG_DATA_LO = x ∧
      s.dbgReadGo.get Fld.LS_DBG_RESULT_DONE = 1 ∧ s.dbgReadGo.get Fld.LS_DBG_RESULT_ERROR = 0 := by
  rw [dbgReadGo_of_value s hs hx hl]
  have hresult : ∀ u : State, regsOnly u (u.putAll [(Fld.LS_DBG_RESULT_DONE, 1), (Fld.LS_DBG_RESULT_ERROR, 0)]) [Reg.LS_DBG_RESULT] :=
    fun u => regsOnly_putAll u (by decide)
  refine ⟨((regsOnly_setReg s _ _).trans (regsOnly_setReg _ _ _)).trans (hresult _), ?_, putAll_RESULT _ 1 0⟩
  rw [(hresult _).2 _ (by decide), (hresult _).2 _ (by decide), State.getReg_setReg_same, State.getReg_setReg_ne _ _ (by decide),
    State.getReg_setReg_same, halves_append]

theorem dbgReadGo_of_low_level (h : s.get Fld.SEC_STATUS_DBG_LEVEL < 1) : s.dbgReadGo = s.dbgError := if_pos h

/-! ### Writes (R195) -/

/-- The write that LS_DBG_GO asks for: space, address and data of the registers. -/
def debugWrite (s : State) : ReplayWrite :=
  ⟨s.get Fld.LS_DBG_SEL_SPACE, s.getReg Reg.LS_DBG_ADDR, s.getReg Reg.LS_DBG_DATA_HI ++ s.getReg Reg.LS_DBG_DATA_LO⟩

theorem dbgWriteGo_of_refused (hs : s.get Fld.LS_DBG_SEL_CHAMBER = c) (ho : s.dbgWriteOk c (debugWrite s) = false) :
    s.dbgWriteGo = s.dbgError := by
  subst hs
  exact if_pos (by rw [← debugWrite, ho]; rfl)

/-- An accepted write for which the replay buffer has a place is in it, and both lanes are as they were. -/
theorem dbgWriteGo_of_room (hc : c < 16) (hs : s.get Fld.LS_DBG_SEL_CHAMBER = c) (ho : s.dbgWriteOk c (debugWrite s) = true)
    (hn : (s.chamber c).replay.length < 16) : (s.dbgWriteGo.chamber c).replay = (s.chamber c).replay ++ [debugWrite s] ∧
      s.dbgWriteGo.get Fld.LS_DBG_RESULT_DONE = 1 ∧ s.dbgWriteGo.get Fld.LS_DBG_RESULT_ERROR = 0 ∧
      ∀ w, (s.dbgWriteGo.chamber c).lane w = (s.chamber c).lane w := by
  subst hs
  unfold State.dbgWriteGo
  extract_lets c w ch full ls u1 u2 u3
  rw [if_neg (by rw [show s.dbgWriteOk c w = true from ho]; decide), if_neg (Nat.not_le.2 hn)]
  have hch (k items) : (u3.record 0x35 k items).chamber c = { ch with replay := ch.replay ++ [w] } := by
    have h3 : u3.chambers = u1.chambers := (State.putAll_chambers _ _).trans (State.bump_chambers _ _)
    exact ((reported_record u3 _ _ _).chamber c).trans ((congrArg (fun m => sparseGet (fun _ => Chamber.reset) m c) h3).trans
      (s.chamber_setChamber_same c _))
  have hresult {f : RegField} (hf : f.addr = Reg.LS_DBG_RESULT) (k items) :
      (u3.record 0x35 k items).get f = (u2.putAll [(Fld.LS_DBG_RESULT_DONE, 1), (Fld.LS_DBG_RESULT_ERROR, 0)]).get f := by
    refine (get_record u3 (g := f) ⟨by rw [hf]; decide, by rw [hf]; decide⟩ _ _ _).trans
      (State.get_put_apart _ (Fld.LS_DBG_CTRL_REPLAY_PEND c) f (Or.inl ?_) _)
    rw [hf]
    simp only [Fld.LS_DBG_CTRL_REPLAY_PEND, Reg.LS_DBG_CTRL, Reg.LS_DBG_RESULT]
    omega
  obtain ⟨hdone, herror⟩ := putAll_RESULT u2 1 0
  refine ⟨?_, (hresult rfl _ _).trans hdone, (hresult rfl _ _).trans herror, fun x => ?_⟩
  · rw [hch]
    rfl
  · rw [hch]
    cases x <;> rfl

/-- While the buffer is full an accepted write waits, in place of one that waited (log entry 89): it is not done, and no chamber is touched. -/
theorem dbgWriteGo_of_full (hs : s.get Fld.LS_DBG_SEL_CHAMBER = c) (ho : s.dbgWriteOk c (debugWrite s) = true)
    (hn : 16 ≤ (s.chamber c).replay.length) : s.dbgWriteGo.ls.waiting = some (c, debugWrite s) ∧
      s.dbgWriteGo.get Fld.LS_DBG_RESULT_DONE = 0 ∧ s.dbgWriteGo.chambers = s.chambers := by
  subst hs
  unfold State.dbgWriteGo
  extract_lets c w ch full
  rw [if_neg (by rw [show s.dbgWriteOk c w = true from ho]; decide), if_pos hn]
  exact ⟨rfl, (putAll_RESULT s 0 0).1, rfl⟩

/-! ### Injection (R197) -/

theorem tpAllowed_of_regsOnly {s t : State} {as : List Nat} (h : regsOnly s t as) (ha : ∀ a ∈ [Reg.SEC_STATUS, Reg.PAIR_STAT], a ∉ as) :
    t.tpAllowed = s.tpAllowed := by
  have hf (f : RegField) (hf : f.addr ∈ [Reg.SEC_STATUS, Reg.PAIR_STAT]) : t.get f = s.get f := h.get (ha _ hf)
  unfold State.tpAllowed State.bit
  rw [hf _ (by decide), hf _ (by decide), hf _ (by decide), h.mode, h.role (ha _ (by decide))]

/-- A plain write of LS_INJECT does not say whether perturbation is allowed. -/
theorem tpAllowed_regStore_LS_INJECT (v : Word) : (s.regStore Reg.LS_INJECT v).tpAllowed = s.tpAllowed :=
  tpAllowed_of_regsOnly (regsOnly_regStore s Reg.LS_INJECT v) (by decide)

theorem lsInjectWrite_of_allowed {v : Word} (hv : Fld.LS_INJECT_ARM.on v = true) (ha : s.tpAllowed = true)
    (hp : (s.regStore Reg.LS_INJECT v).bit Fld.LS_INJECT_PENDING = false) (hk : (s.regStore Reg.LS_INJECT v).get Fld.LS_INJECT_KIND < 2) :
    (s.lsInjectWrite v).ls.injectLeft = (s.regStore Reg.LS_INJECT v).get Fld.LS_INJECT_KIND + 1 ∧
      (s.lsInjectWrite v).ls.injectChamber = (s.regStore Reg.LS_INJECT v).get Fld.LS_INJECT_CHAMBER ∧
      (s.lsInjectWrite v).get Fld.LS_INJECT_PENDING = 1 := by
  rw [← tpAllowed_regStore_LS_INJECT s v] at ha
  unfold State.lsInjectWrite
  extract_lets u kind c ls u1
  rw [if_pos hv, if_neg (by rw [ha, hp, decide_eq_false (Nat.not_le.2 hk)]; decide)]
  have hls := (reported_record (u1.putBit Fld.LS_INJECT_PENDING true) 0x36 c [(1, kind)]).ls
  refine ⟨congrArg LockstepState.injectLeft hls, congrArg LockstepState.injectChamber hls, ?_⟩
  exact (get_record _ (g := Fld.LS_INJECT_PENDING) ⟨by decide, by decide⟩ _ _ _).trans
    (get_putBit_same u1 (f := Fld.LS_INJECT_PENDING) (show 9 + 1 ≤ 32 by decide) rfl true)

theorem lsInjectWrite_of_not_allowed {v : Word} (hv : Fld.LS_INJECT_ARM.on v = true) (ha : s.tpAllowed = false) :
    (s.lsInjectWrite v).ls = s.ls ∧ (s.lsInjectWrite v).get Fld.LS_INJECT_REFUSED = 1 := by
  have hregs := regsOnly_regStore s Reg.LS_INJECT v
  rw [← tpAllowed_regStore_LS_INJECT s v] at ha
  unfold State.lsInjectWrite
  extract_lets u kind c
  rw [if_pos hv, if_pos (by rw [ha]; rfl)]
  exact ⟨hregs.ls, get_putBit_same u (f := Fld.LS_INJECT_REFUSED) (show 10 + 1 ≤ 32 by decide) rfl true⟩

end Sys2Proof.Machine
end

section
/-! The obligation about the debugger at a chamber. -/
open Sys2Proof Sys2Proof.Machine

/-- Settles O36: each command of the debugger by its own lemma; both lanes of a step fetch from a chamber the other's instruction has left as
it was. -/
theorem debuggingChambers : Obligations.DebuggingChambers := by
  intro s c v
  refine ⟨fun x he hh hx => ?_, fun hh hr hs => ?_, fun hr hh hs hl hq hd => ?_, fun x op hs hh hr hl hhalted hq hx hf => ?_,
    fun w ws hq hn => ?_, fun hw => ⟨fun x hsel hx hl => ?_, fun hl => ?_⟩, fun w hw hsel he => ?_, fun hv ha hp hk => ?_, fun hv ha => ?_⟩
  · have hb := breakpointHalt_of_hit s he hh hx
    refine ⟨fun h => ?_, fun hr hl => ?_⟩
    · exact congrArg Host.Outcome.next (hb.trans (by rw [(haltAllowed_eq_false_iff s).2 h]; rfl))
    · rw [(haltAllowed_iff s).2 ⟨hr, hl⟩, if_pos rfl] at hb
      obtain ⟨hset, hhit, hindex⟩ := halt_shows s (c := c.val) (x := some x) (List.mem_range.1 (List.mem_of_find?_eq_some hx))
      exact ⟨_, congrArg Host.Outcome.next hb, hset, hhit, hindex, lane_halt s (some x)⟩
  · obtain ⟨hlanes, hhalts, hrefuses⟩ := dbgCtrlWrite_halts s c.isLt hh hr hs
    exact ⟨_, rfl, hlanes, fun h h' => hhalts ((haltAllowed_iff s).2 ⟨h, h'⟩), fun h => hrefuses ((haltAllowed_eq_false_iff s).2 h)⟩
  · have hregs := regsOnly_regStore s (Reg.LS_DBG_CTRL c) v
    have hchamber := hregs.chamber c
    obtain ⟨hgoes, hkept⟩ := resumeChamber_resumes (s.regStore (Reg.LS_DBG_CTRL c) v) (c := c) (by rw [hchamber, hq]) (by rw [hchamber, hd])
    exact ⟨_, congrArg Host.Outcome.next (dbgCtrlWrite_of_resume s c.isLt hh hr hs hl), hgoes, hkept.trans hregs.chambers⟩
  · obtain ⟨hregs, hkept⟩ := regStore_LS_DBG_CTRL s (v := v) c.isLt
    have hchamber := hregs.chamber c
    have henv : (s.regStore (Reg.LS_DBG_CTRL c) v).laneEnv c x = s.laneEnv c x := laneEnv_of_regsOnly hregs
      (fun a ha => not_mem_LS_DBG_CTRL c.isLt (List.mem_append_left [Reg.SEC_STATUS] ha)) x
    obtain ⟨hset, hlanes⟩ := stepChamber_steps (s.regStore (Reg.LS_DBG_CTRL c) v) c.isLt (hkept.trans hhalted) (by rw [hchamber, hq])
      (x := x) (op := op) (fun w => by unfold fetches; rw [hchamber]; exact ⟨hx, hf w⟩)
    rw [hchamber, henv] at hlanes
    exact ⟨_, congrArg Host.Outcome.next (dbgCtrlWrite_of_step s c.isLt hh hr hs hl), hset, hlanes⟩
  · exact congrArg Host.Outcome.next (replayOne_of_cons s hq hn)
  · exact ⟨_, if_neg (by rw [hw]; decide), dbgReadGo_reads s hsel hx hl⟩
  · exact (if_neg (by rw [hw]; decide)).trans (congrArg Host.Outcome.next (dbgReadGo_of_low_level s hl))
  · have hgo : exec .dbgWrite s = .next s.dbgWriteGo := if_pos hw
    obtain rfl : w = debugWrite s := he
    exact ⟨fun ho => hgo.trans (congrArg _ (dbgWriteGo_of_refused s hsel ho)),
      fun ho hn => ⟨_, hgo, dbgWriteGo_of_room s c.isLt hsel ho hn⟩, fun ho hn => ⟨_, hgo, dbgWriteGo_of_full s hsel ho hn⟩⟩
  · exact ⟨_, rfl, lsInjectWrite_of_allowed s hv ha hp hk⟩
  · exact ⟨_, rfl, lsInjectWrite_of_not_allowed s hv ha⟩

end

section
/-! SUPPORT. What the reports and reactions of the module (R232, R376, R380, R391) leave undisturbed: mode, LOAD, signal table, force table, store,
FRC_STAT, and a change that is over. -/
namespace Sys2Proof.Machine

/-! ### The relation -/

/-- From `s` to `t` mode, LOAD, signal table, force table, store and the fields of FRC_STAT stay, and a module without a change gets none. -/
structure undisturbed (s t : State) : Prop where
  mode : t.mode = s.mode
  load : t.load = s.load
  sig : t.sig = s.sig
  frc : t.frc = s.frc
  store : t.store = s.store
  field : ∀ f : RegField, f.addr = Reg.FRC_STAT → t.get f = s.get f
  ended : s.olc.survey = none → t.olc.survey = none

variable {s t u : State}

theorem undisturbed.refl (s : State) : undisturbed s s := ⟨rfl, rfl, rfl, rfl, rfl, fun _ _ => rfl, id⟩

theorem undisturbed.trans (h : undisturbed s t) (k : undisturbed t u) : undisturbed s u where
  mode := k.mode.trans h.mode
  load := k.load.trans h.load
  sig := k.sig.trans h.sig
  frc := k.frc.trans h.frc
  store := k.store.trans h.store
  field f hf := (k.field f hf).trans (h.field f hf)
  ended := k.ended ∘ h.ended

theorem undisturbed.ite {c : Prop} [Decidable c] (h : undisturbed s t) : undisturbed s (if c then t else s) := by
  split
  · exact h
  · exact undisturbed.refl s

theorem undisturbed.foldl {α : Type} {f : State → α → State} (l : List α) (h : ∀ u x, undisturbed u (f u x)) (s : State) :
    undisturbed s (l.foldl f s) := by
  induction l generalizing s with
  | nil => exact undisturbed.refl s
  | cons x l ih => exact (h s x).trans (ih (f s x))

/-! ### Plain updates -/

/-- All that `undisturbed` speaks of, with every register. -/
def State.calm (s : State) : Mode × LoadState × SignalState × ForceState × StoreContents × List (Nat × BitVec 32) × Option Survey :=
  (s.mode, s.load, s.sig, s.frc, s.store, s.regs, s.olc.survey)

theorem undisturbed.of_calm (h : t.calm = s.calm) : undisturbed s t := by
  simp only [State.calm, Prod.mk.injEq] at h
  obtain ⟨hm, hl, hs, hf, hst, hr, ho⟩ := h
  exact ⟨hm, hl, hs, hf, hst, fun f _ => State.get_congr hr f, fun e => ho.trans e⟩

variable (s)

theorem undisturbed_put {f : RegField} (hf : f.addr ≠ Reg.FRC_STAT) (v : Nat) : undisturbed s (s.put f v) :=
  ⟨rfl, rfl, rfl, rfl, rfl, fun g hg => s.get_put_apart f g (Or.inl (hg ▸ hf)) v, id⟩

theorem undisturbed_putAll {l : List (RegField × Nat)} (hl : ∀ p ∈ l, p.1.addr ≠ Reg.FRC_STAT) : undisturbed s (s.putAll l) where
  mode := s.putAll_mode l
  load := s.putAll_load l
  sig := s.putAll_sig l
  frc := s.putAll_frc l
  store := s.putAll_store l
  field g hg := s.get_putAll_apart l g fun p hp => Or.inl (hg ▸ hl p hp)
  ended e := (congrArg OlcState.survey (s.putAll_olc l)).trans e

theorem undisturbed_bump {f : RegField} (hf : f.addr ≠ Reg.FRC_STAT) : undisturbed s (s.bump f) := (undisturbed_put s hf _).ite

theorem undisturbed_emit (o : Out) : undisturbed s (s.emit o) := .of_calm (by simp [State.calm])

/-! ### Reports (R376, R391) -/

theorem unreported_of_FRC_STAT {f : RegField} (hf : f.addr = Reg.FRC_STAT) : f.unreported := by
  unfold RegField.unreported
  rw [hf]
  decide

theorem undisturbed.of_reported {s : State} (h : reported s t) (hf : ∀ f : RegField, f.unreported → t.get f = s.get f) : undisturbed s t := by
  have h : { t with regs := s.regs, gates := s.gates, sump := s.sump, fls := s.fls, out := s.out } = s := h.1
  have holc : t.olc = s.olc := by rw [← h]
  exact ⟨by rw [← h], by rw [← h], by rw [← h], by rw [← h], by rw [← h], fun f e => hf f (unreported_of_FRC_STAT e),
    fun e => by rw [holc, e]⟩

theorem undisturbed_sumpOccur (src inst sub : Nat) (forced : Bool) : undisturbed s (s.sumpOccur src inst sub forced) :=
  .of_reported (reported_sumpOccur s src inst sub forced) fun _ hf => get_sumpOccur s hf src inst sub forced

theorem undisturbed_record (type key : Nat) (items : List (Nat × Nat)) : undisturbed s (s.record type key items) :=
  .of_reported (reported_record s type key items) fun _ hf => get_record s hf type key items

theorem undisturbed_sumpRise {src : Nat} (hs : src < 256) (inst sub : Nat) : undisturbed s (s.sumpRise src inst sub) :=
  .of_reported (reported_sumpRise s src inst sub) fun _ hf => get_sumpRise s hf hs inst sub

theorem undisturbed_fall {src : Nat} (hs : src < 256) (inst sub : Nat) : undisturbed s (s.fall src inst sub) := by
  refine .of_reported (reported_fall s src inst sub) fun f hf => ?_
  unfold State.fall State.sumpFall
  extract_lets key held x s1
  exact get_putBit_unreported s1 hf (Or.inl (sump_registers_reported hs).1) _

theorem undisturbed_freeByte : undisturbed s s.freeByte.2 := .of_calm rfl

theorem undisturbed_tp (x : TpState) : undisturbed s { s with tp := x } := .of_calm rfl

/-! ### Perturbation and failover (R232, R237, R460) -/

theorem undisturbed_squeezeRequest : undisturbed s s.squeezeRequest := .of_calm rfl

theorem undisturbed_tpRestore (k : Nat) : undisturbed s (s.tpRestore k) := by
  unfold State.tpRestore
  extract_lets s1 s2
  have h1 : undisturbed s s1 := (undisturbed_put s (by decide) _).ite
  have h2 : undisturbed s1 s2 := ((undisturbed_put s1 (by decide) 0).trans (undisturbed_squeezeRequest _)).ite
  exact h1.trans (h2.trans (undisturbed_fall s2 (by decide) 0 0).ite)

theorem undisturbed_tpStopKind (k : Nat) : undisturbed s (s.tpStopKind k) := by
  unfold State.tpStopKind
  refine undisturbed.ite ?_
  have h : undisturbed s (s.freeByte.2.record 0xA1 k [(1, s.freeByte.1), (4, sparseGet (fun _ => 0) s.tp.affected k)]) :=
    (undisturbed_freeByte s).trans (undisturbed_record _ _ _ _)
  exact h.trans ((undisturbed_tp _ _).trans (undisturbed_tpRestore _ k))

theorem undisturbed_tpCheck : undisturbed s s.tpCheck := by
  unfold State.tpCheck
  split
  · exact undisturbed.refl s
  · exact undisturbed.foldl _ undisturbed_tpStopKind s

theorem undisturbed_requestMode (m : Mode) (k : Nat) (e : Option (BitVec 32)) : undisturbed s (s.requestMode m k e) := by
  unfold State.requestMode
  split
  · exact .of_calm rfl
  · split
    · exact (undisturbed_emit s _).ite
    · extract_lets u
      have hu : undisturbed s u := (undisturbed_emit s _).ite
      exact hu.trans (.of_calm rfl)

theorem undisturbed_requestHold : undisturbed s s.requestHold := (undisturbed_requestMode s _ _ _).ite

theorem undisturbed_yieldModule : undisturbed s s.yieldModule := by
  unfold State.yieldModule
  split
  · exact undisturbed.refl s
  · extract_lets s1 s2
    have h2 : undisturbed s s2 := (undisturbed_putAll s (by decide)).trans (undisturbed_bump s1 (by decide))
    clear_value s2
    have h3 : undisturbed s2 ((s2.freeByte.2.record 0x42 0 [(1, s2.freeByte.1)]).sumpRise Src.PAIR_YIELD 0 0) :=
      (undisturbed_freeByte s2).trans ((undisturbed_record _ _ _ _).trans (undisturbed_sumpRise _ (by decide) 0 0))
    dsimp only
    generalize (s2.freeByte.2.record 0x42 0 [(1, s2.freeByte.1)]).sumpRise Src.PAIR_YIELD 0 0 = u at h3 ⊢
    refine h2.trans (h3.trans (.trans ?_ ((undisturbed_tpCheck _).trans (undisturbed_requestHold _))))
    exact .of_calm rfl

theorem undisturbed_setRole (r : Role) : undisturbed s (s.setRole r) := by
  unfold State.setRole
  extract_lets s1
  have h1 : undisturbed s s1 := undisturbed_put s (by decide) _
  split
  · exact h1.trans (undisturbed_putAll s1 (by decide))
  · exact h1.trans (undisturbed_putAll s1 (by decide)).ite

theorem undisturbed_becomeSolo : undisturbed s s.becomeSolo := by
  unfold State.becomeSolo
  extract_lets s1 s2
  have h1 : undisturbed s s1 := (undisturbed_bump s (by decide)).ite
  have h2 : undisturbed s1 s2 := (undisturbed_setRole s1 .solo).trans (undisturbed_putAll _ (by decide))
  exact h1.trans (h2.trans (.of_calm rfl))

theorem svyBank_ne_FRC_STAT {b : Nat} (hb : b ≤ 1) : Reg.SVY_BANK b ≠ Reg.FRC_STAT ∧ Reg.SVY_BANK_GEN b ≠ Reg.FRC_STAT := by
  simp only [Reg.SVY_BANK, Reg.SVY_BANK_GEN, Reg.FRC_STAT]
  omega

theorem undisturbed_over (bs : List (Nat × Bank)) : undisturbed s { s with banks := bs, olc := s.olc.over } :=
  ⟨rfl, rfl, rfl, rfl, rfl, fun _ _ => rfl, fun _ => rfl⟩

theorem undisturbed_olcAbort (reason : Nat) : undisturbed s (s.olcAbort reason) := by
  unfold State.olcAbort
  extract_lets st other b gen s1 s2 s3 s4
  obtain ⟨hst, hgen⟩ := svyBank_ne_FRC_STAT (show b ≤ 1 from Nat.sub_le _ _)
  clear_value b
  have h1 : undisturbed s s1 := undisturbed_put s (show Reg.GAL_AREA ≠ Reg.FRC_STAT by decide) 0
  have h2 : undisturbed s1 s2 := by
    refine undisturbed_putAll s1 ?_
    simp only [List.forall_mem_cons]
    exact ⟨hst, hgen, by decide⟩
  clear_value s2
  have h3 : undisturbed s2 s3 := undisturbed_over s2 _
  clear_value s3
  have h4 : undisturbed s3 s4 := (undisturbed_bump s3 (by decide)).trans (undisturbed_sumpOccur _ _ _ _ _)
  exact (h1.trans (h2.trans (h3.trans (h4.trans (undisturbed_record s4 _ _ _))))).ite

theorem undisturbed_olcUnanswered : undisturbed s s.olcUnanswered := by
  unfold State.olcUnanswered
  refine undisturbed.ite (.trans ?_ ((undisturbed_put _ (by decide) 6).trans (undisturbed_bump _ (by decide))))
  exact .of_calm rfl

theorem undisturbed_leaveSynced : undisturbed s s.leaveSynced := by
  unfold State.leaveSynced
  refine undisturbed.ite ?_
  extract_lets s1 pair
  have h1 : undisturbed s s1 :=
    (undisturbed_olcUnanswered s).trans ((undisturbed_put _ (by decide) _).trans (undisturbed_putAll _ (by decide)))
  refine h1.trans (.trans ?_ (undisturbed_olcAbort _ 9))
  exact .of_calm rfl

theorem undisturbed_failover (src : Nat) : undisturbed s (s.failover src) := by
  unfold State.failover
  extract_lets s1 pair s2 s3
  have h2 : undisturbed s s2 := .of_calm rfl
  exact h2.trans ((undisturbed_leaveSynced s2).trans ((undisturbed_becomeSolo s3).trans (undisturbed_yieldModule _)))

/-! ### The fixed action of severity 7 (R380) -/

theorem undisturbed_sumpFixed (src : Nat) : undisturbed s (s.sumpFixed src) := by
  unfold State.sumpFixed
  refine undisturbed.ite ?_
  split
  · exact (undisturbed_failover s src).trans (.of_calm rfl)
  · split
    · exact undisturbed.refl s
    · exact undisturbed_requestHold s

/-- What a source raises leaves all this, whatever its severity. -/
theorem undisturbed_raise (src inst sub : Nat) : undisturbed s (s.raise src inst sub) := by
  unfold State.raise State.sumpOccurFixed
  split
  · exact undisturbed.refl s
  · extract_lets t
    have ht : undisturbed s t := undisturbed_sumpOccur s src inst sub false
    split
    · exact ht
    · exact ht.trans (undisturbed_sumpFixed t src)

theorem undisturbed_rise {src : Nat} (hs : src < 256) (inst sub : Nat) : undisturbed s (s.rise src inst sub) := by
  unfold State.rise
  split
  · exact undisturbed.refl s
  · extract_lets t
    have ht : undisturbed s t := undisturbed_sumpRise s hs inst sub
    split
    · exact ht
    · exact ht.trans (undisturbed_sumpFixed t src)

end Sys2Proof.Machine
end

section
/-! SUPPORT. Force commands, and the changes they make to the force table and to its copies in the store (R212, R215 to R217, R435, R469). -/
namespace Sys2Proof.Machine

variable (s : State) {v : Word}

/-! ### FRC_CMD (R469) -/

/-- A one-bit field of the low four bits. -/
theorem on_eq_testBit_low {f : RegField} (hw : f.width = 1) (hlo : f.lo < 4) : f.on v = (v.toNat % 2 ^ 4).testBit f.lo := by
  rw [Nat.testBit_mod_two_pow, decide_eq_true hlo, Bool.true_and, Nat.testBit_eq_decide_div_mod_eq, RegField.on, RegField.ext, hw,
    Nat.shiftRight_eq_div_pow]
  rcases Nat.mod_two_eq_zero_or_one (v.toNat / 2 ^ f.lo) with e | e <;> simp [e]

/-- The action bits of FRC_CMD, WRITE first, in a written word with `n` in its low four bits. -/
theorem frcCmd_actions {n : Nat} (h : v.toNat % 16 = n) (w c r a : Bool)
    (hn : n.testBit 0 = w ∧ n.testBit 1 = c ∧ n.testBit 2 = r ∧ n.testBit 3 = a) :
    Fld.FRC_CMD_WRITE.on v = w ∧ Fld.FRC_CMD_CLEAR.on v = c ∧ Fld.FRC_CMD_READ.on v = r ∧ Fld.FRC_CMD_CLEAR_ALL.on v = a := by
  obtain ⟨rfl, rfl, rfl, rfl⟩ := hn
  subst h
  exact ⟨on_eq_testBit_low (f := Fld.FRC_CMD_WRITE) rfl (by decide), on_eq_testBit_low (f := Fld.FRC_CMD_CLEAR) rfl (by decide),
    on_eq_testBit_low (f := Fld.FRC_CMD_READ) rfl (by decide), on_eq_testBit_low (f := Fld.FRC_CMD_CLEAR_ALL) rfl (by decide)⟩

theorem frcCmdWrite_of_two (hw : Fld.FRC_CMD_WRITE.on v = true) (hc : Fld.FRC_CMD_CLEAR.on v = true) :
    s.frcCmdWrite v = s.putBit Fld.FRC_CMD_REFUSED true := by
  simp [State.frcCmdWrite, State.actions, actionClash, actionCount, hw, hc]

theorem frcCmdWrite_of_write_refused (h : v.toNat % 16 = 1) (hr : s.forcesClosed = true ∨ s.forceCandidate = none) :
    s.frcCmdWrite v = s.frcRefuse := by
  obtain ⟨hw, hc, hr', ha⟩ := frcCmd_actions h true false false false (by decide)
  rcases hr with hr | hr <;> simp [State.frcCmdWrite, State.actions, actionClash, actionCount, hw, hc, hr', ha, hr]

theorem frcCmdWrite_of_write (h : v.toNat % 16 = 1) (ho : s.forcesClosed = false) {e : ForceEntry} (he : s.forceCandidate = some e) :
    s.frcCmdWrite v = s.forceAccept (.write e) := by
  obtain ⟨hw, hc, hr, ha⟩ := frcCmd_actions h true false false false (by decide)
  simp [State.frcCmdWrite, State.actions, actionClash, actionCount, hw, hc, hr, ha, ho, he]

theorem frcCmdWrite_of_clear (h : v.toNat % 16 = 2) (ho : s.forcesClosed = false)
    (hk : (s.forcesAhead.any fun x => x.id == (s.getReg Reg.FRC_ID).toNat) = true) :
    s.frcCmdWrite v = s.forceAccept (.clear (s.getReg Reg.FRC_ID).toNat) := by
  obtain ⟨hw, hc, hr, ha⟩ := frcCmd_actions h false true false false (by decide)
  simp [State.frcCmdWrite, State.actions, actionClash, actionCount, hw, hc, hr, ha, ho, hk]

theorem frcCmdWrite_of_read (h : v.toNat % 16 = 4) : s.frcCmdWrite v = s.forceReadCmd := by
  obtain ⟨hw, hc, hr, ha⟩ := frcCmd_actions h false false true false (by decide)
  simp [State.frcCmdWrite, State.actions, actionClash, actionCount, hw, hc, hr, ha]

theorem frcCmdWrite_of_clearAll (h : v.toNat % 16 = 8) (ho : s.forcesClosed = false) : s.frcCmdWrite v = s.forceAccept .clearAll := by
  obtain ⟨hw, hc, hr, ha⟩ := frcCmd_actions h false false false true (by decide)
  simp [State.frcCmdWrite, State.actions, actionClash, actionCount, hw, hc, hr, ha, ho]

/-! ### An accepted change waits for its cycle (R215) -/

theorem undisturbed_forceRecord (c : ForceChange) (n : Nat) (e : BitVec 32) : undisturbed s (s.forceRecord c n e) := by
  unfold State.forceRecord
  cases c with
  | write f => exact (undisturbed_freeByte s).trans (undisturbed_record _ _ _ _)
  | clear id => exact (undisturbed_freeByte s).trans (undisturbed_record _ _ _ _)
  | clearAll => exact (undisturbed_freeByte s).trans (undisturbed_record _ _ _ _)

theorem forceSchedule_frc (c : ForceChange) (e : BitVec 32) :
    (s.forceSchedule c e).frc = { s.frc with waiting := s.frc.waiting ++ [(e, c)] } := by
  unfold State.forceSchedule
  extract_lets n frc s1
  exact (undisturbed_forceRecord s1 c n e).frc

/-- DONE and REFUSED of FRC_CMD as a command leaves them. -/
theorem get_frcAnswer (d r : Nat) : (s.putAll [(Fld.FRC_CMD_DONE, d), (Fld.FRC_CMD_REFUSED, r)]).get Fld.FRC_CMD_DONE = d % 2 ∧
    (s.putAll [(Fld.FRC_CMD_DONE, d), (Fld.FRC_CMD_REFUSED, r)]).get Fld.FRC_CMD_REFUSED = r % 2 := by
  have hp : [(Fld.FRC_CMD_DONE, d), (Fld.FRC_CMD_REFUSED, r)].Pairwise fun p q => q.1.apart p.1 :=
    List.pairwise_pair.2 (Or.inr (Or.inr (show 4 + 1 ≤ 5 by decide)))
  exact ⟨get_putAll_same hp List.mem_cons_self (show 4 + 1 ≤ 32 by decide) s,
    get_putAll_same hp (List.mem_cons_of_mem _ List.mem_cons_self) (show 5 + 1 ≤ 32 by decide) s⟩

/-- Alone the module schedules the change for the count at acceptance plus 4. -/
theorem forceAccept_alone (h : s.ll ≠ .synced) (c : ForceChange) :
    (s.forceAccept c).frc = { s.frc with waiting := s.frc.waiting ++ [(s.effective, c)] } ∧ (s.forceAccept c).get Fld.FRC_CMD_DONE = 1 ∧
      (s.forceAccept c).get Fld.FRC_CMD_REFUSED = 0 := by
  unfold State.forceAccept
  rw [if_neg fun k => h k.1]
  extract_lets e s1
  have h1 : s1.frc = { s.frc with waiting := s.frc.waiting ++ [(e, c)] } ∧ s1.get Fld.FRC_CMD_DONE = 1 ∧ s1.get Fld.FRC_CMD_REFUSED = 0 :=
    ⟨(State.putAll_frc _ _).trans (forceSchedule_frc s c e), get_frcAnswer _ 1 0⟩
  clear_value s1
  split
  · rw [State.emit_frc, State.get_congr (s1.emit_regs _), State.get_congr (s1.emit_regs _)]
    exact h1
  · exact h1

/-! ### READ (R212) -/

theorem forceReadCmd_of_none (h : s.frc.entries[s.get Fld.FRC_SEL_INDEX]? = none) : s.forceReadCmd = s.frcRefuse := by
  simp [State.forceReadCmd, h]

theorem forceReadCmd_of_entry {e : ForceEntry} (h : s.frc.entries[s.get Fld.FRC_SEL_INDEX]? = some e) : s.forceReadCmd.frc = s.frc ∧
    s.forceReadCmd.getReg Reg.FRC_ID = BitVec.ofNat 32 e.id ∧ s.forceReadCmd.getReg Reg.FRC_VALUE = e.value ∧
    s.forceReadCmd.get Fld.FRC_CMD_DONE = 1 := by
  unfold State.forceReadCmd
  rw [h]
  dsimp only
  generalize hu : (s.setReg Reg.FRC_ID (BitVec.ofNat 32 e.id)).setReg Reg.FRC_VALUE e.value = u
  refine ⟨?_, ?_, ?_, ?_⟩
  · rw [State.putAll_frc, ← hu, State.setReg_frc, State.setReg_frc]
  · rw [State.getReg_putAll_ne u _ (by simp only [List.forall_mem_cons]; decide), ← hu, State.getReg_setReg_ne _ _ (by decide),
      State.getReg_setReg_same]
  · rw [State.getReg_putAll_ne u _ (by simp only [List.forall_mem_cons]; decide), ← hu, State.getReg_setReg_same]
  · exact (get_frcAnswer (u.putAll [(Fld.FRC_MODE_POINT, e.point), (Fld.FRC_MODE_SUSPENDED, e.suspended.toNat),
      (Fld.FRC_MODE_UNDER_STATUS, e.underStatus.toNat)]) 1 0).1

/-- Force commands answer as R212, R215, R217 and R469 say. -/
theorem forceCommands : Claim.ForceCommands := by
  intro s v
  refine ⟨fun hw hc => ⟨_, ?_, ?_, rfl⟩, fun e h ho he hl => ?_, fun h hr => ?_, fun h ho hk hl => ?_, fun h hn => ?_, fun e h he => ?_,
    fun h ho hl => ?_⟩
  · exact congrArg Host.Outcome.next (frcCmdWrite_of_two s hw hc)
  · exact congrArg Host.Outcome.next (frcCmdWrite_of_two s hw hc)
  · obtain ⟨hfrc, hdone, hrefused⟩ := forceAccept_alone s hl (.write e)
    exact ⟨_, congrArg Host.Outcome.next (frcCmdWrite_of_write s h ho he), congrArg ForceState.waiting hfrc, (congrArg ForceState.entries hfrc :),
      hdone, hrefused⟩
  · exact congrArg Host.Outcome.next (frcCmdWrite_of_write_refused s h hr)
  · obtain ⟨hfrc, _, _⟩ := forceAccept_alone s hl (.clear (s.getReg Reg.FRC_ID).toNat)
    exact ⟨_, congrArg Host.Outcome.next (frcCmdWrite_of_clear s h ho hk), congrArg ForceState.waiting hfrc⟩
  · exact congrArg Host.Outcome.next ((frcCmdWrite_of_read s h).trans (forceReadCmd_of_none s hn))
  · exact ⟨_, congrArg Host.Outcome.next (frcCmdWrite_of_read s h), forceReadCmd_of_entry s he⟩
  · obtain ⟨hfrc, _, _⟩ := forceAccept_alone s hl .clearAll
    exact ⟨_, congrArg Host.Outcome.next (frcCmdWrite_of_clearAll s h ho), congrArg ForceState.waiting hfrc⟩

/-! ### Changes of the table (R212, R215) -/

theorem forcePut_sorted {l : List ForceEntry} (h : l.Pairwise fun x y => x.id < y.id) (e : ForceEntry) :
    (forcePut l e).Pairwise fun x y => x.id < y.id := by
  simp only [forcePut, List.pairwise_append, List.mem_append, List.mem_filter, List.mem_singleton, decide_eq_true_eq]
  refine ⟨⟨h.filter _, List.pairwise_singleton _ _, ?_⟩, h.filter _, ?_⟩
  · rintro x ⟨_, hx⟩ _ rfl
    exact hx
  · rintro x (⟨_, hx⟩ | rfl) y ⟨_, hy⟩
    · exact hx.trans hy
    · exact hy

/-- The table stays sorted by ID without repeats. -/
theorem forceApply_sorted {l : List ForceEntry} (h : l.Pairwise fun x y => x.id < y.id) (c : ForceChange) :
    (forceApply l c).Pairwise fun x y => x.id < y.id := by
  cases c with
  | write e => exact forcePut_sorted h _
  | clear id => exact h.filter _
  | clearAll => exact List.Pairwise.nil

/-- FRC_STAT and FORCE_SUSPENDED show the table and leave it as it is. -/
theorem showForces_frc : s.showForces.frc = s.frc := by
  unfold State.showForces
  extract_lets n s1
  have h1 : s1.frc = s.frc := s.putAll_frc _
  split
  · exact (undisturbed_fall s1 (by decide) 0 0).frc.trans h1
  · exact (undisturbed_rise s1 (by decide) 0 0).frc.trans h1

theorem setForces_frc (l : List ForceEntry) : (s.setForces l).frc = { s.frc with entries := l } := showForces_frc _

/-- One change that waits and whose cycle has come takes effect. -/
theorem forceEffect_of_one {e : BitVec 32} {c : ForceChange} (hw : s.frc.waiting = [(e, c)]) (hr : s.reached e = true) :
    s.forceEffect.frc = ⟨forceApply s.frc.entries c, []⟩ := by
  unfold State.forceEffect
  simp [hw, hr, State.putBit, setForces_frc]

theorem forceEffect_of_none (h : ∀ c ∈ s.frc.waiting, s.reached c.1 = false) : s.forceEffect = s := by
  have hd : (s.frc.waiting.filter fun c => s.reached c.1) = [] := List.filter_eq_nil_iff.2 fun c hc => by simp [h c hc]
  unfold State.forceEffect
  rw [hd]
  rfl

/-! ### The copies in the store (R216) -/

theorem forceCopy_ok (old : ForceCopy) (l : List ForceEntry) : forceCopyOk (forceCopy old l) = true := by simp [forceCopyOk, forceCopy]

theorem forceCopy_ids (old : ForceCopy) (l : List ForceEntry) : (forceCopy old l).entries.map (fun x => x.id) = l.map fun x => x.id := by
  simp [forceCopy]

/-- The store with the first `copies` copies of the force table brought to it. -/
def State.forcesStored (s : State) (copies : Fin 3) : StoreContents :=
  { s.store with
    forces0 := if writesCopy copies 0 then forceCopy s.store.forces0 s.frc.entries else s.store.forces0
    forces1 := if writesCopy copies 1 then forceCopy s.store.forces1 s.frc.entries else s.store.forces1 }

theorem forceStoreWrite_of_pending (h : s.bit Fld.FRC_STAT_STORE_PENDING = true) (copies : Fin 3) : s.forceStoreWrite copies =
    if copies = 2 then ({ s with store := s.forcesStored copies } : State).putBit Fld.FRC_STAT_STORE_PENDING false
    else ({ s with store := s.forcesStored copies } : State).raise Src.CFG_STORE_FAIL 0 0 := by
  unfold State.forceStoreWrite
  rw [if_pos h]
  fin_cases copies <;> rfl

theorem forceStoreWrite_of_done (h : s.bit Fld.FRC_STAT_STORE_PENDING = false) (copies : Fin 3) : s.forceStoreWrite copies = s := by
  unfold State.forceStoreWrite
  rw [h]
  rfl

/-- The rewrite ends with both copies brought to the table. -/
theorem forceStoreWrite_both (h : s.bit Fld.FRC_STAT_STORE_PENDING = true) : (s.forceStoreWrite 2).get Fld.FRC_STAT_STORE_PENDING = 0 ∧
    (s.forceStoreWrite 2).store.forces0 = forceCopy s.store.forces0 s.frc.entries ∧
    (s.forceStoreWrite 2).store.forces1 = forceCopy s.store.forces1 s.frc.entries := by
  rw [forceStoreWrite_of_pending s h, if_pos rfl]
  exact ⟨get_putBit_same _ (f := Fld.FRC_STAT_STORE_PENDING) (show 29 + 1 ≤ 32 by decide) rfl false, rfl, rfl⟩

/-- After copy 1 alone the rewrite stays outstanding, whatever CFG_STORE_FAIL brings about. -/
theorem forceStoreWrite_first (h : s.bit Fld.FRC_STAT_STORE_PENDING = true) : (s.forceStoreWrite 1).get Fld.FRC_STAT_STORE_PENDING = 1 ∧
    (s.forceStoreWrite 1).store.forces0 = forceCopy s.store.forces0 s.frc.entries ∧
    (s.forceStoreWrite 1).store.forces1 = s.store.forces1 := by
  rw [forceStoreWrite_of_pending s h, if_neg (by decide)]
  have hu := undisturbed_raise { s with store := s.forcesStored 1 } Src.CFG_STORE_FAIL 0 0
  have hs : s.get Fld.FRC_STAT_STORE_PENDING = 1 := by
    have hlt : s.get Fld.FRC_STAT_STORE_PENDING < 2 := Nat.mod_lt _ (by decide)
    have hne : s.get Fld.FRC_STAT_STORE_PENDING ≠ 0 := bne_iff_ne.1 h
    omega
  exact ⟨(hu.field Fld.FRC_STAT_STORE_PENDING rfl).trans hs, congrArg StoreContents.forces0 hu.store, (congrArg StoreContents.forces1 hu.store :)⟩

/-- Changes of the table and of its copies are as R212, R215, R216 and R217 say. -/
theorem forceTableChanges : Claim.ForceTableChanges := by
  intro s e f
  refine ⟨fun hw hr => ?_, fun h => ?_, fun h => ?_, fun h => ?_, fun h => ?_, fun h k => ?_, fun l c h => forceApply_sorted h c⟩
  · have hfrc := forceEffect_of_one s hw hr
    exact ⟨_, rfl, congrArg ForceState.waiting hfrc, congrArg ForceState.entries hfrc⟩
  · exact congrArg Host.Outcome.next (forceEffect_of_none s h)
  · obtain ⟨hdone, hfirst, hsecond⟩ := forceStoreWrite_both s h
    refine ⟨_, rfl, hdone, ?_⟩
    rw [hfirst, hsecond]
    exact ⟨forceCopy_ok _ _, forceCopy_ok _ _, rfl, forceCopy_ids _ _⟩
  · exact congrArg Host.Outcome.next ((forceStoreWrite_of_pending s h 0).trans (if_neg (by decide)))
  · obtain ⟨hpending, hfirst, hsecond⟩ := forceStoreWrite_first s h
    refine ⟨_, rfl, hpending, ?_, hsecond⟩
    rw [hfirst]
    exact forceCopy_ok _ _
  · exact congrArg Host.Outcome.next (forceStoreWrite_of_done s h k)

end Sys2Proof.Machine
end

section
/-! The obligation about forces. -/
open Sys2Proof Sys2Proof.Machine

/-- Settles O23: the commands by the action bits that a write sets, the table by what one change makes of it, and the rewrite by what a raised
CFG_STORE_FAIL leaves undisturbed. -/
theorem forcing : Obligations.Forcing := ⟨forceCommands, forceTableChanges⟩

end

section
/-! SUPPORT. An on-line change up to the swap: admission, the new survey, migration, agreement and abort (R187, R198 to R206, R210, R211). -/
namespace Sys2Proof.Machine

/-! ### The data of the change under plain updates -/

section
variable {s t : State} {as : List Nat}

theorem regsOnly.olc (h : regsOnly s t as) : t.olc = s.olc := by rw [← h.1]

theorem regsOnly.olcState (h : regsOnly s t as) (ha : Reg.OLC_STAT ∉ as) : t.olcState = s.olcState := h.get ha

theorem regsOnly.ll (h : regsOnly s t as) (ha : Reg.PAIR_STAT ∉ as) : t.ll = s.ll := ll_of_get (h.get ha)

theorem reported.olc (h : reported s t) : t.olc = s.olc := by
  have e := congrArg State.olc h.1
  exact e

end

variable (s : State) {g : Survey} {v : Word}

@[simp] theorem State.setOlc_olc (st : Nat) : (s.setOlc st).olc = s.olc := by simp [State.setOlc]
@[simp] theorem State.setArea_olc (a : Nat) (x : GenArea) : (s.setArea a x).olc = s.olc := State.putAll_olc _ _
@[simp] theorem State.programArea_olc (a : Nat) (x : Byte) : (s.programArea a x).olc = s.olc := s.setArea_olc a _
@[simp] theorem State.bankLoading_olc (x : Nat) : (s.bankLoading x).olc = s.olc := State.putAll_olc _ _
@[simp] theorem State.setAreaTag_olc (a build : Nat) : (s.setAreaTag a build).olc = s.olc := by simp [State.setAreaTag]
@[simp] theorem State.setInstWord_olc (a o : Nat) (w : DWord) : (s.setInstWord a o w).olc = s.olc := rfl
@[simp] theorem State.setQueue_olc (q : List (Nat × DWord)) : (s.setQueue q).olc = { s.olc with queue := q } := by
  simp [State.setQueue]

@[simp] theorem State.foldl_olc {α : Type} {f : State → α → State} (h : ∀ u x, (f u x).olc = u.olc) (l : List α) (s : State) :
    (l.foldl f s).olc = s.olc := by
  induction l generalizing s with
  | nil => rfl
  | cons x l ih => rw [List.foldl_cons, ih, h]

@[simp] theorem State.setSigPage_olc (page slot : Nat) (w : DWord) : (s.setSigPage page slot w).olc = s.olc := by
  unfold State.setSigPage
  split <;> rfl

@[simp] theorem State.loadPage_olc (page : Nat) (g : Survey) : (s.loadPage page g).olc = s.olc := by
  unfold State.loadPage
  refine (State.foldl_olc (fun u d => u.setSigPage_olc _ _ _) _ _).trans ?_
  split <;> rfl

@[simp] theorem State.initOther_olc (g : Survey) (a : Nat) : (s.initOther g a).olc = s.olc :=
  State.foldl_olc (fun u o => u.setInstWord_olc a o _) _ _

@[simp] theorem State.migrateWord_olc (g : Survey) (a o : Nat) (w : DWord) : (s.migrateWord g a o w).olc = s.olc :=
  State.foldl_olc (fun u _ => State.foldl_olc (fun u _ => u.setInstWord_olc _ _ _) _ u) _ _

theorem olcState_setOlc {n : Nat} (hn : n < 16) : (s.setOlc n).olcState = n :=
  (s.get_put_same Fld.OLC_STAT_STATE (show 0 + 4 ≤ 32 by decide) n).trans (Nat.mod_eq_of_lt hn)

/-! ### Admission (R198, R199) -/

theorem olcRequest_of_refused {gen r : Nat} (h : s.olcRefusal gen (hasMigration g) g.header.parentBuildId = some r) (reuse : Bool) :
    s.olcRequest gen g reuse = s.olcRefuse r := by
  simp [State.olcRequest, h]

/-- In a SYNCED pair the partner is asked, and nothing else begins. -/
theorem olcRequest_of_synced {gen : Nat} (h : s.olcRefusal gen (hasMigration g) g.header.parentBuildId = none) (hl : s.ll = .synced)
    (reuse : Bool) : s.olcRequest gen g reuse = State.emit { s with olc := { s.olc with asking := some (gen, g, reuse) } }
      (.lifeline (.command (.olcRequest gen (hasMigration g) g.header.parentBuildId))) := by
  simp [State.olcRequest, h, hl]

theorem olcRequest_alone {gen : Nat} (h : s.olcRefusal gen (hasMigration g) g.header.parentBuildId = none) (hl : s.ll ≠ .synced)
    (reuse : Bool) : s.olcRequest gen g reuse = s.olcBegin gen (some g) reuse := by
  simp [State.olcRequest, h, hl]

theorem olcRefusal_of_busy (h : s.olcState ≠ Olc.IDLE ∨ s.olc.asking.isSome = true) (gen : Nat) (hasMap : Bool) (parent : Nat) :
    s.olcRefusal gen hasMap parent = some 1 := if_pos h

theorem olcRefusal_of_stranger (hi : s.olcState = Olc.IDLE) (ha : s.olc.asking = none) {hasMap : Bool} {parent : Nat}
    (h : hasMap = false ∨ parent ≠ s.runningBuild) (gen : Nat) : s.olcRefusal gen hasMap parent = some 3 := by
  unfold State.olcRefusal
  rw [if_neg (by simp [hi, ha]), if_pos (by simpa using h)]

/-- An area's registers are not that of the change's reason. -/
theorem get_setArea_REASON {a : Nat} (ha : a ≤ 1) (x : GenArea) : (s.setArea a x).get Fld.OLC_REASON_CODE = s.get Fld.OLC_REASON_CODE := by
  have hg : Reg.CFG_GEN a ≠ Reg.OLC_REASON ∧ Reg.CFG_AREA a ≠ Reg.OLC_REASON := by
    simp only [Reg.CFG_GEN, Reg.CFG_AREA, Reg.OLC_REASON]
    omega
  refine (State.get_putAll_apart _ _ _ ?_).trans rfl
  simp only [List.forall_mem_cons]
  exact ⟨Or.inl hg.1, Or.inl hg.2, Or.inl hg.2, nofun⟩

/-- A change that begins without the area erases it, and writes (R199). -/
theorem olcBegin_writes (gen : Nat) (g : Survey) : (s.olcBegin gen (some g) false).olcState = Olc.WRITING ∧
    (s.olcBegin gen (some g) false).olc =
      { s.olc.over with survey := some g, generation := gen, targetArea := s.spareArea, bank := s.spareBank } ∧
    (s.olcBegin gen (some g) false).get Fld.OLC_REASON_CODE = 0 := by
  unfold State.olcBegin
  extract_lets serves ended s1 s2
  have hreason : s2.get Fld.OLC_REASON_CODE = 0 := s1.get_put_same Fld.OLC_REASON_CODE (show 0 + 8 ≤ 32 by decide) 0
  have holc : s2.olc = s1.olc := s1.put_olc _ _
  have harea : s2.olc.targetArea ≤ 1 := Nat.sub_le _ _
  clear_value s2
  rw [if_neg (by simp [serves])]
  refine ⟨olcState_setOlc _ (by decide), by rw [State.setOlc_olc, State.setArea_olc, holc], ?_⟩
  exact (State.get_put_apart _ Fld.OLC_STAT_STATE _ (Or.inl (by decide)) _).trans ((get_setArea_REASON s2 harea _).trans hreason)

theorem changeAdmission : Claim.ChangeAdmission := by
  intro s gen g reuse
  refine ⟨fun r h => ?_, fun h => ?_, fun h => ?_, fun hi ha h => ?_, fun h hl => ?_, fun h hl => ?_⟩
  · exact congrArg Host.Outcome.next (olcRequest_of_refused s h reuse)
  · exact olcRefusal_of_busy s (Or.inl h) _ _ _
  · exact olcRefusal_of_busy s (Or.inr h) _ _ _
  · exact olcRefusal_of_stranger s hi ha h gen
  · exact congrArg Host.Outcome.next (olcRequest_of_synced s h hl reuse)
  · obtain ⟨hstate, holc, hreason⟩ := olcBegin_writes s gen g
    refine ⟨_, congrArg Host.Outcome.next (olcRequest_alone s h hl false), hstate, ?_, ?_, ?_, ?_, hreason⟩ <;> rw [holc] <;> rfl

/-! ### OLC_CTRL (R469) -/

theorem olcCtrlWrite_of_migrate (hm : Fld.OLC_CTRL_MIGRATE.on v = true) (ha : Fld.OLC_CTRL_ARM.on v = false)
    (hb : Fld.OLC_CTRL_ABORT.on v = false) : s.olcCtrlWrite v = (s.regStore Reg.OLC_CTRL v).olcMigrate := by
  simp [State.olcCtrlWrite, State.actions, actionClash, actionCount, hm, ha, hb]

theorem olcCtrlWrite_of_arm (hm : Fld.OLC_CTRL_MIGRATE.on v = false) (ha : Fld.OLC_CTRL_ARM.on v = true)
    (hb : Fld.OLC_CTRL_ABORT.on v = false) : s.olcCtrlWrite v = (s.regStore Reg.OLC_CTRL v).olcArm := by
  simp [State.olcCtrlWrite, State.actions, actionClash, actionCount, hm, ha, hb]

theorem olcCtrlWrite_of_abort (hm : Fld.OLC_CTRL_MIGRATE.on v = false) (ha : Fld.OLC_CTRL_ARM.on v = false)
    (hb : Fld.OLC_CTRL_ABORT.on v = true) : s.olcCtrlWrite v = (s.regStore Reg.OLC_CTRL v).olcAbortCmd := by
  simp [State.olcCtrlWrite, State.actions, actionClash, actionCount, hm, ha, hb]

/-- A write of OLC_CTRL leaves the change's data, its state and the Lifeline's state. -/
theorem regStore_OLC_CTRL (v : Word) : (s.regStore Reg.OLC_CTRL v).olc = s.olc ∧ (s.regStore Reg.OLC_CTRL v).olcState = s.olcState ∧
    (s.regStore Reg.OLC_CTRL v).ll = s.ll :=
  have h := regsOnly_regStore s Reg.OLC_CTRL v
  ⟨h.olc, h.olcState (by decide), h.ll (by decide)⟩

/-! ### The new survey (R199) -/

theorem olcWritten_loads (h : s.olcState = Olc.WRITING) (hg : s.olc.survey = some g) (intact : Bool) :
    (s.olcWritten g intact).olcState = Olc.LOADING ∧ (s.olcWritten g intact).olc = s.olc := by
  have ho : ({ s.olc with survey := some g } : OlcState) = s.olc := by rw [← hg]
  unfold State.olcWritten
  rw [if_pos h]
  extract_lets olc s1 written area
  have h1 : s1.olc = s.olc := ho
  clear_value s1 area
  exact ⟨olcState_setOlc _ (by decide), by simp [h1]⟩

/-! ### Shadow migration (R201 to R204) -/

@[simp] theorem State.sweepCheck_olc (g : Survey) : (s.sweepCheck g).olc = s.olc := by
  unfold State.sweepCheck
  dsimp only
  split
  · split <;> simp
  · simp

/-- While mapped words are left the change goes on migrating. -/
theorem sweepCheck_unfinished (h : ((mappedWords g).filter fun w => !s.olc.areaDone.contains w) ≠ []) :
    (s.sweepCheck g).olcState = s.olcState := by
  unfold State.sweepCheck
  extract_lets left slots s1
  have h1 : s1.get Fld.OLC_STAT_STATE = s.get Fld.OLC_STAT_STATE := by
    refine s.get_putAll_apart _ _ ?_
    simp only [List.forall_mem_cons]
    exact ⟨Or.inl (by decide), Or.inr (Or.inr (by decide)), Or.inr (Or.inr (by decide)), nofun⟩
  clear_value s1
  rw [if_neg (by simp [show left ≠ [] from h])]
  exact h1

theorem olcMigrate_migrates (hv : s.olcState = Olc.VERIFIED) (hg : s.olc.survey = some g) (hw : mappedWords g ≠ []) :
    s.olcMigrate.olcState = Olc.MIGRATING ∧ s.olcMigrate.olc.mirror = true ∧ s.olcMigrate.olc.areaDone = [] ∧
      s.olcMigrate.olc.pageDone = [] := by
  unfold State.olcMigrate
  rw [hg]
  dsimp only
  rw [if_pos hv]
  generalize ((s.put ⟨Reg.GAL_AREA, 1 + (1 - s.runArea), 1⟩ 0).initOther g (1 - s.runArea)) = u
  refine ⟨?_, by simp, by simp, by simp⟩
  rw [sweepCheck_unfinished _ (by simpa using hw)]
  refine (State.get_put_apart _ Fld.OLC_SWEEP_QUEUE _ (Or.inl (by decide)) _).trans ?_
  exact olcState_setOlc _ (by decide)

theorem sweepStep_of_next (hg : s.olc.survey = some g) (hm : s.olcState = Olc.MIGRATING) (hj : s.seq.journals = []) (hq : s.olc.queue = [])
    {ix : Nat} {page : Bool} (hn : s.sweepNext g page = some ix) (ue : Bool) :
    s.sweepStep ix page ue = if page then s.sweepPage g ix else s.sweepArea g ix ue := by
  unfold State.sweepStep
  rw [hg]
  exact if_pos ⟨hm, hj, hq, hn⟩

/-- A journal to commit, a queue that is not empty or another index leaves the sweep where it is. -/
theorem sweepStep_waits (hg : s.olc.survey = some g) {ix : Nat} {page : Bool}
    (h : s.seq.commit ≠ none ∨ s.seq.ready ≠ [] ∨ s.olc.queue ≠ [] ∨ s.sweepNext g page ≠ some ix) (ue : Bool) : s.sweepStep ix page ue = s := by
  unfold State.sweepStep
  rw [hg]
  refine if_neg fun ⟨_, hj, hq, hn⟩ => ?_
  obtain ⟨hc, hr⟩ := List.append_eq_nil_iff.1 hj
  rcases h with h | h | h | h
  · exact h (Option.toList_eq_nil_iff.1 hc)
  · exact h hr
  · exact h hq
  · exact h hn

theorem sweepArea_done (hu : s.inst.ue = []) (ix : Nat) : (s.sweepArea g ix false).olc.areaDone = s.olc.areaDone ++ [ix] := by
  unfold State.sweepArea
  rw [if_neg (by simp [hu])]
  simp

theorem sweepPage_done (ix : Nat) : (s.sweepPage g ix).olc.pageDone = s.olc.pageDone ++ [ix] := by
  unfold State.sweepPage
  split <;> simp

/-! ### Arming and agreement (R187, R205, R206) -/

theorem olcArm_alone (hm : s.olcState = Olc.MIGRATED) (hg : s.olc.survey = some g) (hl : s.ll ≠ .synced) {x : Nat}
    (hx : s.swapInstant g = some x) : s.olcArm = s.swapWanted x := by
  simp [State.olcArm, hg, hm, hl, hx]

theorem swapAgree_alone (hm : s.olcState = Olc.MIGRATED) (ha : s.olc.agreed = true) (hs : s.olc.swapAt ≠ 0) (hl : s.ll ≠ .synced)
    (hg : s.olc.survey = some g) : (s.swapBlocked g = true → s.swapAgree = s.swapRefused 2) ∧
      (s.swapBlocked g = false → s.swapInstant g = none → s.swapAgree = s.swapRefused 7) ∧
      (∀ x, s.swapBlocked g = false → s.swapInstant g = some x → s.swapAgree = s.swapArms x) := by
  refine ⟨fun hb => ?_, fun hb hx => ?_, fun x hb hx => ?_⟩
  · simp [State.swapAgree, hg, hm, ha, hs, hl, hb]
  · simp [State.swapAgree, hg, hm, ha, hs, hl, hb, hx]
  · simp [State.swapAgree, hg, hm, ha, hs, hl, hb, hx]

theorem swapRefused_refuses {r : Nat} (hr : r < 256) : (s.swapRefused r).olcState = s.olcState ∧ (s.swapRefused r).olc.agreed = false ∧
    (s.swapRefused r).get Fld.OLC_REASON_CODE = r := by
  unfold State.swapRefused State.olcRefuse
  refine ⟨?_, by simp, ?_⟩
  · exact congrArg Fld.OLC_STAT_STATE.ext ((State.getReg_bump_ne _ _ (by decide)).trans (State.getReg_put_ne _ _ _ (by decide)))
  · refine (congrArg Fld.OLC_REASON_CODE.ext (State.getReg_bump_ne _ _ (by decide))).trans ?_
    exact (State.get_put_same _ Fld.OLC_REASON_CODE (show 0 + 8 ≤ 32 by decide) r).trans (Nat.mod_eq_of_lt hr)

theorem swapArms_arms (x : Nat) : (s.swapArms x).olcState = Olc.ARMED ∧ (s.swapArms x).olc.swapAt = x ∧
    (s.swapArms x).get Fld.OLC_SWAP_LO_NS_LO = x % 2 ^ 32 := by
  unfold State.swapArms
  generalize hu : ({ s with olc := { s.olc with swapAt := x } } : State).programArea s.olc.targetArea 0x1F = u
  have hp : [(Fld.OLC_STAT_STATE, Olc.ARMED), (Fld.OLC_SWAP_LO_NS_LO, x % 2 ^ 32), (Fld.OLC_SWAP_HI_NS_HI, x / 2 ^ 32)].Pairwise
      fun p q => q.1.apart p.1 := by
    simp only [List.pairwise_cons, List.forall_mem_cons]
    exact ⟨⟨Or.inl (by decide), Or.inl (by decide), nofun⟩, ⟨Or.inl (by decide), nofun⟩, nofun, List.Pairwise.nil⟩
  refine ⟨get_putAll_same hp List.mem_cons_self (show 0 + 4 ≤ 32 by decide) u, by simp [← hu], ?_⟩
  refine (get_putAll_same hp (List.mem_cons_of_mem _ List.mem_cons_self) (show 0 + 32 ≤ 32 by decide) u).trans ?_
  exact Nat.mod_mod _ _

/-! ### Abort (R210, R211) -/

/-- Before agreement an abort ends the change. -/
theorem olcAbort_ends (h : 1 ≤ s.olcState ∧ s.olcState ≤ 5) (reason : Nat) : (s.olcAbort reason).olc = s.olc.over := by
  unfold State.olcAbort
  extract_lets st other b gen s1 s2 s3 s4
  rw [if_pos (show 1 ≤ st ∧ st ≤ 5 from h)]
  have h2 : s2.olc = s.olc := State.putAll_olc _ _
  clear_value s2
  have h3 : s3.olc = s2.olc.over := rfl
  clear_value s3
  have h4 : reported s3 s4 := reported_trans (reported_bump s3 _) (reported_sumpOccur _ _ _ _ _)
  rw [(reported_trans h4 (reported_record s4 _ _ _)).olc, h3, h2]

theorem tellAbort_olc : s.tellAbort.olc = s.olc := by
  unfold State.tellAbort
  split
  · exact s.emit_olc _
  · rfl

theorem olcAbortCmd_ends (h : 1 ≤ s.olcState ∧ s.olcState ≤ 5) : s.olcAbortCmd.olc = s.olc.over := by
  unfold State.olcAbortCmd
  rw [if_pos h]
  exact (tellAbort_olc _).trans (olcAbort_ends s h 8)

theorem olcAbortCmd_of_agreed (h : 5 < s.olcState) : s.olcAbortCmd = s := if_neg fun k => absurd k.2 (Nat.not_le.2 h)

theorem changeSteps : Claim.ChangeSteps := by
  intro s g v hg
  obtain ⟨holc, hstate, hll⟩ := regStore_OLC_CTRL s v
  refine ⟨fun h => ?_, fun hm ha hb hv hw => ?_, fun ix hm hj hq hn hu => ?_, fun ix u hm hj hq hn => ?_, fun ix p u h => ?_,
    fun x hm ha hb hs hl hx => ?_, fun hm ha hs hl => ?_, fun hm ha hb hs => ?_, fun hm ha hb hs hl => ?_⟩
  · exact ⟨_, rfl, olcWritten_loads s h hg true⟩
  · exact ⟨_, congrArg Host.Outcome.next (olcCtrlWrite_of_migrate s hm ha hb),
      olcMigrate_migrates _ (hstate.trans hv) ((congrArg OlcState.survey holc).trans hg) hw⟩
  · exact ⟨_, congrArg Host.Outcome.next (sweepStep_of_next s hg hm hj hq hn false), sweepArea_done s hu ix⟩
  · exact ⟨_, congrArg Host.Outcome.next (sweepStep_of_next s hg hm hj hq hn u), sweepPage_done s ix⟩
  · exact congrArg Host.Outcome.next (sweepStep_waits s hg h u)
  · have harm := olcArm_alone _ (hstate.trans hs) ((congrArg OlcState.survey holc).trans hg) (hll ▸ hl) hx
    exact ⟨_, congrArg Host.Outcome.next ((olcCtrlWrite_of_arm s hm ha hb).trans harm), rfl, rfl, hstate.trans hs⟩
  · obtain ⟨hblocked, hnever, harms⟩ := swapAgree_alone s hm ha hs hl hg
    refine ⟨fun hb => ?_, fun hb hx => ?_, fun x hb hx => ?_⟩
    · obtain ⟨hstays, hends, hreason⟩ := swapRefused_refuses s (r := 2) (by decide)
      exact ⟨_, congrArg Host.Outcome.next (hblocked hb), hstays.trans hm, hends, hreason⟩
    · obtain ⟨hstays, hends, hreason⟩ := swapRefused_refuses s (r := 7) (by decide)
      exact ⟨_, congrArg Host.Outcome.next (hnever hb hx), hstays.trans hm, hends, hreason⟩
    · exact ⟨_, congrArg Host.Outcome.next (harms x hb hx), swapArms_arms s x⟩
  · refine congrArg Host.Outcome.next ((olcCtrlWrite_of_abort s hm ha hb).trans (olcAbortCmd_of_agreed _ ?_))
    rw [hstate, hs]
    decide
  · have hends := olcAbortCmd_ends (s.regStore Reg.OLC_CTRL v) (by rw [hstate, hs]; decide)
    exact ⟨_, congrArg Host.Outcome.next (olcCtrlWrite_of_abort s hm ha hb), by rw [hends]; rfl, by rw [hends]; rfl⟩

end Sys2Proof.Machine
end

section
/-! SUPPORT. The swap at S (R187, R207, R208, R211, R217, R258): what its parts leave of mode, LOAD and the signal table. -/
namespace Sys2Proof.Machine

/-- Mode, LOAD and the signal table. -/
def State.standing (s : State) : Mode × LoadState × SignalState := (s.mode, s.load, s.sig)

theorem undisturbed.standing {s t : State} (h : undisturbed s t) : t.standing = s.standing := by
  simp only [State.standing, h.mode, h.load, h.sig]

variable (s : State)

@[simp] theorem State.foldl_standing {α : Type} {f : State → α → State} (h : ∀ u x, (f u x).standing = u.standing) (l : List α) (s : State) :
    (l.foldl f s).standing = s.standing := by
  induction l generalizing s with
  | nil => rfl
  | cons x l ih => rw [List.foldl_cons, ih, h]

/-! ### Fields, units, reports -/

theorem State.standing_of_olc (x : OlcState) : ({ s with olc := x } : State).standing = s.standing := rfl
theorem State.standing_of_seq (x : SeqState) : ({ s with seq := x } : State).standing = s.standing := rfl
theorem State.standing_of_frc (x : ForceState) : ({ s with frc := x } : State).standing = s.standing := rfl

@[simp] theorem State.setReg_standing (a : Nat) (v : BitVec 32) : (s.setReg a v).standing = s.standing := by simp [State.standing]
@[simp] theorem State.put_standing (f : RegField) (v : Nat) : (s.put f v).standing = s.standing := by simp [State.standing]
@[simp] theorem State.putBit_standing (f : RegField) (b : Bool) : (s.putBit f b).standing = s.standing := by simp [State.standing]
@[simp] theorem State.putAll_standing (l : List (RegField × Nat)) : (s.putAll l).standing = s.standing := by simp [State.standing]
@[simp] theorem State.bump_standing (f : RegField) : (s.bump f).standing = s.standing := by simp [State.standing]
@[simp] theorem State.setChan_standing (n : Nat) (c : IslChan) : (s.setChan n c).standing = s.standing := by
  simp [State.standing, State.setChan]

@[simp] theorem State.setDrip_standing (d : Nat) (x : Drip) : (s.setDrip d x).standing = s.standing := by
  simp [State.standing, State.setDrip]

@[simp] theorem State.record_standing (type key : Nat) (items : List (Nat × Nat)) : (s.record type key items).standing = s.standing :=
  (undisturbed_record s type key items).standing

@[simp] theorem State.raise_standing (src inst sub : Nat) : (s.raise src inst sub).standing = s.standing :=
  (undisturbed_raise s src inst sub).standing

@[simp] theorem State.fall_standing (src inst sub : Nat) : (s.fall src inst sub).standing = s.standing := by
  simp [State.fall, State.sumpFall, State.standing]

/-! ### Drip units, tasks, forces -/

@[simp] theorem State.disarmDrips_standing (g : Survey) : (s.disarmDrips g).standing = s.standing := by simp [State.disarmDrips]

@[simp] theorem State.armDrips_standing (g : Survey) (b : Nat) : (s.armDrips g b).standing = s.standing := by
  simp [State.armDrips, State.armSurvey]

@[simp] theorem State.setWindow_standing (g : Survey) (t : Nat) : (s.setWindow g t).standing = s.standing := by simp [State.setWindow]

@[simp] theorem State.tasksAtSwap_standing (old new : Survey) (tail : List Nat) : (s.tasksAtSwap old new tail).standing = s.standing := by
  simp [State.tasksAtSwap, apply_ite State.standing]

@[simp] theorem State.showForces_standing : s.showForces.standing = s.standing := by
  unfold State.showForces
  extract_lets n s1
  have h1 : s1.standing = s.standing := s.putAll_standing _
  split
  · exact (s1.fall_standing _ _ _).trans h1
  · exact (undisturbed_rise s1 (by decide) 0 0).standing.trans h1

theorem State.setForces_standing (l : List ForceEntry) : (s.setForces l).standing = s.standing :=
  (State.showForces_standing _).trans (s.standing_of_frc _)

@[simp] theorem State.settleForces_standing (g : Survey) : (s.settleForces g).standing = s.standing := by
  unfold State.settleForces
  extract_lets s1 l w s2
  have h1 : s1.standing = s.standing := State.foldl_standing (fun u e => u.record_standing _ _ _) _ _
  have h2 : s2.standing = s1.standing := by
    simp only [s2]
    split
    · rfl
    · exact s1.putBit_standing _ _
  clear_value s2
  exact (State.setForces_standing _ l).trans ((s2.standing_of_frc _).trans (h2.trans h1))

/-! ### Relocation, chambers -/

@[simp] theorem State.relocate_standing (g : Survey) (c : Nat) (r : RelocVariant) : (s.relocate g c r).standing = s.standing := by
  unfold State.relocate
  extract_lets x others pend seq s1 s2
  have h1 : s1.standing = s.standing := s.standing_of_seq _
  clear_value s1
  have h2 : s2.standing = s1.standing := s1.putAll_standing _
  exact (State.record_standing _ _ _ _).trans ((State.raise_standing _ _ _ _).trans (h2.trans h1))

@[simp] theorem State.relocateAtSwap_standing (g : Survey) : (s.relocateAtSwap g).standing = s.standing := by
  unfold State.relocateAtSwap
  extract_lets seq s1 s2 s3
  have h1 : s1.standing = s.standing := s.standing_of_seq _
  clear_value s1
  have h2 : s2.standing = s1.standing := State.foldl_standing (fun u x => u.putAll_standing _) _ _
  have h3 : s3.standing = s2.standing := State.foldl_standing (fun u c => u.putAll_standing _) _ _
  refine (State.foldl_standing (fun u c => ?_) _ _).trans (h3.trans (h2.trans h1))
  split
  · split
    · exact (State.standing_of_seq _ _).trans (u.relocate_standing g c _)
    · rfl
  · rfl

@[simp] theorem State.chambersAtSwap_standing : s.chambersAtSwap.standing = s.standing := by
  simp [State.chambersAtSwap, State.setChState, apply_ite State.standing]

/-! ### CAN objects, stations, channels -/

@[simp] theorem State.canSurvey_standing (g : Survey) : (s.canSurvey g).standing = s.standing := by
  simp [State.canSurvey, apply_ite State.standing]

@[simp] theorem State.showTopo_standing (p : Nat) : (s.showTopo p).standing = s.standing := by
  unfold State.showTopo
  extract_lets st broken was topo s1 s2
  have h1 : s1.standing = s.standing := s.putAll_standing _
  have h2 : s2.standing = s1.standing := by
    simp only [s2]
    split
    · rfl
    · exact s1.putAll_standing _
  split
  · exact (undisturbed_rise s2 (by decide) p 0).standing.trans (h2.trans h1)
  · exact (s1.fall_standing _ _ _).trans h1

@[simp] theorem State.stationsLoad_standing : s.stationsLoad.standing = s.standing := by
  simp [State.stationsLoad, apply_ite State.standing]

@[simp] theorem State.calModeChanged_standing (n : Nat) : (s.calModeChanged n).standing = s.standing := by
  unfold State.calModeChanged
  split
  · rfl
  · split <;> rfl

@[simp] theorem State.chanOff_standing (n : Nat) : (s.chanOff n).standing = s.standing := by simp [State.chanOff]

@[simp] theorem State.modesToSwap_standing : s.modesToSwap.standing = s.standing := by
  simp [State.modesToSwap, apply_ite State.standing]

/-! ### The tail ends (R208) -/

@[simp] theorem State.programArea_standing (a : Nat) (x : Byte) : (s.programArea a x).standing = s.standing := by
  simp [State.programArea, State.setArea, State.showArea, State.standing]

@[simp] theorem State.tailEnd_standing : s.tailEnd.standing = s.standing := by
  unfold State.tailEnd
  extract_lets old oldBuild newBuild gen swap s1 s2 s3
  have h1 : s1.standing = s.standing := s.programArea_standing _ _
  clear_value s1
  have h2 : s2.standing = s1.standing := s1.standing_of_olc _
  clear_value s2
  have h3 : s3.standing = s2.standing := s2.putAll_standing _
  clear_value s3
  exact (State.record_standing _ _ _ _).trans (h3.trans (h2.trans h1))

/-! ### The changeover, or its failure (R207, R211) -/

/-- At the changeover the other page becomes active and the new area the module's own; the mode stays. -/
theorem changeOver_standing (old new : Survey) : (s.changeOver old new).standing =
    (s.mode, { s.load with ownGen := some s.olc.targetArea }, { s.sig with active := 1 - s.sig.active }) := by
  unfold State.changeOver
  extract_lets x tail used b s1 load sig olc s2 s3 s4 s5 s6
  have hmode : s1.mode = s.mode := s.putAll_mode _
  have hload : s1.load = s.load := s.putAll_load _
  have hsig : s1.sig = s.sig := s.putAll_sig _
  have holc : s1.olc = s.olc := s.putAll_olc _
  clear_value s1
  have h2 : s2.standing = (s1.mode, { s1.load with ownGen := some s1.olc.targetArea }, { s1.sig with active := 1 - s1.sig.active }) := rfl
  rw [hmode, hload, hsig, holc] at h2
  clear_value s2
  have h6 : s6.standing = s2.standing := by simp [s6, s5, s4, s3]
  clear_value s6
  split
  · exact (s6.tailEnd_standing).trans (h6.trans h2)
  · exact h6.trans h2

theorem swapNow_changes {old new : Survey} (ha : s.olcState = Olc.ARMED) (ho : s.activeSurvey = some old) (hn : s.otherSurvey = some new)
    (hv : s.get (Fld.SVY_BANK_STATE s.olc.bank) = 2) (hb : s.swapBlocked new = false) : s.swapNow = s.changeOver old new := by
  simp [State.swapNow, ha, ho, hn, hv, hb]

theorem swapNow_fails {old new : Survey} (ha : s.olcState = Olc.ARMED) (ho : s.activeSurvey = some old) (hn : s.otherSurvey = some new)
    (h : s.get (Fld.SVY_BANK_STATE s.olc.bank) ≠ 2 ∨ s.swapBlocked new = true) : s.swapNow = s.swapFails := by
  unfold State.swapNow
  rw [if_pos ha, ho, hn]
  refine if_neg fun ⟨hv, hb⟩ => ?_
  rcases h with h | h
  · exact h hv
  · exact Bool.noConfusion (hb.symm.trans h)

theorem undisturbed_holdTask (t cause : Nat) : undisturbed s (s.holdTask t cause) := by
  unfold State.holdTask
  extract_lets k
  split
  · exact undisturbed.refl s
  · split
    · exact undisturbed.refl s
    · exact .of_calm rfl

theorem undisturbed_soloHold (solo : Bool) (ts : List Nat) (cause : Nat) : undisturbed s (s.soloHold solo ts cause) := by
  unfold State.soloHold
  split
  · exact undisturbed.foldl ts (fun u t => undisturbed_holdTask u t cause) s
  · exact .of_calm rfl

/-- A module that cannot swap gives the change up, and its signal table stays (R211). -/
theorem swapFails_gives_up : s.swapFails.olc.survey = none ∧ s.swapFails.sig = s.sig := by
  unfold State.swapFails
  extract_lets solo s1 s2
  have h2 : undisturbed s1 s2 := (undisturbed_put s1 (by decide) _).trans (undisturbed_raise _ _ _ _)
  have h : undisturbed s1 (s2.freeByte.2.soloHold solo (List.range 16) (s2.freeByte.1 % 16)) :=
    h2.trans ((undisturbed_freeByte s2).trans (undisturbed_soloHold _ _ _ _))
  exact ⟨h.ended rfl, h.sig⟩

/-! ### Staging is seeded (R207) -/

/-- From `s` to `t` chambers alone change. -/
def chambersAlone (s t : State) : Prop := { t with chambers := s.chambers } = s

theorem chambersAlone.trans {s t u : State} (h : chambersAlone s t) (k : chambersAlone t u) : chambersAlone s u := by
  unfold chambersAlone at h k ⊢
  rw [← h, ← k]

theorem chambersAlone.foldl {α : Type} {f : State → α → State} (h : ∀ u x, chambersAlone u (f u x)) (l : List α) (s : State) :
    chambersAlone s (l.foldl f s) := by
  induction l generalizing s with
  | nil => rfl
  | cons x l ih => exact (h s x).trans (ih (f s x))

theorem chambersAlone_setChamber (c : Nat) (x : Chamber) : chambersAlone s (s.setChamber c x) := rfl

theorem chambersAlone_seedEntry (c : Nat) (e : FabricEntry) : chambersAlone s (s.seedEntry c e) :=
  chambersAlone.foldl (fun u _ => chambersAlone_setChamber u c _) _ s

theorem seedDone_of_seeded {c : Nat} (h : c ∉ s.olc.seeding) : s.seedDone c = s := if_neg (by simpa using h)

theorem seedDone_seeds {c : Nat} (h : c ∈ s.olc.seeding) : c ∉ (s.seedDone c).olc.seeding ∧ (s.seedDone c).sig = s.sig ∧
    (s.seedDone c).inst = s.inst := by
  unfold State.seedDone
  rw [if_pos (by simpa using h)]
  extract_lets s1
  have h1 : chambersAlone s s1 := by
    simp only [s1]
    split
    · rfl
    · exact chambersAlone.foldl (fun u e => chambersAlone_seedEntry u c e) _ s
  clear_value s1
  unfold chambersAlone at h1
  exact ⟨by simp, by rw [← h1], by rw [← h1]⟩

theorem swapAtS : Claim.SwapAtS := by
  intro s old new c
  refine ⟨fun ha ho hn hv hb => ?_, fun ha ho hn h => ?_, fun h => ?_, fun h => ?_⟩
  · have hs := changeOver_standing s old new
    simp only [State.standing, Prod.mk.injEq] at hs
    obtain ⟨hmode, hload, hsig⟩ := hs
    exact ⟨_, congrArg Host.Outcome.next (swapNow_changes s ha ho hn hv hb), by rw [hsig], hmode, by rw [hload]⟩
  · exact ⟨_, congrArg Host.Outcome.next (swapNow_fails s ha ho hn h), swapFails_gives_up s⟩
  · exact congrArg Host.Outcome.next (seedDone_of_seeded s h)
  · exact ⟨_, rfl, seedDone_seeds s h⟩

end Sys2Proof.Machine
end

section
/-! The obligation about on-line change. -/
open Sys2Proof Sys2Proof.Machine

/-- Settles O22: admission by the cases of its refusal, the steps of the change by what each leaves of the change's data and of OLC_STAT, and the
swap by what its parts leave standing. -/
theorem onlineChange : Obligations.OnlineChange := ⟨changeAdmission, changeSteps, swapAtS⟩

end

section
/-! SUPPORT. Lifeline frames by how they arrive (R77, R220 to R222, R457): discarded, delivered at once, in their turn, or made to wait. -/
namespace Sys2Proof.Machine

variable {s : State} {h : LLHeader} {f : Instr}

/-- A frame of the Lifeline whose header is `h`: each of its receptions is `llRx` (R221). -/
def bringsFrame (h : LLHeader) (f : Instr) : Prop := frameHeader f = h ∧ ∀ s : State, exec f s = .next (s.llRx f)

/-- What keeps every frame out (R77, R223). -/
theorem llRx_shut (hs : s.ll = .down ∨ s.get (Fld.GATE_CTRL_STATE 45) ≠ 0) : s.llRx f = s := if_pos hs

theorem llRx_held (hup : s.ll ≠ .down) (hg : s.get (Fld.GATE_CTRL_STATE 45) = 0) (hd : s.delayed f = true) :
    s.llRx f = State.tpAffect { s with tp := { s.tp with held := s.tp.held ++ [f] } } 0 := by
  rw [State.llRx, if_neg (not_or.2 ⟨hup, not_not.2 hg⟩), if_pos hd]

theorem llRx_enters (hup : s.ll ≠ .down) (hg : s.get (Fld.GATE_CTRL_STATE 45) = 0) (hd : s.delayed f = false) :
    s.llRx f = s.frameIn (frameHeader f) f := by
  rw [State.llRx, if_neg (not_or.2 ⟨hup, not_not.2 hg⟩), hd, if_neg Bool.false_ne_true]

/-- Without LL_DELAY nothing is held (R457). -/
theorem delayed_of_inactive (ht : s.tpActive 0 = false) (f : Instr) : s.delayed f = false := by
  unfold State.delayed
  split
  · rfl
  · exact ht

theorem delayed_of_not_time (hf : ∀ g b, f ≠ .llTime g b) : s.delayed f = s.tpActive 0 := by
  unfold State.delayed
  split
  next g b => exact absurd rfl (hf g b)
  · rfl

theorem up_of_linked (hl : s.linked = true) : s.ll ≠ .down := fun e => by simp [State.linked, e] at hl

theorem not_training_of_linked (hl : s.linked = true) : s.ll ≠ .training := fun e => by simp [State.linked, e] at hl

theorem frameGood_of_headerGood (hg : headerGood s h (frameType f)) : frameGood h f = true := by
  rw [frameGood, hg.1, hg.2.1, beq_self_eq_true, Bool.true_and]

/-- A frame that the receiver does not take is counted and discarded (R221). -/
theorem frameIn_bad (hb : llHeaderOk h = false ∨ h.type ≠ frameType f) : s.frameIn h f = s.bump Fld.PAIR_GAPS_BAD_FRAMES := by
  have hf : frameGood h f = false := by
    rcases hb with hb | hb
    · rw [frameGood, hb, Bool.false_and]
    · rw [frameGood, beq_false_of_ne hb, Bool.and_false]
  rw [State.frameIn, hf]
  rfl

/-- Before LINKED, DEPARTURE alone acts beside HELLO (R221). -/
def State.beforeLinked (s : State) (f : Instr) : State :=
  match f with
  | .departure _ => s.deliver f
  | _ => s

/-- What a frame does that the receiver takes, once its FLAGS have been seen (R221, R222). -/
def State.arrives (s : State) (h : LLHeader) (f : Instr) : State :=
  if s.atOnce f then s.deliver f
  else if s.linked then s.orderedIn h.frameNum f
  else s.beforeLinked f

theorem frameIn_good (hg : frameGood h f = true) : s.frameIn h f = ((frameSeen s).partnerSync h).arrives h f := by
  rw [State.frameIn, hg]
  rfl

/-- From a sender that has not left SYNCED. -/
theorem frameIn_arrives (hg : headerGood s h (frameType f)) : s.frameIn h f = (frameSeen s).arrives h f := by
  rw [frameIn_good (frameGood_of_headerGood hg), partnerSync_kept (s := frameSeen s) hg.2.2]

theorem frameIn_atOnce (hg : headerGood s h (frameType f)) (ha : (frameSeen s).atOnce f = true) : s.frameIn h f = (frameSeen s).deliver f :=
  (frameIn_arrives hg).trans (if_pos ha)

theorem frameIn_ordered (hg : headerGood s h (frameType f)) (hl : s.linked = true) (ha : (frameSeen s).atOnce f = false) :
    s.frameIn h f = (frameSeen s).orderedIn h.frameNum f := by
  rw [frameIn_arrives hg, State.arrives, ha, if_neg Bool.false_ne_true]
  exact if_pos hl

theorem atOnce_of_ordered (hl : s.linked = true) (hst : ∀ g b, f ≠ .llStatus g b) (hti : ∀ g b, f ≠ .llTime g b) : s.atOnce f = false := by
  unfold State.atOnce
  split
  next g b => exact absurd rfl (hst g b)
  next g b => exact absurd rfl (hti g b)
  next => exact beq_false_of_ne (not_training_of_linked hl)
  · rfl

/-! ### The order of frames (R222) -/

theorem orderedIn_due {n : BitVec 32} (hn : n = s.pair.recvNum) : s.orderedIn n f = framesFollow (s.deliverNext n f) := if_pos hn

theorem orderedIn_early {n : BitVec 32} (hn : n ≠ s.pair.recvNum) (he : (n - s.pair.recvNum).toNat < 2 ^ 31) :
    s.orderedIn n f = { s with pair := { s.pair with waiting := s.pair.waiting.filter (fun q => q.1 != n) ++ [(n, f)] } } :=
  (if_neg hn).trans (if_pos he)

theorem orderedIn_late {n : BitVec 32} (hl : 2 ^ 31 ≤ (n - s.pair.recvNum).toNat) : s.orderedIn n f = s := by
  have hn : n ≠ s.pair.recvNum := by
    rintro rfl
    rw [BitVec.sub_self] at hl
    exact absurd hl (by decide)
  exact (if_neg hn).trans (if_neg (Nat.not_lt.2 hl))

end Sys2Proof.Machine
end

section
/-! SUPPORT. Lanes, training and the Lifeline's own frames (R220 to R224). -/
namespace Sys2Proof.Machine

variable {s : State}

/-! ### Lanes and training (R223, R224) -/

/-- The registers of the lanes are not PAIR_STAT, which holds the Lifeline's state. -/
theorem PAIR_LANE_STATE_apart_LL (x : Nat) : (Fld.PAIR_LANE_STATE x).apart Fld.PAIR_STAT_LL_STATE :=
  Or.inl (by simp only [Fld.PAIR_LANE_STATE, Fld.PAIR_STAT_LL_STATE, Reg.PAIR_LANE, Reg.PAIR_STAT]; omega)

theorem laneUpField_val (x : Fin 2) : laneUpField x.val = if x = 0 then Fld.PAIR_STAT_LANE_0_UP else Fld.PAIR_STAT_LANE_1_UP := by
  fin_cases x <;> rfl

theorem signalDetect_trains {x : Nat} (hm : s.mode ≠ .hibernate) (hload : s.mode = .load → 5 ≤ s.load.step)
    (hg : s.get (Fld.GATE_CTRL_STATE 45) = 0) (hl : s.ll = .down) (hx : s.get (Fld.PAIR_LANE_STATE x) = 0) :
    s.signalDetect x = ((s.put (Fld.PAIR_LANE_STATE x) 1).setLl .training).fall Src.LIFELINE_DOWN 0 0 := by
  have hopen : ¬(s.mode = .hibernate ∨ (s.mode = .load ∧ s.load.step < 5) ∨ s.get (Fld.GATE_CTRL_STATE 45) ≠ 0) := by
    rintro (h | ⟨h, hs⟩ | h)
    · exact hm h
    · exact absurd hs (Nat.not_lt.2 (hload h))
    · exact h hg
  have hdown : (s.put (Fld.PAIR_LANE_STATE x) 1).ll = .down := (ll_of_get (s.get_put_apart _ _ (PAIR_LANE_STATE_apart_LL x) 1)).trans hl
  unfold State.signalDetect
  rw [if_neg hopen, if_pos hx]
  exact if_pos hdown

theorem laneComes_up {x : Fin 2} (hx : s.get (Fld.PAIR_LANE_STATE x) ≠ 2) : s.laneComes x =
    (s.putAll [(Fld.PAIR_LANE_STATE x, 2), (if x = 0 then Fld.PAIR_STAT_LANE_0_UP else Fld.PAIR_STAT_LANE_1_UP, 1)]).fall
      Src.PAIR_LANE_DOWN x 0 := by
  rw [State.laneComes, if_neg hx, laneUpField_val]

theorem laneGoes_down {x : Fin 2} (hx : s.get (Fld.PAIR_LANE_STATE x) ≠ 0) (los : Bool) {u : State}
    (hu : u = s.putAll [(Fld.PAIR_LANE_STATE x, 0), (if x = 0 then Fld.PAIR_STAT_LANE_0_UP else Fld.PAIR_STAT_LANE_1_UP, 0),
      (Fld.PAIR_EVENT_LANE_DOWN, 1)]) :
    s.laneGoes x los = (if los then u.bump (Fld.PAIR_LANE_LOS_EVENTS x) else u).rise Src.PAIR_LANE_DOWN x 0 := by
  rw [State.laneGoes, if_neg hx, laneUpField_val, hu]

/-! ### Frames sent (R220, R221) -/

/-- A frame goes out on the lanes in at least a given state, lane 0 first. -/
theorem emitLanes_eq (least : Nat) (f : LLFrame) : s.emitLanes least f =
    if least ≤ s.get (Fld.PAIR_LANE_STATE 1)
      then (if least ≤ s.get (Fld.PAIR_LANE_STATE 0) then s.emitOn 0 f else s).emitOn 1 f
      else (if least ≤ s.get (Fld.PAIR_LANE_STATE 0) then s.emitOn 0 f else s) := by
  unfold State.emitLanes
  by_cases h0 : least ≤ s.get (Fld.PAIR_LANE_STATE 0) <;> by_cases h1 : least ≤ s.get (Fld.PAIR_LANE_STATE 1) <;>
    simp [List.range_succ, h0, h1]

/-- The header carries its own CRC-32, which does not enter it (R220). -/
theorem llHeaderOk_llHeaderOn (lane : Nat) (f : LLFrame) : llHeaderOk (s.llHeaderOn lane f) = true := beq_self_eq_true _

theorem llHeaderOn_length (lane : Nat) (f : LLFrame) : (s.llHeaderOn lane f).length ≤ 8192 := Nat.min_le_left _ _

theorem lifelineTraining : Claim.LifelineTraining := by
  intro s x
  refine ⟨fun hm hload hg hl hx => ?_, fun hn => ?_, rfl, fun hl hx => ?_, fun hx => ?_, fun hl => ?_, fun hl => ?_, fun hl => ?_, fun hl => ?_,
    fun f least => ⟨fun h0 h1 => ?_, fun h0 h1 => ?_, fun h0 h1 => ?_, fun h0 h1 => ?_⟩, fun f => ?_, fun hl => ?_⟩
  · exact congrArg Host.Outcome.next (signalDetect_trains hm hload hg hl hx)
  · exact congrArg Host.Outcome.next (if_pos hn)
  · exact (if_neg hl).trans (congrArg Host.Outcome.next (laneComes_up hx))
  · exact ⟨s.draw.1.getLsbD 0, _, rfl, congrArg Host.Outcome.next (laneGoes_down (s := s.draw.2) hx _ rfl)⟩
  · exact if_neg hl
  · exact if_pos hl
  · exact if_pos hl
  · exact if_pos hl
  · rw [emitLanes_eq, if_neg (Nat.not_le.2 h1), if_pos h0]
  · rw [emitLanes_eq, if_pos h1, if_neg (Nat.not_le.2 h0)]
  · rw [emitLanes_eq, if_pos h1, if_pos h0]
  · rw [emitLanes_eq, if_neg (Nat.not_le.2 h1), if_neg (Nat.not_le.2 h0)]
  · exact ⟨s.llHeaderOn x f, rfl, llHeaderOk_llHeaderOn x f, rfl, rfl, rfl, rfl, rfl, rfl, llHeaderOn_length x f, rfl, rfl⟩
  · have hf : ¬ s.linked = true := by rw [hl]; exact Bool.false_ne_true
    exact ⟨if_neg hf, if_neg hf⟩

end Sys2Proof.Machine
end

section
/-! SUPPORT. The reception of every kind of Lifeline frame, gaps, and frames that LL_DELAY held (R222, R223, R457). -/
namespace Sys2Proof.Machine

variable {s : State} {h : LLHeader} {f : Instr}

/-! ### A partner that has left SYNCED (R223) -/

theorem get_olcAbort_PAIR_STAT {g : RegField} (hg : g.addr = Reg.PAIR_STAT) (s : State) (reason : Nat) : (s.olcAbort reason).get g = s.get g := by
  have hu : g.unreported := by
    unfold RegField.unreported
    rw [hg]
    decide
  have hb : ∀ b ≤ 1, Reg.SVY_BANK b ≠ Reg.PAIR_STAT ∧ Reg.SVY_BANK_GEN b ≠ Reg.PAIR_STAT := by decide
  unfold State.olcAbort
  extract_lets st other b gen s1 s2 s3 s4
  obtain ⟨hst, hgen⟩ := hb b (Nat.sub_le _ _)
  clear_value b
  have h1 : s1.get g = s.get g := s.get_put_apart _ g (Or.inl (hg ▸ show Reg.GAL_AREA ≠ Reg.PAIR_STAT by decide)) 0
  have h2 : s2.get g = s1.get g := by
    refine s1.get_putAll_apart _ g fun p hp => Or.inl (hg ▸ ?_)
    revert p
    simp only [List.forall_mem_cons]
    exact ⟨hst, hgen, by decide⟩
  clear_value s2
  have h3 : s3.get g = s2.get g := State.get_congr (s := s2) (t := s3) rfl g
  clear_value s3
  have h4 : s4.get g = s3.get g :=
    (get_sumpOccur _ hu _ _ _ _).trans (State.get_ite (s3.get_put_apart _ g (Or.inl (hg ▸ show Reg.OLC_COUNT ≠ Reg.PAIR_STAT by decide)) _))
  exact State.get_ite ((get_record s4 hu _ _ _).trans (h4.trans (h3.trans (h2.trans h1))))

/-- The Lifeline leaves SYNCED for LINKED (R223). -/
theorem leaveSynced_ll (hl : s.ll = .synced) : s.leaveSynced.ll = .linked := by
  unfold State.leaveSynced
  rw [if_pos hl]
  extract_lets s1 pair
  have h1 : s1.ll = (s.olcUnanswered.setLl .linked).ll :=
    ll_of_get (State.get_putAll_apart _ _ Fld.PAIR_STAT_LL_STATE (by simp only [List.forall_mem_cons, RegField.apart]; decide))
  clear_value s1
  exact (ll_of_get ((get_olcAbort_PAIR_STAT rfl _ 9).trans (State.get_congr rfl _))).trans (h1.trans (ll_setLl_linked _))

theorem linked_of_ll (hl : s.ll = .linked) : s.linked = true := by simp [State.linked, hl]

/-- LEAD leaves SYNCED with a partner whose frames no longer show it. -/
theorem partnerSync_leaves (hl : s.ll = .synced) (hr : s.role ≠ .shadow) (hs : h.sync = false) (ht : s.pair.syncAt ≤ h.txTime) :
    s.partnerSync h = s.leaveSynced :=
  (if_pos ⟨hl, hs, ht⟩).trans (if_neg hr)

theorem frameIn_status_left {b : StatusBody} (hl : s.ll = .synced) (hr : s.role ≠ .shadow) (hok : llHeaderOk h = true) (hty : h.type = 2)
    (hs : h.sync = false) (ht : s.pair.syncAt ≤ h.txTime) :
    s.frameIn h (.llStatus h b) = (frameSeen s).leaveSynced.partnerSeen b.mode b.role b.surveyOk := by
  have hgood : frameGood h (.llStatus h b) = true := by
    rw [frameGood, hok, hty]
    rfl
  rw [frameIn_good hgood, partnerSync_leaves (s := frameSeen s) hl hr hs ht]
  exact if_pos (linked_of_ll (leaveSynced_ll (s := frameSeen s) hl))

/-! ### Gaps (R222) -/

theorem frameGap_none (hw : s.pair.waiting = []) : s.frameGap = s := by simp [State.frameGap, State.firstWaiting, hw]

theorem joinFail_of_not_joining (hr : s.role ≠ .joining) : s.joinFail = s := if_neg hr

/-- With one frame waiting outside SYNCED and no join, the FRAME_NUMs before it are counted and given up. -/
theorem frameGap_one {n : BitVec 32} (hw : s.pair.waiting = [(n, f)]) (hl : s.ll ≠ .synced) (hr : s.role ≠ .joining) :
    s.frameGap = State.deliverWaiting 1
      { s.put Fld.PAIR_GAPS_GAPS (min 65535 (s.get Fld.PAIR_GAPS_GAPS + missingFrames s.pair.recvNum n)) with
        pair := { s.pair with recvNum := n } } := by
  have hfirst : s.firstWaiting = some n := by simp [State.firstWaiting, hw]
  unfold State.frameGap
  rw [hfirst]
  dsimp only
  generalize min 65535 (s.get Fld.PAIR_GAPS_GAPS + missingFrames s.pair.recvNum n) = k
  have hpl : (s.put Fld.PAIR_GAPS_GAPS k).ll = s.ll := ll_of_get (s.get_put_apart _ _ (Or.inl (by decide)) k)
  have hpr : (s.put Fld.PAIR_GAPS_GAPS k).role = s.role := role_of_get (s.get_put_apart _ _ (Or.inl (by decide)) k)
  rw [if_neg (hpl ▸ hl), joinFail_of_not_joining (hpr ▸ hr), State.put_pair, hw]
  rfl

theorem missingFrames_of_lt {due n : BitVec 32} (hn : due.toNat < n.toNat) : missingFrames due n = n.toNat - due.toNat := by
  rw [missingFrames, if_neg (Nat.lt_asymm hn), Nat.sub_zero, BitVec.toNat_sub_of_le (Nat.le_of_lt hn)]

/-! ### Frames held (R457) -/

theorem tpHeldFrameDeliver_none (hh : s.tp.held = []) : exec .tpHeldFrameDeliver s = .next s := by
  show execTpHeldFrameDeliver s = _
  rw [execTpHeldFrameDeliver, hh]
  rfl

theorem tpHeldFrameDeliver_first {l : List Instr} (hh : s.tp.held = f :: l) (hl : s.ll ≠ .down) :
    exec .tpHeldFrameDeliver s = .next (State.frameIn { s with tp := { s.tp with held := l } } (frameHeader f) f) := by
  show execTpHeldFrameDeliver s = _
  rw [execTpHeldFrameDeliver, hh]
  exact if_neg (show ¬({ s with tp := { s.tp with held := l } } : State).ll = .down from hl)

theorem lifelineReception : Claim.LifelineReception := by
  intro s h f src b1 b2 b3 b4 b5 b6 b7 b8 b9 b10 hf
  obtain ⟨hh, hx⟩ : bringsFrame h f := by
    simp only [List.mem_cons, List.not_mem_nil, or_false] at hf
    rcases hf with rfl | rfl | rfl | rfl | rfl | rfl | rfl | rfl | rfl | rfl | rfl | rfl <;> exact ⟨rfl, fun _ => rfl⟩
  obtain ⟨htime, hstatus⟩ : (f ≠ .llTime h b10 → ∀ g b, f ≠ .llTime g b) ∧ (f ≠ .llStatus h b9 → ∀ g b, f ≠ .llStatus g b) := by
    constructor <;>
    · rintro hne g b rfl
      simp only [List.mem_cons, List.not_mem_nil, or_false, reduceCtorEq, false_or] at hf
      exact hne hf
  have henters : s.ll ≠ .down → s.get (Fld.GATE_CTRL_STATE 45) = 0 → s.tpActive 0 = false → exec f s = .next (s.frameIn h f) := by
    intro hl hg ht
    rw [hx, llRx_enters hl hg (delayed_of_inactive ht f), hh]
  have hordered : s.linked = true → s.get (Fld.GATE_CTRL_STATE 45) = 0 → s.tpActive 0 = false → headerGood s h (frameType f) →
      f ≠ .llStatus h b9 → f ≠ .llTime h b10 → exec f s = .next ((frameSeen s).orderedIn h.frameNum f) := by
    intro hl hg ht hgood hst hti
    rw [henters (up_of_linked hl) hg ht, frameIn_ordered hgood hl (atOnce_of_ordered hl (hstatus hst) (htime hti))]
  refine ⟨fun hs => ?_, fun hl hg ht hne => ?_, fun hl hg ht hb => ?_, fun hl hg ht hgood hst hti => ⟨fun hn he => ?_, fun hlate => ?_⟩,
    fun hl hr hg ht hok hty hs hat => ?_, fun hw => ?_, fun n hw hl hr => ?_, fun due n hn => missingFrames_of_lt hn,
    tpHeldFrameDeliver_none, fun l hheld hl => hh ▸ tpHeldFrameDeliver_first hheld hl⟩
  · rw [hx, llRx_shut hs]
  · rw [hx, llRx_held hl hg ((delayed_of_not_time (htime hne)).trans ht)]
  · rw [henters hl hg ht, frameIn_bad hb]
  · rw [hordered hl hg ht hgood hst hti, orderedIn_early (s := frameSeen s) hn he]
    rfl
  · rw [hordered hl hg ht hgood hst hti, orderedIn_late (s := frameSeen s) hlate]
  · have hup : s.ll ≠ .down := by rw [hl]; decide
    exact congrArg Host.Outcome.next
      ((llRx_enters hup hg (delayed_of_inactive ht (.llStatus h b9))).trans (frameIn_status_left hl hr hok hty hs hat))
  · exact congrArg Host.Outcome.next (frameGap_none hw)
  · exact congrArg Host.Outcome.next (frameGap_one hw hl hr)

end Sys2Proof.Machine
end

section
/-! The obligation about the Lifeline's frames. -/
open Sys2Proof Sys2Proof.Machine

/-- Settles O49: training and the own frames by what each lane does, reception by the four ways in which a frame arrives. -/
theorem lifelineFrames : Obligations.LifelineFrames := ⟨lifelineTraining, lifelineReception⟩

end

section
/-! SUPPORT. Losing the partner (R223, R224, R226, R228, R231 to R233): each frame and each deadline by what it brings the module to. -/
namespace Sys2Proof.Machine

variable {s : State} {h : LLHeader}

theorem exec_departure_due (hd : frameDue s h 0x0B) : exec (.departure h) s = .next (framesFollow ((frameTaken s h).llDown false)) :=
  congrArg Host.Outcome.next (llRx_due (f := .departure h) (fun _ => ⟨rfl, rfl⟩) hd)

theorem exec_relinquish_due (src : Nat) (hd : frameDue s h 0x0C) :
    exec (.relinquish ⟨h, src⟩) s = .next (framesFollow (frameTaken s h).relinquishIn) :=
  congrArg Host.Outcome.next (llRx_due (f := .relinquish ⟨h, src⟩) (fun _ => ⟨rfl, rfl⟩) hd)

/-- In training a DEPARTURE acts as it arrives (R223). -/
theorem llRx_departure_training (ht : s.ll = .training) (hg : s.get (Fld.GATE_CTRL_STATE 45) = 0) (htp : s.tpActive 0 = false)
    (hgood : headerGood s h 0x0B) : s.llRx (.departure h) = (frameSeen s).llDown false := by
  have hup : s.ll ≠ .down := by rw [ht]; decide
  have hlinked : ¬(frameSeen s).linked = true := fun e => not_training_of_linked e ht
  rw [llRx_enters hup hg (delayed_of_inactive htp _), frameIn_arrives hgood]
  exact if_neg hlinked

/-- Whatever the partner told is forgotten; Lifeline, role, mode and signal table stay. -/
theorem forgetPartner_forgets (u : State) : u.forgetPartner.pair.waiting = [] ∧ u.forgetPartner.pair.partnerHello = none ∧
    u.forgetPartner.pair.partnerMode = .load ∧ u.forgetPartner.pair.joinOut = false ∧ u.forgetPartner.get Fld.PAIR_STAT_PARTNER_RUNNING = 0 ∧
    u.forgetPartner.ll = u.ll ∧ u.forgetPartner.role = u.role ∧ u.forgetPartner.mode = u.mode ∧ u.forgetPartner.sig = u.sig := by
  unfold State.forgetPartner
  extract_lets p core load v
  have hll : v.ll = u.ll := rfl
  have hrole : v.role = u.role := rfl
  refine ⟨rfl, rfl, rfl, rfl, v.get_put_same Fld.PAIR_STAT_PARTNER_RUNNING (show 9 + 1 ≤ 32 by decide) 0, ?_, ?_, rfl, rfl⟩
  · exact (ll_of_get (v.get_put_apart Fld.PAIR_STAT_PARTNER_RUNNING Fld.PAIR_STAT_LL_STATE (Or.inr (Or.inr (by decide))) 0)).trans hll
  · exact (role_of_get (v.get_put_apart Fld.PAIR_STAT_PARTNER_RUNNING Fld.PAIR_STAT_ROLE (Or.inr (Or.inr (by decide))) 0)).trans hrole

/-! ### Roles (R5, R226) -/

/-- A saturating counter leaves every other field alone. -/
theorem State.get_bump_apart (s : State) (f g : RegField) (h : f.apart g) : (s.bump f).get g = s.get g := State.get_ite (s.get_put_apart f g h _)

/-- A new role touches no field of PAIR_STAT but ROLE. -/
theorem get_setRole_PAIR_STAT {g : RegField} (hg : g.addr = Reg.PAIR_STAT) (s : State) (r : Role) :
    (s.setRole r).get g = (s.put Fld.PAIR_STAT_ROLE (roleCode r)).get g := by
  have htime : ∀ l : List (RegField × Nat), (∀ p ∈ l, p.1.addr ≠ Reg.PAIR_STAT) → ∀ u : State, (u.putAll l).get g = u.get g := fun l hl u =>
    u.get_putAll_apart l g fun p hp => Or.inl (hg ▸ hl p hp)
  unfold State.setRole
  dsimp only
  split
  · exact htime _ (by decide) _
  · exact State.get_ite (htime _ (by decide) _)

@[simp] theorem State.setRole_role (s : State) (r : Role) : (s.setRole r).role = r := by
  have hget : (s.setRole r).get Fld.PAIR_STAT_ROLE = roleCode r % 2 ^ 2 :=
    (get_setRole_PAIR_STAT rfl s r).trans (s.get_put_same Fld.PAIR_STAT_ROLE (show 0 + 2 ≤ 32 by decide) _)
  rw [State.role, hget]
  cases r <;> rfl

@[simp] theorem State.setRole_ll (s : State) (r : Role) : (s.setRole r).ll = s.ll :=
  ll_of_get ((get_setRole_PAIR_STAT rfl s r).trans (s.get_put_apart _ _ (Or.inr (Or.inl (by decide))) _))

/-- The module is alone, without a handover; mode and Lifeline stay. -/
theorem becomeSolo_solo (u : State) :
    u.becomeSolo.role = .solo ∧ u.becomeSolo.pair.handover = none ∧ u.becomeSolo.mode = u.mode ∧ u.becomeSolo.ll = u.ll := by
  refine ⟨?_, rfl, (undisturbed_becomeSolo u).mode, ?_⟩
  · unfold State.becomeSolo
    extract_lets s1 s2
    have h2 : s2.role = .solo :=
      (role_of_get (State.get_putAll_apart _ _ _ (by simp only [List.forall_mem_cons, RegField.apart]; decide))).trans (s1.setRole_role .solo)
    exact h2
  · unfold State.becomeSolo
    extract_lets s1 s2
    have h1 : s1.ll = u.ll := ll_of_get (State.get_ite (u.get_bump_apart _ _ (Or.inl (by decide))))
    have h2 : s2.ll = s1.ll :=
      (ll_of_get (State.get_putAll_apart _ _ _ (by simp only [List.forall_mem_cons, RegField.apart]; decide))).trans (s1.setRole_ll .solo)
    exact h2.trans h1

/-! ### RELINQUISH (R226, R233) -/

theorem relinquishIn_alone (hn : s.pair.relinquishedAt = none) (hp : s.inPair = true) :
    s.relinquishIn = s.leaveSynced.becomeSolo.settleAll := by
  rw [State.relinquishIn, hn]
  exact if_pos hp

theorem relinquishIn_unpaired (hn : s.pair.relinquishedAt = none) (hp : s.inPair = false) : s.relinquishIn = s := by
  rw [State.relinquishIn, hn]
  exact if_neg (hp ▸ Bool.false_ne_true)

/-- Both relinquished within a cycle (R233). -/
theorem relinquishIn_both {n : Nat} (hn : s.pair.relinquishedAt = some n) (ht : s.nowNs - n ≤ s.periodNs (s.get Fld.SEQ_STAT_FASTEST)) :
    s.relinquishIn = if s.slot = 0 then s.withdraw else s := by
  rw [State.relinquishIn, hn]
  exact if_pos ht

end Sys2Proof.Machine
end

section
/-! The obligation about losing the partner. -/
open Sys2Proof Sys2Proof.Machine

/-- Settles O53: each loss, frame and deadline by the case of the module that it meets, which taking a frame does not touch. -/
theorem losingThePartner : Obligations.LosingThePartner := by
  intro s
  refine ⟨fun hl => ⟨if_pos hl, if_pos hl⟩, fun hl => ⟨if_neg hl, if_neg hl⟩, fun h ht hg htp hgood => ?_, fun h hd => exec_departure_due hd,
    fun u => ⟨_, rfl, forgetPartner_forgets u⟩, fun h src hd hn hp => ?_, fun h src hd hn hp => ?_, fun h src n hd hn ht => ?_,
    becomeSolo_solo, fun t ha hr ht => ?_, fun t ha => ?_, fun hs hl => ?_, fun hn => ?_⟩
  · exact congrArg Host.Outcome.next (llRx_departure_training ht hg htp hgood)
  · rw [exec_relinquish_due src hd, relinquishIn_alone (s := frameTaken s h) hn hp]
  · rw [exec_relinquish_due src hd, relinquishIn_unpaired (s := frameTaken s h) hn hp]
  · rw [exec_relinquish_due src hd, relinquishIn_both (s := frameTaken s h) hn ht]
    rfl
  · exact if_pos (by rw [ha, hr, decide_eq_true ht]; rfl)
  · exact if_neg (by rw [ha]; exact Bool.false_ne_true)
  · exact if_pos ⟨hs, hl⟩
  · refine if_neg fun ⟨hs, hl⟩ => ?_
    rcases hn with hn | hn
    · exact Bool.false_ne_true (hn.symm.trans hs)
    · exact hl hn

end

section
/-! SUPPORT. COMMAND and ACK in their turn (R27, R169, R221, R244, R259, R353): what each command does in the role that accepts it. -/
namespace Sys2Proof.Machine

variable {s : State} {h : LLHeader}

theorem exec_command_due {c : RelayCommand} {t : State} (hd : frameDue s h 7) (ht : (frameTaken s h).commandIn c = t) :
    exec (.command h c) s = .next (framesFollow t) :=
  ht ▸ congrArg Host.Outcome.next (llRx_due (f := .command h c) (fun _ => ⟨rfl, rfl⟩) hd)

theorem exec_ack_due {b : AckBody} {t : State} (hd : frameDue s h 8) (ht : (frameTaken s h).ackIn b = t) :
    exec (.ack h b) s = .next (framesFollow t) :=
  ht ▸ congrArg Host.Outcome.next (llRx_due (f := .ack h b) (fun _ => ⟨rfl, rfl⟩) hd)

theorem cmdHandover_accepted (x : BitVec 32) (hl : s.ll = .synced) (hn : s.pair.handover = none) :
    s.cmdHandover x = (s.fixHandover (s.fastCount + 4)).answer (.handover x) true (s.fastCount + 4) := if_pos ⟨hl, hn⟩

theorem cmdHandover_refused (x : BitVec 32) (hn : s.pair.handover ≠ none) : s.cmdHandover x = s.answer (.handover x) false 0 :=
  if_neg fun hc => hn hc.2

theorem cmdMode_fixed (m : Mode) (x : BitVec 32) (hr : s.role = .shadow) (hl : s.ll = .synced) :
    s.cmdMode m (some x) = (s.requestMode m 4 (some x)).answer (.mode m (some x)) true x := if_pos ⟨hr, hl⟩

theorem cmdHoldTask_fixed (t : Nat) (x : BitVec 32) (hr : s.role = .shadow) (hl : s.ll = .synced) : s.cmdHoldTask t (some x) =
    (s.setTask t { s.task t with holdEffective := some x }).answer (.holdTask t (some x)) true x := if_pos ⟨hr, hl⟩

theorem cmdConfig_fixed (n : Nat) (an : Bool) (v x : BitVec 32) (hr : s.role = .shadow) (hl : s.ll = .synced) :
    s.cmdConfig n an v (some x) = (s.cfgSchedule n an v x).answer (.chConfig n an v (some x)) true x := if_pos ⟨hr, hl⟩

/-- An accepted handover takes the E of its answer. -/
theorem ackIn_handover (x e : BitVec 32) (hl : s.ll = .synced) : s.ackIn ⟨.handover x, true, e⟩ = s.fixHandover e := if_pos hl

theorem commandsAndAnswers : Claim.CommandsAndAnswers := by
  intro s h
  refine ⟨fun x hd hl hn => exec_command_due hd (cmdHandover_accepted (s := frameTaken s h) x hl hn),
    fun x hd _ hn => exec_command_due hd (cmdHandover_refused (s := frameTaken s h) x hn),
    fun m x hd hr hl => exec_command_due hd (cmdMode_fixed (s := frameTaken s h) m x hr hl), fun t x hd hr hl => exec_command_due hd ?_,
    fun n an v x hd hr hl => exec_command_due hd ?_, fun at0 o hd => exec_command_due hd rfl,
    fun u c ok e => ⟨u.llHeader (.ack ⟨c, ok, e⟩), rfl, rfl⟩, fun x e hd hl => exec_ack_due hd (ackIn_handover (s := frameTaken s h) x e hl),
    fun n an v x e hd => exec_ack_due hd rfl, fun m x e hd => exec_ack_due hd rfl⟩
  · rw [State.commandIn, Nat.mod_eq_of_lt t.isLt]
    exact cmdHoldTask_fixed (s := frameTaken s h) t x hr hl
  · rw [State.commandIn, Nat.mod_eq_of_lt n.isLt]
    exact cmdConfig_fixed (s := frameTaken s h) n an v x hr hl

end Sys2Proof.Machine
end

section
/-! SUPPORT. HELLO, STATUS and TIME (R221, R223, R225): the Lifeline becomes LINKED, the partner is seen, and an offset is found. -/
namespace Sys2Proof.Machine

variable {s : State} {h : LLHeader}

/-! ### HELLO (R223) -/

/-- In training a HELLO acts as it arrives. -/
theorem llRx_hello_training {b : HelloBody} (ht : s.ll = .training) (hg : s.get (Fld.GATE_CTRL_STATE 45) = 0) (htp : s.tpActive 0 = false)
    (hgood : headerGood s h 1) : s.llRx (.hello h b) = (frameSeen s).helloIn h b := by
  have hup : s.ll ≠ .down := by rw [ht]; decide
  rw [llRx_enters hup hg (delayed_of_inactive htp _)]
  exact frameIn_atOnce hgood (show ((frameSeen s).ll == .training) = true from beq_iff_eq.2 ht)

theorem helloIn_version {b : HelloBody} (ht : s.ll = .training) (hv : h.protoMajor ≠ s.get Fld.PAIR_VERSION_PROTO_MAJOR) :
    s.helloIn h b = (s.putBit Fld.PAIR_EVENT_VERSION true).raise Src.PAIR_VERSION 0 0 :=
  (if_pos ht).trans (if_pos hv)

theorem helloIn_conflict {b : HelloBody} (ht : s.ll = .training) (hv : h.protoMajor = s.get Fld.PAIR_VERSION_PROTO_MAJOR)
    (hb : b.slotB = (s.slot == 1)) : s.helloIn h b = (s.putBit Fld.PAIR_EVENT_SLOT_CONFLICT true).raise Src.PAIR_SLOT_CONFLICT 0 0 :=
  (if_pos ht).trans ((if_neg (not_not.2 hv)).trans (if_pos hb))

theorem helloIn_links {b : HelloBody} (ht : s.ll = .training) (hv : h.protoMajor = s.get Fld.PAIR_VERSION_PROTO_MAJOR)
    (hb : b.slotB ≠ (s.slot == 1)) : s.helloIn h b = (s.becomeLinked h b).helloTells h b :=
  (if_pos ht).trans ((if_neg (not_not.2 hv)).trans (if_neg hb))

theorem helloIn_linked {b : HelloBody} (hl : s.linked = true) : s.helloIn h b = s.helloTells h b :=
  (if_neg (not_training_of_linked hl)).trans (if_pos hl)

/-- Once LINKED a HELLO takes its turn (R222). -/
theorem exec_hello_due {b : HelloBody} (hd : frameDue s h 1) :
    exec (.hello h b) s = .next (framesFollow ((frameTaken s h).helloTells h b)) := by
  obtain ⟨hl, hg, htp, hgood, hn⟩ := hd
  have hwait : (frameSeen s).atOnce (.hello h b) = false := beq_false_of_ne (not_training_of_linked hl)
  have hrx : s.llRx (.hello h b) = framesFollow ((frameTaken s h).helloTells h b) := by
    rw [llRx_enters (up_of_linked hl) hg (delayed_of_inactive htp _), frameHeader, frameIn_ordered hgood hl hwait,
      orderedIn_due (s := frameSeen s) hn]
    exact congrArg framesFollow (helloIn_linked (s := frameTaken s h) hl)
  exact congrArg Host.Outcome.next hrx

/-! ### The Lifeline becomes LINKED (R223) -/

theorem get_fall_unreported {g : RegField} (hg : g.unreported) {src : Nat} (hs : src < 256) (s : State) (inst sub : Nat) :
    (s.fall src inst sub).get g = s.get g := by
  unfold State.fall State.sumpFall
  extract_lets key held x u
  exact (get_putBit_unreported u hg (Or.inl (sump_registers_reported hs).1) _).trans (State.get_congr (s := s) (t := u) rfl g)

theorem reported_laneComes (s : State) (x : Nat) : reported s (s.laneComes x) := by
  unfold State.laneComes
  split
  · exact reported_refl s
  · exact reported_trans (reported_putAll s _) (reported_fall _ _ _ _)

/-- A lane that comes up leaves role and Lifeline state as they are. -/
theorem get_laneComes_low {g : RegField} (hg : g = Fld.PAIR_STAT_ROLE ∨ g = Fld.PAIR_STAT_LL_STATE) (s : State) (x : Nat) :
    (s.laneComes x).get g = s.get g := by
  have hu : g.unreported := by
    rcases hg with rfl | rfl
    · exact role_unreported
    · exact ll_unreported
  have hlane : (Fld.PAIR_LANE_STATE x).apart g := by
    refine Or.inl ?_
    rcases hg with rfl | rfl <;> simp only [Fld.PAIR_LANE_STATE, Fld.PAIR_STAT_ROLE, Fld.PAIR_STAT_LL_STATE, Reg.PAIR_LANE, Reg.PAIR_STAT] <;> omega
  have hup : (laneUpField x).apart g := by
    unfold laneUpField RegField.apart
    rcases hg with rfl | rfl <;> split <;> decide
  unfold State.laneComes
  split
  · rfl
  · refine (get_fall_unreported hu (by decide) _ _ _).trans (s.get_putAll_apart _ g ?_)
    simp only [List.forall_mem_cons]
    exact ⟨hlane, hup, nofun⟩

/-- PAIR_STAT, the lane and PAIR_PARTNER once the Lifeline is LINKED. -/
def State.lanesLinked (s : State) (h : LLHeader) (b : HelloBody) : State :=
  ((s.setLl .linked).laneComes (h.lane % 2)).putAll [(Fld.PAIR_PARTNER_SLOT, b.slotB.toNat), (Fld.PAIR_PARTNER_PROTO_MINOR, h.protoMinor),
    (Fld.PAIR_PARTNER_PROTO_MAJOR, h.protoMajor)]

/-- The sequence of ordered frames begins with the HELLO. -/
def State.numbersFrom (s : State) (n : BitVec 32) : State :=
  { s with pair := { s.pair with recvNum := nextFrameNum n, waiting := [], relinquishedAt := none } }

/-- A yield watch still open ends (R235). -/
def State.watchOver (s : State) : State := if 0 < s.pair.watchLeft then s.watchEnd 0 else s

/-- Of two modules that run as SOLO, slot B yields (R236). -/
def State.dualYields (s : State) (h : LLHeader) (b : HelloBody) : State :=
  if s.slot = 1 ∧ s.role = .solo ∧ h.role = .solo ∧ (s.mode = .run ∨ s.mode = .service) ∧ (b.mode = .run ∨ b.mode = .service) then s.yieldModule
  else s

@[simp] theorem State.numbersFrom_get (s : State) (n : BitVec 32) (g : RegField) : (s.numbersFrom n).get g = s.get g := rfl
@[simp] theorem State.numbersFrom_ll (s : State) (n : BitVec 32) : (s.numbersFrom n).ll = s.ll := rfl
@[simp] theorem State.numbersFrom_role (s : State) (n : BitVec 32) : (s.numbersFrom n).role = s.role := rfl
@[simp] theorem State.numbersFrom_watchLeft (s : State) (n : BitVec 32) : (s.numbersFrom n).pair.watchLeft = s.pair.watchLeft := rfl

theorem becomeLinked_eq (s : State) (h : LLHeader) (b : HelloBody) :
    s.becomeLinked h b = (((s.lanesLinked h b).numbersFrom h.frameNum).watchOver).dualYields h b := rfl

theorem watchOver_of_none (hw : s.pair.watchLeft = 0) : s.watchOver = s := if_neg (by rw [hw]; decide)

theorem dualYields_of_paired {b : HelloBody} (hr : s.role ≠ .solo) : s.dualYields h b = s := if_neg fun hc => hr hc.2.1

theorem lanesLinked_pair (s : State) (h : LLHeader) (b : HelloBody) : (s.lanesLinked h b).pair = s.pair :=
  (State.putAll_pair _ _).trans (reported_laneComes (s.setLl .linked) _).pair

/-- PAIR_PARTNER does not hold the module's own fields. -/
theorem get_lanesLinked_low {g : RegField} (hg : g = Fld.PAIR_STAT_ROLE ∨ g = Fld.PAIR_STAT_LL_STATE) (s : State) (h : LLHeader) (b : HelloBody) :
    (s.lanesLinked h b).get g = (s.setLl .linked).get g := by
  refine (State.get_putAll_apart _ _ g ?_).trans (get_laneComes_low hg _ _)
  have ha : g.addr = Reg.PAIR_STAT := by rcases hg with rfl | rfl <;> rfl
  simp only [List.forall_mem_cons, RegField.apart, ha]
  exact ⟨Or.inl (by decide), Or.inl (by decide), Or.inl (by decide), nofun⟩

theorem lanesLinked_ll (s : State) (h : LLHeader) (b : HelloBody) : (s.lanesLinked h b).ll = .linked :=
  (ll_of_get (get_lanesLinked_low (Or.inr rfl) s h b)).trans (ll_setLl_linked s)

theorem lanesLinked_role (s : State) (h : LLHeader) (b : HelloBody) : (s.lanesLinked h b).role = s.role :=
  (role_of_get (get_lanesLinked_low (Or.inl rfl) s h b)).trans
    (role_of_get (s.get_put_apart Fld.PAIR_STAT_LL_STATE Fld.PAIR_STAT_ROLE (Or.inr (Or.inr (by decide))) _))

theorem get_lanesLinked_slot (s : State) (h : LLHeader) (b : HelloBody) : (s.lanesLinked h b).get Fld.PAIR_PARTNER_SLOT = b.slotB.toNat := by
  have hapart : [(Fld.PAIR_PARTNER_SLOT, b.slotB.toNat), (Fld.PAIR_PARTNER_PROTO_MINOR, h.protoMinor),
      (Fld.PAIR_PARTNER_PROTO_MAJOR, h.protoMajor)].Pairwise fun p q => q.1.apart p.1 := by
    simp only [List.pairwise_cons, List.forall_mem_cons, RegField.apart]
    exact ⟨⟨by decide, by decide, nofun⟩, ⟨by decide, nofun⟩, nofun, List.Pairwise.nil⟩
  refine (get_putAll_same hapart List.mem_cons_self (show 2 + 1 ≤ 32 by decide) _).trans ?_
  cases b.slotB <;> rfl

/-- A module that is not SOLO, with no yield watch open, is LINKED with the partner of the HELLO and keeps its role. -/
theorem becomeLinked_links {b : HelloBody} (hr : s.role ≠ .solo) (hw : s.pair.watchLeft = 0) : (s.becomeLinked h b).ll = .linked ∧
    (s.becomeLinked h b).pair.recvNum = nextFrameNum h.frameNum ∧ (s.becomeLinked h b).pair.waiting = [] ∧
    (s.becomeLinked h b).get Fld.PAIR_PARTNER_SLOT = b.slotB.toNat ∧ (s.becomeLinked h b).role = s.role := by
  have hwatch : ((s.lanesLinked h b).numbersFrom h.frameNum).pair.watchLeft = 0 := by rw [State.numbersFrom_watchLeft, lanesLinked_pair, hw]
  have hrole : ((s.lanesLinked h b).numbersFrom h.frameNum).role = s.role := by rw [State.numbersFrom_role, lanesLinked_role]
  rw [becomeLinked_eq, watchOver_of_none hwatch, dualYields_of_paired (hrole ▸ hr), State.numbersFrom_ll, State.numbersFrom_get]
  exact ⟨lanesLinked_ll s h b, rfl, rfl, get_lanesLinked_slot s h b, hrole⟩

end Sys2Proof.Machine
end

section
/-! SUPPORT. STATUS and TIME (R221, R225): what the partner tells, and the offset that an exchange gives. -/
namespace Sys2Proof.Machine

variable {s : State} {h : LLHeader}

/-! ### STATUS (R221) -/

theorem exec_status_linked {b : StatusBody} (hg : s.get (Fld.GATE_CTRL_STATE 45) = 0) (hl : s.linked = true) (htp : s.tpActive 0 = false)
    (hgood : headerGood s h 2) : exec (.llStatus h b) s = .next ((frameSeen s).partnerSeen b.mode b.role b.surveyOk) := by
  have hin : s.frameIn h (.llStatus h b) = (frameSeen s).statusIn b := frameIn_atOnce hgood rfl
  exact congrArg Host.Outcome.next
    ((llRx_enters (up_of_linked hl) hg (delayed_of_inactive htp _)).trans (hin.trans (if_pos (show (frameSeen s).linked = true from hl))))

/-- What the partner's mode and survey leave in the pair's state. -/
def State.partnerNoted (s : State) (m : Mode) (surveyOk : Bool) : State :=
  { s with pair := { s.pair with partnerMode := m, partnerSurveyOk := surveyOk, bothLoad := s.pair.bothLoad || (s.mode == .load && m == .load) } }

/-- The fields in which the partner shows. -/
def State.partnerFields (s : State) (m : Mode) (r : Role) : List (RegField × Nat) :=
  [(Fld.PAIR_PARTNER_MODE, modeCode m), (Fld.PAIR_PARTNER_ROLE, roleCode r), (Fld.PAIR_STAT_PARTNER_RUNNING, s.partnerRuns.toNat)]

/-- Of what the partner tells, the pair's state and the fields that show it; nothing follows from it. -/
def State.partnerShown (s : State) (m : Mode) (r : Role) (surveyOk : Bool) : State :=
  (s.partnerNoted m surveyOk).putAll ((s.partnerNoted m surveyOk).partnerFields m r)

/-- A start that waits for the partner's (R239). -/
def State.startFollows (s : State) (m : Mode) : State :=
  if s.mode = .hold ∧ s.core.startPending = true ∧ s.slot = 1 ∧ m = .run then s.softReset else s

theorem partnerSeen_eq (s : State) (m : Mode) (r : Role) (surveyOk : Bool) : s.partnerSeen m r surveyOk =
    ((if (s.partnerShown m r surveyOk).partnerRuns then s.partnerShown m r surveyOk else (s.partnerShown m r surveyOk).joinFail).serveJoin
      r).startFollows m := rfl

theorem serveJoin_of_none {r : Role} (hr : r ≠ .joining) (hj : s.pair.joinOut = false) : s.serveJoin r = s :=
  (if_neg fun hc => hr hc.1).trans (if_neg fun hc => Bool.false_ne_true (hj.symm.trans hc.1))

theorem startFollows_of_none {m : Mode} (hp : s.core.startPending = false) : s.startFollows m = s :=
  if_neg fun hc => Bool.false_ne_true (hp.symm.trans hc.2.1)

theorem State.partnerFields_addr (s : State) (m : Mode) (r : Role) : ∀ p ∈ s.partnerFields m r, p.1.addr ∈ [Reg.PAIR_PARTNER, Reg.PAIR_STAT] := by
  simp only [State.partnerFields, List.forall_mem_cons]
  exact ⟨by decide, by decide, by decide, nofun⟩

theorem State.partnerFields_apart (s : State) (m : Mode) (r : Role) : (s.partnerFields m r).Pairwise fun p q => q.1.apart p.1 := by
  simp only [State.partnerFields, List.pairwise_cons, List.forall_mem_cons, RegField.apart]
  exact ⟨⟨by decide, by decide, nofun⟩, ⟨by decide, nofun⟩, nofun, List.Pairwise.nil⟩

theorem partnerShown_pair (s : State) (m : Mode) (r : Role) (surveyOk : Bool) : (s.partnerShown m r surveyOk).pair = (s.partnerNoted m surveyOk).pair :=
  State.putAll_pair _ _

theorem partnerShown_core (s : State) (m : Mode) (r : Role) (surveyOk : Bool) : (s.partnerShown m r surveyOk).core = s.core :=
  State.putAll_core _ _

theorem partnerShown_role (s : State) (m : Mode) (r : Role) (surveyOk : Bool) : (s.partnerShown m r surveyOk).role = s.role := by
  refine role_of_get ((State.get_putAll_apart _ _ Fld.PAIR_STAT_ROLE ?_).trans (State.get_congr (s := s) (t := s.partnerNoted m surveyOk) rfl _))
  simp only [State.partnerFields, List.forall_mem_cons, RegField.apart]
  exact ⟨Or.inl (by decide), Or.inl (by decide), Or.inr (Or.inr (by decide)), nofun⟩

/-- Where neither side joins and no start waits, nothing follows from what the partner tells. -/
theorem partnerSeen_quiet {m : Mode} {r : Role} {surveyOk : Bool} (hs : s.role ≠ .joining) (hr : r ≠ .joining) (hj : s.pair.joinOut = false)
    (hp : s.core.startPending = false) : s.partnerSeen m r surveyOk = s.partnerShown m r surveyOk := by
  have hfail : (s.partnerShown m r surveyOk).joinFail = s.partnerShown m r surveyOk :=
    joinFail_of_not_joining (by rw [partnerShown_role]; exact hs)
  have hserve : (s.partnerShown m r surveyOk).serveJoin r = s.partnerShown m r surveyOk :=
    serveJoin_of_none hr (by rw [partnerShown_pair]; exact hj)
  rw [partnerSeen_eq, hfail, ite_self, hserve, startFollows_of_none (by rw [partnerShown_core]; exact hp)]

theorem partnerShown_shows (s : State) (m : Mode) (r : Role) (surveyOk : Bool) :
    regsOnly { s with pair := (s.partnerShown m r surveyOk).pair } (s.partnerShown m r surveyOk) [Reg.PAIR_PARTNER, Reg.PAIR_STAT] ∧
    (s.partnerShown m r surveyOk).get Fld.PAIR_PARTNER_MODE = modeCode m ∧ (s.partnerShown m r surveyOk).get Fld.PAIR_PARTNER_ROLE = roleCode r := by
  have hget := fun p hp hf => get_putAll_same ((s.partnerNoted m surveyOk).partnerFields_apart m r) (p := p) hp hf (s.partnerNoted m surveyOk)
  refine ⟨?_, ?_, ?_⟩
  · rw [partnerShown_pair]
    exact regsOnly_putAll (s.partnerNoted m surveyOk) ((s.partnerNoted m surveyOk).partnerFields_addr m r)
  · refine (hget (Fld.PAIR_PARTNER_MODE, modeCode m) List.mem_cons_self (show 3 + 3 ≤ 32 by decide)).trans ?_
    cases m <;> rfl
  · refine (hget (Fld.PAIR_PARTNER_ROLE, roleCode r) (List.mem_cons_of_mem _ List.mem_cons_self) (show 0 + 2 ≤ 32 by decide)).trans ?_
    cases r <;> rfl

/-! ### TIME (R225) -/

theorem exec_time (b : TimeBody) (hg : s.get (Fld.GATE_CTRL_STATE 45) = 0) (hup : s.ll ≠ .down) (hgood : headerGood s h 9) :
    exec (.llTime h b) s = .next ((frameSeen s).timeIn h b) :=
  congrArg Host.Outcome.next ((llRx_enters hup hg rfl).trans (frameIn_atOnce hgood rfl))

/-- The receipt of a TIME frame is noted for the own next one. -/
def State.timeNoted (s : State) (h : LLHeader) : State := { s with pair := { s.pair with timeRx := some (h.txTime, s.nowNs) } }

theorem timeIn_unlinked (b : TimeBody) (hl : s.linked = false) : s.timeIn h b = s := if_neg (hl ▸ Bool.false_ne_true)

/-- A frame that does not answer the own last one completes no exchange. -/
theorem timeIn_unanswered {b : TimeBody} (hl : s.linked = true)
    (he : b.echo = none ∨ ∃ t1 t2, b.echo = some (t1, t2) ∧ s.pair.timeSent ≠ some t1) : s.timeIn h b = s.timeNoted h := by
  rw [State.timeIn, if_pos hl]
  rcases he with he | ⟨t1, t2, he, hne⟩ <;> rw [he]
  · rfl
  · exact if_neg hne

theorem timeIn_answered {b : TimeBody} {t1 t2 : Nat} (hl : s.linked = true) (he : b.echo = some (t1, t2)) (hs : s.pair.timeSent = some t1) :
    s.timeIn h b = (s.timeNoted h).timeFound (timeOffset t1 t2 h.txTime s.nowNs) := by
  rw [State.timeIn, if_pos hl, he]
  exact if_pos hs

/-- An exchange with the same path delay both ways gives the offset, whatever the delay. -/
theorem timeOffset_of_delay (t1 t3 d o : Int) : timeOffset t1 (t1 + d - o) t3 (t3 + o + d) = o := by
  unfold timeOffset
  omega

/-! ### An offset is found (R225) -/

/-- SHADOW shows the offset, slews by minus it, and has seen `n` bad ones in a row. -/
def State.slews (s : State) (o : Int) (n : Nat) : State :=
  { s.put Fld.PAIR_TIME_OFS_NS (BitVec.ofInt 32 o).toNat with
    time := { s.time with slewRem := -o * 4294967296 }
    pair := { s.pair with badOffsets := n } }

theorem timeFound_shadow (o : Int) (hr : s.role = .shadow) (hl : s.ll = .synced) {n : Nat}
    (hn : (if 100 < o.natAbs then s.pair.badOffsets + 1 else 0) = n) :
    s.timeFound o = if n = 3 then (s.slews o n).pairBreak 4 else s.slews o n := by
  subst hn
  rw [State.timeFound, if_neg (by rw [hr]; decide), if_pos ⟨hr, hl⟩]
  rfl

/-- A register that one field fills. -/
theorem State.getReg_put_whole (s : State) {f : RegField} (hlo : f.lo = 0) (hw : f.width = 32) (v : BitVec 32) :
    (s.put f v.toNat).getReg f.addr = v := by
  unfold State.put
  rw [State.getReg_setReg_same]
  refine BitVec.eq_of_getLsbD_eq fun i hi => ?_
  rw [RegField.getLsbD_ins, hlo, hw, if_pos ⟨Nat.zero_le i, by omega, hi⟩]
  rfl

theorem slews_shows (s : State) (o : Int) (n : Nat) : (s.slews o n).getReg Reg.PAIR_TIME_OFS = BitVec.ofInt 32 o ∧
    regsOnly { s with time := (s.slews o n).time, pair := (s.slews o n).pair } (s.slews o n) [Reg.PAIR_TIME_OFS] :=
  ⟨s.getReg_put_whole (f := Fld.PAIR_TIME_OFS_NS) rfl rfl _, rfl, fun _ ha => s.getReg_put_ne Fld.PAIR_TIME_OFS_NS _ (List.ne_of_not_mem_cons ha)⟩

theorem timeFound_joining {o : Int} (hr : s.role = .joining) (ht : s.pair.timeTaken = false) (ho : o ≠ 0) :
    s.timeFound o = State.stepTime { s with pair := { s.pair with timeTaken := true } } (-o) := by
  rw [State.timeFound, if_pos hr, if_pos ht]
  exact if_neg ho

theorem timeFound_elsewhere (o : Int) (hr : s.role = .solo ∨ s.role = .lead) : s.timeFound o = s := by
  have hrole : s.role ≠ .joining ∧ s.role ≠ .shadow := by rcases hr with hr | hr <;> rw [hr] <;> decide
  exact (if_neg hrole.1).trans (if_neg fun hc => hrole.2 hc.1)

theorem helloStatusTime : Claim.HelloStatusTime := by
  intro s h b st tm hg
  refine ⟨fun ht htp hgood => ?_, fun hr hw => becomeLinked_links hr hw, fun hd => exec_hello_due hd,
    fun hl htp hgood => exec_status_linked hg hl htp hgood, fun hl htp hgood hs hr hj hp => ?_, fun hl hgood hup => ?_, fun hl hgood he => ?_,
    fun t1 t2 hl hgood he hs => ?_, timeOffset_of_delay, fun o => ⟨fun hr hl ho => ?_, fun hr hl ho hb => ?_, timeFound_joining, timeFound_elsewhere o⟩⟩
  · have hrx : exec (.hello h b) s = .next ((frameSeen s).helloIn h b) := congrArg Host.Outcome.next (llRx_hello_training ht hg htp hgood)
    exact ⟨fun hv => hrx.trans (congrArg _ (helloIn_version (s := frameSeen s) ht hv)),
      fun hv hb => hrx.trans (congrArg _ (helloIn_conflict (s := frameSeen s) ht hv hb)),
      fun hv hb => hrx.trans (congrArg _ (helloIn_links (s := frameSeen s) ht hv hb))⟩
  · have hseen := partnerSeen_quiet (s := frameSeen s) (m := st.mode) (surveyOk := st.surveyOk) hs hr hj hp
    have hnoted := partnerShown_pair (frameSeen s) st.mode st.role st.surveyOk
    obtain ⟨hregs, hmode, hrole⟩ := partnerShown_shows (frameSeen s) st.mode st.role st.surveyOk
    exact ⟨_, (exec_status_linked hg hl htp hgood).trans (congrArg _ hseen), hregs, hmode, hrole, by rw [hnoted]; rfl, by rw [hnoted]; rfl⟩
  · rw [exec_time tm hg hup hgood, timeIn_unlinked (s := frameSeen s) tm hl]
  · rw [exec_time tm hg (up_of_linked hl) hgood, timeIn_unanswered (s := frameSeen s) hl he]
    rfl
  · rw [exec_time tm hg (up_of_linked hl) hgood, timeIn_answered (s := frameSeen s) hl he hs]
    rfl
  · have hfound : s.timeFound o = s.slews o 0 := (timeFound_shadow o hr hl (if_neg (Nat.not_lt.2 ho))).trans (if_neg (by decide))
    rw [hfound]
    exact ⟨rfl, rfl, slews_shows s o 0⟩
  · have hfound : s.timeFound o = (s.slews o 3).pairBreak 4 := (timeFound_shadow o hr hl (by rw [if_pos ho, hb])).trans (if_pos rfl)
    exact ⟨s.slews o 3, hfound, rfl, rfl, rfl⟩

end Sys2Proof.Machine
end

section
/-! The obligation about the messages of a pair. -/
open Sys2Proof Sys2Proof.Machine

/-- Settles O50: HELLO, STATUS and TIME by what each tells in each state of the Lifeline, commands and answers by the role that accepts them. -/
theorem pairMessages : Obligations.PairMessages := ⟨helloStatusTime, commandsAndAnswers⟩

end

section
/-! SUPPORT. The join transfer and S_J (R226, R240, R241, R246). -/
namespace Sys2Proof.Machine

variable {s : State} {h : LLHeader}

theorem exec_bulk_due {b : BulkBody} {t : State} (hd : frameDue s h 0x0A) (ht : (frameTaken s h).bulkIn b = t) :
    exec (.bulk h b) s = .next (framesFollow t) :=
  ht ▸ congrArg Host.Outcome.next (llRx_due (f := .bulk h b) (fun _ => ⟨rfl, rfl⟩) hd)

/-- An item of the transfer: a JOINING module alone takes it (R240). -/
def joinPart (b : BulkBody) : Prop := ∀ u : State, u.bulkIn b = if u.role = .joining then u.joinItem b else u

theorem exec_item_joining {b : BulkBody} {t : State} (hb : joinPart b) (hd : frameDue s h 0x0A) (hr : s.role = .joining)
    (ht : (frameTaken s h).joinItem b = t) : exec (.bulk h b) s = .next (framesFollow t) :=
  exec_bulk_due hd ((hb _).trans ((if_pos hr).trans ht))

theorem exec_item_elsewhere {b : BulkBody} (hb : joinPart b) (hd : frameDue s h 0x0A) (hr : s.role ≠ .joining) :
    exec (.bulk h b) s = .next (framesFollow (frameTaken s h)) :=
  exec_bulk_due hd ((hb _).trans (if_neg hr))

/-- A part applied counts in PAIR_JOIN and touches neither store nor signal table. -/
theorem partDone_counts (u : State) (p g : Nat) : (u.partDone p g).pair.joinItems = u.pair.joinItems.filter (fun q => q != p) ++ [p] ∧
    (g < 8 → (u.partDone p g).get Fld.PAIR_JOIN_STAGE = g) ∧ (u.partDone p g).inst = u.inst ∧ (u.partDone p g).sig = u.sig := by
  unfold State.partDone
  extract_lets l pair v
  refine ⟨by rw [State.putAll_pair], fun hg => ?_, by rw [State.putAll_inst], by rw [State.putAll_sig]⟩
  have hapart : [(Fld.PAIR_JOIN_STAGE, g), (Fld.PAIR_JOIN_DONE, (l.map fun q => v.partBytes q).sum / 65536)].Pairwise fun p q => q.1.apart p.1 :=
    List.pairwise_pair.2 (Or.inr (Or.inr (show 0 + 3 ≤ 16 by decide)))
  exact (get_putAll_same hapart List.mem_cons_self (show 0 + 3 ≤ 32 by decide) v).trans (Nat.mod_eq_of_lt hg)

/-- The first part of an item leaves nothing of what it overwrites (R246). -/
theorem clearPage_first (u : State) : ((u.clearPage 0).sig.active = 0 → (u.clearPage 0).sig.page0 = []) ∧
    (u.clearPage 0).sig.active = u.sig.active := by
  unfold State.clearPage
  rw [if_pos rfl]
  split
  · exact ⟨fun _ => rfl, rfl⟩
  next hn => exact ⟨fun hz => absurd hz hn, rfl⟩

theorem clearStaging_first (u : State) (c : Nat) : ((u.clearStaging c 0).chamber c).current = [] := by
  rw [State.clearStaging, if_pos rfl, State.chamber_setChamber_same]

/-- The force table that comes in one part replaces the own one, which is then to be stored. -/
theorem takeForces_whole (u : State) (l : List ForceEntry) :
    (u.takeForces 0 true l).frc.entries = l ∧ (u.takeForces 0 true l).get Fld.FRC_STAT_STORE_PENDING = 1 := by
  have htake : u.takeForces 0 true l = (u.setForces l).putBit Fld.FRC_STAT_STORE_PENDING true := rfl
  rw [htake, State.putBit_frc, setForces_frc]
  exact ⟨rfl, get_putBit_same _ (f := Fld.FRC_STAT_STORE_PENDING) (show 29 + 1 ≤ 32 by decide) rfl true⟩

/-! ### S_J (R226, R241) -/

theorem joinComplete_joining {g : Survey} (hg : s.activeSurvey = some g) (hl : s.ll = .linked) (hr : s.role = .joining)
    (hi : s.pair.joinItems.contains 20 = true) : s.joinComplete =
    (State.put (State.sequencerRuns ((s.synced .shadow s.lastBoundary).bump Fld.PAIR_CNT_B_JOINS) g s.lastBoundary false)
      Fld.PAIR_JOIN_STAGE 0).enterMode .run := by
  rw [State.joinComplete, hg]
  exact if_pos ⟨hl, hr, hi⟩

theorem joinComplete_serving {g : Survey} (hg : s.activeSurvey = some g) (hl : s.ll = .linked) (hr : s.role = .solo)
    (hj : s.pair.joinOut = true) : s.joinComplete =
    (State.synced { s with pair := { s.pair with
      joinTails := s.tailsAt s.lastBoundary
      joinOut := !(s.tailsAt s.lastBoundary).isEmpty } } .lead s.lastBoundary).tpCheck := by
  rw [State.joinComplete, hg]
  dsimp only
  rw [if_neg fun hc => by rw [hr] at hc; exact absurd hc.2.1 (by decide)]
  exact if_pos ⟨hl, hr, hj⟩

theorem joinTransfer : Claim.JoinTransfer := by
  intro s h
  refine ⟨fun hd hr => ?_, fun u p g => ?_, fun u => ?_, fun u l => takeForces_whole u l, fun hd hr a p e words l r slots b hb => ?_, fun hg => ?_,
    fun g hg hl hr hi => congrArg Host.Outcome.next (joinComplete_joining hg hl hr hi),
    fun g hg hl hr hj => congrArg Host.Outcome.next (joinComplete_serving hg hl hr hj)⟩
  · refine ⟨fun _ _ _ _ => exec_item_joining (fun _ => rfl) hd hr rfl, fun _ _ _ => exec_item_joining (fun _ => rfl) hd hr rfl,
      fun c _ _ _ => exec_item_joining (fun _ => rfl) hd hr ?_, fun _ _ _ => exec_item_joining (fun _ => rfl) hd hr rfl,
      fun _ => exec_item_joining (fun _ => rfl) hd hr rfl⟩
    rw [State.joinItem, Nat.mod_eq_of_lt c.isLt]
  · obtain ⟨hitems, hstage, hinst, hsig⟩ := partDone_counts u p g
    exact ⟨hitems, rfl, rfl, hstage, hinst, hsig⟩
  · obtain ⟨hempty, hactive⟩ := clearPage_first u
    exact ⟨hempty, hactive, clearStaging_first u⟩
  · refine exec_item_elsewhere ?_ hd hr
    simp only [List.mem_cons, List.not_mem_nil, or_false] at hb
    rcases hb with rfl | rfl | rfl | rfl <;> exact fun _ => rfl
  · refine congrArg Host.Outcome.next ?_
    rw [State.joinComplete, hg]

end Sys2Proof.Machine
end

section
/-! SUPPORT. Rejoin, handover and revert (R238, R244, R245, R469). -/
namespace Sys2Proof.Machine

variable {s : State} {v : Word}

/-! ### PAIR_CTRL (R469) -/

theorem pairCtrlWrite_both (hh : Fld.PAIR_CTRL_HANDOVER.on v = true) (hr : Fld.PAIR_CTRL_REJOIN.on v = true) : s.pairCtrlWrite v = s := by
  simp [State.pairCtrlWrite, State.actions, actionClash, actionCount, hh, hr]

theorem pairCtrlWrite_handover (hh : Fld.PAIR_CTRL_HANDOVER.on v = true) (hr : Fld.PAIR_CTRL_REJOIN.on v = false) :
    s.pairCtrlWrite v = (s.regStore Reg.PAIR_CTRL v).proposeHandover := by
  simp [State.pairCtrlWrite, State.actions, actionClash, actionCount, hh, hr]

theorem pairCtrlWrite_rejoin (hh : Fld.PAIR_CTRL_HANDOVER.on v = false) (hr : Fld.PAIR_CTRL_REJOIN.on v = true) :
    s.pairCtrlWrite v = (s.regStore Reg.PAIR_CTRL v).softReset := by
  simp [State.pairCtrlWrite, State.actions, actionClash, actionCount, hh, hr]

/-! ### Automatic rejoin (R238) -/

theorem wantsRejoin_of_latched (hl : s.pair.rejoinLatched = true) : s.wantsRejoin = false := by simp [State.wantsRejoin, hl]

/-- A module that yielded, or whose join failed, wants to rejoin until a rejoin has been refused. -/
theorem wantsRejoin_of_apart (hy : s.bit Fld.PAIR_STAT_YIELDED = true ∨ (s.mode = .hold ∧ s.pair.joinFailed = true))
    (hl : s.pair.rejoinLatched = false) : s.wantsRejoin = true := by
  rcases hy with hy | ⟨hm, hf⟩
  · simp [State.wantsRejoin, hy, hl]
  · simp [State.wantsRejoin, hm, hf, hl]

theorem wantsRejoin_of_joined (hy : s.bit Fld.PAIR_STAT_YIELDED = false) (hm : s.mode ≠ .hold ∨ s.pair.joinFailed = false) :
    s.wantsRejoin = false := by
  rcases hm with hm | hf
  · simp [State.wantsRejoin, hy, hm]
  · simp [State.wantsRejoin, hy, hf]

/-- What keeps a module from rejoining by itself. -/
theorem autoRejoin_idle (hn : s.wantsRejoin = false ∨ s.bit Fld.PAIR_CTRL_AUTO_REJOIN = false ∨ s.ll ≠ .linked ∨ s.partnerRuns = false) :
    s.autoRejoin = s := by
  refine if_neg fun hc => ?_
  simp only [Bool.and_eq_true, beq_iff_eq] at hc
  obtain ⟨⟨⟨hw, ha⟩, hl⟩, hp⟩ := hc
  rcases hn with hn | hn | hn | hn
  · exact Bool.false_ne_true (hn.symm.trans hw)
  · exact Bool.false_ne_true (hn.symm.trans ha)
  · exact hn hl
  · exact Bool.false_ne_true (hn.symm.trans hp)

theorem autoRejoin_due (hw : s.wantsRejoin = true) (ha : s.bit Fld.PAIR_CTRL_AUTO_REJOIN = true) (hl : s.ll = .linked) (hp : s.partnerRuns = true) :
    s.autoRejoin = if 3 ≤ s.recentRejoins.length then
      State.raise (State.putBit { s with pair := { s.pair with rejoinLatched := true } } Fld.PAIR_EVENT_REJOIN_LIMIT true) Src.PAIR_REJOIN_LIMIT 0 0
    else State.softReset { s with pair := { s.pair with rejoins := s.recentRejoins ++ [s.fls.optime.toNat] } } :=
  if_pos (by rw [hw, ha, hl, hp]; rfl)

/-! ### H (R244) -/

@[simp] theorem State.setRole_pair (s : State) (r : Role) : (s.setRole r).pair = s.pair := by
  unfold State.setRole
  dsimp only
  split
  · rw [State.putAll_pair, State.put_pair]
  · split
    · rw [State.putAll_pair, State.put_pair]
    · rfl

theorem handoverH_due {e : BitVec 32} (hh : s.pair.handover = some e) (hl : s.ll = .synced) (hp : s.inPair = true)
    (he : (BitVec.ofNat 32 s.fastestNow.1 - e).toNat < 2 ^ 31) : s.handoverH =
    State.tpCheck (State.revertRestart (State.record (State.bump
      { (s.setRole (roleExchanged s.role)).putAll [(Fld.PAIR_STAT_HANDOVER_PENDING, 0), (Fld.PAIR_TIME_OFS_NS, 0)] with
        pair := { s.pair with
          handover := none
          swappedNs := some s.fastestNow.2 } } Fld.PAIR_CNT_A_HANDOVERS)
      0x44 0 [(8, s.fastestNow.2), (1, roleCode (roleExchanged s.role))])) := by
  rw [State.handoverH, hh]
  dsimp only
  rw [if_pos ⟨hl, hp, he⟩, State.putAll_pair, State.setRole_pair]

theorem rejoinAndHandover : Claim.RejoinAndHandover := by
  intro s v
  refine ⟨fun hg hh hr => ?_, fun hg hh hr => ?_, fun hg hh hr => ?_, fun hg => ⟨?_, ?_⟩, fun hl hn => if_pos ⟨hl, hn⟩, fun hn => ?_, fun hl => ?_,
    fun hy hl ha hll hp => ?_, fun hn => ?_, fun e hh hl hp he => ?_, fun hh => ?_, fun hs hr ht => if_pos ⟨hs, hr, ht⟩, fun hn => ?_⟩
  · exact congrArg Host.Outcome.next ((gated_open s hg _).trans (pairCtrlWrite_handover hh hr))
  · exact congrArg Host.Outcome.next ((gated_open s hg _).trans (pairCtrlWrite_rejoin hh hr))
  · have hnone := (gated_open s hg fun s => s.pairCtrlWrite v).trans (pairCtrlWrite_both hh hr)
    exact ⟨congrArg Host.Outcome.next hnone, congrArg Host.Outcome.next hnone⟩
  · exact congrArg Host.Outcome.next (if_neg hg)
  · exact congrArg Host.Outcome.next (if_neg hg)
  · exact if_neg fun hc => hn.elim (fun hl => hl hc.1) fun hh => hh hc.2
  · exact congrArg Host.Outcome.next (autoRejoin_idle (Or.inl (wantsRejoin_of_latched hl)))
  · have hdue := autoRejoin_due (wantsRejoin_of_apart hy hl) ha hll hp
    exact ⟨fun hlt => congrArg Host.Outcome.next (hdue.trans (if_neg (Nat.not_le.2 hlt))), fun hle => congrArg Host.Outcome.next (hdue.trans (if_pos hle))⟩
  · exact congrArg Host.Outcome.next (autoRejoin_idle (hn.imp (fun hj => wantsRejoin_of_joined hj.1 hj.2) id))
  · exact congrArg Host.Outcome.next (handoverH_due hh hl hp he)
  · refine congrArg Host.Outcome.next ?_
    rw [State.handoverH, hh]
  · refine if_neg fun ⟨hs, hr, ht⟩ => ?_
    rcases hn with hn | hn | hn
    · exact hn hs
    · exact hn hr
    · exact hn ht

end Sys2Proof.Machine
end

section
/-! The obligation about the join and the handover. -/
open Sys2Proof Sys2Proof.Machine

/-- Settles O52: the join by what each item and S_J bring the module to, rejoin and handover by what lets each take place. -/
theorem joinAndHandover : Obligations.JoinAndHandover := ⟨joinTransfer, rejoinAndHandover⟩

end
